-- ==== Sys2Proof/Word.lean ====
section
/-!
DEFINITION. Word.lean: the word types of the AX32 and their plainest arithmetic (R8-R12).
-/
namespace Sys2Proof

/-- One byte of memory, of a message or of a frame. -/
abbrev Byte := BitVec 8

/-- One 32-bit register or memory word (R122). -/
abbrev Word := BitVec 32

end Sys2Proof
end

