-- ==== Sys2Proof/Msg.lean ====
section
/-!
DEFINITION. Msg.lean: what the outside hands to the AX32: who accesses a register, a Bexic message as it arrives, a CAN
frame, and which answer leaves.
-/
namespace Sys2Proof

/-- The three kinds of agent of the ownership windows (R124, Table GRP-2). -/
inductive Agent where
  | device
  | group (n : Fin 16)
  | engine (e : Fin 17)
  deriving DecidableEq, Repr

/-- The source of a Bexic message (R498): IPv4 address and UDP port, CAN channel, or the I2C-S port itself. A UDP request also
carries the MAC address that its response goes to (R418). -/
inductive Src where
  | udp (ip : BitVec 32) (port : BitVec 16) (mac : BitVec 48)
  | can (c : Fin 2)
  | i2cs
  deriving DecidableEq, Repr

/-- Whether two sources are the same one: the MAC address of a request is no part of its source (R498). -/
def Src.same : Src → Src → Bool
  | .udp i p _, .udp j q _ => decide (i = j) && decide (p = q)
  | .can c, .can d => decide (c = d)
  | .i2cs, .i2cs => true
  | _, _ => false

/-- A Bexic message as it arrives whole at an endpoint (R500, Table BXP-2). The opcode byte is given by the command it is.
`ep` is the endpoint: 0-15 a group, 16 the device. `frag` holds the header's FLAGS byte whole. -/
structure Msg where
  ep      : Fin 17
  src     : Src
  version : Byte
  flags   : Byte
  group   : Byte
  seq     : BitVec 32
  len     : BitVec 16
  tag     : BitVec 16
  crc     : BitVec 32
  payload : List Byte
  deriving DecidableEq, Repr

/-- A Bexic message that leaves the AX32: to which source, from which endpoint, and the fields of its header. -/
structure OutMsg where
  ep      : Nat
  dst     : Src
  opcode  : Nat
  group   : Nat
  seq     : Nat
  tag     : Nat
  payload : List Byte
  deriving DecidableEq, Repr

/-- A CAN data frame as the controller sees it (R449, Table CAN-5). -/
structure CanFrame where
  xtd  : Bool
  fd   : Bool
  brs  : Bool
  rtr  : Bool
  esi  : Bool
  id   : BitVec 29
  /-- NTIME at the sample point of SOF (R448). -/
  sof  : BitVec 64
  data : List Byte
  deriving DecidableEq, Repr

end Sys2Proof
end

