-- ==== Sys2Proof/Syntax.lean ====
section
/-!
DEFINITION. Syntax.lean: the commands of the block, one constructor of `Instr` per row of spec/opcode_table.json, with
the operands the outside supplies: who accesses, which unit, which level or value is seen, or the Bexic message itself.
Operand forms of the Aingoca instructions follow R227-R242.
-/
namespace Sys2Proof

/-- Addressing modes of the long memory operand (Table ISA-3). -/
inductive MemMode where
  | plain
  | inc
  | dec
  | addM (j : Fin 4)
  | off (imm : BitVec 8)
  deriving DecidableEq, Repr

/-- A long memory operand: pointer and mode (Table ISA-3). -/
structure MemOp where
  p    : Fin 8
  mode : MemMode
  deriving DecidableEq, Repr

/-- Modes of the short memory operand; `addM` uses M(k mod 4) (R229). -/
inductive ShortMode where
  | plain
  | inc
  | dec
  | addM
  deriving DecidableEq, Repr

/-- A short memory operand (Table ISA-3). -/
structure ShortOp where
  p    : Fin 8
  mode : ShortMode
  deriving DecidableEq, Repr

/-- Modes that STEP accepts (R242). -/
inductive StepMode where
  | inc
  | dec
  | addM (j : Fin 4)
  deriving DecidableEq, Repr

/-- The operand of STEP. -/
structure StepOp where
  p    : Fin 8
  mode : StepMode
  deriving DecidableEq, Repr

/-- An X or Y operand of a multiply (R237). -/
inductive XY where
  | mem (o : ShortOp)
  | reg (d : Fin 8)
  deriving DecidableEq, Repr

/-- The operands of a multiply: X, Y, and whether each is unsigned (R237). -/
structure MacOps where
  x  : XY
  y  : XY
  ux : Bool
  uy : Bool
  deriving DecidableEq, Repr

/-- A 32-bit accumulator operand: a D register or a memory word (R238, R239). -/
inductive Opnd where
  | reg (d : Fin 8)
  | mem (m : MemOp)
  deriving DecidableEq, Repr

/-- A 64-bit accumulator operand: an even D pair D(2i), D(2i+1) or a 64-bit memory operand (R238, R239). -/
inductive Opnd64 where
  | pair (i : Fin 4)
  | mem (m : MemOp)
  deriving DecidableEq, Repr

/-- Operand B of an ALU operation: a D register or a 16-bit immediate (R233). -/
inductive AluB where
  | reg (b : Fin 8)
  | imm (v : BitVec 16)
  deriving DecidableEq, Repr

/-- The shift amount: bits [5:0] of a D register or a 5-bit immediate (R233). -/
inductive ShiftB where
  | reg (b : Fin 8)
  | imm (v : BitVec 5)
  deriving DecidableEq, Repr

/-- A register that an instruction may write (Table ISA-2). -/
inductive RegW where
  | d (i : Fin 8)
  | p (i : Fin 8)
  | m (i : Fin 4)
  | l (i : Fin 4)
  deriving DecidableEq, Repr

/-- A register that an instruction may read (Table ISA-2). -/
inductive RegR where
  | w (r : RegW)
  | sr
  | lcnt
  deriving DecidableEq, Repr

/-- Trip causes of a current cell (R262, Table LOP-2). -/
inductive TripCause where
  | oc
  | sum
  | psFlt
  | sdLoss
  deriving DecidableEq, Repr

/-- A drive-channel feedback frame as it arrives (R522, Table BXP-10): whether its header passes, and its payload. -/
structure DriveFb where
  headerOk : Bool
  ready    : Bool
  epoch    : BitVec 8
  current  : BitVec 32
  pos      : BitVec 64
  sample   : BitVec 64
  deriving DecidableEq, Repr

/-- What a valid frame of the field block reports beside edges and samples (R384, R37, R402): VFIELD in mV, the channels whose
driver is above its restart temperature, and the channel currents in mA. -/
structure FieldFrame where
  vfieldMv : BitVec 16
  hot      : BitVec 16
  ma       : Vector (BitVec 16) 16
  deriving DecidableEq, Repr

/-- What a received Sync and Follow_Up pair tells (R428). -/
structure PtpSync where
  /-- sourcePortIdentity of the sender. -/
  source : BitVec 80
  offset : BitVec 64
  rate   : BitVec 32
  /-- From its Follow_Up: preciseOriginTimestamp, correctionField, and what the information TLV says of the grandmaster's time base. -/
  origin : BitVec 80
  corr   : BitVec 64
  info   : BitVec 144
  deriving DecidableEq, Repr

/-- A received peer-delay message (R424): a request, or the completed measurement of a delay. -/
inductive PtpPdelay where
  | request (source : BitVec 80) (seq : BitVec 16)
  | measured (source : BitVec 80) (ns : BitVec 32)
  deriving DecidableEq, Repr

/-- A received Announce (R425): the priority vector of its grandmaster and its clock identity. -/
structure PtpAnnounce where
  source    : BitVec 80
  gm        : BitVec 64
  priority1 : Byte
  clockClass: Byte
  accuracy  : Byte
  variance  : BitVec 16
  priority2 : Byte
  steps     : BitVec 16
  utc       : BitVec 16
  timeSource : Byte
  path      : List (BitVec 64)
  deriving DecidableEq, Repr

/-- Which gPTP message interval expires (R424). -/
inductive PtpKind where
  | sync
  | pdelay
  | announce
  deriving DecidableEq, Repr

/-- Bus errors a CAN channel can detect (R467, ISO 11898-1), as transmitter or receiver, in which phase. -/
structure CanErr where
  transmitter : Bool
  lec         : BitVec 3
  dataPhase   : Bool
  deriving DecidableEq, Repr

/-- What is under way on I2C-S when an SCL-low timeout strikes (R488): nothing, a write of these bytes so far, pointer first, or a
read of so many bytes so far. -/
inductive I2cPart where
  | idle
  | write (data : List Byte)
  | read (n : BitVec 16)
  deriving DecidableEq, Repr

/-- A command of the block: one row of spec/opcode_table.json. -/
inductive Instr where
  /-- SUPPLY_LOW (R38): VMAIN has stayed below 18.0 V for 20 µs without interruption, so the SUPPLY_LOW condition sets and the device fault SUPPLY_LOW is raised. -/
  | supplyLow (mv : BitVec 16)
  /-- SUPPLY_LOW_END (R38): VMAIN rises above 19.0 V, which ends the SUPPLY_LOW condition but leaves the latched fault in place. -/
  | supplyLowEnd (mv : BitVec 16)
  /-- VMAIN_SAMPLE (R38): Every 1 ms the AX32 digitises VMAIN into SYS.VMAIN_MV. -/
  | vmainSample (mv : BitVec 16)
  /-- RAIL_FALL (R41): The 3.3 V rail falls below 2.95 V, which stops everything outside the backup domain and enters DORMANT with the outputs of R42. -/
  | railFall
  /-- RAIL_RETURN (R40): The 3.3 V rail rises above 3.10 V, so the backup domain switches back to the main rail and logs FIFO source 0x5. -/
  | railReturn
  /-- LOADING_ENTRY (R82): LOADING is entered (rail stable for 20 ms, RESTART, watchdog reset or start retry): counting, wake cause, memory clear, self-tests, slot verification and apply, or FALLBACK. -/
  | loadingEntry (selfTest : BitVec 4) (vbakMv : BitVec 16) (retries : BitVec 8)
  /-- START_SEQUENCE_COMPLETE (R85): The start sequence completes: STANDBY is entered, the START record is written, BKREG13 is set and the field configuration is loaded. -/
  | startSequenceComplete
  /-- LOAD_TIMEOUT (R80): The 8 s hardware timer expires before STANDBY, so the attempt concludes as failure LOAD_TIMEOUT. -/
  | loadTimeout
  /-- START_SUCCESS (R79): STANDBY and OPERATE have been held for 30 s in total, so the attempt concludes as a success and FAIL_COUNT is cleared. -/
  | startSuccess
  /-- LOADING_CLOCK_RETURN (R598): The main clock returns after a loss during LOADING, so the attempt concludes as failure SELF_TEST. -/
  | loadingClockReturn
  /-- VBAK_MEASURE (R46): At each 60 s grid instant outside SAFE_HOLD, VBAK is measured and VBAK_LOW is set or cleared. -/
  | vbakMeasure (mv : BitVec 16)
  /-- RTC_LOAD (R49): A write of 1 to SYS.RTC_CTL.LOAD requests that the RTC take the SET value. -/
  | rtcLoad (ag : Agent)
  /-- RTC_LOAD_TICK (R49): At its next tick the RTC takes the requested value and LOAD reads 0. -/
  | rtcLoadTick
  /-- RTC_SYNC (R50): Once per second with SYNC set and 802.1AS synchronised, the RTC is loaded from NTIME. -/
  | rtcSync
  /-- RTC_LO_READ (R77): A read of SYS.RTC_LO captures RTC bits [47:32] for SYS.RTC_HI. -/
  | rtcLoRead (ag : Agent)
  /-- COMPARATOR_STROBE (R51): At each strobe the enabled comparators sample; two agreeing strobes confirm a crossing. -/
  | comparatorStrobe (levels : BitVec 4)
  /-- BKFIFO_HI_READ (R54): A read of SYS.BKFIFO_HI returns the oldest entry and removes it. -/
  | bkfifoHiRead (ag : Agent)
  /-- RC_FIELD_READ (R14): A read of an RC field by an agent with RW returns the value and clears it. -/
  | rcFieldRead (ag : Agent) (addr : BitVec 32)
  /-- DORMANT_RESPONDER_TRANSACTION (R59): An I2C transaction is addressed to the dormant responder; while its oscillator starts it is NACKed, otherwise it is served. -/
  | dormantResponderTransaction (addr : BitVec 7) (write : List Byte) (readLen : BitVec 8)
  /-- DORMANT_RESPONDER_SLEEP (R59): 50 ms after the last STOP addressed to it, the dormant responder sleeps. -/
  | dormantResponderSleep
  /-- I2C_S_HANDOVER (R60): At the first bus-idle after LOADING ends, I2C-S passes from the dormant responder to the ASIC target. -/
  | i2cSHandover
  /-- SEQ_WATCHDOG (R64): The command-sequencer watchdog expires and resets the module into LOADING. -/
  | seqWatchdog
  /-- CLOCK_LOSS (R556): After the main clock has been absent for 1 µs, the clock monitor applies BRAKE_OUT to powered local axes and records the fault. -/
  | clockLoss
  /-- OVER_TEMP (R590): The module temperature rises above 100 °C and raises the device fault OVER_TEMP. -/
  | overTemp (dc : BitVec 16)
  /-- ARM (R65): ARM is judged at its boundary and takes STANDBY to OPERATE when DRIVE_ENABLE is high. -/
  | arm (m : Msg)
  /-- DISARM (R66): DISARM returns OPERATE to STANDBY when every group is DISABLED. -/
  | disarm (m : Msg)
  /-- CLEAR_FAULT (R562): CLEAR_FAULT clears latched faults of a group, or leaves SAFE_HOLD on the device endpoint, when no cause persists. -/
  | clearFault (m : Msg)
  /-- RESTART (R64): RESTART closes any image write and enters LOADING after the response. -/
  | restart (m : Msg)
  /-- CLEAR_START_COUNT (R116): CLEAR_START_COUNT clears FAIL_COUNT and ATTEMPT_OPEN and, in STANDBY, concludes the attempt as a success. -/
  | clearStartCount (m : Msg)
  /-- IMAGE_WRITE_ERASE (R113): The ERASE phase erases the header sector of a slot, leaving the slot invalid. -/
  | imageWriteErase (m : Msg)
  /-- IMAGE_WRITE_BEGIN (R113): The BEGIN phase checks the length, opens a write and erases the sectors it spans. -/
  | imageWriteBegin (m : Msg)
  /-- IMAGE_WRITE_DATA (R113): The DATA phase programs a chunk at SYS.IMG_WR_NEXT, holding bytes 0–255 back. -/
  | imageWriteData (m : Msg)
  /-- IMAGE_WRITE_COMMIT (R113): The COMMIT phase requires the full length and starts verification of the written image. -/
  | imageWriteCommit (m : Msg)
  /-- IMAGE_WRITE_ABORT (R113): The ABORT phase closes the open write and leaves the slot invalid. -/
  | imageWriteAbort (m : Msg)
  /-- IMAGE_ERASE_DONE (R113): A flash erase completes, and the ERASE phase is answered or STATE goes from ERASING to OPEN. -/
  | imageEraseDone
  /-- IMAGE_COMMIT_DONE (R113): Verification ends, the header is programmed on a pass, the write closes and COMMIT is answered. -/
  | imageCommitDone
  /-- KEYHASH_PROGRAM (R105): A write of GO to SYS.KEYHASH_CMD either starts fuse programming or is refused with REFUSED and a KEYHASH_REFUSED record. -/
  | keyhashProgram (ag : Agent) (confirm : BitVec 16)
  /-- KEYHASH_PROGRAM_DONE (R104): Fuse programming ends and the read-back sets PROGRAMMED or FAILED. -/
  | keyhashProgramDone (readBackOk : Bool)
  /-- BUF_ALLOC (R145): BUF_ALLOC asks the pool for 1–64 blocks charged to the sender. -/
  | bufAlloc (m : Msg)
  /-- BUF_FREE (R145): BUF_FREE returns blocks that the sender's group holds. -/
  | bufFree (m : Msg)
  /-- POOL_GRANT (R143): The grant or NOBUF answer reaches the requester 4 clocks after its request. -/
  | poolGrant
  /-- MIN_RESET (R151): A write of 1 to POOL.CTL.MIN_RESET sets MIN_SHARED to the present FREE_SHARED. -/
  | minReset (ag : Agent)
  /-- ALIAS_WRITE (R134): A write to the bit-set or bit-clear alias atomically sets or clears bits of the underlying shared-SRAM word. -/
  | aliasWrite (ag : Agent) (addr : BitVec 32) (value : BitVec 32)
  /-- PAIR_LOW_READ (R123): A read of the low word of a 64-bit pair loads the accessor's read capture with the high word. -/
  | pairLowRead (ag : Agent) (addr : BitVec 32)
  /-- PAIR_HIGH_READ (R123): A read of the high word returns the tagged capture, or the live word when the capture is untagged. -/
  | pairHighRead (ag : Agent) (addr : BitVec 32)
  /-- PAIR_HIGH_WRITE (R123): A write of the high word loads the accessor's write hold and changes nothing. -/
  | pairHighWrite (ag : Agent) (addr : BitVec 32) (value : BitVec 32)
  /-- PAIR_LOW_WRITE (R123): A write of the low word commits it together with a tagged held high word. -/
  | pairLowWrite (ag : Agent) (addr : BitVec 32) (value : BitVec 32)
  /-- REGISTER_WRITE (R14): A write to a register without behaviour of its own sets its fields according to their access types. -/
  | registerWrite (ag : Agent) (addr : BitVec 32) (value : BitVec 32) (mask : BitVec 32)
  /-- SRAM_SCRUB (R132): The patrol scrubber reads and corrects every shared-SRAM word once every 50 ms. -/
  | sramScrub (corrected : BitVec 16) (ue spoilt : Option (BitVec 21))
  /-- XMEM_SCRUB (R138): The patrol scrubber covers external memory once every 60 s. -/
  | xmemScrub (corrected : BitVec 16) (ue spoilt : Option (BitVec 30))
  /-- FAST_BOUNDARY (R153): A fast boundary: tick slew, output apply, feedback presentation, current-cell measurement start, echo emulation and ENTRY_FAST. -/
  | fastBoundary
  /-- SLOW_BOUNDARY (R28): A slow boundary: feedback latched, set-points produced, kind B commands take effect, snapshot copy starts and Clave refills. -/
  | slowBoundary
  /-- ENTRY_SLOW_START (R156): The serving engine starts at ENTRY_SLOW once its fast code is DONE and clock 128 has passed. -/
  | entrySlowStart (e : Fin 17)
  /-- ENTRY_EVENT_START (R162): An idle engine with a non-zero cause word starts at ENTRY_EVENT. -/
  | entryEventStart (e : Fin 17)
  /-- SNAPSHOT_COMPLETE (R171): The snapshot copy finishes and becomes the last completed snapshot if complete. -/
  | snapshotComplete (n : Fin 16)
  /-- DEADLINE (R160): At deadline D an engine without DONE is halted, its staged outputs are discarded and ENG_DEADLINE_MISS is recorded. -/
  | deadline (e : Fin 17)
  /-- OUTPUT_TRANSFER (R159): At F − 64 the committed outputs go to the current cells and the drive frames are queued. -/
  | outputTransfer
  /-- ENG_FAIL (R166): An engine fails: it is halted and quarantined, Gong broadcasts ENG_FAIL, and takeover or GUARD follows. -/
  | engFail (e : Fin 17) (cause : BitVec 4) (word : BitVec 13)
  /-- TAKEOVER_FIRST_RUN (R177): The loaded spare starts its first run at the first slow boundary at least 2400 clocks later, with LOST counted. -/
  | takeoverFirstRun (e : Fin 17)
  /-- SELF_CHECK_PASS (R165): A background datapath self-check pass ends, or is marked CHECK_LATE if it did not fit in 1 ms. -/
  | selfCheckPass (e : Fin 17) (late : Bool) (mismatch : Bool)
  /-- ENGINE_TEST (R183): ENGINE_TEST puts an engine in TESTING and overwrites its PM and DM. -/
  | engineTest (m : Msg)
  /-- ENGINE_TEST_DONE (R183): After 4 ms the test puts the engine in SPARE on a pass or OFF on a failure. -/
  | engineTestDone (e : Fin 17) (pass : Bool)
  /-- ENGINE_MIGRATE (R184): ENGINE_MIGRATE is judged per Table ENG-8 and, when accepted, puts the target in SHADOW. -/
  | engineMigrate (m : Msg)
  /-- SHADOW_START (R185): At S the snapshot is also written into the target, which starts 520 clocks later. -/
  | shadowStart (n : Fin 16)
  /-- MIGRATION_HANDOVER (R188): At H after eight matching samples the target becomes ACTIVE and the source becomes SPARE. -/
  | migrationHandover (n : Fin 16)
  /-- DOORBELL (R162): A host write of 1 to GRP[n].DOORBELL.RING sets event cause bit 17. -/
  | doorbell (ag : Agent) (n : Fin 16)
  /-- RUN_MAX_RESET (R190): A write of 1 to ENG[e].CTL.MAX_RESET clears RUN_MAX. -/
  | runMaxReset (ag : Agent) (e : Fin 17)
  /-- NOP (R230): NOP does nothing for one clock. -/
  | nop (e : Fin 17)
  /-- DONE (R159): DONE ends the run, commits staged writes and empties Roll. -/
  | done (e : Fin 17)
  /-- JMP (R234): JMP jumps to a PM address when its condition holds. -/
  | jmp (e : Fin 17) (cond : BitVec 4) (target : BitVec 13)
  /-- CALL (R235): CALL writes the return address to P7 and jumps. -/
  | call (e : Fin 17) (target : BitVec 13)
  /-- RET (R230): RET jumps to P7[12:0]. -/
  | ret (e : Fin 17)
  /-- CLRSR (R230): CLRSR clears SR. -/
  | clrsr (e : Fin 17)
  /-- REP (R210): REP pushes a Roll level with an immediate count. -/
  | rep (e : Fin 17) (count : BitVec 16) (endOff : BitVec 12)
  /-- REPR (R236): REPR pushes a Roll level with a count from a D register. -/
  | repReg (e : Fin 17) (dc : Fin 8) (endOff : BitVec 12)
  /-- LDI (R232): LDI loads a sign-extended immediate into a register. -/
  | ldi (e : Fin 17) (r : RegW) (imm : BitVec 16)
  /-- LDIU (R232): LDIU loads a zero-extended immediate into a register. -/
  | ldiu (e : Fin 17) (r : RegW) (imm : BitVec 16)
  /-- LDIH (R230): LDIH loads the upper half of a D register. -/
  | ldih (e : Fin 17) (d : Fin 8) (imm : BitVec 16)
  /-- ADD (R233): ADD adds B to Da modulo 2^32 and sets the flags. -/
  | add (e : Fin 17) (d a : Fin 8) (b : AluB)
  /-- SUB (R233): SUB subtracts B from Da. -/
  | sub (e : Fin 17) (d a : Fin 8) (b : AluB)
  /-- AND (R233): AND forms the bitwise AND. -/
  | and (e : Fin 17) (d a : Fin 8) (b : AluB)
  /-- OR (R233): OR forms the bitwise OR. -/
  | or (e : Fin 17) (d a : Fin 8) (b : AluB)
  /-- XOR (R233): XOR forms the bitwise XOR. -/
  | xor (e : Fin 17) (d a : Fin 8) (b : AluB)
  /-- NOT (R233): NOT inverts Da. -/
  | not (e : Fin 17) (d a : Fin 8)
  /-- NEG (R233): NEG negates Da. -/
  | neg (e : Fin 17) (d a : Fin 8)
  /-- ABS (R233): ABS takes the absolute value of Da. -/
  | abs (e : Fin 17) (d a : Fin 8)
  /-- MIN (R233): MIN takes the signed minimum. -/
  | min (e : Fin 17) (d a : Fin 8) (b : AluB)
  /-- MAX (R233): MAX takes the signed maximum. -/
  | max (e : Fin 17) (d a : Fin 8) (b : AluB)
  /-- ASR (R233): ASR shifts right arithmetically. -/
  | asr (e : Fin 17) (d a : Fin 8) (b : ShiftB)
  /-- LSR (R233): LSR shifts right logically. -/
  | lsr (e : Fin 17) (d a : Fin 8) (b : ShiftB)
  /-- LSL (R233): LSL shifts left. -/
  | lsl (e : Fin 17) (d a : Fin 8) (b : ShiftB)
  /-- CMP (R233): CMP sets the flags of Da − B without writing a result. -/
  | cmp (e : Fin 17) (a : Fin 8) (b : AluB)
  /-- MPYF (R204): MPYF writes a fractional product into an accumulator. -/
  | mpyf (e : Fin 17) (k : Fin 2) (o : MacOps)
  /-- MPYI (R204): MPYI writes an integer product into an accumulator. -/
  | mpyi (e : Fin 17) (k : Fin 2) (o : MacOps)
  /-- MACF (R204): MACF adds a fractional product to an accumulator. -/
  | macf (e : Fin 17) (k : Fin 2) (o : MacOps)
  /-- MACI (R204): MACI adds an integer product to an accumulator. -/
  | maci (e : Fin 17) (k : Fin 2) (o : MacOps)
  /-- MSUF (R204): MSUF subtracts a fractional product from an accumulator. -/
  | msuf (e : Fin 17) (k : Fin 2) (o : MacOps)
  /-- MSUI (R204): MSUI subtracts an integer product from an accumulator. -/
  | msui (e : Fin 17) (k : Fin 2) (o : MacOps)
  /-- CLR (R230): CLR clears an accumulator. -/
  | clr (e : Fin 17) (k : Fin 2)
  /-- LDAF (R193): LDAF performs a fractional load into an accumulator. -/
  | ldaf (e : Fin 17) (k : Fin 2) (o : Opnd)
  /-- LDAI (R193): LDAI performs an integer load into an accumulator. -/
  | ldai (e : Fin 17) (k : Fin 2) (o : Opnd)
  /-- LDA64 (R238): LDA64 performs a 64-bit load into an accumulator. -/
  | lda64 (e : Fin 17) (k : Fin 2) (o : Opnd64)
  /-- ADDA (R230): ADDA adds the other accumulator. -/
  | adda (e : Fin 17) (k : Fin 2)
  /-- SUBA (R230): SUBA subtracts the other accumulator. -/
  | suba (e : Fin 17) (k : Fin 2)
  /-- NEGA (R230): NEGA negates an accumulator. -/
  | nega (e : Fin 17) (k : Fin 2)
  /-- STR (R206): STR stores an accumulator as 32 bits with shift, convergent rounding and optional saturation. -/
  | str (e : Fin 17) (k : Fin 2) (sat : Bool) (q : BitVec 6) (o : Opnd)
  /-- STR64 (R207): STR64 stores an accumulator as 64 bits with rounding and optional saturation. -/
  | str64 (e : Fin 17) (k : Fin 2) (sat : Bool) (q : BitVec 6) (o : Opnd64)
  /-- LD (R232): LD loads a memory word into a register. -/
  | ld (e : Fin 17) (r : RegW) (m : MemOp)
  /-- LD64 (R240): LD64 loads a 64-bit operand into an even D pair. -/
  | ld64 (e : Fin 17) (pair : Fin 4) (m : MemOp)
  /-- ST (R232): ST stores a register to a memory word. -/
  | st (e : Fin 17) (r : RegR) (m : MemOp)
  /-- ST64 (R240): ST64 stores an even D pair to a 64-bit operand. -/
  | st64 (e : Fin 17) (pair : Fin 4) (m : MemOp)
  /-- LDS (R223): LDS reads a system address, subject to the engine's window, and waits for the data. -/
  | lds (e : Fin 17) (dd da : Fin 8)
  /-- STS (R223): STS posts a write to a system address, staged where R216 says so. -/
  | sts (e : Fin 17) (dd da : Fin 8)
  /-- MOV (R232): MOV copies one register to another with width conversion. -/
  | mov (e : Fin 17) (rd : RegW) (rs : RegR)
  /-- STEP (R242): STEP applies a pointer post-modification without a memory access. -/
  | stepPtr (e : Fin 17) (m : StepOp)
  /-- POOL_REQ (R219): An engine write to POOL_REQ requests one block charged to its group. -/
  | poolReq (e : Fin 17)
  /-- POOL_FREE (R219): An engine write to POOL_FREE frees a block that its group holds. -/
  | poolFree (e : Fin 17) (block : BitVec 16)
  /-- MARK_WRITE (R220): An engine write to MARK queues a MARK ledger record with MARK_DATA. -/
  | markWrite (e : Fin 17) (code : BitVec 16)
  /-- CLAVE_GO (R220): An engine write to CLAVE_GO checks CLAVE_ENTRY and appends it to the group's Clave queue. -/
  | claveGo (e : Fin 17)
  /-- CAUSE_TAKE (R218): An engine read of CAUSE_TAKE returns the cause word and clears the bits it returned. -/
  | causeTake (e : Fin 17)
  /-- CELL_MEASUREMENT_READY (R248): A current-cell measurement becomes available; the cell computes d/q PI and SVPWM compare values within 160 clocks. -/
  | cellMeasurementReady (x : Fin 16) (wa wb wc : BitVec 768) (faultIn sdBad : Bool)
  /-- CELL_TRIP (R262): A cell detects OC, SUM, PS_FLT or SD_LOSS, removes PWM and enable, becomes TRIPPED and raises its fault. -/
  | cellTrip (x : Fin 16) (cause : TripCause) (detail : BitVec 32)
  /-- EN_DELAY_EXPIRY (R264): EN_DELAY after enable, the cell enters RUN with set-points forced to zero. -/
  | enDelayExpiry (x : Fin 16)
  /-- BRAKE_REL_DELAY_EXPIRY (R264): BRAKE_REL_DELAY later, the brake output is energised and the axis is powered. -/
  | brakeRelDelayExpiry (x : Fin 16)
  /-- BRAKE_ENG_DELAY_EXPIRY (R264): BRAKE_ENG_DELAY after brake engage, the cell goes OFF and the enable output goes inactive. -/
  | brakeEngDelayExpiry (x : Fin 16)
  /-- GTIME_EXPIRY (R551): G after a GUARD, the COAST or SHORT variant completes its delayed actions. -/
  | gtimeExpiry (x : Fin 16)
  /-- LOOP_FLT_WRITE (R266): A write of 1 to an AXIS[x].LOOP_FLT bit raises LOOP_FOLLOW, LOOP_VEL or LOOP_USER. -/
  | loopFltWrite (ag : Agent) (x : Fin 32) (value : BitVec 32)
  /-- DRIVE_FEEDBACK_FRAME (R269): A drive-channel feedback frame arrives and is judged valid or missed, driving the drive state. -/
  | driveFeedbackFrame (x : Fin 16) (f : Option DriveFb)
  /-- COEF_WRITE (R273): COEF_WRITE writes coefficient words into the inactive bank or the DIRECT set. -/
  | coefWrite (m : Msg)
  /-- COEF_SWAP (R274): COEF_SWAP requests a bank swap for the group at the next slow boundary. -/
  | coefSwap (m : Msg)
  /-- COEF_ARM (R274): A write of 1 to GRP[n].COEF_CTL.ARMED arms Clave swaps. -/
  | coefArm (ag : Agent) (n : Fin 16)
  /-- GROUP_ENABLE (R289): GROUP_ENABLE starts the power-up sequences and makes the group ENABLED once all axes are powered. -/
  | groupEnable (m : Msg)
  /-- GROUP_DISABLE (R289): GROUP_DISABLE starts the power-down sequences and makes the group DISABLED. -/
  | groupDisable (m : Msg)
  /-- HOLD (R291): HOLD brings every source to rest and keeps the plans. -/
  | hold (m : Msg)
  /-- RESUME (R291): RESUME continues held plans. -/
  | resume (m : Msg)
  /-- STOP (R292): STOP brings the axes to rest and drops queue, targets and couplings. -/
  | stop (m : Msg)
  /-- MOVE_ABS (R296): MOVE_ABS plans a jerk-limited move to a target, with reversal or refusal. -/
  | moveAbs (m : Msg)
  /-- MOVE_REL (R293): MOVE_REL moves by a distance from the present target or POS_CMD. -/
  | moveRel (m : Msg)
  /-- JOG (R298): JOG runs the axis at a signed speed until stopped. -/
  | jog (m : Msg)
  /-- PATH_APPEND (R301): PATH_APPEND queues path segments whole and reports their arc lengths. -/
  | pathAppend (m : Msg)
  /-- PATH_FLUSH (R301): PATH_FLUSH removes records beyond the earliest rest point. -/
  | pathFlush (m : Msg)
  /-- FEED_OVR_WRITE (R307): A write to GRP[n].FEED_OVR sets the feed override from the next slow boundary, clamped to 2000. -/
  | feedOvrWrite (ag : Agent) (n : Fin 16) (value : BitVec 32)
  /-- GEAR_SET (R310): GEAR_SET couples a slave to a master through a clutch, or declutches with NUM 0. -/
  | gearSet (m : Msg)
  /-- CAM_SET (R312): CAM_SET couples a slave through a cam table, at once or AT_CYCLE. -/
  | camSet (m : Msg)
  /-- FOLLOW_SET (R314): FOLLOW_SET engages or releases an axis's follow channel on an AI or PU source. -/
  | followSet (m : Msg)
  /-- CLAVE_APPEND (R326): CLAVE_APPEND checks entries and queues them in the group's event queue. -/
  | claveAppend (m : Msg)
  /-- CLAVE_FLUSH (R342): CLAVE_FLUSH removes every pending entry and turns owned HO outputs off unless KEEP_OUTPUTS is set. -/
  | claveFlush (m : Msg)
  /-- CLAVE_PREDICTION (R330): 256 clocks after a boundary, Clave's crossing predictions for the span are complete. -/
  | clavePrediction (n : Fin 16)
  /-- CLAVE_NOP (R325): A NOP entry fires and is retired. -/
  | claveNop (n : Fin 16) (i : Fin 1024)
  /-- CLAVE_HO_ON (R335): An HO_ON fires at its placed clock and turns the output on, subject to the gate rules. -/
  | claveHoOn (n : Fin 16) (i : Fin 1024)
  /-- CLAVE_HO_OFF (R335): An HO_OFF fires and turns the output off, or counts ORPHAN_OFF. -/
  | claveHoOff (n : Fin 16) (i : Fin 1024)
  /-- CLAVE_HO_PULSE (R325): An HO_PULSE places an ON and an OFF WIDTH clocks apart as a gate window. -/
  | claveHoPulse (n : Fin 16) (i : Fin 1024)
  /-- CLAVE_DEFERRED_OFF (R336): A deferred OFF takes effect at ON + MIN_PULSE. -/
  | claveDeferredOff (n : Fin 16) (k : Fin 8)
  /-- CLAVE_DO_ON (R341): A DO_ON is sent to the field block with its placed instant. -/
  | claveDoOn (n : Fin 16) (i : Fin 1024)
  /-- CLAVE_DO_OFF (R341): A DO_OFF is sent to the field block with its placed instant. -/
  | claveDoOff (n : Fin 16) (i : Fin 1024)
  /-- CLAVE_SNARE_ARM (R347): A Clave SNARE_ARM arms a latch unit from its placed clock. -/
  | claveSnareArm (n : Fin 16) (i : Fin 1024)
  /-- CLAVE_SNARE_DISARM (R347): A Clave SNARE_DISARM disarms a latch unit. -/
  | claveSnareDisarm (n : Fin 16) (i : Fin 1024)
  /-- CLAVE_SNARE_TRIGGER (R346): A Clave SNARE_TRIGGER is a KIND 2 edge for a latch unit. -/
  | claveSnareTrigger (n : Fin 16) (i : Fin 1024)
  /-- CLAVE_COEF_SWAP (R274): A Clave COEF_SWAP requests a swap while ARMED and clears ARMED, or is counted in COEF_IGN. -/
  | claveCoefSwap (n : Fin 16) (i : Fin 1024)
  /-- CLAVE_ENGINE_EVENT (R325): A Clave ENGINE_EVENT sets an event cause bit of the serving engine. -/
  | claveEngineEvent (n : Fin 16) (i : Fin 1024)
  /-- CLAVE_MARK (R325): A Clave MARK writes a MARK ledger record with the entry's COORD. -/
  | claveMark (n : Fin 16) (i : Fin 1024)
  /-- CLAVE_NOTIFY (R325): A Clave NOTIFY sends its value to subscribers in an event frame. -/
  | claveNotify (n : Fin 16) (i : Fin 1024)
  /-- HO_MAX_SPAN (R339): The coordinate leaves MAX_SPAN from the ON value, which forces the output off, blocks it and raises CLAVE_SPAN. -/
  | hoMaxSpan (k : Fin 8)
  /-- HO_MAX_ON (R339): The output has been ON for MAX_ON clocks, which forces it off, blocks it and raises CLAVE_MAXON. -/
  | hoMaxOn (k : Fin 8)
  /-- HO_MODE_WRITE (R345): A write to FIELD.HO_CFG[k].MODE selects CLAVE, FORCE_OFF or FORCE_ON. -/
  | hoModeWrite (ag : Agent) (k : Fin 8) (mode : BitVec 2)
  /-- HI_EDGE (R344): A filtered fast-input edge is accepted with its timestamp, or ignored under a line fault. -/
  | hiEdge (k : Fin 8) (level : Bool) (lineFault : Bool)
  /-- SNARE_RECORD_COMPLETE (R349): Once the latch after t exists, the record is completed and stored in a pool block, setting cause bit 16. -/
  | snareRecordComplete (u : Fin 32)
  /-- SNARE_ARM (R347): SNARE_ARM arms a unit ONESHOT or CONTINUOUS, or disarms it. -/
  | snareArm (m : Msg)
  /-- SNARE_READ (R351): SNARE_READ acknowledges records up to ACK_SEQ and returns the oldest unread ones. -/
  | snareRead (m : Msg)
  /-- FB_LINE_EDGE (R359): An accepted INC or HALL line edge changes the count, or counts as ILLEGAL. `levels`: what the receivers of L1, L2, L3
  show from this clock on; `held1`..`held3`: the clocks for which each line then holds its level. -/
  | fbLineEdge (p : Fin 16) (levels : BitVec 3) (held1 held2 held3 : Nat)
  /-- FB_INDEX_EDGE (R368): An accepted index edge latches INDEX_COUNT and serves Snare KIND 1. -/
  | fbIndexEdge (p : Fin 16) (level : Bool) (held : Nat)
  /-- SINCOS_CONVERSION (R369): A sin/cos conversion is corrected, counted and checked against the amplitude windows. -/
  | sincosConversion (p : Fin 16) (sin cos : BitVec 16) (lineBad : BitVec 6)
  /-- SERIAL_READ_START (R372): LEAD clocks before a served boundary, a BiSS or SSI transaction starts. -/
  | serialReadStart (p : Fin 16)
  /-- SERIAL_READ_DONE (R373): A transaction ends and is decoded, CRC-checked and applied to the count or failed. -/
  | serialReadDone (p : Fin 16) (data : BitVec 64) (crc : BitVec 16) (ldelay : BitVec 13) (frameOk : Bool)
  /-- SERIAL_READ_TIMEOUT (R372): A transaction not complete 32 clocks before its boundary fails with TIMEOUT. -/
  | serialReadTimeout (p : Fin 16)
  /-- LINE_WINDOW_LEAVE (R370): A conductor leaves its common-mode window, which sets LINE_BAD and REF_LOST. -/
  | lineWindowLeave (p : Fin 16) (conductor : Fin 6) (outside : Bool)
  /-- LINE_FAULT_TIMEOUT (R371): An INC or HALL conductor outside its window for 64 clocks raises a LINE fault. -/
  | lineFaultTimeout (p : Fin 16)
  /-- FB_OFFSET_WRITE (R363): A write to FB[p].OFFSET is held pending until the served axis is unpowered or the next boundary. -/
  | fbOffsetWrite (ag : Agent) (p : Fin 16) (value : BitVec 64)
  /-- REF_ACK (R379): A write of 1 to FB[p].CTL.REF_ACK clears REF_LOST. -/
  | refAck (ag : Agent) (p : Fin 16)
  /-- AMP_TRACK_RESET (R383): A write of 1 to FB[p].R2_CTL.RESET resets the r² minimum and maximum. -/
  | ampTrackReset (ag : Agent) (p : Fin 16)
  /-- FIELD_LINK_CYCLE (R384): Every 10 µs one frame is exchanged each way; UP falls after 3 misses and rises after 100 valid frames. -/
  | fieldLinkCycle (toField : Bool) (f : Option FieldFrame)
  /-- FIELD_SILENCE_TIMEOUT (R389): The field block has had no valid frame for SILENCE, so every DO set takes its safe state. -/
  | fieldSilenceTimeout
  /-- FIELD_RESUME (R392): FIELD_RESUME releases sets from their safe state. -/
  | fieldResume (m : Msg)
  /-- AUTO_RESUME (R393): After 10 ms of valid frames following a silence, the field block releases every set by itself. -/
  | autoResume
  /-- VFIELD_LOSS (R37): VFIELD is lost, so the field block is unpowered and every DO is off. -/
  | vfieldLoss
  /-- DI_EDGE (R395): The DI integrator filter changes level, and the edge is stamped and sent in the next frame. -/
  | diEdge (i : Fin 32) (samples : List Bool) (stamp : BitVec 64)
  /-- DI_BROKEN (R397): Current below 0.2 mA for 100 ms sets BROKEN and raises DI_BROKEN. -/
  | diBroken (i : Fin 32)
  /-- DI_BROKEN_CLEAR (R397): Current of 0.4 mA or more for 100 ms clears BROKEN. -/
  | diBrokenClear (i : Fin 32)
  /-- DO_OUT_WRITE (R401): A write to FIELD.DO_OUT[j] is sent with an apply instant 30 µs later. -/
  | doOutWrite (ag : Agent) (j : Fin 16) (value : BitVec 32)
  /-- DO_APPLY (R401): At its apply instant the field block applies a DO command, unless the set is safe or tripped. -/
  | doApply
  /-- DO_TRIP (R402): A channel above 0.75 A for OC_TIME, or at thermal shutdown, turns its whole set off and trips it. -/
  | doTrip (j : Fin 16) (thermal : Bool)
  /-- AI_SAMPLE (R405): Every 20 µs AI0–AI3 are sampled simultaneously and converted to i16 codes. -/
  | aiSample (v0 v1 v2 v3 : Int)
  /-- PU_EDGE (R407): A filtered pulse-input edge updates the count, or counts as illegal. -/
  | puEdge (k : Fin 4) (p q : Bool) (heldP heldQ : Nat) (faultP faultQ : Bool)
  /-- ETH_FRAME_RECEIVE (R412): A frame received on ETH1 or ETH2 is checked, policed, learned and forwarded or delivered to port 0. -/
  | ethFrameReceive (port : Fin 2) (frame : List Byte) (fcsOk : Bool) (backlog : Nat)
  /-- ARP_REQUEST (R416): An ARP request for the module's address is answered, and a conflict sets IP_CONFLICT. -/
  | arpRequest (port : Fin 2) (senderMac : BitVec 48) (senderIp targetIp : BitVec 32)
  /-- ICMP_ECHO_REQUEST (R417): An ICMP echo request is answered within the rate limit. -/
  | icmpEchoRequest (port : Fin 2) (srcMac : BitVec 48) (srcIp dstIp : BitVec 32) (data : List Byte)
  /-- ETH_FRAME_TRANSMIT (R434): An egress port starts the highest open class frame that fits before its gate closes. -/
  | ethFrameTransmit (port : Fin 2)
  /-- GATE_CHANGE (R433): At a gate-list or template entry boundary the gate mask changes. -/
  | gateChange (port : Fin 2)
  /-- GCL_CHANGE (R435): A write of 1 to ETH.GCL[k].CTL.CHANGE checks the admin list and sets PENDING or ERR. -/
  | gclChange (ag : Agent) (port : Fin 2)
  /-- GCL_CHANGE_APPLY (R435): At the first oper cycle boundary at or after T, the admin list becomes the oper list. -/
  | gclChangeApply (port : Fin 2)
  /-- ETH_LINK_UP (R445): A port regains link, receives at once and transmits from the next cycle boundary. -/
  | ethLinkUp (port : Fin 2) (g1000 : Bool)
  /-- ETH_LINK_DOWN (R444): A port loses link, discards its queues and learned addresses, and becomes not asCapable. -/
  | ethLinkDown (port : Fin 2)
  /-- ETH_PORT_ENABLE_WRITE (R444): A write to ETH.PORT[k].CTL.EN holds the PHY down or lets it come up. -/
  | ethPortEnableWrite (ag : Agent) (port : Fin 2) (en : Bool)
  /-- SF_BLOCKED_CLEAR (R441): A W1C write to ETH.SF_BLOCKED unblocks stream filters. -/
  | sfBlockedClear (ag : Agent) (w : Fin 4) (mask : BitVec 32)
  /-- SYNC_RECEIVED (R428): A Sync and Follow_Up pair updates the offset, corrects NTIME by rate or step, and relays time. -/
  | syncReceived (port : Fin 2) (sync : PtpSync)
  /-- PDELAY_REQ_RECEIVED (R424): A peer-delay message is answered or completes a delay measurement. -/
  | pdelayReqReceived (port : Fin 2) (pd : PtpPdelay)
  /-- ANNOUNCE_RECEIVED (R425): An Announce is taken into the best master clock algorithm per ROLE. -/
  | announceReceived (port : Fin 2) (a : PtpAnnounce)
  /-- PTP_INTERVAL (R424): A Sync, Pdelay_Req or Announce interval expires and the message is sent. -/
  | ptpInterval (port : Fin 2) (kind : PtpKind)
  /-- SYNC_TIMEOUT (R427): No Sync for 3 intervals clears SYNC and writes PTP_UNSYNC. -/
  | syncTimeout
  /-- CAN_FRAME_RECEIVE (R456): A valid CAN frame is routed to Bexic, the filter list, a FIFO, a mailbox or rejection. -/
  | canFrameReceive (c : Fin 2) (f : CanFrame)
  /-- CAN_TX_SEND (R466): A write of SEND to CAN[c].TXCTL queues the TXB frame or sets ERR. -/
  | canTxSend (ag : Agent) (c : Fin 2)
  /-- CAN_TX_ABORT (R466): A write of ABORT withdraws a TXB frame that has not won arbitration. -/
  | canTxAbort (ag : Agent) (c : Fin 2)
  /-- CAN_FRAME_TRANSMIT (R465): The lowest pending identifier wins arbitration and is transmitted, or is offered again. -/
  | canFrameTransmit (c : Fin 2) (won : Bool) (loopDelay : BitVec 16) (unlike : BitVec 256) (bit1 : Bool)
  /-- CAN_ERROR (R467): A detected bus error updates TEC and REC and may change the state to ERROR_PASSIVE or BUS_OFF. -/
  | canError (c : Fin 2) (k : CanErr)
  /-- CAN_RECOVER (R469): CAN_RECOVER moves a bus-off channel to RECOVERING. -/
  | canRecover (m : Msg)
  /-- CAN_RECOVERY_DONE (R467): After 128 occurrences of 11 recessive bits the channel enters LISTEN with TEC and REC at 0. -/
  | canRecoveryDone (c : Fin 2)
  /-- CAN_INTEGRATION_END (R470): Bus integration in LISTEN ends, and the channel becomes ERROR_ACTIVE. -/
  | canIntegrationEnd (c : Fin 2)
  /-- CAN_ENABLE_WRITE (R467): A write to CAN[c].CTL.EN disables the channel or re-enables it into LISTEN or BUS_OFF. -/
  | canEnableWrite (ag : Agent) (c : Fin 2) (en : Bool)
  /-- CAN_FIFO_POP (R462): A write of 1 to RXF[k].POP removes the head record. -/
  | canFifoPop (ag : Agent) (c k : Fin 2)
  /-- I2C_S_WRITE (R479): A write transaction to I2C-S sets the pointer and writes bytes, including a Bexic message to BXP_TX. -/
  | i2cSWrite (addr : BitVec 7) (data : List Byte)
  /-- I2C_S_READ (R479): A read transaction returns bytes from the pointer and may remove a BXP_RX entry or a FIFO entry. -/
  | i2cSRead (addr : BitVec 7) (n : BitVec 16)
  /-- SCL_LOW_TIMEOUT (R488): SCL low beyond SCL_MS sets SCL_STUCK and releases the bus. -/
  | sclLowTimeout (bus : Fin 2) (part : I2cPart) (sdaLow : Bool)
  /-- SDA_LOW_TIMEOUT (R487): SDA low while SCL is high beyond SDA_MS sets SDA_STUCK. -/
  | sdaLowTimeout (bus : Fin 2)
  /-- I2C_XFER (R492): I2C_XFER queues an I2C-P transfer. -/
  | i2cXfer (m : Msg)
  /-- I2C_BUS_RECOVERY (R495): I2C_XFER with RECOVER sends up to 9 clocks to free SDA. -/
  | i2cBusRecovery (m : Msg)
  /-- I2C_TRANSFER_START (R494): A waiting transfer starts at or after its slow boundary once the bus is free. -/
  | i2cTransferStart
  /-- I2C_TRANSFER_DONE (R491): A transfer ends with a result code and is answered. -/
  | i2cTransferDone (result : BitVec 8) (index : BitVec 8) (count : BitVec 8) (losses : BitVec 4) (data : List Byte)
  /-- SESSION_OPEN (R508): SESSION_OPEN creates a new session with a tag from NTIME. -/
  | sessionOpen (m : Msg)
  /-- PING (R516): PING returns NTIME and echoes its payload. -/
  | ping (m : Msg)
  /-- READ_REG (R516): READ_REG returns one register word. -/
  | readReg (m : Msg)
  /-- WRITE_REG (R516): WRITE_REG writes a word under a mask in one access. -/
  | writeReg (m : Msg)
  /-- READ_BLOCK (R129): READ_BLOCK returns up to 348 words, each read under its window. -/
  | readBlock (m : Msg)
  /-- WRITE_BLOCK (R129): WRITE_BLOCK writes up to 348 words word by word. -/
  | writeBlock (m : Msg)
  /-- LEDGER_READ (R537): LEDGER_READ returns committed records from FROM_SEQ, with GAP when records were overwritten. -/
  | ledgerRead (m : Msg)
  /-- EVENT_SUBSCRIBE (R520): EVENT_SUBSCRIBE sets the session's subscription mask. -/
  | eventSubscribe (m : Msg)
  /-- REASSEMBLY_TIMEOUT (R517): 100 ms without a fragment discards the open reassembly and answers FRAG_ERROR. -/
  | reassemblyTimeout (id : Fin 35)
  /-- EVENT_FRAME_FLUSH (R521): 1 ms after the first waiting item, or when the next item does not fit, an event frame is sent. -/
  | eventFrameFlush (ep : Fin 17)
  /-- LEDGER_CLAIM (R534): The writer claims the head event, or the LOSS event, assigns WR_SEQ and starts writing the record. -/
  | ledgerClaim
  /-- LEDGER_COMMIT (R535): The SEQ word is written last, which commits the record and queues subscriber copies. -/
  | ledgerCommit
  /-- PEAK_RESET (R542): A write of 1 to LEDGER.CTL.PEAK_RESET sets PEAK to LEVEL. -/
  | peakReset (ag : Agent)
  /-- STOP_MAX_EXPIRY (R550): STOP_MAX elapses with the group still STOPPING, so it escalates to GUARD. -/
  | stopMaxExpiry (n : Fin 16)
  /-- DRIVE_ENABLE_LOST (R559): DRIVE_ENABLE low passes the 10 µs filter, which in OPERATE raises DRIVE_ENABLE_LOST. -/
  | driveEnableLost
  /-- DRIVE_ENABLE_RISE (R559): DRIVE_ENABLE high passes the filter, which ends any hardware cut. -/
  | driveEnableRise
  /-- DRIVE_ENABLE_HW_CUT (R560): After HW_DELAY of filtered low, hardware forces every PS enable inactive and every PWM line off. -/
  | driveEnableHwCut
  /-- STO_ACTIVE (R561): An STO line asserted on a powered axis raises STO_ACTIVE and guards the axis. -/
  | stoActive (x : Fin 16) (mv : BitVec 16)
  /-- BD_POWER_ON (R597): The backup domain supply falls below its 1.8 V retention level, and the power-on detector resets the whole domain (RTC, comparators, FIFO, BKREG, WAKE_CAUSE) together. -/
  | bdPowerOn
  /-- CLOCK_RETURN (R556): The main clock returns after a CLOCK_LOSS in STANDBY, OPERATE or SAFE_HOLD, so the fault reaches the ledger and the stopped engines, set-point units and networks restart. -/
  | clockReturn
  /-- VFIELD_RETURN (R384): VFIELD is applied again, so the field block powers up and its link starts exchanging frames. -/
  | vfieldReturn
  /-- MAC_AGEING (R412): A learned source MAC address that has not been seen for the 300 s ageing time is removed from the switch table. -/
  | macAgeing (mac : BitVec 48)
  /-- ILLEGAL_INSTRUCTION (R245): The engine executes a word of an illegal form, or fetches past PM word 8191, and fails with cause ILLEGAL. -/
  | illegalInstruction (e : Fin 17)
  deriving DecidableEq, Repr

end Sys2Proof
end

