-- ==== Sys2Proof/Config.lean ====
section
/-!
DEFINITION. Config.lean: the free values of the model: values that the spec leaves open and on which nothing may be
proved. None has a body that a proof can see; a claim that holds holds whatever they are.
-/
namespace Sys2Proof.Config

/-- Byte `i` of pool block `k` as granted the `g`-th time, before its holder writes it (R143: contents undefined). -/
opaque freePoolByte (g k i : Nat) : Byte

/-- A bounded open choice: the `k`-th value drawn at a place of the model that the spec leaves open within bounds. -/
opaque freeNat (k : Nat) : Nat

end Sys2Proof.Config
end

