-- ==== Sys2Proof/Machine/Bits.lean ====
section
/-!
DEFINITION. Bits.lean: the number formats of the spec: bit fields, two's complement, fixed point, convergent
rounding, little-endian bytes and binary64 (R8-R13).
-/
namespace Sys2Proof.Machine

/-- Bits [lo+width-1:lo] of `n`. -/
def bits (n lo width : Nat) : Nat := n / 2 ^ lo % 2 ^ width

/-- Bit `i` of `n`. -/
def bit (n i : Nat) : Bool := n / 2 ^ i % 2 = 1

/-- `n` with `v` in bits [lo+width-1:lo]. -/
def setBits (n lo width v : Nat) : Nat := n - bits n lo width * 2 ^ lo + v % 2 ^ width * 2 ^ lo

/-- 1 for true, 0 for false. -/
def b2n (b : Bool) : Nat := if b then 1 else 0

/-- The number below `2^w` that the low `w` bits of `i` spell (two's complement, R11). -/
def ofInt (w : Nat) (i : Int) : Nat := (i % (2 ^ w : Int)).toNat

/-- The signed value of the low `w` bits of `n` (two's complement, R11). -/
def toInt (w n : Nat) : Int :=
  if n % 2 ^ w < 2 ^ (w - 1) then (n % 2 ^ w : Nat) else ((n % 2 ^ w : Nat) : Int) - (2 ^ w : Int)

/-- `i` held to `lo..hi`. -/
def clampI (lo hi i : Int) : Int := if i < lo then lo else if hi < i then hi else i

/-- `n` held to at most `hi`. -/
def satN (hi n : Nat) : Nat := if hi < n then hi else n

/-- `i` saturated to a signed number of `w` bits. -/
def satI (w : Nat) (i : Int) : Int := clampI (-(2 ^ (w - 1) : Int)) ((2 ^ (w - 1) : Int) - 1) i

/-- `i` divided by `2^k`, rounded to nearest, ties to even (convergent rounding). -/
def convShift (i : Int) (k : Nat) : Int :=
  if k = 0 then i
  else
    let q := i / (2 ^ k : Int)
    let r := i % (2 ^ k : Int)
    if 2 * r < (2 ^ k : Int) then q
    else if (2 ^ k : Int) < 2 * r then q + 1
    else if q % 2 = 0 then q else q + 1

/-- The rational `num / den` rounded to the nearest integer, ties to even. -/
def convDiv (num : Int) (den : Nat) : Int :=
  if den = 0 then 0
  else
    let q := num / (den : Int)
    let r := num % (den : Int)
    if 2 * r < (den : Int) then q
    else if (den : Int) < 2 * r then q + 1
    else if q % 2 = 0 then q else q + 1

/-- A rational rounded to the nearest integer, ties to even. -/
def convRat (r : Rat) : Int := convDiv r.num r.den

/-- `k` little-endian bytes of `n` (R10). -/
def leBytes : Nat → Nat → List Byte
  | 0, _ => []
  | k + 1, n => BitVec.ofNat 8 n :: leBytes k (n / 256)

/-- The number that little-endian bytes spell (R10). -/
def ofLE : List Byte → Nat
  | [] => 0
  | b :: r => b.toNat + 256 * ofLE r

/-- `n` bytes from offset `i`; bytes beyond the end read zero. -/
def slice (l : List Byte) (i n : Nat) : List Byte :=
  let t := (l.drop i).take n
  t ++ List.replicate (n - t.length) 0

/-- The byte at offset `i`, zero beyond the end. -/
def byteAt (l : List Byte) (i : Nat) : Nat := (l.getD i 0).toNat

/-- The little-endian number of `n` bytes at offset `i`. -/
def leAt (l : List Byte) (i n : Nat) : Nat := ofLE (slice l i n)

/-- The first `n` bytes of `l`, padded with zeros. -/
def padTo (n : Nat) (l : List Byte) : List Byte := slice l 0 n

/-- An integer times a power of two, exactly. -/
def scale2 (m : Int) (e : Int) : Rat :=
  if 0 ≤ e then ((m * (2 ^ e.toNat : Int) : Int) : Rat) else mkRat m (2 ^ (-e).toNat)

/-- The value of an IEEE 754 binary64 (R13): none for an infinity or a NaN. -/
def f64 (n : Nat) : Option Rat :=
  let s : Int := if bit n 63 then -1 else 1
  let ex := bits n 52 11
  let m := bits n 0 52
  if ex = 2047 then none
  else if ex = 0 then some (scale2 (s * m) (-1074))
  else some (scale2 (s * ((2 ^ 52 + m : Nat) : Int)) ((ex : Int) - 1075))

/-- A rational in Q40.24, rounded convergently; none outside the format. -/
def toQ (r : Rat) : Option Int :=
  let i := convRat (r * ((2 ^ 24 : Nat) : Rat))
  if -(2 ^ 63 : Int) ≤ i ∧ i < (2 ^ 63 : Int) then some i else none

/-- The rational value of a Q40.24 number. -/
def ofQ (i : Int) : Rat := mkRat i (2 ^ 24)

/-- One step of the reflected CRC-32C register (Table SCO-4). -/
def crcStep (c : Nat) : Nat → Nat
  | 0 => c
  | k + 1 => crcStep (if c % 2 = 1 then (c / 2) ^^^ 0x82F63B78 else c / 2) k

/-- The CRC-32C register after the bytes `l`. -/
def crcBytes (c : Nat) : List Byte → Nat
  | [] => c
  | b :: r => crcBytes (crcStep (c ^^^ b.toNat) 8) r

/-- CRC-32C (Castagnoli, reflected, initial and final XOR 0xFFFF_FFFF; Table SCO-4). -/
def crc32c (l : List Byte) : Nat := crcBytes 0xFFFFFFFF l ^^^ 0xFFFFFFFF

/-- Elements of a list changed at one position; a position past the end changes nothing. -/
def setAt {α : Type} (l : List α) (i : Nat) (v : α) : List α := l.set i v

/-- The integer square root, by 64 halvings of the bracket. -/
def isqrt (n : Nat) : Nat := Nat.sqrt n

end Sys2Proof.Machine
end

