-- ==== Sys2Proof/Machine/Fld.lean ====
section
/-!
DEFINITION. Fld.lean: what a register field is (R8, R14, R122): its word address, its lowest bit, its width; a row of a
register table; and which addresses an indexed row covers.
-/
namespace Sys2Proof.Machine

/-- One register field: word address, lowest bit, width in bits (64 for a pair marked 64-bit, R123). -/
structure Fld where
  addr  : Nat
  lo    : Nat
  width : Nat
  deriving DecidableEq, Repr

/-- The index of the field's one home in `State.regs`. -/
def Fld.key (f : Fld) : Nat := f.addr * 32 + f.lo

/-- Access types of Table SCO-2. -/
inductive Access where
  | rw
  | ro
  | w1s
  | w1c
  | rc
  deriving DecidableEq, Repr

/-- One row of a register table: base address, (stride, count) of each index, lowest bit, width, access type. -/
structure RegRow where
  base  : Nat
  dims  : List (Nat × Nat)
  lo    : Nat
  width : Nat
  acc   : Access
  deriving DecidableEq, Repr

/-- Whether address `a` is `b` plus an index within the count times the stride, for each index in turn. -/
def inDims : List (Nat × Nat) → Nat → Nat → Bool
  | [], b, a => a = b
  | (s, n) :: r, b, a =>
    let i := if a < b then 0 else if s = 0 then 0 else (a - b) / s
    let i := if i < n then i else n - 1
    inDims r (b + i * s) a

end Sys2Proof.Machine
end

