-- ==== Sys2Proof/Machine/RegTable.lean ====
section
/-!
DEFINITION. RegTable.lean: the register tables of spec/02 to spec/18 as rows: where each field lies, its index strides,
its access type (R14), and the reset values that are not zero (R15).
-/
namespace Sys2Proof.Machine

/-- Register fields of block SYS. -/
def rowsSYS0 : List RegRow := [
  ⟨0, [], 0, 3, .ro⟩,
  ⟨0, [], 8, 1, .ro⟩,
  ⟨4, [], 0, 1, .ro⟩,
  ⟨4, [], 1, 1, .ro⟩,
  ⟨4, [], 2, 1, .ro⟩,
  ⟨4, [], 3, 1, .ro⟩,
  ⟨4, [], 4, 1, .ro⟩,
  ⟨8, [], 0, 16, .ro⟩,
  ⟨0xc, [], 0, 16, .ro⟩,
  ⟨0x10, [], 0, 4, .ro⟩,
  ⟨0x10, [], 8, 1, .ro⟩,
  ⟨0x10, [], 9, 1, .ro⟩,
  ⟨0x10, [], 10, 1, .ro⟩,
  ⟨0x20, [], 0, 32, .ro⟩,
  ⟨0x24, [], 0, 16, .ro⟩,
  ⟨0x28, [], 0, 32, .rw⟩,
  ⟨0x2c, [], 0, 16, .rw⟩,
  ⟨0x30, [], 0, 1, .w1s⟩,
  ⟨0x30, [], 1, 1, .rw⟩,
  ⟨0x40, [(4, 4)], 0, 6, .rw⟩,
  ⟨0x40, [(4, 4)], 8, 2, .rw⟩,
  ⟨0x40, [(4, 4)], 12, 1, .ro⟩,
  ⟨0x50, [], 0, 3, .rw⟩,
  ⟨0x60, [], 0, 32, .ro⟩,
  ⟨0x64, [], 0, 16, .ro⟩,
  ⟨0x64, [], 16, 4, .ro⟩,
  ⟨0x64, [], 20, 1, .ro⟩,
  ⟨0x64, [], 31, 1, .ro⟩,
  ⟨0x68, [], 0, 4, .ro⟩,
  ⟨0x68, [], 8, 8, .rc⟩,
  ⟨0x80, [(4, 14)], 0, 32, .ro⟩,
  ⟨0xb8, [(4, 2)], 0, 32, .rw⟩,
  ⟨0x100, [], 0, 1, .ro⟩,
  ⟨0x100, [], 1, 1, .ro⟩,
  ⟨0x100, [], 2, 1, .ro⟩,
  ⟨0x100, [], 4, 4, .ro⟩,
  ⟨0x100, [], 8, 6, .ro⟩,
  ⟨0x104, [], 0, 32, .ro⟩,
  ⟨0x108, [], 0, 32, .ro⟩,
  ⟨0x10c, [], 0, 32, .ro⟩]

/-- Register fields of block SYS. -/
def rowsSYS1 : List RegRow := [
  ⟨0x110, [], 0, 1, .ro⟩,
  ⟨0x110, [], 1, 1, .ro⟩,
  ⟨0x114, [], 0, 16, .ro⟩,
  ⟨0x118, [], 0, 32, .ro⟩,
  ⟨0x11c, [], 0, 32, .ro⟩,
  ⟨0x120, [], 0, 32, .ro⟩,
  ⟨0x124, [], 0, 32, .ro⟩,
  ⟨0x128, [], 0, 32, .ro⟩,
  ⟨0x12c, [], 0, 16, .rc⟩,
  ⟨0x140, [(4, 8)], 0, 32, .ro⟩,
  ⟨0x160, [(4, 8)], 0, 32, .rw⟩,
  ⟨0x180, [], 0, 1, .w1s⟩,
  ⟨0x180, [], 16, 16, .rw⟩,
  ⟨0x184, [], 0, 1, .ro⟩,
  ⟨0x184, [], 1, 1, .ro⟩,
  ⟨0x184, [], 2, 1, .ro⟩,
  ⟨0x190, [], 0, 2, .ro⟩,
  ⟨0x190, [], 4, 1, .ro⟩,
  ⟨0x190, [], 8, 8, .ro⟩,
  ⟨0x194, [], 0, 32, .ro⟩,
  ⟨0x200, [], 0, 16, .rc⟩,
  ⟨0x200, [], 16, 1, .ro⟩,
  ⟨0x204, [], 0, 21, .ro⟩,
  ⟨0x208, [], 0, 16, .rc⟩,
  ⟨0x208, [], 16, 1, .ro⟩,
  ⟨0x20c, [], 0, 30, .ro⟩,
  ⟨0x210, [], 0, 16, .ro⟩,
  ⟨0x214, [], 0, 1, .ro⟩,
  ⟨0x214, [], 8, 8, .ro⟩,
  ⟨0x300, [], 0, 15, .ro⟩,
  ⟨0x300, [], 16, 5, .ro⟩,
  ⟨0x304, [], 0, 16, .ro⟩,
  ⟨0x308, [], 0, 1, .ro⟩,
  ⟨0x308, [], 8, 24, .ro⟩,
  ⟨0x30c, [], 0, 32, .rc⟩,
  ⟨0x310, [], 0, 64, .ro⟩,
  ⟨0x318, [], 0, 64, .ro⟩,
  ⟨0x400, [(0x20, 17)], 0, 16, .ro⟩,
  ⟨0x400, [(0x20, 17)], 16, 1, .ro⟩,
  ⟨0x400, [(0x20, 17)], 17, 3, .ro⟩]

/-- Register fields of block SYS. -/
def rowsSYS2 : List RegRow := [
  ⟨0x404, [(0x20, 17)], 0, 32, .ro⟩,
  ⟨0x408, [(0x20, 17)], 0, 32, .rc⟩,
  ⟨0x40c, [(0x20, 17)], 0, 16, .rc⟩,
  ⟨0x410, [(0x20, 17)], 0, 16, .rc⟩,
  ⟨0x414, [(0x20, 17)], 0, 16, .rc⟩,
  ⟨0x418, [(0x20, 17)], 0, 16, .rc⟩,
  ⟨0x41c, [(0x20, 17)], 0, 32, .ro⟩,
  ⟨0x620, [], 0, 16, .rc⟩]

/-- Register fields of block GRP. -/
def rowsGRP0 : List RegRow := [
  ⟨0x10000, [(0x1000, 16)], 0, 32, .ro⟩,
  ⟨0x10004, [(0x1000, 16)], 0, 32, .ro⟩,
  ⟨0x10008, [(0x1000, 16)], 0, 16, .ro⟩,
  ⟨0x1000c, [(0x1000, 16)], 0, 32, .ro⟩,
  ⟨0x10010, [(0x1000, 16)], 0, 16, .ro⟩,
  ⟨0x10014, [(0x1000, 16)], 0, 8, .ro⟩,
  ⟨0x10014, [(0x1000, 16)], 8, 8, .ro⟩,
  ⟨0x10014, [(0x1000, 16)], 16, 4, .ro⟩,
  ⟨0x10014, [(0x1000, 16)], 20, 4, .ro⟩,
  ⟨0x10018, [(0x1000, 16)], 0, 5, .ro⟩,
  ⟨0x10020, [(0x1000, 16)], 0, 1, .ro⟩,
  ⟨0x10020, [(0x1000, 16)], 1, 1, .ro⟩,
  ⟨0x10020, [(0x1000, 16)], 8, 1, .ro⟩,
  ⟨0x10024, [(0x1000, 16)], 0, 16, .ro⟩,
  ⟨0x10024, [(0x1000, 16)], 16, 16, .ro⟩,
  ⟨0x10028, [(0x1000, 16)], 0, 32, .ro⟩,
  ⟨0x1002c, [(0x1000, 16)], 0, 1, .w1s⟩,
  ⟨0x10030, [(0x1000, 16)], 0, 5, .ro⟩,
  ⟨0x10030, [(0x1000, 16)], 8, 1, .ro⟩,
  ⟨0x10034, [(0x1000, 16)], 0, 64, .ro⟩,
  ⟨0x10040, [(0x1000, 16)], 0, 1, .ro⟩,
  ⟨0x10040, [(0x1000, 16)], 1, 1, .ro⟩,
  ⟨0x10040, [(0x1000, 16)], 2, 1, .ro⟩,
  ⟨0x10040, [(0x1000, 16)], 16, 16, .ro⟩,
  ⟨0x10044, [(0x1000, 16)], 0, 1, .w1s⟩,
  ⟨0x10048, [(0x1000, 16)], 0, 64, .ro⟩,
  ⟨0x10050, [(0x1000, 16)], 0, 16, .rc⟩,
  ⟨0x10100, [(0x1000, 16)], 0, 3, .ro⟩,
  ⟨0x10100, [(0x1000, 16)], 8, 1, .ro⟩,
  ⟨0x10100, [(0x1000, 16)], 9, 1, .ro⟩,
  ⟨0x10104, [(0x1000, 16)], 0, 11, .rw⟩,
  ⟨0x10108, [(0x1000, 16)], 0, 32, .ro⟩,
  ⟨0x10110, [(0x1000, 16)], 0, 64, .ro⟩,
  ⟨0x10118, [(0x1000, 16)], 0, 64, .ro⟩,
  ⟨0x10120, [(0x1000, 16)], 0, 19, .ro⟩,
  ⟨0x10124, [(0x1000, 16)], 0, 10, .ro⟩,
  ⟨0x10128, [(0x1000, 16)], 0, 64, .ro⟩,
  ⟨0x10130, [(0x1000, 16)], 0, 64, .ro⟩,
  ⟨0x10138, [(0x1000, 16)], 0, 16, .ro⟩,
  ⟨0x10140, [(0x1000, 16)], 0, 64, .ro⟩]

/-- Register fields of block GRP. -/
def rowsGRP1 : List RegRow := [
  ⟨0x10148, [(0x1000, 16)], 0, 16, .rc⟩,
  ⟨0x10150, [(0x1000, 16)], 0, 64, .ro⟩]

/-- Register fields of block POOL. -/
def rowsPOOL : List RegRow := [
  ⟨0xb0000, [], 0, 17, .ro⟩,
  ⟨0xb0000, [], 31, 1, .ro⟩,
  ⟨0xb0004, [], 0, 17, .ro⟩,
  ⟨0xb0008, [], 0, 17, .ro⟩,
  ⟨0xb000c, [], 0, 17, .ro⟩,
  ⟨0xb0010, [], 0, 1, .w1s⟩,
  ⟨0xb0014, [], 0, 17, .rw⟩,
  ⟨0xb0018, [], 0, 32, .rc⟩,
  ⟨0xb0100, [(0x10, 16)], 0, 16, .ro⟩,
  ⟨0xb0104, [(0x10, 16)], 0, 17, .ro⟩,
  ⟨0xb0108, [(0x10, 16)], 0, 32, .rc⟩,
  ⟨0xb010c, [(0x10, 16)], 0, 17, .ro⟩,
  ⟨0xb0200, [], 0, 17, .ro⟩]

/-- Register fields of block ENG. -/
def rowsENG : List RegRow := [
  ⟨0x30000, [(0x200, 17)], 0, 3, .ro⟩,
  ⟨0x30000, [(0x200, 17)], 8, 4, .ro⟩,
  ⟨0x30000, [(0x200, 17)], 12, 1, .ro⟩,
  ⟨0x30000, [(0x200, 17)], 16, 1, .ro⟩,
  ⟨0x30004, [(0x200, 17)], 0, 1, .ro⟩,
  ⟨0x30004, [(0x200, 17)], 1, 1, .ro⟩,
  ⟨0x30004, [(0x200, 17)], 2, 1, .ro⟩,
  ⟨0x30004, [(0x200, 17)], 3, 1, .ro⟩,
  ⟨0x30004, [(0x200, 17)], 8, 8, .ro⟩,
  ⟨0x30008, [(0x200, 17)], 0, 4, .ro⟩,
  ⟨0x30008, [(0x200, 17)], 16, 13, .ro⟩,
  ⟨0x3000c, [(0x200, 17)], 0, 64, .ro⟩,
  ⟨0x30014, [(0x200, 17)], 0, 32, .rc⟩,
  ⟨0x30018, [(0x200, 17)], 0, 16, .ro⟩,
  ⟨0x3001c, [(0x200, 17)], 0, 16, .ro⟩,
  ⟨0x30020, [(0x200, 17)], 0, 1, .w1s⟩,
  ⟨0x30024, [(0x200, 17)], 0, 18, .ro⟩,
  ⟨0x30028, [(0x200, 17)], 0, 2, .ro⟩,
  ⟨0x30028, [(0x200, 17)], 8, 8, .ro⟩,
  ⟨0x3002c, [(0x200, 17)], 0, 4, .ro⟩,
  ⟨0x3002c, [(0x200, 17)], 4, 4, .ro⟩,
  ⟨0x3002c, [(0x200, 17)], 8, 3, .ro⟩,
  ⟨0x30030, [(0x200, 17)], 0, 32, .ro⟩]

/-- Register fields of block CUR. -/
def rowsCUR0 : List RegRow := [
  ⟨0xe0000, [(0x200, 16)], 0, 2, .ro⟩,
  ⟨0xe0000, [(0x200, 16)], 2, 1, .ro⟩,
  ⟨0xe0000, [(0x200, 16)], 3, 1, .ro⟩,
  ⟨0xe0000, [(0x200, 16)], 4, 1, .ro⟩,
  ⟨0xe0000, [(0x200, 16)], 5, 2, .ro⟩,
  ⟨0xe0000, [(0x200, 16)], 8, 4, .ro⟩,
  ⟨0xe0000, [(0x200, 16)], 16, 7, .ro⟩,
  ⟨0xe0004, [(0x200, 16)], 0, 11, .ro⟩,
  ⟨0xe0004, [(0x200, 16)], 16, 13, .ro⟩,
  ⟨0xe0008, [(0x200, 16)], 0, 2, .ro⟩,
  ⟨0xe0008, [(0x200, 16)], 4, 1, .ro⟩,
  ⟨0xe0008, [(0x200, 16)], 5, 1, .ro⟩,
  ⟨0xe0008, [(0x200, 16)], 8, 1, .ro⟩,
  ⟨0xe0008, [(0x200, 16)], 9, 1, .ro⟩,
  ⟨0xe0008, [(0x200, 16)], 10, 1, .ro⟩,
  ⟨0xe0008, [(0x200, 16)], 11, 1, .ro⟩,
  ⟨0xe0008, [(0x200, 16)], 12, 1, .ro⟩,
  ⟨0xe0008, [(0x200, 16)], 16, 1, .ro⟩,
  ⟨0xe0008, [(0x200, 16)], 17, 1, .ro⟩,
  ⟨0xe0008, [(0x200, 16)], 18, 1, .ro⟩,
  ⟨0xe000c, [(0x200, 16)], 0, 32, .ro⟩,
  ⟨0xe0010, [(0x200, 16)], 0, 32, .ro⟩,
  ⟨0xe0014, [(0x200, 16)], 0, 32, .ro⟩,
  ⟨0xe0018, [(0x200, 16)], 0, 32, .ro⟩,
  ⟨0xe001c, [(0x200, 16)], 0, 32, .ro⟩,
  ⟨0xe0020, [(0x200, 16)], 0, 32, .ro⟩,
  ⟨0xe0024, [(0x200, 16)], 0, 32, .ro⟩,
  ⟨0xe0028, [(0x200, 16)], 0, 32, .ro⟩,
  ⟨0xe002c, [(0x200, 16)], 0, 32, .ro⟩,
  ⟨0xe0030, [(0x200, 16)], 0, 16, .ro⟩,
  ⟨0xe0030, [(0x200, 16)], 16, 16, .ro⟩,
  ⟨0xe0034, [(0x200, 16)], 0, 16, .ro⟩,
  ⟨0xe0038, [(0x200, 16)], 0, 32, .ro⟩,
  ⟨0xe003c, [(0x200, 16)], 0, 32, .ro⟩,
  ⟨0xe0040, [(0x200, 16)], 0, 32, .rw⟩,
  ⟨0xe0044, [(0x200, 16)], 0, 32, .rw⟩,
  ⟨0xe0048, [(0x200, 16)], 0, 16, .rc⟩,
  ⟨0xe0050, [(0x200, 16)], 0, 32, .ro⟩,
  ⟨0xe0054, [(0x200, 16)], 0, 8, .ro⟩,
  ⟨0xe0058, [(0x200, 16)], 0, 32, .ro⟩]

/-- Register fields of block CUR. -/
def rowsCUR1 : List RegRow := [
  ⟨0xe0060, [(0x200, 16)], 0, 20, .ro⟩,
  ⟨0xe0064, [(0x200, 16)], 0, 20, .ro⟩,
  ⟨0xe0068, [(0x200, 16)], 0, 20, .ro⟩,
  ⟨0xe0080, [(0x200, 16), (4, 11)], 0, 32, .rw⟩,
  ⟨0xe00c0, [(0x200, 16), (4, 11)], 0, 32, .ro⟩,
  ⟨0xe0100, [(0x200, 16)], 0, 32, .ro⟩,
  ⟨0xe0104, [(0x200, 16)], 0, 32, .ro⟩,
  ⟨0xe0108, [(0x200, 16)], 0, 32, .ro⟩,
  ⟨0xe010c, [(0x200, 16)], 0, 32, .ro⟩,
  ⟨0xe0110, [(0x200, 16)], 0, 32, .ro⟩,
  ⟨0xe0114, [(0x200, 16)], 0, 32, .ro⟩,
  ⟨0xe0118, [(0x200, 16)], 0, 32, .ro⟩,
  ⟨0xe011c, [(0x200, 16)], 0, 24, .ro⟩]

/-- Register fields of block AXIS. -/
def rowsAXIS0 : List RegRow := [
  ⟨0x20100, [(0x400, 32)], 0, 1, .w1s⟩,
  ⟨0x20100, [(0x400, 32)], 1, 1, .w1s⟩,
  ⟨0x20100, [(0x400, 32)], 2, 1, .w1s⟩,
  ⟨0x20100, [(0x400, 32)], 16, 16, .rw⟩,
  ⟨0x20110, [(0x400, 32)], 0, 3, .ro⟩,
  ⟨0x20110, [(0x400, 32)], 8, 8, .ro⟩,
  ⟨0x20110, [(0x400, 32)], 16, 8, .ro⟩,
  ⟨0x20114, [(0x400, 32)], 0, 32, .rc⟩,
  ⟨0x20118, [(0x400, 32)], 0, 64, .ro⟩,
  ⟨0x20120, [(0x400, 32)], 0, 64, .ro⟩,
  ⟨0x20128, [(0x400, 32)], 0, 3, .ro⟩,
  ⟨0x20128, [(0x400, 32)], 8, 4, .ro⟩,
  ⟨0x20128, [(0x400, 32)], 16, 8, .ro⟩,
  ⟨0x2012c, [(0x400, 32)], 0, 16, .ro⟩,
  ⟨0x20200, [(0x400, 32), (4, 32)], 0, 32, .rw⟩,
  ⟨0x20280, [(0x400, 32), (4, 32)], 0, 32, .ro⟩,
  ⟨0x20000, [(0x400, 32)], 0, 3, .ro⟩,
  ⟨0x20000, [(0x400, 32)], 4, 1, .ro⟩,
  ⟨0x20000, [(0x400, 32)], 5, 1, .ro⟩,
  ⟨0x20000, [(0x400, 32)], 6, 1, .ro⟩,
  ⟨0x20000, [(0x400, 32)], 8, 1, .ro⟩,
  ⟨0x20008, [(0x400, 32)], 0, 64, .ro⟩,
  ⟨0x20010, [(0x400, 32)], 0, 64, .ro⟩,
  ⟨0x20018, [(0x400, 32)], 0, 64, .ro⟩,
  ⟨0x20020, [(0x400, 32)], 0, 64, .ro⟩,
  ⟨0x20028, [(0x400, 32)], 0, 64, .ro⟩,
  ⟨0x20030, [(0x400, 32)], 0, 64, .ro⟩,
  ⟨0x20038, [(0x400, 32)], 0, 64, .ro⟩,
  ⟨0x20040, [(0x400, 32)], 0, 1, .ro⟩,
  ⟨0x20040, [(0x400, 32)], 1, 1, .ro⟩,
  ⟨0x20048, [(0x400, 32)], 0, 64, .ro⟩,
  ⟨0x20050, [(0x400, 32)], 0, 64, .ro⟩,
  ⟨0x20058, [(0x400, 32)], 0, 64, .ro⟩,
  ⟨0x20060, [(0x400, 32)], 0, 64, .ro⟩,
  ⟨0x20068, [(0x400, 32)], 0, 64, .ro⟩,
  ⟨0x20070, [(0x400, 32)], 0, 64, .ro⟩,
  ⟨0x20078, [(0x400, 32)], 0, 16, .rc⟩,
  ⟨0x20080, [(0x400, 32)], 0, 64, .ro⟩,
  ⟨0x20300, [(0x400, 32)], 0, 2, .ro⟩,
  ⟨0x20300, [(0x400, 32)], 4, 3, .ro⟩]

/-- Register fields of block AXIS. -/
def rowsAXIS1 : List RegRow := [
  ⟨0x20300, [(0x400, 32)], 8, 5, .ro⟩,
  ⟨0x20300, [(0x400, 32)], 16, 1, .ro⟩,
  ⟨0x20300, [(0x400, 32)], 17, 1, .ro⟩,
  ⟨0x20304, [(0x400, 32)], 0, 2, .ro⟩,
  ⟨0x20304, [(0x400, 32)], 8, 24, .ro⟩,
  ⟨0x20308, [(0x400, 32)], 0, 32, .ro⟩,
  ⟨0x2030c, [(0x400, 32)], 0, 32, .ro⟩,
  ⟨0x20310, [(0x400, 32)], 0, 64, .ro⟩,
  ⟨0x20318, [(0x400, 32)], 0, 64, .ro⟩,
  ⟨0x20320, [(0x400, 32)], 0, 64, .ro⟩,
  ⟨0x20328, [(0x400, 32)], 0, 27, .ro⟩,
  ⟨0x2032c, [(0x400, 32)], 0, 17, .ro⟩,
  ⟨0x20330, [(0x400, 32)], 0, 64, .ro⟩,
  ⟨0x20338, [(0x400, 32)], 0, 32, .ro⟩,
  ⟨0x20380, [(0x400, 32)], 0, 8, .ro⟩,
  ⟨0x20380, [(0x400, 32)], 8, 1, .ro⟩,
  ⟨0x20388, [(0x400, 32)], 0, 64, .ro⟩,
  ⟨0x20390, [(0x400, 32)], 0, 64, .ro⟩,
  ⟨0x20398, [(0x400, 32)], 0, 64, .ro⟩,
  ⟨0x203a0, [(0x400, 32)], 0, 64, .ro⟩]

/-- Register fields of block CLAVE. -/
def rowsCLAVE : List RegRow := [
  ⟨0x40000, [(0x400, 16)], 0, 3, .ro⟩,
  ⟨0x40000, [(0x400, 16)], 8, 5, .ro⟩,
  ⟨0x40000, [(0x400, 16)], 16, 1, .ro⟩,
  ⟨0x40000, [(0x400, 16)], 17, 1, .ro⟩,
  ⟨0x40000, [(0x400, 16)], 18, 1, .ro⟩,
  ⟨0x40000, [(0x400, 16)], 24, 8, .ro⟩,
  ⟨0x40004, [(0x400, 16)], 0, 1, .ro⟩,
  ⟨0x40004, [(0x400, 16)], 1, 1, .ro⟩,
  ⟨0x40008, [(0x400, 16)], 0, 64, .ro⟩,
  ⟨0x40010, [(0x400, 16)], 0, 11, .ro⟩,
  ⟨0x40014, [(0x400, 16)], 0, 21, .ro⟩,
  ⟨0x40018, [(0x400, 16)], 0, 32, .ro⟩,
  ⟨0x4001c, [(0x400, 16)], 0, 16, .rc⟩,
  ⟨0x40020, [(0x400, 16)], 0, 16, .rc⟩,
  ⟨0x40024, [(0x400, 16)], 0, 16, .rc⟩,
  ⟨0x40028, [(0x400, 16)], 0, 16, .rc⟩,
  ⟨0x4002c, [(0x400, 16)], 0, 16, .rc⟩,
  ⟨0x40030, [(0x400, 16)], 0, 24, .ro⟩,
  ⟨0x40034, [(0x400, 16)], 0, 16, .rc⟩,
  ⟨0x40038, [(0x400, 16)], 0, 16, .rc⟩,
  ⟨0x4003c, [(0x400, 16)], 0, 16, .rc⟩,
  ⟨0x40040, [(0x400, 16)], 0, 16, .rc⟩,
  ⟨0x40044, [(0x400, 16)], 0, 16, .rc⟩,
  ⟨0x40048, [(0x400, 16)], 0, 16, .rc⟩,
  ⟨0x40050, [(0x400, 16)], 0, 64, .ro⟩,
  ⟨0x40100, [(0x400, 16), (0x10, 8)], 0, 64, .ro⟩,
  ⟨0x40108, [(0x400, 16), (0x10, 8)], 0, 32, .ro⟩,
  ⟨0x40180, [(0x400, 16), (4, 8)], 0, 1, .ro⟩,
  ⟨0x40180, [(0x400, 16), (4, 8)], 1, 1, .ro⟩,
  ⟨0x40180, [(0x400, 16), (4, 8)], 2, 2, .ro⟩]

/-- Register fields of block SNARE. -/
def rowsSNARE : List RegRow := [
  ⟨0x50000, [(0x80, 32)], 0, 2, .ro⟩,
  ⟨0x50000, [(0x80, 32)], 4, 5, .ro⟩,
  ⟨0x50000, [(0x80, 32)], 12, 2, .ro⟩,
  ⟨0x50004, [(0x80, 32)], 0, 16, .ro⟩,
  ⟨0x50008, [(0x80, 32)], 0, 13, .ro⟩,
  ⟨0x5000c, [(0x80, 32)], 0, 1, .ro⟩,
  ⟨0x5000c, [(0x80, 32)], 1, 1, .ro⟩,
  ⟨0x5000c, [(0x80, 32)], 2, 3, .ro⟩,
  ⟨0x5000c, [(0x80, 32)], 16, 13, .ro⟩,
  ⟨0x50010, [(0x80, 32)], 0, 32, .ro⟩,
  ⟨0x50014, [(0x80, 32)], 0, 16, .rc⟩,
  ⟨0x50018, [(0x80, 32)], 0, 16, .rc⟩,
  ⟨0x5001c, [(0x80, 32)], 0, 16, .rc⟩,
  ⟨0x50020, [(0x80, 32)], 0, 16, .rc⟩,
  ⟨0x50028, [(0x80, 32)], 0, 64, .ro⟩,
  ⟨0x50030, [(0x80, 32)], 0, 64, .ro⟩]

/-- Register fields of block FIELD. -/
def rowsFIELD0 : List RegRow := [
  ⟨0x78000, [(4, 8)], 0, 8, .ro⟩,
  ⟨0x78000, [(4, 8)], 8, 1, .ro⟩,
  ⟨0x78020, [], 0, 8, .ro⟩,
  ⟨0x78020, [], 8, 8, .ro⟩,
  ⟨0x78040, [(4, 8)], 0, 1, .ro⟩,
  ⟨0x78040, [(4, 8)], 1, 2, .rw⟩,
  ⟨0x78060, [], 0, 8, .ro⟩,
  ⟨0x70000, [], 0, 1, .ro⟩,
  ⟨0x70000, [], 1, 1, .ro⟩,
  ⟨0x70000, [], 2, 1, .ro⟩,
  ⟨0x70004, [], 0, 32, .rc⟩,
  ⟨0x70008, [], 0, 10, .ro⟩,
  ⟨0x70008, [], 16, 1, .ro⟩,
  ⟨0x7000c, [], 0, 8, .ro⟩,
  ⟨0x7000c, [], 8, 4, .ro⟩,
  ⟨0x70010, [], 0, 16, .rc⟩,
  ⟨0x70014, [], 0, 16, .ro⟩,
  ⟨0x70100, [], 0, 32, .ro⟩,
  ⟨0x70104, [], 0, 1, .ro⟩,
  ⟨0x70200, [(4, 32)], 0, 12, .ro⟩,
  ⟨0x70200, [(4, 32)], 12, 1, .ro⟩,
  ⟨0x70280, [(4, 32)], 0, 1, .ro⟩,
  ⟨0x70280, [(4, 32)], 1, 1, .ro⟩,
  ⟨0x70280, [(4, 32)], 8, 8, .rc⟩,
  ⟨0x70280, [(4, 32)], 16, 12, .ro⟩,
  ⟨0x70400, [(4, 16)], 0, 1, .rw⟩,
  ⟨0x70440, [(4, 16)], 0, 2, .ro⟩,
  ⟨0x70440, [(4, 16)], 4, 2, .ro⟩,
  ⟨0x70440, [(4, 16)], 12, 17, .ro⟩,
  ⟨0x70480, [(4, 16)], 0, 1, .ro⟩,
  ⟨0x70480, [(4, 16)], 1, 1, .ro⟩,
  ⟨0x70480, [(4, 16)], 2, 1, .ro⟩,
  ⟨0x70480, [(4, 16)], 3, 2, .ro⟩,
  ⟨0x70480, [(4, 16)], 16, 16, .ro⟩,
  ⟨0x70600, [(0x10, 4)], 0, 1, .ro⟩,
  ⟨0x70604, [(0x10, 4)], 0, 16, .ro⟩,
  ⟨0x70604, [(0x10, 4)], 16, 1, .ro⟩,
  ⟨0x70604, [(0x10, 4)], 31, 1, .ro⟩,
  ⟨0x70608, [(0x10, 4)], 0, 64, .ro⟩,
  ⟨0x70700, [(0x20, 4)], 0, 2, .ro⟩]

/-- Register fields of block FIELD. -/
def rowsFIELD1 : List RegRow := [
  ⟨0x70700, [(0x20, 4)], 2, 1, .ro⟩,
  ⟨0x70700, [(0x20, 4)], 3, 1, .ro⟩,
  ⟨0x70700, [(0x20, 4)], 8, 3, .ro⟩,
  ⟨0x70704, [(0x20, 4)], 0, 1, .ro⟩,
  ⟨0x70708, [(0x20, 4)], 0, 64, .ro⟩,
  ⟨0x70710, [(0x20, 4)], 0, 16, .rc⟩]

/-- Register fields of block FB. -/
def rowsFB0 : List RegRow := [
  ⟨0x60000, [(0x200, 16)], 0, 3, .ro⟩,
  ⟨0x60000, [(0x200, 16)], 3, 1, .ro⟩,
  ⟨0x60000, [(0x200, 16)], 4, 3, .ro⟩,
  ⟨0x60000, [(0x200, 16)], 8, 5, .ro⟩,
  ⟨0x60000, [(0x200, 16)], 13, 1, .ro⟩,
  ⟨0x60000, [(0x200, 16)], 16, 5, .ro⟩,
  ⟨0x60004, [(0x200, 16)], 0, 3, .ro⟩,
  ⟨0x60004, [(0x200, 16)], 8, 8, .ro⟩,
  ⟨0x60004, [(0x200, 16)], 16, 8, .ro⟩,
  ⟨0x60004, [(0x200, 16)], 24, 4, .ro⟩,
  ⟨0x60008, [(0x200, 16)], 0, 1, .ro⟩,
  ⟨0x60008, [(0x200, 16)], 1, 1, .ro⟩,
  ⟨0x60008, [(0x200, 16)], 2, 1, .ro⟩,
  ⟨0x60008, [(0x200, 16)], 3, 1, .ro⟩,
  ⟨0x60008, [(0x200, 16)], 4, 1, .ro⟩,
  ⟨0x60008, [(0x200, 16)], 5, 1, .ro⟩,
  ⟨0x60008, [(0x200, 16)], 6, 1, .ro⟩,
  ⟨0x60008, [(0x200, 16)], 8, 1, .ro⟩,
  ⟨0x60008, [(0x200, 16)], 9, 3, .ro⟩,
  ⟨0x60008, [(0x200, 16)], 16, 6, .ro⟩,
  ⟨0x60008, [(0x200, 16)], 24, 3, .ro⟩,
  ⟨0x60010, [(0x200, 16)], 0, 64, .ro⟩,
  ⟨0x60018, [(0x200, 16)], 0, 64, .ro⟩,
  ⟨0x60020, [(0x200, 16)], 0, 32, .ro⟩,
  ⟨0x60024, [(0x200, 16)], 0, 32, .ro⟩,
  ⟨0x60028, [(0x200, 16)], 0, 64, .rw⟩,
  ⟨0x60030, [(0x200, 16)], 0, 32, .ro⟩,
  ⟨0x60034, [(0x200, 16)], 0, 32, .ro⟩,
  ⟨0x60038, [(0x200, 16)], 0, 1, .w1s⟩,
  ⟨0x6003c, [(0x200, 16)], 0, 16, .rc⟩,
  ⟨0x60040, [(0x200, 16)], 0, 16, .rc⟩,
  ⟨0x60044, [(0x200, 16)], 0, 16, .rc⟩,
  ⟨0x60048, [(0x200, 16)], 0, 64, .ro⟩,
  ⟨0x60080, [(0x200, 16)], 0, 16, .ro⟩,
  ⟨0x60084, [(0x200, 16)], 0, 4, .ro⟩,
  ⟨0x60088, [(0x200, 16)], 0, 16, .ro⟩,
  ⟨0x60088, [(0x200, 16)], 16, 16, .ro⟩,
  ⟨0x6008c, [(0x200, 16)], 0, 32, .ro⟩,
  ⟨0x60090, [(0x200, 16)], 0, 32, .ro⟩,
  ⟨0x60094, [(0x200, 16)], 0, 32, .ro⟩]

/-- Register fields of block FB. -/
def rowsFB1 : List RegRow := [
  ⟨0x60098, [(0x200, 16)], 0, 32, .ro⟩,
  ⟨0x6009c, [(0x200, 16)], 0, 32, .ro⟩,
  ⟨0x600a0, [(0x200, 16)], 0, 32, .ro⟩,
  ⟨0x600a4, [(0x200, 16)], 0, 32, .ro⟩,
  ⟨0x600a8, [(0x200, 16)], 0, 32, .ro⟩,
  ⟨0x600ac, [(0x200, 16)], 0, 1, .w1s⟩,
  ⟨0x60100, [(0x200, 16)], 0, 7, .ro⟩,
  ⟨0x60100, [(0x200, 16)], 8, 7, .ro⟩,
  ⟨0x60100, [(0x200, 16)], 16, 6, .ro⟩,
  ⟨0x60100, [(0x200, 16)], 24, 1, .ro⟩,
  ⟨0x60100, [(0x200, 16)], 25, 1, .ro⟩,
  ⟨0x60100, [(0x200, 16)], 26, 5, .ro⟩,
  ⟨0x60104, [(0x200, 16)], 0, 8, .ro⟩,
  ⟨0x60104, [(0x200, 16)], 8, 8, .ro⟩,
  ⟨0x60104, [(0x200, 16)], 16, 8, .ro⟩,
  ⟨0x60108, [(0x200, 16)], 0, 16, .ro⟩,
  ⟨0x6010c, [(0x200, 16)], 0, 12, .ro⟩,
  ⟨0x6010c, [(0x200, 16)], 16, 4, .ro⟩,
  ⟨0x60110, [(0x200, 16)], 0, 16, .ro⟩,
  ⟨0x60114, [(0x200, 16)], 0, 16, .ro⟩,
  ⟨0x60118, [(0x200, 16)], 0, 32, .ro⟩,
  ⟨0x6011c, [(0x200, 16)], 0, 13, .ro⟩,
  ⟨0x60120, [(0x200, 16)], 0, 64, .ro⟩]

/-- Register fields of block ECHO. -/
def rowsECHO : List RegRow := [
  ⟨0x68000, [(4, 4)], 0, 4, .ro⟩,
  ⟨0x68000, [(4, 4)], 4, 1, .ro⟩,
  ⟨0x68010, [], 0, 4, .ro⟩,
  ⟨0x68020, [(0x10, 4)], 0, 32, .ro⟩,
  ⟨0x68024, [(0x10, 4)], 0, 32, .ro⟩,
  ⟨0x68028, [(0x10, 4)], 0, 32, .ro⟩,
  ⟨0x6802c, [(0x10, 4)], 0, 16, .rc⟩]

/-- Register fields of block ETH. -/
def rowsETH0 : List RegRow := [
  ⟨0x80000, [], 0, 32, .ro⟩,
  ⟨0x80004, [], 0, 16, .ro⟩,
  ⟨0x80008, [], 0, 32, .ro⟩,
  ⟨0x8000c, [], 0, 12, .ro⟩,
  ⟨0x8000c, [], 12, 3, .ro⟩,
  ⟨0x8000c, [], 16, 12, .ro⟩,
  ⟨0x80010, [], 0, 16, .rc⟩,
  ⟨0x80010, [], 16, 1, .w1c⟩,
  ⟨0x80014, [], 0, 1, .ro⟩,
  ⟨0x80018, [], 0, 32, .rc⟩,
  ⟨0x80100, [(0x40, 2)], 0, 1, .rw⟩,
  ⟨0x80100, [(0x40, 2)], 1, 1, .ro⟩,
  ⟨0x80104, [(0x40, 2)], 0, 1, .ro⟩,
  ⟨0x80104, [(0x40, 2)], 1, 1, .ro⟩,
  ⟨0x80104, [(0x40, 2)], 2, 1, .ro⟩,
  ⟨0x80104, [(0x40, 2)], 3, 1, .ro⟩,
  ⟨0x80108, [(0x40, 2)], 0, 32, .rc⟩,
  ⟨0x8010c, [(0x40, 2)], 0, 32, .rc⟩,
  ⟨0x80110, [(0x40, 2)], 0, 32, .rc⟩,
  ⟨0x80114, [(0x40, 2)], 0, 32, .rc⟩,
  ⟨0x80118, [(0x40, 2)], 0, 32, .rc⟩,
  ⟨0x8011c, [(0x40, 2)], 0, 32, .rc⟩,
  ⟨0x80120, [(0x40, 2)], 0, 32, .rc⟩,
  ⟨0x80124, [(0x40, 2)], 0, 16, .rc⟩,
  ⟨0x80128, [(0x40, 2)], 0, 16, .rc⟩,
  ⟨0x80128, [(0x40, 2)], 16, 16, .rc⟩,
  ⟨0x8012c, [(0x40, 2)], 0, 16, .ro⟩,
  ⟨0x8012c, [(0x40, 2)], 16, 16, .ro⟩,
  ⟨0x80200, [], 0, 2, .ro⟩,
  ⟨0x80200, [], 8, 8, .ro⟩,
  ⟨0x80200, [], 16, 8, .ro⟩,
  ⟨0x80200, [], 24, 8, .ro⟩,
  ⟨0x80204, [], 0, 8, .ro⟩,
  ⟨0x80204, [], 8, 8, .ro⟩,
  ⟨0x80204, [], 16, 8, .ro⟩,
  ⟨0x80208, [], 0, 64, .ro⟩,
  ⟨0x80210, [], 0, 1, .ro⟩,
  ⟨0x80210, [], 1, 1, .ro⟩,
  ⟨0x80210, [], 2, 2, .ro⟩,
  ⟨0x80210, [], 4, 1, .ro⟩]

/-- Register fields of block ETH. -/
def rowsETH1 : List RegRow := [
  ⟨0x80210, [], 8, 8, .rc⟩,
  ⟨0x80210, [], 16, 8, .rc⟩,
  ⟨0x80214, [], 0, 32, .ro⟩,
  ⟨0x80218, [], 0, 32, .ro⟩,
  ⟨0x8021c, [(4, 2)], 0, 32, .ro⟩,
  ⟨0x80224, [], 0, 32, .ro⟩,
  ⟨0x80228, [], 0, 16, .rc⟩,
  ⟨0x80230, [], 0, 64, .ro⟩,
  ⟨0x80238, [], 0, 64, .ro⟩,
  ⟨0x80300, [(0x40, 2)], 0, 2, .ro⟩,
  ⟨0x80300, [(0x40, 2)], 8, 1, .w1s⟩,
  ⟨0x80300, [(0x40, 2)], 9, 1, .ro⟩,
  ⟨0x80300, [(0x40, 2)], 10, 1, .ro⟩,
  ⟨0x80304, [(0x40, 2)], 0, 8, .rw⟩,
  ⟨0x80308, [(0x40, 2)], 0, 32, .rw⟩,
  ⟨0x8030c, [(0x40, 2)], 0, 64, .rw⟩,
  ⟨0x80314, [(0x40, 2)], 0, 8, .ro⟩,
  ⟨0x80318, [(0x40, 2)], 0, 32, .ro⟩,
  ⟨0x8031c, [(0x40, 2)], 0, 64, .ro⟩,
  ⟨0x80324, [(0x40, 2)], 0, 64, .ro⟩,
  ⟨0x8032c, [(0x40, 2)], 0, 16, .ro⟩,
  ⟨0x80330, [(0x40, 2)], 0, 8, .ro⟩,
  ⟨0x80410, [(4, 4)], 0, 32, .w1c⟩,
  ⟨0x80800, [(0x10, 128)], 0, 32, .rc⟩,
  ⟨0x80804, [(0x10, 128)], 0, 32, .rc⟩,
  ⟨0x80808, [(0x10, 128)], 0, 32, .rc⟩,
  ⟨0x8080c, [(0x10, 128)], 0, 32, .rc⟩,
  ⟨0x81000, [(8, 64)], 0, 32, .rc⟩,
  ⟨0x81004, [(8, 64)], 0, 32, .rc⟩,
  ⟨0x81200, [(4, 64)], 0, 32, .ro⟩,
  ⟨0x81400, [(0x10, 16)], 0, 32, .ro⟩,
  ⟨0x81404, [(0x10, 16)], 0, 16, .ro⟩,
  ⟨0x81404, [(0x10, 16)], 16, 2, .ro⟩,
  ⟨0x81408, [(0x10, 16)], 0, 32, .ro⟩,
  ⟨0x80020, [(8, 4)], 0, 32, .ro⟩,
  ⟨0x80024, [(8, 4)], 0, 2, .ro⟩]

/-- Register fields of block CAN. -/
def rowsCAN0 : List RegRow := [
  ⟨0x90000, [(0x1000, 2)], 0, 1, .rw⟩,
  ⟨0x90004, [(0x1000, 2)], 0, 6, .ro⟩,
  ⟨0x90004, [(0x1000, 2)], 8, 9, .ro⟩,
  ⟨0x90004, [(0x1000, 2)], 24, 8, .ro⟩,
  ⟨0x90008, [(0x1000, 2)], 0, 6, .ro⟩,
  ⟨0x90008, [(0x1000, 2)], 8, 6, .ro⟩,
  ⟨0x90008, [(0x1000, 2)], 16, 5, .ro⟩,
  ⟨0x9000c, [(0x1000, 2)], 0, 8, .ro⟩,
  ⟨0x9000c, [(0x1000, 2)], 16, 5, .ro⟩,
  ⟨0x90010, [(0x1000, 2)], 0, 1, .ro⟩,
  ⟨0x90010, [(0x1000, 2)], 8, 7, .ro⟩,
  ⟨0x90010, [(0x1000, 2)], 16, 7, .ro⟩,
  ⟨0x90014, [(0x1000, 2)], 0, 1, .ro⟩,
  ⟨0x90014, [(0x1000, 2)], 1, 1, .ro⟩,
  ⟨0x90014, [(0x1000, 2)], 2, 1, .ro⟩,
  ⟨0x90014, [(0x1000, 2)], 3, 1, .ro⟩,
  ⟨0x90018, [(0x1000, 2)], 0, 29, .ro⟩,
  ⟨0x9001c, [(0x1000, 2)], 0, 2, .ro⟩,
  ⟨0x9001c, [(0x1000, 2)], 4, 2, .ro⟩,
  ⟨0x90020, [(0x1000, 2)], 0, 3, .ro⟩,
  ⟨0x90020, [(0x1000, 2)], 8, 1, .ro⟩,
  ⟨0x90020, [(0x1000, 2)], 16, 16, .rc⟩,
  ⟨0x90024, [(0x1000, 2)], 0, 9, .ro⟩,
  ⟨0x90024, [(0x1000, 2)], 16, 9, .ro⟩,
  ⟨0x90028, [(0x1000, 2)], 0, 3, .rc⟩,
  ⟨0x90028, [(0x1000, 2)], 4, 3, .rc⟩,
  ⟨0x9002c, [(0x1000, 2)], 0, 16, .rc⟩,
  ⟨0x90030, [(0x1000, 2)], 0, 32, .rc⟩,
  ⟨0x90034, [(0x1000, 2)], 0, 32, .rc⟩,
  ⟨0x90038, [(0x1000, 2)], 0, 32, .rc⟩,
  ⟨0x9003c, [(0x1000, 2)], 0, 32, .rc⟩,
  ⟨0x90040, [(0x1000, 2)], 0, 16, .rc⟩,
  ⟨0x90044, [(0x1000, 2)], 0, 16, .rc⟩,
  ⟨0x90048, [(0x1000, 2)], 0, 16, .rc⟩,
  ⟨0x9004c, [(0x1000, 2)], 0, 16, .rc⟩,
  ⟨0x90100, [(0x1000, 2), (0x80, 2)], 0, 7, .ro⟩,
  ⟨0x90100, [(0x1000, 2), (0x80, 2)], 8, 16, .rc⟩,
  ⟨0x90104, [(0x1000, 2), (0x80, 2)], 0, 1, .w1s⟩,
  ⟨0x90110, [(0x1000, 2), (0x80, 2), (4, 20)], 0, 32, .ro⟩,
  ⟨0x90300, [(0x1000, 2), (4, 20)], 0, 32, .rw⟩]

/-- Register fields of block CAN. -/
def rowsCAN1 : List RegRow := [
  ⟨0x90350, [(0x1000, 2)], 0, 1, .w1s⟩,
  ⟨0x90350, [(0x1000, 2)], 1, 1, .w1s⟩,
  ⟨0x90350, [(0x1000, 2)], 8, 1, .ro⟩,
  ⟨0x90350, [(0x1000, 2)], 9, 1, .ro⟩,
  ⟨0x90400, [(0x1000, 2), (4, 32)], 0, 4, .ro⟩,
  ⟨0x90400, [(0x1000, 2), (4, 32)], 4, 2, .ro⟩,
  ⟨0x90400, [(0x1000, 2), (4, 32)], 7, 1, .ro⟩,
  ⟨0x90400, [(0x1000, 2), (4, 32)], 8, 4, .ro⟩,
  ⟨0x90400, [(0x1000, 2), (4, 32)], 12, 2, .ro⟩,
  ⟨0x90400, [(0x1000, 2), (4, 32)], 15, 1, .ro⟩,
  ⟨0x90400, [(0x1000, 2), (4, 32)], 16, 4, .ro⟩,
  ⟨0x90400, [(0x1000, 2), (4, 32)], 20, 2, .ro⟩,
  ⟨0x90400, [(0x1000, 2), (4, 32)], 23, 1, .ro⟩,
  ⟨0x90400, [(0x1000, 2), (4, 32)], 24, 4, .ro⟩,
  ⟨0x90400, [(0x1000, 2), (4, 32)], 28, 2, .ro⟩,
  ⟨0x90400, [(0x1000, 2), (4, 32)], 31, 1, .ro⟩]

/-- Register fields of block I2C. -/
def rowsI2C : List RegRow := [
  ⟨0xa0000, [], 0, 7, .ro⟩,
  ⟨0xa0000, [], 8, 2, .ro⟩,
  ⟨0xa0000, [], 16, 8, .ro⟩,
  ⟨0xa0004, [], 0, 1, .w1c⟩,
  ⟨0xa0004, [], 1, 1, .w1c⟩,
  ⟨0xa0004, [], 2, 1, .ro⟩,
  ⟨0xa0004, [], 3, 1, .ro⟩,
  ⟨0xa0004, [], 4, 1, .ro⟩,
  ⟨0xa0004, [], 8, 4, .ro⟩,
  ⟨0xa0008, [], 0, 7, .ro⟩,
  ⟨0xa0008, [], 8, 7, .ro⟩,
  ⟨0xa000c, [], 0, 16, .rc⟩,
  ⟨0xa0010, [], 0, 16, .rc⟩,
  ⟨0xa0100, [], 0, 1, .ro⟩,
  ⟨0xa0100, [], 1, 2, .ro⟩,
  ⟨0xa0100, [], 4, 1, .ro⟩,
  ⟨0xa0100, [], 8, 3, .ro⟩,
  ⟨0xa0104, [], 0, 1, .w1c⟩,
  ⟨0xa0104, [], 1, 1, .w1c⟩,
  ⟨0xa0104, [], 2, 1, .ro⟩,
  ⟨0xa0104, [], 3, 1, .ro⟩,
  ⟨0xa0104, [], 4, 1, .ro⟩,
  ⟨0xa0104, [], 8, 4, .ro⟩,
  ⟨0xa0108, [], 0, 7, .ro⟩,
  ⟨0xa0108, [], 8, 7, .ro⟩,
  ⟨0xa010c, [], 0, 16, .rc⟩,
  ⟨0xa0110, [], 0, 16, .rc⟩,
  ⟨0xa0114, [], 0, 16, .rc⟩,
  ⟨0xa0140, [(4, 16)], 0, 7, .ro⟩,
  ⟨0xa0140, [(4, 16)], 8, 7, .ro⟩,
  ⟨0xa0140, [(4, 16)], 15, 1, .ro⟩]

/-- Register fields of block LEDGER. -/
def rowsLEDGER : List RegRow := [
  ⟨0xc0000, [], 0, 1, .ro⟩,
  ⟨0xc0000, [], 1, 1, .ro⟩,
  ⟨0xc0000, [], 2, 1, .ro⟩,
  ⟨0xc0008, [], 0, 64, .ro⟩,
  ⟨0xc0010, [], 0, 64, .ro⟩,
  ⟨0xc0018, [], 0, 11, .ro⟩,
  ⟨0xc0018, [], 16, 11, .ro⟩,
  ⟨0xc001c, [], 0, 1, .w1s⟩,
  ⟨0xc0020, [], 0, 32, .rc⟩,
  ⟨0xc0024, [], 0, 16, .rc⟩,
  ⟨0xc0028, [], 0, 12, .ro⟩,
  ⟨0xc002c, [], 0, 16, .ro⟩,
  ⟨0xc0040, [(4, 8)], 0, 32, .rc⟩]

/-- Register fields of block FAULT. -/
def rowsFAULT : List RegRow := [
  ⟨0xd0000, [], 1, 5, .ro⟩,
  ⟨0xd0004, [], 1, 5, .ro⟩,
  ⟨0xd0008, [], 0, 16, .ro⟩,
  ⟨0xd0008, [], 31, 1, .ro⟩,
  ⟨0xd0010, [], 0, 64, .ro⟩,
  ⟨0xd0018, [], 0, 16, .ro⟩,
  ⟨0xd0018, [], 16, 1, .ro⟩,
  ⟨0xd001c, [], 0, 1, .ro⟩,
  ⟨0xd001c, [], 1, 1, .ro⟩,
  ⟨0xd0020, [], 0, 10, .ro⟩,
  ⟨0xd0024, [], 0, 16, .ro⟩,
  ⟨0xd0028, [], 0, 32, .rc⟩,
  ⟨0xd0100, [(0x40, 16)], 1, 26, .ro⟩,
  ⟨0xd0104, [(0x40, 16)], 1, 26, .ro⟩,
  ⟨0xd0108, [(0x40, 16)], 0, 16, .ro⟩,
  ⟨0xd0108, [(0x40, 16)], 16, 8, .ro⟩,
  ⟨0xd0108, [(0x40, 16)], 24, 3, .ro⟩,
  ⟨0xd0108, [(0x40, 16)], 31, 1, .ro⟩,
  ⟨0xd010c, [(0x40, 16)], 0, 64, .ro⟩,
  ⟨0xd0114, [(0x40, 16)], 0, 3, .ro⟩,
  ⟨0xd0118, [(0x40, 16)], 0, 32, .rc⟩,
  ⟨0xd011c, [(0x40, 16)], 0, 16, .ro⟩,
  ⟨0xd0120, [(0x40, 16), (4, 4)], 0, 4, .ro⟩,
  ⟨0xd0120, [(0x40, 16), (4, 4)], 4, 4, .ro⟩,
  ⟨0xd0120, [(0x40, 16), (4, 4)], 8, 4, .ro⟩,
  ⟨0xd0120, [(0x40, 16), (4, 4)], 12, 4, .ro⟩,
  ⟨0xd0120, [(0x40, 16), (4, 4)], 16, 4, .ro⟩,
  ⟨0xd0120, [(0x40, 16), (4, 4)], 20, 4, .ro⟩,
  ⟨0xd0120, [(0x40, 16), (4, 4)], 24, 4, .ro⟩,
  ⟨0xd0120, [(0x40, 16), (4, 4)], 28, 4, .ro⟩,
  ⟨0xd0130, [(0x40, 16)], 0, 4, .ro⟩,
  ⟨0xd0130, [(0x40, 16)], 4, 4, .ro⟩,
  ⟨0xd0130, [(0x40, 16)], 8, 4, .ro⟩,
  ⟨0xd0130, [(0x40, 16)], 12, 4, .ro⟩,
  ⟨0xd0130, [(0x40, 16)], 16, 4, .ro⟩,
  ⟨0xd0130, [(0x40, 16)], 20, 4, .ro⟩,
  ⟨0xd0130, [(0x40, 16)], 24, 4, .ro⟩,
  ⟨0xd0130, [(0x40, 16)], 28, 4, .ro⟩,
  ⟨0xd0800, [(8, 16)], 0, 2, .ro⟩,
  ⟨0xd0804, [(8, 16)], 0, 20, .ro⟩]

/-- The register rows of the block that holds address `a` (Table GRP-1). -/
def regRows (a : Nat) : List RegRow :=
  if a < 0x1000 then rowsSYS0 ++ rowsSYS1 ++ rowsSYS2 else
  if a < 0x20000 then rowsGRP0 ++ rowsGRP1 else
  if a < 0x28000 then rowsAXIS0 ++ rowsAXIS1 else
  if a < 0x32200 then rowsENG else
  if a < 0x44000 then rowsCLAVE else
  if a < 0x51000 then rowsSNARE else
  if a < 0x62000 then rowsFB0 ++ rowsFB1 else
  if a < 0x68100 then rowsECHO else
  if a < 0x80000 then rowsFIELD0 ++ rowsFIELD1 else
  if a < 0x90000 then rowsETH0 ++ rowsETH1 else
  if a < 0x92000 then rowsCAN0 ++ rowsCAN1 else
  if a < 0xa1000 then rowsI2C else
  if a < 0xb1000 then rowsPOOL else
  if a < 0xc1000 then rowsLEDGER else
  if a < 0xd1000 then rowsFAULT else
  if a < 0xe2000 then rowsCUR0 ++ rowsCUR1 else
  []

/-- Reset values other than zero (R15): base, index strides, lowest bit, value. -/
def resetRows0 : List (Nat × List (Nat × Nat) × Nat × Nat) := [
  (0, [], 0, 3),
  (0x50, [], 0, 3),
  (0x80, [], 0, 0x100),
  (0xb4, [], 0, 0xac),
  (0x214, [], 0, 1),
  (0x300, [], 0, 0x1900),
  (0x300, [], 16, 2),
  (0x10020, [(0x1000, 16)], 8, 1),
  (0x10044, [(0x1000, 16)], 0, 1),
  (0x10104, [(0x1000, 16)], 0, 0x3e8),
  (0x11018, [], 0, 1),
  (0x12018, [], 0, 2),
  (0x13018, [], 0, 3),
  (0x14018, [], 0, 4),
  (0x15018, [], 0, 5),
  (0x16018, [], 0, 6),
  (0x17018, [], 0, 7),
  (0x18018, [], 0, 8),
  (0x19018, [], 0, 9),
  (0x1a018, [], 0, 0xa),
  (0x1b018, [], 0, 0xb),
  (0x1c018, [], 0, 0xc),
  (0x1d018, [], 0, 0xd),
  (0x1e018, [], 0, 0xe),
  (0x1f018, [], 0, 0xf),
  (0x20110, [(0x400, 32)], 0, 4),
  (0x20128, [(0x400, 32)], 0, 1),
  (0x20128, [(0x400, 32)], 8, 3),
  (0x20128, [(0x400, 32)], 16, 8),
  (0x2012c, [(0x400, 32)], 0, 0x3e8),
  (0x20220, [(0x400, 32)], 0, 0x40000000),
  (0x20234, [(0x400, 32)], 0, 0x40000000),
  (0x202a0, [(0x400, 32)], 0, 0x40000000),
  (0x202b4, [(0x400, 32)], 0, 0x40000000),
  (0x2030c, [(0x400, 32)], 0, 1),
  (0x20380, [(0x400, 32)], 0, 0xff),
  (0x30000, [(0x200, 16)], 0, 1),
  (0x30000, [(0x200, 16)], 12, 1),
  (0x30200, [], 8, 1),
  (0x30400, [], 8, 2),
  (0x30600, [], 8, 3)]

/-- Reset values other than zero, continued. -/
def resetRows1 : List (Nat × List (Nat × Nat) × Nat × Nat) := [
  (0x30800, [], 8, 4),
  (0x30a00, [], 8, 5),
  (0x30c00, [], 8, 6),
  (0x30e00, [], 8, 7),
  (0x31000, [], 8, 8),
  (0x31200, [], 8, 9),
  (0x31400, [], 8, 0xa),
  (0x31600, [], 8, 0xb),
  (0x31800, [], 8, 0xc),
  (0x31a00, [], 8, 0xd),
  (0x31c00, [], 8, 0xe),
  (0x31e00, [], 8, 0xf),
  (0x32000, [], 0, 2),
  (0x40000, [(0x400, 16)], 17, 1),
  (0x40000, [(0x400, 16)], 24, 4),
  (0x40004, [(0x400, 16)], 0, 1),
  (0x60004, [(0x200, 16)], 8, 1),
  (0x60004, [(0x200, 16)], 16, 4),
  (0x60004, [(0x200, 16)], 24, 2),
  (0x60020, [(0x200, 16)], 0, 1),
  (0x60024, [(0x200, 16)], 0, 1),
  (0x60030, [(0x200, 16)], 0, 1),
  (0x60080, [(0x200, 16)], 0, 0x1555),
  (0x60084, [(0x200, 16)], 0, 0xa),
  (0x6008c, [(0x200, 16)], 0, 0x40000000),
  (0x60090, [(0x200, 16)], 0, 0x1f5c28f6),
  (0x60094, [(0x200, 16)], 0, 0x6c28f5c3),
  (0x60098, [(0x200, 16)], 0, 0x28f5c28f),
  (0x6009c, [(0x200, 16)], 0, 0x5c28f5c3),
  (0x600a4, [(0x200, 16)], 0, 0xffffffff),
  (0x60100, [(0x200, 16)], 0, 0x20),
  (0x60100, [(0x200, 16)], 8, 0x20),
  (0x60104, [(0x200, 16)], 0, 0xff),
  (0x60104, [(0x200, 16)], 8, 0xff),
  (0x60104, [(0x200, 16)], 16, 0xff),
  (0x6010c, [(0x200, 16)], 0, 0xc8),
  (0x6010c, [(0x200, 16)], 16, 1),
  (0x68004, [], 0, 1),
  (0x68008, [], 0, 2),
  (0x6800c, [], 0, 3)]

/-- Reset values other than zero, continued. -/
def resetRows2 : List (Nat × List (Nat × Nat) × Nat × Nat) := [
  (0x68020, [(0x10, 4)], 0, 1),
  (0x68024, [(0x10, 4)], 0, 1),
  (0x70008, [], 0, 0x14),
  (0x70440, [(4, 16)], 12, 0x3e8),
  (0x80100, [(0x40, 2)], 0, 1),
  (0x80200, [], 0, 1),
  (0x80204, [], 0, 0xfd),
  (0x80224, [], 0, 0x3e8),
  (0x80300, [(0x40, 2)], 0, 1),
  (0x80318, [(0x40, 2)], 0, 0x7d00),
  (0x8032c, [(0x40, 2)], 0, 0xfa0),
  (0x90020, [(0x1000, 2)], 0, 1),
  (0xa0000, [], 0, 0x2c),
  (0xa0000, [], 16, 0xff),
  (0xa0004, [], 4, 1),
  (0xa0008, [], 0, 0x19),
  (0xa0008, [], 8, 0x19),
  (0xa0100, [], 8, 3),
  (0xa0108, [], 0, 0x19),
  (0xa0108, [], 8, 0x19),
  (0xb0000, [], 0, 0x10000),
  (0xb0004, [], 0, 0x10000),
  (0xb000c, [], 0, 0x10000),
  (0xb0014, [], 0, 0x800),
  (0xc0000, [], 0, 1),
  (0xc0008, [], 0, 1),
  (0xc0010, [], 0, 1),
  (0xd0020, [], 0, 0x1f4),
  (0xd011c, [(0x40, 16)], 0, 0x7d0),
  (0xd0120, [(0x40, 16)], 8, 1),
  (0xd0120, [(0x40, 16)], 12, 3),
  (0xd0120, [(0x40, 16)], 16, 3),
  (0xd0120, [(0x40, 16)], 20, 3),
  (0xd0120, [(0x40, 16)], 24, 3),
  (0xd0120, [(0x40, 16)], 28, 3),
  (0xd0124, [(0x40, 16)], 0, 3),
  (0xd0124, [(0x40, 16)], 4, 3),
  (0xd0124, [(0x40, 16)], 8, 2),
  (0xd0124, [(0x40, 16)], 12, 3),
  (0xd0124, [(0x40, 16)], 16, 2)]

/-- Reset values other than zero, continued. -/
def resetRows3 : List (Nat × List (Nat × Nat) × Nat × Nat) := [
  (0xd0124, [(0x40, 16)], 20, 2),
  (0xd0124, [(0x40, 16)], 24, 2),
  (0xd0124, [(0x40, 16)], 28, 4),
  (0xd0128, [(0x40, 16)], 0, 4),
  (0xd0128, [(0x40, 16)], 4, 4),
  (0xd0128, [(0x40, 16)], 8, 4),
  (0xd0128, [(0x40, 16)], 12, 4),
  (0xd0128, [(0x40, 16)], 16, 4),
  (0xd0128, [(0x40, 16)], 20, 2),
  (0xd0128, [(0x40, 16)], 24, 1),
  (0xd0128, [(0x40, 16)], 28, 1),
  (0xd012c, [(0x40, 16)], 0, 2),
  (0xd012c, [(0x40, 16)], 4, 2),
  (0xd012c, [(0x40, 16)], 8, 4),
  (0xd0130, [(0x40, 16)], 4, 2),
  (0xd0130, [(0x40, 16)], 8, 2),
  (0xd0130, [(0x40, 16)], 12, 2),
  (0xd0130, [(0x40, 16)], 16, 4),
  (0xd0130, [(0x40, 16)], 20, 2),
  (0xe0044, [(0x200, 16)], 0, 0x40000000),
  (0xe00a0, [(0x200, 16)], 0, 0x60000000),
  (0xe00e0, [(0x200, 16)], 0, 0x60000000)]

/-- All reset values other than zero. -/
def resetRows : List (Nat × List (Nat × Nat) × Nat × Nat) := resetRows0 ++ resetRows1 ++ resetRows2 ++ resetRows3

/-- The value that the first matching reset row gives. -/
def resetLookup : List (Nat × List (Nat × Nat) × Nat × Nat) → Nat → Nat → Nat
  | [], _, _ => 0
  | (b, ds, l, v) :: r, a, lo => if l = lo && inDims ds b a then v else resetLookup r a lo

/-- The reset value of the field whose key is `k`: what a field that no command has changed reads as (R15). -/
def regReset (k : Nat) : Nat := resetLookup resetRows (k / 32) (k % 32)

end Sys2Proof.Machine
end

