-- ==== Sys2Proof/Machine/SMap.lean ====
section
/-!
DEFINITION. SMap.lean: the one sparse table of the model. A table is a list of (index, value) pairs with rising
indices; an index that is not listed holds the default of that index, and a value equal to the default is not listed,
so equal tables are equal lists.
-/
namespace Sys2Proof.Machine

/-- A sparse table over `Nat` indices. -/
abbrev SMap (α : Type) := List (Nat × α)

/-- The value at `k`: the listed one, else the default of `k`. -/
def SMap.get {α : Type} (d : Nat → α) : SMap α → Nat → α
  | [], k => d k
  | (j, v) :: r, k => if j = k then v else SMap.get d r k

/-- The table without index `k`. -/
def SMap.erase {α : Type} (k : Nat) : SMap α → SMap α
  | [] => []
  | (j, v) :: r => if j = k then SMap.erase k r else (j, v) :: SMap.erase k r

/-- The table with `v` listed at `k`, in its place among rising indices. -/
def SMap.insert {α : Type} (k : Nat) (v : α) : SMap α → SMap α
  | [] => [(k, v)]
  | (j, w) :: r =>
    if k < j then (k, v) :: (j, w) :: r
    else if j = k then (k, v) :: r
    else (j, w) :: SMap.insert k v r

/-- The table with value `v` at `k`; writing the default of `k` removes the entry. -/
def SMap.set {α : Type} [DecidableEq α] (d : Nat → α) (m : SMap α) (k : Nat) (v : α) : SMap α :=
  if v = d k then SMap.erase k m else SMap.insert k v m

/-- All indices of the table lie above `b` and rise strictly, and no entry equals its default. -/
def SMap.wfFrom {α : Type} [DecidableEq α] (d : Nat → α) : Option Nat → SMap α → Bool
  | _, [] => true
  | b, (j, v) :: r => (match b with | none => true | some b => decide (b < j)) && decide (v ≠ d j) && SMap.wfFrom d (some j) r

/-- The canonical form of a sparse table. -/
def SMap.wf {α : Type} [DecidableEq α] (d : Nat → α) (m : SMap α) : Bool := SMap.wfFrom d none m

end Sys2Proof.Machine
end

