-- ==== Sys2Proof/Machine/State.lean ====
section
/-!
DEFINITION. State.lean: the state of the AX32 as plain data. Register fields live in `regs` (their names in Reg.lean),
addressed memory in `mem`; every other piece of state the spec gives the module has a named field below.
-/
namespace Sys2Proof.Machine

/-- Why a step could stop with a fault. `illFormed`: raised by no command; every meaning answers a next state, since the spec lets the
block stop on nothing. Safe: no step ends in it. -/
inductive Fault where
  | illFormed
  deriving DecidableEq, Repr

/-- Why a command could be refused. `notModelled`: for an arm of `exec` without a meaning, by its mnemonic; no arm raises it. Safe: no
step ends in it. -/
inductive Refusal where
  | notModelled (mnemonic : String)
  deriving DecidableEq, Repr

/-- An entry of the backup event FIFO (R52). -/
structure BkEntry where
  rtc  : Nat
  src  : Nat
  edge : Bool
  deriving DecidableEq, Repr

/-- Backup domain state that no register field holds (R40, R47-R61, R597). -/
structure Backup where
  /-- The domain runs from VBAK (R40). -/
  onVbak      : Bool := false
  /-- The 48-bit RTC, and the part of its next tick that has passed, in 1/6250000 (R47). -/
  rtc         : Nat := 0
  sub         : Nat := 0
  /-- The backup event FIFO, oldest first, at most 8 (R52). -/
  fifo        : List BkEntry := []
  /-- The last strobed level of each comparator that differs from its confirmed state, once seen (R51). -/
  cand        : List (Option Bool) := [none, none, none, none]
  /-- An open attempt was ended by loss of VMAIN and is still to be reported (R56). -/
  interrupted : Bool := false
  /-- The domain lost its contents and this is still to be reported as BD_POWER_ON (R597). -/
  lost        : Bool := false
  /-- The dormant responder's oscillator runs (R59, R60). -/
  awake       : Bool := true
  /-- The register pointer of the dormant responder (R479). -/
  ptr         : Nat := 0
  deriving DecidableEq, Repr

/-- State of the start sequence that no register field holds (R79-R88). -/
structure StartCtl where
  /-- LOADING is to be entered, with this wake cause (Table PWR-8). -/
  entry       : Option Nat := none
  /-- Main clocks counted when LOADING was entered (R85). -/
  began       : Nat := 0
  /-- The slot accepted and applied in this LOADING (R87). -/
  accepted    : Option Nat := none
  /-- Detail words of slots A and B in this attempt (R106). -/
  detailA     : Nat := 0
  detailB     : Nat := 0
  /-- VBAK read below 2.2 V at LOADING entry; the record is still to be written (R46). -/
  vbakLow     : Bool := false
  /-- The main clock was lost during LOADING and the attempt is held (R598). -/
  clockHeld   : Bool := false
  /-- Main clocks spent in STANDBY and OPERATE since the attempt entered STANDBY (R79, R80). -/
  held        : Nat := 0
  deriving DecidableEq, Repr

/-- Which erase of the configuration flash runs: that of an ERASE phase, or that of a BEGIN phase (R113). -/
inductive FlashJob where
  | idle
  | erase (slot : Nat)
  | begin_ (slot : Nat)
  deriving DecidableEq, Repr

/-- The configuration flash and an image write (R78, R112-R115). -/
structure FlashCtl where
  /-- Bytes of the 32 MiB flash; a byte that is not listed is erased, 0xFF. -/
  cells   : SMap Nat := []
  job     : FlashJob := .idle
  /-- Slot and length of the open write. -/
  openW   : Option (Nat × Nat) := none
  /-- Bytes 0-255 of the image being written, held back. -/
  held    : List Byte := []
  /-- The ERASE that waits for its answer. -/
  eraser  : Option Msg := none
  /-- The COMMIT whose verification runs, and whether its write has been aborted since. -/
  commit  : Option (Msg × Bool) := none
  /-- The digest words that KEYHASH fuse programming writes, while it runs (R104). -/
  keyJob  : Option (List Nat) := none
  deriving DecidableEq, Repr

/-- A request of an engine on its way to the pool unit: the group it is charged to, and the clock of the run in which it was issued
(R142). -/
structure PoolAsk where
  engine : Nat
  group  : Nat
  clk    : Nat
  deriving DecidableEq, Repr

/-- An answer of the pool unit on its way to an engine, with the clock of the run in which the request was issued (R143). -/
structure PoolAns where
  engine : Nat
  block  : Option Nat
  clk    : Nat
  deriving DecidableEq, Repr

/-- The buffer pool's owner table and what belongs to it (R139-R148). -/
structure PoolCtl where
  /-- Owner of each block: 0-15 group, 16 device, 255 free; unlisted is free. -/
  owner   : SMap Nat := []
  /-- How often each block has been granted since LOADING. -/
  grants  : SMap Nat := []
  /-- For each pool byte offset, the grant of its block under which it was last written. -/
  written : SMap Nat := []
  /-- A POOL_LOW record is armed (R148). -/
  armed   : Bool := true
  /-- Frees on their way to the pool unit, in order of issue: holder and block; and requests of engines (R142). -/
  frees   : List (Nat × Nat) := []
  asks    : List PoolAsk := []
  /-- Answers on their way to engines (R143). -/
  answers : List PoolAns := []
  deriving DecidableEq, Repr

/-- An event in the event queue (R527, Table LDG-2). -/
structure Ev where
  ntime   : Nat
  coord   : Int
  group   : Nat
  cls     : Nat
  code    : Nat
  count   : Nat
  long    : Bool
  payload : List Byte
  /-- Main clock in which it was posted (R534). -/
  clk     : Nat := 0
  deriving DecidableEq, Repr

/-- What the events of one clock lead to in the queue (R529-R531): the queue, the LOSS event, and what MERGED and LOST[c] have counted. -/
structure EvqPart where
  evq    : List Ev := []
  loss   : Option (Nat × List Nat) := none
  merged : Nat := 0
  lost   : List Nat := List.replicate 8 0
  deriving DecidableEq, Repr

/-- The events posted in one clock in the order in which they are offered (R529), and the queue as they found it. -/
structure EvqTurn where
  clk    : Nat := 0
  base   : EvqPart := {}
  events : List Ev := []
  deriving DecidableEq, Repr

/-- A ledger record (R533, Table LDG-3). -/
structure LRec where
  seq     : Nat
  ntime   : Nat
  coord   : Int
  group   : Nat
  cls     : Nat
  code    : Nat
  count   : Nat
  payload : List Byte
  deriving DecidableEq, Repr

/-- Event queue and ledger (R525-R540). -/
structure LedgerCtl where
  /-- Events that wait, head first, without the LOSS event. -/
  evq       : List Ev := []
  /-- The waiting LOSS event: NTIME of its first drop and the drops of each class (R531). -/
  loss      : Option (Nat × List Nat) := none
  /-- The events posted in the latest clock in which any was (R529). -/
  turn      : Option EvqTurn := none
  /-- Committed records, newest first (R533). -/
  ring      : List LRec := []
  /-- Byte offsets in the ring of the 64-bit words that an uncorrectable error has made zero since their slot was written (R595). -/
  bad       : List Nat := []
  /-- The record claimed and not yet committed (R534). -/
  writing   : Option LRec := none
  /-- Main clock count of the last claim (R534). -/
  lastClaim : Option Nat := none
  /-- Records committed in the current millisecond, and that millisecond's number (LEDGER.RATE). -/
  msRecords : Nat := 0
  ms        : Nat := 0
  deriving DecidableEq, Repr

/-- Device fault state that no register field holds (ch. 18). -/
structure FaultCtl where
  /-- The SUPPLY_LOW condition is set (R38). -/
  supplyLow : Bool := false
  /-- VMAIN is below 19.0 V, by the latest level of VMAIN that a command has shown (R67). -/
  below19   : Bool := false
  /-- The module temperature has passed 100 C and not yet fallen to 90 C (Table FLT-2). -/
  overTemp  : Bool := false
  /-- An uncorrectable external-memory error holds SAFE_HOLD until RESTART (R68). -/
  xmemUe    : Bool := false
  /-- The main clock is absent (R556). -/
  clockLost : Bool := false
  /-- The CLOCK_LOSS record that the clock's return still owes the ledger: strongest reaction and mode before (R556). -/
  clockRec  : Option (Nat × Nat) := none
  /-- Words of shared SRAM and external memory whose check bits are uncorrectable and that nothing has read since (R133, R138), by
  address. -/
  latent    : List Nat := []
  /-- NOT_PERMITTED answers sent to unlisted sources in the current second, and that second's number (R499). -/
  npSent    : Nat := 0
  npSecond  : Nat := 0
  deriving DecidableEq, Repr

/-- An item that waits for the next event frame of a session (R521). -/
structure Item where
  kind : Nat
  body : List Byte
  deriving DecidableEq, Repr

/-- Session state of an endpoint that no register field holds (R507-R510, R520, R521). -/
structure Session where
  src        : Src := .i2cs
  lastStatus : Nat := 0
  /-- The tag of the last session of this endpoint, 0 when none (R508). -/
  prevTag    : Nat := 0
  mask       : Nat := 0
  /-- SEQ of the next event frame. -/
  evSeq      : Nat := 1
  waiting    : List Item := []
  deriving DecidableEq, Repr

/-- Read capture and write hold of one accessor, each with the pair that loaded it (R123). -/
structure PairHold where
  rdPair : Option Nat := none
  rdHigh : Nat := 0
  wrPair : Option Nat := none
  wrHigh : Nat := 0
  deriving DecidableEq, Repr

/-- A kind B command that has been consumed and waits for its boundary (R512): its opcode, its message and the clock in which it was
consumed (R17). -/
structure Await where
  op  : Nat
  msg : Msg
  clk : Nat
  deriving DecidableEq, Repr

/-- One piece of a planned motion: how long it lasts in seconds, the acceleration at its start and its jerk, in units and
seconds (R293), and by how much the speed changes at its start: arc length runs at another rate along a blend (R305). -/
structure KSeg where
  t  : Rat
  a  : Rat
  j  : Rat
  dv : Rat := 0
  deriving DecidableEq, Repr

/-- A motion known from clock `clk` on: position, velocity, and the pieces that follow (R330). -/
structure Motion where
  p    : Rat := 0
  v    : Rat := 0
  segs : List KSeg := []
  clk  : Nat := 0
  deriving DecidableEq, Repr

/-- What a profile plan is for (R293, R298, R291). -/
inductive PlanKind where
  | move
  | jog (speed : Int)
  | brake
  deriving DecidableEq, Repr

/-- A plan of a profile unit: the state it starts from, its pieces, the slow samples since, the pieces up to a reversal
rest point, its target and the limits it was given (Q40.24). -/
structure Plan where
  kind   : PlanKind
  p      : Rat
  v      : Rat
  segs   : List KSeg
  n      : Nat
  rev    : Nat
  target : Int
  lv     : Int
  la     : Int
  ld     : Int
  lj     : Int
  deriving DecidableEq, Repr

/-- A coupling to a master: gear or cam (R308-R312). -/
structure Cpl where
  kind   : Nat
  msrc   : Nat
  midx   : Nat
  cyclic : Bool
  cubic  : Bool
  num    : Int
  den    : Nat
  offset : Int
  m0     : Int
  clutch : Int
  base   : Nat
  n      : Nat
  period : Int
  deriving DecidableEq, Repr

/-- A coupling in the order of clutches: the coupling, the master value at which its clutch started, and whether the clutch is
complete (R311). -/
structure CplRun where
  c    : Cpl
  ms   : Int
  done : Bool
  /-- The two latest values of a measured master, newest first (R282). -/
  last : List Int := []
  deriving DecidableEq, Repr

/-- A path segment as queued (Table SET-3): its records, and, exact in group units and turns, its ends, its arc lengths and, for an
arc, plane slots, centre, radii at its ends, start angle and swept angle (R303). -/
structure PathSeg where
  typ    : Nat
  exact_ : Bool
  tag    : Nat
  feed   : Nat
  tol    : Nat
  dwell  : Nat
  slots  : Nat × Nat
  centre : Rat × Rat
  fr     : List Rat
  dst    : List Rat
  s0     : Rat
  s1     : Rat
  rad0   : Rat := 0
  rad1   : Rat := 0
  ang0   : Rat := 0
  sweep  : Rat := 0
  /-- The longest tangent length that the blend at its end may take, where the path was already near its end when the next segment
  came (R306). -/
  room   : Rat := 549755813888
  raw    : List Byte
  deriving DecidableEq, Repr

/-- One Roll level: first and last instruction and remaining count (R210). -/
structure RollLvl where
  start : Nat
  stop  : Nat
  count : Nat
  deriving DecidableEq, Repr

/-- A staged write of an engine: q or d set-point of an axis, or a register word (R216). -/
inductive StagedW where
  | iq (x v : Nat)
  | id (x v : Nat)
  | reg (addr v : Nat)
  deriving DecidableEq, Repr

/-- A side-effect request of R221, as a shadow run records it (R186, R222). -/
inductive SideEff where
  | mbox (addr v : Nat)
  | poolReq
  | poolFree (b : Nat)
  | mark (code : Nat) (data : List Byte)
  | clave (entry : List Byte)
  | sts (addr v : Nat)
  deriving DecidableEq, Repr

/-- A loop engine: the programmer-visible registers of Table DSP-1 and the state of its run (R191, R192). -/
structure EngX where
  d        : Vector (BitVec 32) 8 := Vector.replicate 8 0
  a        : Vector (BitVec 72) 2 := Vector.replicate 2 0
  p        : Vector (BitVec 16) 8 := Vector.replicate 8 0
  m        : Vector (BitVec 16) 4 := Vector.replicate 4 0
  l        : Vector (BitVec 14) 4 := Vector.replicate 4 0
  sr       : BitVec 16 := 0
  /-- Roll stack, innermost level first (R210). -/
  roll     : List RollLvl := []
  /-- PM word address of the next instruction. -/
  pc       : Nat := 0
  /-- A run is in progress (R156). -/
  running  : Bool := false
  /-- Kind of the present run: 0 fast, 1 slow, 2 event. -/
  kind     : Nat := 0
  /-- Clocks since the boundary of the run. -/
  clk      : Nat := 0
  /-- The accumulator that the preceding instruction wrote (R205). -/
  lastAcc  : Option (Fin 2) := none
  /-- Writes staged in the present run, in order (R159). -/
  staged   : List StagedW := []
  /-- Values committed by DONE, to be transferred at F - 64 (R159). -/
  committed: List StagedW := []
  /-- The fast code of the present boundary has executed DONE, or there is none (R156). -/
  fastDone : Bool := true
  /-- Sample code is still to be started at this slow boundary (R156). -/
  slowDue  : Bool := false
  /-- Consecutive missed runs (R160); the present run, or the last one, has missed its deadline. -/
  misses   : Nat := 0
  missed   : Bool := false
  /-- The run before the present boundary executed DONE on time (R171). -/
  lastOk   : Bool := true
  /-- Coordinate and NTIME of the boundary of the run (Table DSP-7). -/
  bCoord   : Int := 0
  bNtime   : Nat := 0
  /-- Outputs committed in the present sample, in order (R186). -/
  outs     : List StagedW := []
  /-- The last answer to a pool request: block or refusal (R219). -/
  gnt      : Option (Option Nat) := none
  /-- The answers of the present sample in order of request (R222). -/
  grants   : List (Option Nat) := []
  /-- MARK_DATA and CLAVE_ENTRY of the group view (Table DSP-7). -/
  markData : List Byte := List.replicate 32 0
  entry    : List Byte := List.replicate 16 0
  /-- CLAVE_STAT: last append accepted, queue full. -/
  claveOk  : Bool := false
  claveFull: Bool := false
  /-- What the present sample has read from outside DM, in order: the target of a migration reads what its source read (R186). -/
  reads    : List Nat := []
  /-- Side-effect requests of the present sample (R186). -/
  effects  : List SideEff := []
  deriving DecidableEq, Repr

/-- The tick generator (R153-R155). -/
structure TickCtl where
  /-- Clock count of the latest fast and slow boundary. -/
  lastFast : Nat := 0
  lastSlow : Nat := 0
  /-- Fast boundaries since the slow boundary of SLOW_COUNT 0 (R372). -/
  fastNo   : Nat := 0
  /-- Fast boundaries since the latest slow boundary. -/
  inSlow   : Nat := 0
  /-- A fast boundary has passed since STANDBY entry. -/
  begun    : Bool := false
  /-- The PWM carriers count down in the present fast sample (R260). -/
  down     : Bool := false
  /-- Clocks by which the present fast sample is longer than FAST_CLK: -1, 0 or 1 (R154). -/
  slew     : Int := 0
  /-- A slow boundary has passed since STANDBY entry (R155, R322). -/
  slow     : Bool := false
  /-- Register writes of engines transferred at F - 64, to be applied at the next fast boundary: engine, address, value (R159). -/
  regsNext : List (Nat × Nat × Nat) := []
  deriving DecidableEq, Repr

/-- An engine migration of a group (R184-R189). -/
structure MigX where
  /-- 0 none, 1 waiting for the shadow start, 2 shadow running, 3 all samples matched and waiting for the hand-over. -/
  phase   : Nat := 0
  target  : Nat := 0
  /-- SLOW_COUNT of the shadow start S, and the samples that have matched. -/
  start   : Nat := 0
  matched : Nat := 0
  deriving DecidableEq, Repr

/-- A takeover of a group by a spare (R176, R177, R182). -/
structure TakeX where
  /-- 0 none, 1 the spare loads, 2 its first run, 3 the first outputs have been transferred. -/
  phase : Nat := 0
  spare : Nat := 0
  /-- The engine that failed, and whether the takeover is a cold one. -/
  failed : Nat := 0
  cold  : Bool := false
  /-- Clock at which the spare was chosen. -/
  since : Nat := 0
  /-- The group was in STOPPING when its engine failed (R182). -/
  stopping : Bool := false
  deriving DecidableEq, Repr

/-- A motion group's state that no register field holds. -/
structure GroupX where
  /-- Reaction in force while STOPPING: 0 a host STOP, 2 DECEL, 3 QUICK (R549). -/
  react      : Nat := 0
  /-- Clock count of the broadcast that put the group in STOPPING by a reaction (R550). -/
  stopFrom   : Option Nat := none
  /-- The stop is still to be planned at the next slow boundary (R549). -/
  replan     : Bool := false
  /-- What POWERING runs for: 0 nothing, 1 GROUP_ENABLE, 2 GROUP_DISABLE (R287). -/
  power      : Nat := 0
  /-- Its PM/DM copies, snapshots or mailbox met an uncorrectable error (R133). -/
  memUe      : Bool := false
  /-- LECODE block of the group (Table IMG-7): present, entry points, snapshot region, deadline margin. -/
  hasCode    : Bool := false
  entryFast  : Nat := 0xFFFF
  entrySlow  : Nat := 0
  entryEvent : Nat := 0xFFFF
  snapBase   : Nat := 0
  snapLen    : Nat := 0
  margin     : Nat := 0
  /-- Which snapshot buffer the next copy fills, whether a copy runs, and the last completed one (R170, R171). -/
  snapNext   : Nat := 0
  snapRun    : Bool := false
  snapDone   : Option Nat := none
  /-- The copy that runs can become a complete snapshot: the run before it was on time (R171). -/
  snapOk     : Bool := false
  /-- Slow samples since the last one whose engine outputs were applied (R179). -/
  unapp      : Nat := 0
  take       : TakeX := {}
  mig        : MigX := {}
  /-- Path segments queued, running one first (R300). -/
  path       : List PathSeg := []
  /-- Path records appended since LOADING: where the next one lies in the queue's memory (Table GRP-5). -/
  recNo      : Nat := 0
  /-- Exact arc length, path speed and acceleration per second (R303, R306). -/
  arc        : Rat := 0
  pv         : Rat := 0
  pa         : Rat := 0
  /-- Pieces of the path plan still to run, over distance travelled; it is replanned when `pdirty`. -/
  pplan      : List KSeg := []
  pdirty     : Bool := false
  /-- Arc length at which the present path plan ends, and arc length per distance travelled until there (R305). -/
  pgoal      : Rat := 0
  psc        : Rat := 1
  /-- Arc length at which a flushed path rests, inside the segments that its queue still holds for their geometry, and the segments
  appended behind that point (R301). -/
  pend       : Option Rat := none
  pnext      : List PathSeg := []
  /-- Motion of the arc length over the present slow sample (R330). -/
  amot       : Motion := {}
  /-- A HOLD is in force (R291, R302). -/
  hold       : Bool := false
  /-- Why the path is being stopped: 0 not at all, 1 HOLD, 3 DECEL, 4 QUICK. -/
  pstop      : Nat := 0
  /-- Seconds of a running DWELL still to pass. -/
  dwell      : Rat := 0
  /-- The feed in force for a segment whose FEED is 0. -/
  feed       : Nat := 0
  /-- FEED_OVR as in force since the last slow boundary (R307). -/
  ovr        : Nat := 1000
  /-- Clock at which the pending coefficient swap was requested (R17, R274). -/
  swapAt     : Nat := 0
  /-- The underrun of the present standstill has been reported (R306). -/
  pidle      : Bool := true
  deriving DecidableEq, Repr

/-- An axis's state that no register field holds. -/
structure AxisX where
  /-- Power sequence (Table LOP-3): 0 off, 1 EN_DELAY, 2 BRAKE_REL_DELAY, 3 powered, 4 BRAKE_ENG_DELAY, 5 GUARD before G. -/
  phase   : Nat := 0
  /-- Plan of the profile unit, or the way to rest of another unit. -/
  plan    : Option Plan := none
  /-- What a HOLD keeps to resume (R291). -/
  kept    : Option Plan := none
  /-- Motion of POS_CMD from the last slow boundary on (R349). -/
  motion  : Motion := {}
  /-- The coupling, newest first, with what its clutches lead from; below the last stands the rest position, or a way to rest. -/
  chain   : List CplRun := []
  rest    : Int := 0
  lead    : Option Plan := none
  /-- The clutch leads to rest: GEAR_SET with NUM 0 (R311). -/
  declutch : Bool := false
  /-- A cam that waits for the present cam's wrap, and whether it is RELATIVE (R312). -/
  next    : Option (Cpl × Bool) := none
  /-- Follow channel: speed per second, the PU count at its start, its integrated target, release to rest (R314-R316). -/
  folV    : Rat := 0
  folC0   : Int := 0
  folTgt  : Rat := 0
  folEnd  : Bool := false
  /-- The last set-point of a gear or cam exceeded a ceiling (R319); that of a coupled axis or follower was bound beyond a soft
  limit (R318). -/
  atCeil  : Bool := false
  atSoft  : Bool := false
  /-- Network axis: the two latest valid positions, missed cycles in a row, a valid frame since the last boundary. -/
  net1    : Option Int := none
  net2    : Option Int := none
  miss    : Nat := 0
  got     : Bool := false
  /-- The cycle already counts as missed (R269). -/
  judged  : Bool := false
  /-- EPOCH of the frames counted while SYNCING (Table LOP-4). -/
  epoch   : Nat := 0
  /-- Set-points transferred to the frame builder of a network axis (R267). -/
  iqOut   : Nat := 0
  /-- Axis view of the last boundary: measured currents and angle (R250). -/
  idV     : Nat := 0
  iqV     : Nat := 0
  angV    : Nat := 0
  /-- Axis view of the last ENTRY_SLOW: set-point words (R215). -/
  posV    : Nat := 0
  velV    : Nat := 0
  accV    : Nat := 0
  /-- The latest latched values of POS_ACT with their clocks, newest first (R349). -/
  actH    : List (Nat × Int) := []
  /-- Motion of POS_CMD up to the last slow boundary. -/
  oldMot  : Motion := {}
  deriving DecidableEq, Repr

/-- A current cell's state that no register field holds. -/
structure CurX where
  /-- Integrators Id and Iq in Q2.30 (R256). -/
  iD      : Int := 0
  iQ      : Int := 0
  /-- Coefficients latched at the last fast boundary, in the order of Table LOP-6 (R273). -/
  coef    : List Nat := []
  /-- Set-points transferred and waiting for the next fast boundary (R159). -/
  idNext  : Option Nat := none
  iqNext  : Option Nat := none
  /-- RUN was entered and set-points are zero until the next slow boundary (Table LOP-3). -/
  zero    : Bool := false
  /-- Compare values of the latest computation, loaded at the next fast boundary (R260). -/
  cmpNext : Option (Nat × Nat × Nat) := none
  /-- A measurement of the present sample is still to come (R248). -/
  meas    : Bool := false
  /-- Hall: sector of the last valid edge and fast samples since (Table LOP-1); sector of the latest code that was not 0 or 7,
  once there was one (R255). -/
  sector  : Nat := 0
  since   : Nat := 0
  seen    : Option Nat := none
  /-- The fault condition of PS_FLT or SD_LOSS still holds, for CLEAR_FAULT (Table FLT-1). -/
  lossNow : Bool := false
  /-- PWM lines: 0 off, 1 switching, 2 all low-side switches on (Table FLT-3). -/
  pwm     : Nat := 0
  /-- What each phase commands, and since which clock, as of the last fast boundary or change of `pwm` (R260, R261). -/
  phases  : List (Option Bool × Nat) := []
  deriving DecidableEq, Repr

/-- A Clave event entry (Table CLV-2). -/
structure ClEntry where
  coord  : Int
  act    : Nat
  dir    : Nat
  target : Nat
  param  : Nat
  deriving DecidableEq, Repr

/-- An entry in the on-chip window. -/
structure WEntry where
  e     : ClEntry
  /-- A completed prediction covers it (R330). -/
  ready : Bool := false
  /-- The instant of its crossing in clocks, where that is over: found late (R333) or moved (R334). -/
  at_   : Option Rat := none
  /-- Clock in which the limit of R334 last moved it on. -/
  moved : Option Nat := none
  /-- Its lateness in clocks (R333). -/
  late  : Nat := 0
  /-- Its outcome, where the gate rules have taken it together with another action of its clock (R338). -/
  out   : Option Nat := none
  deriving DecidableEq, Repr

/-- A coordinate scheduler's state that no register field holds. -/
structure ClaveX where
  /-- Entries queued in external memory, oldest first (R327). -/
  queue  : List ClEntry := []
  /-- Engine appends that are queued at the next slow boundary, with the clock of their write (R327). -/
  goWait : List (Nat × ClEntry) := []
  /-- Entries queued since LOADING: where the next one lies in the queue's memory (Table GRP-5). -/
  recNo  : Nat := 0
  /-- The on-chip window, oldest first. -/
  win    : List WEntry := []
  /-- The latest three latched values of the coordinate with their clocks, newest first (R330). -/
  hist   : List (Nat × Int) := []
  /-- The coordinate's motion over the present span, and whether it is a prediction (R323); the motion of the span to come, and the
  boundary that starts it while its prediction is not complete (R330). -/
  motion : Motion := {}
  pred   : Bool := false
  newMot : Motion := {}
  due    : Option Nat := none
  /-- The motion in use until clock `swap`, where the present one took over. -/
  oldMot : Motion := {}
  swap   : Nat := 0
  /-- DO channels that Clave has turned on (R340). -/
  doOn   : List Nat := []
  /-- Fire records: sequence number, pool block in use and records in it (R343). -/
  recSeq : Nat := 0
  recBlk : Option Nat := none
  recN   : Nat := 0
  /-- Clock of the latest action and actions executed in it (R334). -/
  actClk : Nat := 0
  actN   : Nat := 0
  /-- TIME coordinate, exact, in ms (R322). -/
  time   : Rat := 0
  deriving DecidableEq, Repr

/-- The OFF of a running pulse: its instant in clocks (R325), and the clock in which the limit of R334 last moved it on. -/
structure PulseEnd where
  at_   : Rat
  moved : Option Nat := none
  deriving DecidableEq, Repr

/-- A fast output's state that no register field holds. -/
structure HoX where
  /-- Clave turned the output on (R340). -/
  byClave : Bool := false
  /-- Coordinate and clock at which it turned on (R339). -/
  onCoord : Int := 0
  onClk   : Nat := 0
  /-- Clock at which a deferred OFF falls (R336), and the OFFs of running pulses (R325). -/
  offAt   : Option Nat := none
  pulses  : List PulseEnd := []
  deriving DecidableEq, Repr

/-- An edge that waits for its completion (R349). -/
structure SnEdge where
  clk    : Nat
  ntime  : Nat
  coord  : Int
  rising : Bool
  aux    : Option Int
  cmd    : List Int
  bad    : Bool
  deriving DecidableEq, Repr

/-- A latch unit's state that no register field holds. -/
structure SnareX where
  ta   : Nat := 0
  /-- Captured edges that await completion, oldest first (R350). -/
  pend : List SnEdge := []
  /-- Edges before this clock are ignored (R350). -/
  hold : Nat := 0
  /-- The armed interval before the present one, and whether it was CONTINUOUS: an edge may arrive after its end (R346). -/
  prev : Option (Nat × Nat × Bool) := none
  /-- Unread records, oldest first: SEQ, pool block and index in it (R351). -/
  recs : List (Nat × Nat × Nat) := []
  /-- Block being filled and records in it. -/
  blk  : Option (Nat × Nat) := none
  deriving DecidableEq, Repr

/-- A feedback port's state that no register field holds. -/
structure FbX where
  /-- The count after every edge, conversion or read so far. -/
  cnt    : Int := 0
  /-- The two latest conversions or reads: clock and count, newest first. -/
  hist   : List (Nat × Int) := []
  /-- Levels that the receivers of L1, L2, L3 show (bits 0, 1, 2), and those that the port has accepted (R358, R380). -/
  rx     : Nat := 0
  lines  : Nat := 0
  /-- Clock of the latest line edge that the port accepted, and the count before the edges of that clock (R365). -/
  edge   : Nat := 0
  before : Int := 0
  /-- Clock of the latest accepted index edge (R368). -/
  index  : Option Nat := none
  /-- Conductors outside their common-mode window, with the clock since when (R370, R371). -/
  outside : List (Nat × Nat) := []
  /-- A conversion whose checks are not complete: the clock at which they are, r² and conductors outside (R370). -/
  check  : Option (Nat × Nat × Nat) := none
  /-- Signed period count and last 16-bit phase of a SINCOS port. -/
  per    : Int := 0
  phi    : Nat := 0
  started : Bool := false
  /-- Runs of conversions: abnormal, outside the warning window, inside it (R370, R371). -/
  abn    : Nat := 0
  wrn    : Nat := 0
  okr    : Nat := 0
  /-- Illegal transitions since the last fast boundary (R367). -/
  ill    : Nat := 0
  /-- Failed reads in a row, successful reads since STANDBY entry or the last clear (R374, R377). -/
  fails  : Nat := 0
  succ   : Nat := 0
  /-- Raw value of the last successful read, and a transaction in progress with its sampling instant. -/
  raw    : Option Nat := none
  busy   : Option Nat := none
  /-- OFFSET that waits, with the clock of its write (R363). -/
  ofs    : Option (Nat × Nat) := none
  /-- The wrap of the port position and of POS_ACT, recorded once. -/
  wrapP  : Int := 0
  wrapA  : Int := 0
  deriving DecidableEq, Repr

/-- An echo output in EMULATE mode (R381). -/
structure EchoX where
  /-- E at the latest fast boundary (R381). -/
  last  : Option Int := none
  /-- States carried into the next sample, with sign. -/
  carry : Int := 0
  /-- E as the outputs showed it when the present sample began; the states of the sample, its first clock and its length. -/
  pos   : Int := 0
  out   : Int := 0
  since : Nat := 0
  len   : Nat := 0
  deriving DecidableEq, Repr

/-- An output command on its way to the field block or waiting there for its instant (R401, R341). -/
structure DoCmd where
  /-- Apply instant, NTIME in ns on the 1 us grid. -/
  at_   : Nat
  set_  : Nat
  on    : Bool
  /-- The group whose Clave sent it. -/
  clave : Option Nat
  /-- Clave had turned the set on before it (R340). -/
  was   : Bool
  /-- The field block has received it. -/
  sent  : Bool
  deriving DecidableEq, Repr

/-- A pulse input's state that no register field holds (R407, R408). -/
structure PuX where
  cnt   : Int := 0
  /-- Accepted levels of P (bit 0) and Q (bit 1), and the pairs in their fail-safe condition (R409). -/
  lines : Nat := 0
  fault : Nat := 0
  deriving DecidableEq, Repr

/-- The field link and the field block (R384-R409). -/
structure FieldX where
  /-- VFIELD supplies the field block. -/
  powered  : Bool := true
  /-- Cycles in a row without, and with, a valid frame at the controller (R386). -/
  missRun  : Nat := 0
  validRun : Nat := 0
  /-- Valid controller frames in a row at the field block, and the silence timeout has struck (R389, R393). -/
  fieldRun : Nat := 0
  silent   : Bool := false
  /-- A FIELD_RESUME releases these sets at the next link cycle (R392). -/
  release  : List Nat := []
  cmds     : List DoCmd := []
  /-- Field-side input levels; edges and trips for the next frame: channel, level, stamp (R395, R402). -/
  di       : Nat := 0
  edges    : List (Nat × Bool × Nat) := []
  trips    : List Nat := []
  /-- Channels whose driver is above its restart temperature, as last reported (R403). -/
  hot      : Nat := 0
  /-- The analogue sample for the next frame: codes, OVR bits, instant (R405). -/
  ai       : Option (List Nat × Nat × Nat) := none
  pu       : SMap PuX := []
  deriving DecidableEq, Repr

/-- The Sync that a relay passes on (R424): preciseOriginTimestamp, correctionField and time base from its Follow_Up, and NTIME at its
reception in half nanoseconds. -/
structure PtpUp where
  origin : Nat
  corr   : Int
  info   : Nat
  at_    : Nat
  deriving DecidableEq, Repr

/-- The message that follows a two-step 802.1AS message once it has left: a Follow_Up, of the module's own time or of a Sync passed on, or a
Pdelay_Resp_Follow_Up to a port (R424). -/
inductive PtpFollow where
  | followUp (seq : Nat) (up : Option PtpUp)
  | response (seq : Nat) (peer : Nat)
  deriving DecidableEq, Repr

/-- A frame that waits in an egress port: traffic class, bytes from DA to FCS, its content up to the FCS, and the pool block it
takes when it did not fit the buffer, with the block's holder (R420-R422). -/
structure TxFrame where
  cls   : Nat
  len   : Nat
  bytes : List Byte
  blk   : Option (Nat × Nat)
  follow : Option PtpFollow := none
  /-- The endpoint whose event frame this is (R521). -/
  event : Option Nat := none
  deriving DecidableEq, Repr

/-- An external Ethernet port's state that no register field holds. -/
structure EthPortX where
  /-- Frames that wait, in order of arrival. -/
  queue   : List TxFrame := []
  /-- Clock from which the next frame may start. -/
  busy    : Nat := 0
  /-- Clock of the cycle boundary that ends TX_HELD (R445). -/
  hold    : Nat := 0
  /-- The instant T of a pending list change (R435). -/
  change  : Option Nat := none
  /-- sequenceId of the next Sync, Pdelay_Req and Announce (R424). -/
  seqSync : Nat := 0
  seqPd   : Nat := 0
  seqAnn  : Nat := 0
  deriving DecidableEq, Repr

/-- The best foreign grandmaster heard of (R425): its priority vector and the port on which it was announced. -/
structure PtpBest where
  p1    : Nat
  cc    : Nat
  acc   : Nat
  var   : Nat
  p2    : Nat
  gm    : Nat
  steps : Nat
  src   : Nat
  port  : Nat
  utc   : Nat
  tsrc  : Nat
  path  : List Nat
  deriving DecidableEq, Repr

/-- State of the switch, of the IP subset, of the meters and of the time engine that no register field holds (ch. 13). -/
structure EthX where
  ports  : SMap EthPortX := []
  /-- Learned addresses, their ports, and the clock at which each was last seen (R412). -/
  macs   : List (Nat × Nat × Nat) := []
  /-- Identification of the next datagram (R418). -/
  ipId   : Nat := 0
  /-- NTIME of the last NET_SELF_MAC and NET_IP_CONFLICT records. -/
  selfAt : Option Nat := none
  dupAt  : Option Nat := none
  /-- Echo requests answered in the current second, and that second's number (R417). -/
  echoN  : Nat := 0
  echoS  : Nat := 0
  /-- Bucket of each meter in bytes / 16e9, and the clock at which it was last filled (R442). -/
  bucket : SMap (Nat × Nat) := []
  best   : Option PtpBest := none
  /-- Consecutive Sync intervals with |offset| below 1000 ns (R427). -/
  okRun  : Nat := 0
  /-- Part of the next half nanosecond of NTIME that the rate correction has gathered, in 1e-9 (R428). -/
  frac   : Int := 0
  deriving DecidableEq, Repr
/-- An open reassembly of Bexic fragments on a CAN channel (R474, R517): the first header's bytes 0-11 without LEN, the payload so
far, its pool block with holder, and the clock of the last fragment. -/
structure CanPart where
  head    : List Byte
  payload : List Byte
  blk     : Option (Nat × Nat)
  clk     : Nat
  deriving DecidableEq, Repr

/-- A Bexic message that a CAN channel transmits: its identifier and format, the frames still to be sent, and the pool block that
holds it, with the block's holder (R465, R468). -/
structure CanMsg where
  xtd    : Bool
  id     : Nat
  frames : List CanFrame
  blk    : Option (Nat × Nat)
  deriving DecidableEq, Repr

/-- A CAN channel's state that no register field holds. -/
structure CanX where
  /-- Receive FIFOs 0 and 1: frame records, oldest first (R462). -/
  rx0    : List (List Byte) := []
  rx1    : List (List Byte) := []
  /-- Bexic messages that wait, in order of production. -/
  tx     : List CanMsg := []
  /-- The channel was bus-off when it was disabled (Table CAN-6). -/
  wasOff : Bool := false
  /-- Open reassemblies by endpoint; none while the rest of a refused message is dropped (R474). -/
  parts  : List (Nat × CanPart) := []
  refused: List (Nat × List Byte) := []
  /-- NTIME of the last CAN_DUP_ID record (R475). -/
  dupAt  : Option Nat := none
  /-- FALLBACK reassembly of 0x7F0: bytes so far, the next index, and the clock of the last segment (R519). -/
  fb     : Option (List Byte × Nat × Nat) := none
  deriving DecidableEq, Repr

/-- A transfer of the I2C-P controller that waits or runs: its request, the clock of its acceptance, and EFFECT once a slow boundary
has passed (R494, R513, R17). -/
structure I2cJob where
  msg    : Msg
  clk    : Nat := 0
  effect : Option Nat := none
  deriving DecidableEq, Repr

/-- State of the I2C ports that no register field holds (ch. 15). -/
structure I2cX where
  /-- Pointer of the ASIC's target (R479). -/
  ptr  : Nat := 0
  /-- The copy that reading the lowest byte of a value captured: pointer and bytes (R480). -/
  cap  : Option (Nat × List Byte) := none
  /-- Outbound queue: whole messages, oldest first (R483). -/
  out  : List (List Byte) := []
  /-- Transfers that wait, in order of acceptance, and the one that runs. -/
  jobs : List I2cJob := []
  run  : Option I2cJob := none
  deriving DecidableEq, Repr

/-- The state of the AX32: everything the spec gives the module, and the queue of commands that wait. -/
structure State where
  /-- Commands that wait, first in first out. -/
  pending  : List Instr
  /-- Register fields that differ from their reset value, by `Fld.key` (R14, R15). -/
  regs     : SMap Nat
  /-- Bytes of PM, DM, shared SRAM and external memory that are not zero, by address (R73, R121). -/
  mem      : List Host.Cell
  /-- Main clocks that have passed (R9). -/
  clk      : Nat
  /-- NTIME in half nanoseconds. -/
  ntimeH   : Nat
  /-- How many free values have been drawn (the model's own field). -/
  drawn    : Nat
  /-- Bexic messages that have left the command sequencer, newest first. -/
  outbox   : List OutMsg
  /-- What the latest register or I2C read handed to its reader: register words, or the bytes of an I2C transaction (the model's
  own field). -/
  readOut  : List Nat
  /-- Kind B commands consumed and not yet effective, in order of consumption (R513). -/
  awaiting : List Await
  tick_    : TickCtl
  bk       : Backup
  start    : StartCtl
  flash    : FlashCtl
  pool     : PoolCtl
  led      : LedgerCtl
  flt      : FaultCtl
  /-- Sessions by endpoint. -/
  sess     : SMap Session
  /-- Pair captures and holds by accessor: endpoints 0-16, engines 17-33 (R123). -/
  holds    : SMap PairHold
  eng      : SMap EngX
  grp      : SMap GroupX
  axis     : SMap AxisX
  cur      : SMap CurX
  clave    : SMap ClaveX
  ho       : SMap HoX
  snare    : SMap SnareX
  fb       : SMap FbX
  echo     : SMap EchoX
  field    : FieldX
  eth      : EthX
  can      : SMap CanX
  i2c      : I2cX
  deriving DecidableEq, Repr

/-- The AX32 right after LOADING has ended in STANDBY with an image that sets nothing: every register field at its reset
value (R15), every memory clear (R73), every unit idle, no command waiting. -/
def State.reset : State where
  pending := []
  regs := []
  mem := []
  clk := 0
  ntimeH := 0
  drawn := 0
  outbox := []
  readOut := []
  awaiting := []
  tick_ := {}
  bk := {}
  start := {}
  flash := {}
  pool := {}
  led := {}
  flt := {}
  sess := []
  holds := []
  eng := []
  grp := []
  axis := []
  cur := []
  clave := []
  ho := []
  snare := []
  fb := []
  echo := []
  field := {}
  eth := {}
  can := []
  i2c := {}

end Sys2Proof.Machine
end

