-- ==== Sys2Proof/Machine/Kin.lean ====
section
/-!
DEFINITION. Kin.lean: jerk-limited motion in exact rationals (R293, R294): what a list of pieces does to position, velocity
and acceleration, and the plans that bring a state to a velocity, to rest, or to a target at rest.
-/
namespace Sys2Proof.Machine

/-- Position, velocity and acceleration in units and seconds. -/
structure KSt where
  p : Rat
  v : Rat
  a : Rat
  deriving DecidableEq, Repr

/-- The state `t` seconds into a piece that starts at `p`, `v`. -/
def KSeg.at_ (g : KSeg) (p v t : Rat) : KSt :=
  { p := p + (v + g.dv) * t + g.a * t * t / 2 + g.j * t * t * t / 6, v := v + g.dv + g.a * t + g.j * t * t / 2, a := g.a + g.j * t }

/-- The state `t` seconds into a list of pieces; past its end the motion keeps its last velocity. -/
def kinAt : List KSeg → Rat → Rat → Rat → KSt
  | [], p, v, t => { p := p + v * t, v := v, a := 0 }
  | g :: r, p, v, t =>
    if t < g.t then g.at_ p v t
    else
      let e := g.at_ p v g.t
      kinAt r e.p e.v (t - g.t)

/-- The pieces that remain after `t` seconds. -/
def kinRest : List KSeg → Rat → List KSeg
  | [], _ => []
  | g :: r, t => if t < g.t then { t := g.t - t, a := g.a + g.j * t, j := g.j } :: r else kinRest r (t - g.t)

/-- How long the pieces last. -/
def kinTime (l : List KSeg) : Rat := l.foldl (fun s g => s + g.t) 0

/-- Where the pieces lead from `p`, `v`. -/
def kinEnd : List KSeg → Rat → Rat → KSt
  | [], p, v => { p := p, v := v, a := 0 }
  | g :: r, p, v =>
    let e := g.at_ p v g.t
    kinEnd r e.p e.v

/-- A rational at most the square root of `r`, to 2^-64. -/
def sqrtLow (r : Rat) : Rat :=
  if r ≤ 0 then 0 else mkRat (isqrt ((r * ((2 ^ 128 : Nat) : Rat)).floor.toNat)) (2 ^ 64)

/-- The sign of a rational as a rational. -/
def sgnQ (r : Rat) : Rat := if 0 < r then 1 else if r < 0 then -1 else 0

/-- The absolute value of a rational. -/
def absQ (r : Rat) : Rat := if r < 0 then -r else r

/-- The pieces from velocity `v0`, acceleration `a0` to velocity `vt`, acceleration 0, with acceleration held to `lim` and
jerk to `j`; jerk 0 means no jerk limit (R293, R549). -/
def velChange (v0 a0 vt lim j : Rat) : List KSeg :=
  if j = 0 then
    if v0 = vt ∨ lim = 0 then [] else [{ t := absQ (vt - v0) / lim, a := sgnQ (vt - v0) * lim, j := 0 }]
  else
    let vz := v0 + a0 * absQ a0 / (2 * j)
    if vz = vt then (if a0 = 0 then [] else [{ t := absQ a0 / j, a := a0, j := -(sgnQ a0) * j }])
    else
      let s := if vz < vt then (1 : Rat) else -1
      let b0 := s * a0
      -- an acceleration above the limit is first brought down to it
      let pre : List KSeg := if lim < b0 then [{ t := (b0 - lim) / j, a := a0, j := -s * j }] else []
      let v1 := (kinEnd pre 0 v0).v
      let b := if lim < b0 then lim else b0
      let need := j * (s * (vt - v1)) + b * b / 2
      let pk0 := min lim (sqrtLow need)
      let pk := max pk0 b
      let th := (need - pk * pk) / (j * pk)
      pre ++ [{ t := (pk - b) / j, a := s * b, j := s * j }, { t := th, a := s * pk, j := 0 },
        { t := pk / j, a := s * pk, j := -s * j }]

/-- The pieces to rest (R296). -/
def stopPlan (v0 a0 d j : Rat) : List KSeg := velChange v0 a0 0 d j

/-- The pieces from `v0`, `a0` over a peak velocity `vp` to velocity `ve`, without the cruise. The way to the peak slows down, held
to `d`, when the velocity passes the peak even while the acceleration is taken back. -/
def viaPeak (v0 a0 vp ve a d j : Rat) : List KSeg × List KSeg :=
  (velChange v0 a0 vp (if v0 + a0 * absQ a0 / (2 * j) ≤ vp then a else d) j, velChange vp 0 ve d j)

/-- The distance that a peak velocity needs. -/
def peakDist (v0 a0 vp ve a d j : Rat) : Rat :=
  let q := viaPeak v0 a0 vp ve a d j
  (kinEnd (q.1 ++ q.2) 0 v0).p

/-- The highest of `n` halvings between `lo` and `hi` that satisfies `f`, given that `lo` does. -/
def bisect (f : Rat → Bool) : Nat → Rat → Rat → Rat
  | 0, lo, _ => lo
  | n + 1, lo, hi =>
    let m := (lo + hi) / 2
    if f m then bisect f n m hi else bisect f n lo m

/-- The pieces that cover `dist` forward from `v0`, `a0` and end at velocity `ve`: seven phases with peak velocity at most
`v` (R293). -/
def movePlan (dist v0 a0 ve v a d j : Rat) : List KSeg :=
  let ok := fun vp => decide (peakDist v0 a0 vp ve a d j ≤ dist)
  let vp := if ok v then v else bisect ok 96 ve v
  let q := viaPeak v0 a0 vp ve a d j
  let rem := dist - (kinEnd (q.1 ++ q.2) 0 v0).p
  let cruise : List KSeg := if 0 < rem ∧ 0 < vp then [{ t := rem / vp, a := 0, j := 0 }] else []
  q.1 ++ cruise ++ q.2

/-- A plan seen in the mirror. -/
def flipSegs (l : List KSeg) : List KSeg := l.map (fun g => { g with a := -g.a, j := -g.j, dv := -g.dv })

/-- The pieces from `v0`, `a0` to rest at signed distance `dist`, which lies at or beyond the stopping point in its
direction (R296). -/
def moveTo (dist v0 a0 v a d j : Rat) : List KSeg :=
  if dist = 0 ∧ v0 = 0 ∧ a0 = 0 then []
  else if 0 < dist ∨ (dist = 0 ∧ 0 < v0) then movePlan dist v0 a0 0 v a d j
  else flipSegs (movePlan (-dist) (-v0) (-a0) 0 v a d j)

/-- The state of a motion `t` seconds after its clock. -/
def Motion.at_ (m : Motion) (t : Rat) : KSt := kinAt m.segs m.p m.v t

/-- Seconds of `n` main clocks (2.5 ns each, R9). -/
def clkSec (n : Nat) : Rat := mkRat n 400000000

/-- A rational in units as Q40.24, rounded convergently and wrapped to 64 bits. -/
def q24 (r : Rat) : Int := toInt 64 (ofInt 64 (convRat (r * 16777216)))

/-- The position of a motion at main clock `c`, in Q40.24. -/
def Motion.posAt (m : Motion) (c : Nat) : Int := q24 (m.at_ (clkSec (c - m.clk))).p

end Sys2Proof.Machine
end

