-- ==== Sys2Proof/Machine/Reg.lean ====
section
/-!
DEFINITION. Reg.lean: the field of every register of the AX32, under the name its register table gives it: the word
address, the lowest bit and the width (the register tables of spec/02 to spec/18). The one home of each field is
`State.regs` at `Fld.key`.
-/
namespace Sys2Proof.Machine

/-- Device mode (Table PWR-5) (PWR-10, R77). -/
def Reg.SYS_MODE_CODE : Fld := ⟨0, 0, 3⟩
/-- Level of the DRIVE_ENABLE input after its 10 µs filter (R559); equal to `FAULT.DE.LEVEL` (PWR-10, R77). -/
def Reg.SYS_MODE_DRIVE_ENABLE : Fld := ⟨0, 8, 1⟩
/-- Output of the 18.0 V comparator (R38): VMAIN below 18.0 V now (PWR-10, R77). -/
def Reg.SYS_SUPPLY_VMAIN_WARN : Fld := ⟨4, 0, 1⟩
/-- VBAK ≥ 2.0 V at last measurement (PWR-10, R77). -/
def Reg.SYS_SUPPLY_VBAK_PRESENT : Fld := ⟨4, 1, 1⟩
/-- VBAK < 2.2 V at last measurement (PWR-10, R77). -/
def Reg.SYS_SUPPLY_VBAK_LOW : Fld := ⟨4, 2, 1⟩
/-- 1 while the field link is up and reports VFIELD in range; 0 otherwise (R37) (PWR-10, R77). -/
def Reg.SYS_SUPPLY_VFIELD_OK : Fld := ⟨4, 3, 1⟩
/-- Charging enabled (R44) (PWR-10, R77). -/
def Reg.SYS_SUPPLY_VBAK_CHARGE : Fld := ⟨4, 4, 1⟩
/-- VMAIN in mV, updated every 1 ms (PWR-10, R77). -/
def Reg.SYS_VMAIN_MV : Fld := ⟨8, 0, 16⟩
/-- VBAK in mV at last measurement (PWR-10, R77). -/
def Reg.SYS_VBAK_MV : Fld := ⟨0xc, 0, 16⟩
/-- Table PWR-8 (PWR-10, R77). -/
def Reg.SYS_WAKE_CAUSE_CAUSE : Fld := ⟨0x10, 0, 4⟩
/-- Previous attempt ended by VMAIN loss (PWR-10, R77). -/
def Reg.SYS_WAKE_CAUSE_INTERRUPTED : Fld := ⟨0x10, 8, 1⟩
/-- Responder woken during last DORMANT (PWR-10, R77). -/
def Reg.SYS_WAKE_CAUSE_I2C_WOKEN : Fld := ⟨0x10, 9, 1⟩
/-- Comparator entry logged during last DORMANT (PWR-10, R77). -/
def Reg.SYS_WAKE_CAUSE_CMP_EVENT : Fld := ⟨0x10, 10, 1⟩
/-- RTC [31:0]; reading captures RTC [47:32] for `SYS.RTC_HI` (PWR-10, R77). -/
def Reg.SYS_RTC_LO : Fld := ⟨0x20, 0, 32⟩
/-- Captured RTC [47:32] (PWR-10, R77). -/
def Reg.SYS_RTC_HI : Fld := ⟨0x24, 0, 16⟩
/-- New RTC [31:0] (PWR-10, R77). -/
def Reg.SYS_RTC_SET_LO : Fld := ⟨0x28, 0, 32⟩
/-- New RTC [47:32] (PWR-10, R77). -/
def Reg.SYS_RTC_SET_HI : Fld := ⟨0x2c, 0, 16⟩
/-- Load RTC at next tick; reads 1 until loaded (PWR-10, R77). -/
def Reg.SYS_RTC_CTL_LOAD : Fld := ⟨0x30, 0, 1⟩
/-- Follow NTIME (R50) (PWR-10, R77). -/
def Reg.SYS_RTC_CTL_SYNC : Fld := ⟨0x30, 1, 1⟩
/-- Threshold, × 25 mV (PWR-10, R77). -/
def Reg.SYS_CMP_CFG_THRESH (k : Nat) : Fld := ⟨0x40 + 4 * k, 0, 6⟩
/-- 0b00 off, 0b01 rising, 0b10 falling, 0b11 both (PWR-10, R77). -/
def Reg.SYS_CMP_CFG_EDGE (k : Nat) : Fld := ⟨0x40 + 4 * k, 8, 2⟩
/-- Confirmed comparator state (PWR-10, R77). -/
def Reg.SYS_CMP_CFG_STATE (k : Nat) : Fld := ⟨0x40 + 4 * k, 12, 1⟩
/-- Strobe rate 2^RATE Hz, 0–6; a write of 7 leaves the field unchanged (PWR-10, R77). -/
def Reg.SYS_CMP_STROBE : Fld := ⟨0x50, 0, 3⟩
/-- Oldest entry, RTC [31:0] (PWR-10, R77). -/
def Reg.SYS_BKFIFO_LO : Fld := ⟨0x60, 0, 32⟩
/-- Oldest entry, RTC [47:32]; read removes the entry (R54) (PWR-10, R77). -/
def Reg.SYS_BKFIFO_HI_RTC : Fld := ⟨0x64, 0, 16⟩
/-- Table PWR-2 (PWR-10, R77). -/
def Reg.SYS_BKFIFO_HI_SRC : Fld := ⟨0x64, 16, 4⟩
/-- 1 rising (PWR-10, R77). -/
def Reg.SYS_BKFIFO_HI_EDGE : Fld := ⟨0x64, 20, 1⟩
/-- 0 when the FIFO is empty (PWR-10, R77). -/
def Reg.SYS_BKFIFO_HI_VALID : Fld := ⟨0x64, 31, 1⟩
/-- Entries held, 0–8 (PWR-10, R77). -/
def Reg.SYS_BKFIFO_STAT_LEVEL : Fld := ⟨0x68, 0, 4⟩
/-- Discarded events, saturating at 255 (PWR-10, R77). -/
def Reg.SYS_BKFIFO_STAT_OVF : Fld := ⟨0x68, 8, 8⟩
/-- Table PWR-3; retained (PWR-10, R77). -/
def Reg.SYS_BKREG (k : Nat) : Fld := ⟨0x80 + 4 * k, 0, 32⟩
/-- Slot applied: 0 A, 1 B (IMG-11, R120). -/
def Reg.SYS_START_STAT_SLOT : Fld := ⟨0x100, 0, 1⟩
/-- The other slot was rejected this attempt with a REJECT code other than NO_IMAGE (R85) (IMG-11, R120). -/
def Reg.SYS_START_STAT_OTHER_REJECTED : Fld := ⟨0x100, 1, 1⟩
/-- Attempt concluded as success (IMG-11, R120). -/
def Reg.SYS_START_STAT_CONCLUDED : Fld := ⟨0x100, 2, 1⟩
/-- Self-tests failed in the last LOADING entry (R83): bit 4 SRAM, bit 5 PM/DM, bit 6 engine,  (IMG-11, R120). -/
def Reg.SYS_START_STAT_SELFTEST_FAIL : Fld := ⟨0x100, 4, 4⟩
/-- Seconds held toward 30, saturating at 30; stops where it stands when the attempt concludes (IMG-11, R120). -/
def Reg.SYS_START_STAT_HELD_S : Fld := ⟨0x100, 8, 6⟩
/-- GENERATION of the applied image (IMG-11, R120). -/
def Reg.SYS_IMG_GEN : Fld := ⟨0x104, 0, 32⟩
/-- BUILD_STAMP [31:0] (IMG-11, R120). -/
def Reg.SYS_IMG_STAMP_LO : Fld := ⟨0x108, 0, 32⟩
/-- BUILD_STAMP [63:32] (IMG-11, R120). -/
def Reg.SYS_IMG_STAMP_HI : Fld := ⟨0x10c, 0, 32⟩
/-- Applied image is SIGNED (IMG-11, R120). -/
def Reg.SYS_IMG_FLAGS_SIGNED : Fld := ⟨0x110, 0, 1⟩
/-- Signature checked and valid (IMG-11, R120). -/
def Reg.SYS_IMG_FLAGS_SIG_VERIFIED : Fld := ⟨0x110, 1, 1⟩
/-- LOADING duration in ms, rounded up (R85) (IMG-11, R120). -/
def Reg.SYS_LOAD_TIME : Fld := ⟨0x114, 0, 16⟩
/-- Slot A GENERATION; 0 if its header was rejected (IMG-11, R120). -/
def Reg.SYS_SLOT_GEN_A : Fld := ⟨0x118, 0, 32⟩
/-- Slot B likewise (IMG-11, R120). -/
def Reg.SYS_SLOT_GEN_B : Fld := ⟨0x11c, 0, 32⟩
/-- Mirror of BKREG1 (IMG-11, R120). -/
def Reg.SYS_FB_REASON : Fld := ⟨0x120, 0, 32⟩
/-- Mirror of BKREG2 (IMG-11, R120). -/
def Reg.SYS_FB_DETAIL_A : Fld := ⟨0x124, 0, 32⟩
/-- Mirror of BKREG3 (IMG-11, R120). -/
def Reg.SYS_FB_DETAIL_B : Fld := ⟨0x128, 0, 32⟩
/-- Protocol violations in FALLBACK, saturating (IMG-11, R120). -/
def Reg.SYS_FB_PROTO : Fld := ⟨0x12c, 0, 16⟩
/-- Fuse word *i*, *i* = 0–7 (IMG-11, R120). -/
def Reg.SYS_KEYHASH (k : Nat) : Fld := ⟨0x140 + 4 * k, 0, 32⟩
/-- Digest to program (IMG-11, R120). -/
def Reg.SYS_KEYHASH_STAGE (k : Nat) : Fld := ⟨0x160 + 4 * k, 0, 32⟩
/-- Program; reads 1 while busy (IMG-11, R120). -/
def Reg.SYS_KEYHASH_CMD_GO : Fld := ⟨0x180, 0, 1⟩
/-- Must be 0x4B48 in the write that sets GO (R105); returns to 0 after every write of the reg (IMG-11, R120). -/
def Reg.SYS_KEYHASH_CMD_CONFIRM : Fld := ⟨0x180, 16, 16⟩
/-- KEYHASH not all zero (IMG-11, R120). -/
def Reg.SYS_KEYHASH_STAT_PROGRAMMED : Fld := ⟨0x184, 0, 1⟩
/-- Last programming failed read-back (IMG-11, R120). -/
def Reg.SYS_KEYHASH_STAT_FAILED : Fld := ⟨0x184, 1, 1⟩
/-- Last write of GO = 1 refused (R105); cleared by the next accepted GO (IMG-11, R120). -/
def Reg.SYS_KEYHASH_STAT_REFUSED : Fld := ⟨0x184, 2, 1⟩
/-- 0 IDLE, 1 ERASING, 2 OPEN, 3 COMMITTING (IMG-11, R120). -/
def Reg.SYS_IMG_WR_STAT_STATE : Fld := ⟨0x190, 0, 2⟩
/-- Slot being written (IMG-11, R120). -/
def Reg.SYS_IMG_WR_STAT_SLOT : Fld := ⟨0x190, 4, 1⟩
/-- REJECT code of the last COMMIT (IMG-11, R120). -/
def Reg.SYS_IMG_WR_STAT_LAST_REJECT : Fld := ⟨0x190, 8, 8⟩
/-- Next expected DATA offset (IMG-11, R120). -/
def Reg.SYS_IMG_WR_NEXT : Fld := ⟨0x194, 0, 32⟩
/-- Bit *x* set: X*x* in G*n* (GRP-7, R149). -/
def Reg.GRP_OWN_AXES (n : Nat) : Fld := ⟨0x10000 + 0x1000 * n, 0, 32⟩
/-- Bit *u* set: latch unit *u* in G*n* (GRP-7, R149). -/
def Reg.GRP_OWN_SNARE (n : Nat) : Fld := ⟨0x10004 + 0x1000 * n, 0, 32⟩
/-- Bit *p* set: FB*p* in G*n* (GRP-7, R149). -/
def Reg.GRP_OWN_FB (n : Nat) : Fld := ⟨0x10008 + 0x1000 * n, 0, 16⟩
/-- Bit *i* set: DI*i* in G*n* (GRP-7, R149). -/
def Reg.GRP_OWN_DI (n : Nat) : Fld := ⟨0x1000c + 0x1000 * n, 0, 32⟩
/-- Bit set for the lowest channel of each owned DO set (GRP-7, R149). -/
def Reg.GRP_OWN_DO (n : Nat) : Fld := ⟨0x10010 + 0x1000 * n, 0, 16⟩
/-- HI0–HI7 owned (GRP-7, R149). -/
def Reg.GRP_OWN_IO_HI (n : Nat) : Fld := ⟨0x10014 + 0x1000 * n, 0, 8⟩
/-- HO0–HO7 owned (GRP-7, R149). -/
def Reg.GRP_OWN_IO_HO (n : Nat) : Fld := ⟨0x10014 + 0x1000 * n, 8, 8⟩
/-- AI0–AI3 owned (GRP-7, R149). -/
def Reg.GRP_OWN_IO_AI (n : Nat) : Fld := ⟨0x10014 + 0x1000 * n, 16, 4⟩
/-- PU0–PU3 owned (GRP-7, R149). -/
def Reg.GRP_OWN_IO_PU (n : Nat) : Fld := ⟨0x10014 + 0x1000 * n, 20, 4⟩
/-- Engine serving G*n* (R126) (GRP-7, R149). -/
def Reg.GRP_ENGINE (n : Nat) : Fld := ⟨0x10018 + 0x1000 * n, 0, 5⟩
/-- Corrected shared-SRAM errors, saturating (GRP-8, R150). -/
def Reg.SYS_SRAM_ECC_CE_COUNT : Fld := ⟨0x200, 0, 16⟩
/-- Uncorrectable error seen in a group region (GRP-8, R150). -/
def Reg.SYS_SRAM_ECC_UE : Fld := ⟨0x200, 16, 1⟩
/-- Byte offset from 0x2000_0000 of the last uncorrectable error (GRP-8, R150). -/
def Reg.SYS_SRAM_UE_ADDR : Fld := ⟨0x204, 0, 21⟩
/-- Corrected external-memory errors, saturating (GRP-8, R150). -/
def Reg.SYS_XMEM_ECC_CE_COUNT : Fld := ⟨0x208, 0, 16⟩
/-- Uncorrectable error; SAFE_HOLD (GRP-8, R150). -/
def Reg.SYS_XMEM_ECC_UE : Fld := ⟨0x208, 16, 1⟩
/-- Byte offset from 0x8000_0000 (GRP-8, R150). -/
def Reg.SYS_XMEM_UE_ADDR : Fld := ⟨0x20c, 0, 30⟩
/-- Completed patrol passes, wrapping (GRP-8, R150). -/
def Reg.SYS_XMEM_SCRUB : Fld := ⟨0x210, 0, 16⟩
/-- Training passed in LOADING (GRP-8, R150). -/
def Reg.SYS_XMEM_TRAIN_OK : Fld := ⟨0x214, 0, 1⟩
/-- Training retries used (GRP-8, R150). -/
def Reg.SYS_XMEM_TRAIN_RETRIES : Fld := ⟨0x214, 8, 8⟩
/-- Free blocks (GRP-9, R151). -/
def Reg.POOL_STAT_FREE_TOTAL : Fld := ⟨0xb0000, 0, 17⟩
/-- FREE_SHARED below WARN_LEVEL (R148) (GRP-9, R151). -/
def Reg.POOL_STAT_LOW : Fld := ⟨0xb0000, 31, 1⟩
/-- R141; 65 536 minus floor sum at reset (GRP-9, R151). -/
def Reg.POOL_SHARED : Fld := ⟨0xb0004, 0, 17⟩
/-- Sum of floors, ≤ 32 768 (GRP-9, R151). -/
def Reg.POOL_FLOOR_SUM : Fld := ⟨0xb0008, 0, 17⟩
/-- Lowest FREE_SHARED since reset or MIN_RESET (GRP-9, R151). -/
def Reg.POOL_MIN_SHARED : Fld := ⟨0xb000c, 0, 17⟩
/-- Set MIN to present FREE_SHARED; reads 0 (GRP-9, R151). -/
def Reg.POOL_CTL : Fld := ⟨0xb0010, 0, 1⟩
/-- POOL_LOW threshold (R148); 0 disables (GRP-9, R151). -/
def Reg.POOL_WARN_LEVEL : Fld := ⟨0xb0014, 0, 17⟩
/-- Device-charged NOBUF, saturating (GRP-9, R151). -/
def Reg.POOL_NOBUF_DEV : Fld := ⟨0xb0018, 0, 32⟩
/-- Floor of G*n* (GRP-9, R151). -/
def Reg.POOL_GRP_FLOOR (k : Nat) : Fld := ⟨0xb0100 + 0x10 * k, 0, 16⟩
/-- Blocks charged to G*n* (GRP-9, R151). -/
def Reg.POOL_GRP_USED (k : Nat) : Fld := ⟨0xb0104 + 0x10 * k, 0, 17⟩
/-- NOBUF charged to G*n*, saturating (GRP-9, R151). -/
def Reg.POOL_GRP_NOBUF (k : Nat) : Fld := ⟨0xb0108 + 0x10 * k, 0, 32⟩
/-- Highest USED since LOADING (GRP-9, R151). -/
def Reg.POOL_GRP_PEAK (k : Nat) : Fld := ⟨0xb010c + 0x10 * k, 0, 17⟩
/-- Blocks charged to the device (GRP-9, R151). -/
def Reg.POOL_DEV_USED : Fld := ⟨0xb0200, 0, 17⟩
/-- R152 (ENG-9, R190). -/
def Reg.SYS_TICK_CFG_FAST_CLK : Fld := ⟨0x300, 0, 15⟩
/-- R152 (ENG-9, R190). -/
def Reg.SYS_TICK_CFG_SLOW_DIV : Fld := ⟨0x300, 16, 5⟩
/-- R152 (ENG-9, R190). -/
def Reg.SYS_TICK_PHASE : Fld := ⟨0x304, 0, 16⟩
/-- R154 (ENG-9, R190). -/
def Reg.SYS_TICK_STAT_ALIGNED : Fld := ⟨0x308, 0, 1⟩
/-- i24; last boundary's lateness in clocks (ENG-9, R190). -/
def Reg.SYS_TICK_STAT_OFFSET : Fld := ⟨0x308, 8, 24⟩
/-- Slewed fast samples, saturating (ENG-9, R190). -/
def Reg.SYS_TICK_SLEW : Fld := ⟨0x30c, 0, 32⟩
/-- R155 (ENG-9, R190). -/
def Reg.SYS_SLOW_COUNT : Fld := ⟨0x310, 0, 64⟩
/-- NTIME of the last slow boundary (ENG-9, R190). -/
def Reg.SYS_SLOW_NTIME : Fld := ⟨0x318, 0, 64⟩
/-- Table ENG-5 (ENG-10, R190). -/
def Reg.ENG_STATE_STATE (e : Nat) : Fld := ⟨0x30000 + 0x200 * e, 0, 3⟩
/-- Group served, loaded or shadowed (ENG-10, R190). -/
def Reg.ENG_STATE_GROUP (e : Nat) : Fld := ⟨0x30000 + 0x200 * e, 8, 4⟩
/-- GROUP is meaningful (ENG-10, R190). -/
def Reg.ENG_STATE_GVALID (e : Nat) : Fld := ⟨0x30000 + 0x200 * e, 12, 1⟩
/-- 0 SPLIT, 1 UNIFIED (ENG-10, R190). -/
def Reg.ENG_STATE_FETCH (e : Nat) : Fld := ⟨0x30000 + 0x200 * e, 16, 1⟩
/-- First run after takeover (ENG-10, R190). -/
def Reg.ENG_STAT_TAKEOVER (e : Nat) : Fld := ⟨0x30004 + 0x200 * e, 0, 1⟩
/-- Previous run missed (R161) (ENG-10, R190). -/
def Reg.ENG_STAT_MISSED (e : Nat) : Fld := ⟨0x30004 + 0x200 * e, 1, 1⟩
/-- Pool request refused in this run (ENG-10, R190). -/
def Reg.ENG_STAT_NOBUF (e : Nat) : Fld := ⟨0x30004 + 0x200 * e, 2, 1⟩
/-- R165 (ENG-10, R190). -/
def Reg.ENG_STAT_CHECK_LATE (e : Nat) : Fld := ⟨0x30004 + 0x200 * e, 3, 1⟩
/-- Lost samples, first run only; saturating (ENG-10, R190). -/
def Reg.ENG_STAT_LOST (e : Nat) : Fld := ⟨0x30004 + 0x200 * e, 8, 8⟩
/-- Table ENG-4 (ENG-10, R190). -/
def Reg.ENG_FAIL_CAUSE (e : Nat) : Fld := ⟨0x30008 + 0x200 * e, 0, 4⟩
/-- PM word address at failure (ENG-10, R190). -/
def Reg.ENG_FAIL_PC (e : Nat) : Fld := ⟨0x30008 + 0x200 * e, 16, 13⟩
/-- NTIME at failure (ENG-10, R190). -/
def Reg.ENG_FAIL_NTIME (e : Nat) : Fld := ⟨0x3000c + 0x200 * e, 0, 64⟩
/-- Deadline misses, saturating (ENG-10, R190). -/
def Reg.ENG_MISS_COUNT (e : Nat) : Fld := ⟨0x30014 + 0x200 * e, 0, 32⟩
/-- Clocks from boundary to DONE, last slow run (ENG-10, R190). -/
def Reg.ENG_RUN_LAST (e : Nat) : Fld := ⟨0x30018 + 0x200 * e, 0, 16⟩
/-- Highest RUN_LAST (ENG-10, R190). -/
def Reg.ENG_RUN_MAX (e : Nat) : Fld := ⟨0x3001c + 0x200 * e, 0, 16⟩
/-- Clear RUN_MAX; reads 0 (ENG-10, R190). -/
def Reg.ENG_CTL (e : Nat) : Fld := ⟨0x30020 + 0x200 * e, 0, 1⟩
/-- Pending causes; a host read does not clear (ENG-10, R190). -/
def Reg.ENG_EVT_CAUSE (e : Nat) : Fld := ⟨0x30024 + 0x200 * e, 0, 18⟩
/-- 0 none, 1 pass, 2 fail, 3 running (ENG-10, R190). -/
def Reg.ENG_TEST_RESULT (e : Nat) : Fld := ⟨0x30028 + 0x200 * e, 0, 2⟩
/-- Tests run, saturating (ENG-10, R190). -/
def Reg.ENG_TEST_COUNT (e : Nat) : Fld := ⟨0x30028 + 0x200 * e, 8, 8⟩
/-- Samples matched, 0–8 (ENG-10, R190). -/
def Reg.ENG_SHADOW_MATCHED (e : Nat) : Fld := ⟨0x3002c + 0x200 * e, 0, 4⟩
/-- Sample of the abort (ENG-10, R190). -/
def Reg.ENG_SHADOW_SAMPLE (e : Nat) : Fld := ⟨0x3002c + 0x200 * e, 4, 4⟩
/-- 0 none, 1 OUTPUT, 2 SIDE_EFFECT, 3 STATE, 4 TARGET_MISS, 5 TARGET_FAIL, 6 PREEMPTED (ENG-10, R190). -/
def Reg.ENG_SHADOW_REASON (e : Nat) : Fld := ⟨0x3002c + 0x200 * e, 8, 3⟩
/-- DM byte offset for STATE; item index otherwise (ENG-10, R190). -/
def Reg.ENG_MISMATCH (e : Nat) : Fld := ⟨0x30030 + 0x200 * e, 0, 32⟩
/-- Expert takeover and migration (ENG-11, R190). -/
def Reg.GRP_ENG_CFG_TAKEOVER (n : Nat) : Fld := ⟨0x10020 + 0x1000 * n, 0, 1⟩
/-- R174 (ENG-11, R190). -/
def Reg.GRP_ENG_CFG_CODE_MODE (n : Nat) : Fld := ⟨0x10020 + 0x1000 * n, 1, 1⟩
/-- 0 while unserved (ENG-11, R190). -/
def Reg.GRP_ENG_CFG_SERVED (n : Nat) : Fld := ⟨0x10020 + 0x1000 * n, 8, 1⟩
/-- Takeovers, cold included; saturating (ENG-11, R190). -/
def Reg.GRP_ENG_COUNT_TAKEOVERS (n : Nat) : Fld := ⟨0x10024 + 0x1000 * n, 0, 16⟩
/-- Completed migrations; saturating (ENG-11, R190). -/
def Reg.GRP_ENG_COUNT_MIGRATIONS (n : Nat) : Fld := ⟨0x10024 + 0x1000 * n, 16, 16⟩
/-- Lost slow samples since LOADING (ENG-11, R190). -/
def Reg.GRP_LOST (n : Nat) : Fld := ⟨0x10028 + 0x1000 * n, 0, 32⟩
/-- Set cause bit 17; reads 0 (ENG-11, R190). -/
def Reg.GRP_DOORBELL (n : Nat) : Fld := ⟨0x1002c + 0x1000 * n, 0, 1⟩
/-- Target engine (ENG-11, R190). -/
def Reg.GRP_MIGRATE_TARGET (n : Nat) : Fld := ⟨0x10030 + 0x1000 * n, 0, 5⟩
/-- Migration in progress (ENG-11, R190). -/
def Reg.GRP_MIGRATE_OPEN (n : Nat) : Fld := ⟨0x10030 + 0x1000 * n, 8, 1⟩
/-- Handover boundary (ENG-11, R190). -/
def Reg.GRP_MIGRATE_H (n : Nat) : Fld := ⟨0x10034 + 0x1000 * n, 0, 64⟩
/-- 0 = 64, 1 = 128, 2 = 256; 3 rejected (LOP-6, R278). -/
def Reg.CUR_CFG_OSR (x : Nat) : Fld := ⟨0xe0000 + 0x200 * x, 0, 2⟩
/-- R248 (LOP-6, R278). -/
def Reg.CUR_CFG_MEAS_ALIGN (x : Nat) : Fld := ⟨0xe0000 + 0x200 * x, 2, 1⟩
/-- R251 (LOP-6, R278). -/
def Reg.CUR_CFG_TWO_PHASE (x : Nat) : Fld := ⟨0xe0000 + 0x200 * x, 3, 1⟩
/-- R251 (LOP-6, R278). -/
def Reg.CUR_CFG_PHASE_SWAP (x : Nat) : Fld := ⟨0xe0000 + 0x200 * x, 4, 1⟩
/-- Table LOP-1 (LOP-6, R278). -/
def Reg.CUR_CFG_ANG_SRC (x : Nat) : Fld := ⟨0xe0000 + 0x200 * x, 5, 2⟩
/-- Feedback port (LOP-6, R278). -/
def Reg.CUR_CFG_ANG_FB (x : Nat) : Fld := ⟨0xe0000 + 0x200 * x, 8, 4⟩
/-- 1–64 (LOP-6, R278). -/
def Reg.CUR_CFG_POLE_PAIRS (x : Nat) : Fld := ⟨0xe0000 + 0x200 * x, 16, 7⟩
/-- Clocks, 20–2000 (LOP-6, R278). -/
def Reg.CUR_DEADTIME_DT (x : Nat) : Fld := ⟨0xe0004 + 0x200 * x, 0, 11⟩
/-- Clocks, DT–4 × DT, at most 8000 (LOP-6, R278). -/
def Reg.CUR_DEADTIME_DMIN (x : Nat) : Fld := ⟨0xe0004 + 0x200 * x, 16, 13⟩
/-- 0 OFF, 1 ENABLING, 2 RUN, 3 TRIPPED (LOP-6, R278). -/
def Reg.CUR_STAT_STATE (x : Nat) : Fld := ⟨0xe0008 + 0x200 * x, 0, 2⟩
/-- R257 (LOP-6, R278). -/
def Reg.CUR_STAT_SAT_D (x : Nat) : Fld := ⟨0xe0008 + 0x200 * x, 4, 1⟩
/-- R257 (LOP-6, R278). -/
def Reg.CUR_STAT_SAT_Q (x : Nat) : Fld := ⟨0xe0008 + 0x200 * x, 5, 1⟩
/-- Trip causes (Table LOP-2), held until CLEAR_FAULT (LOP-6, R278). -/
def Reg.CUR_STAT_OC (x : Nat) : Fld := ⟨0xe0008 + 0x200 * x, 8, 1⟩
/-- See the table. (LOP-6, R278). -/
def Reg.CUR_STAT_SUM (x : Nat) : Fld := ⟨0xe0008 + 0x200 * x, 9, 1⟩
/-- See the table. (LOP-6, R278). -/
def Reg.CUR_STAT_PS_FLT (x : Nat) : Fld := ⟨0xe0008 + 0x200 * x, 10, 1⟩
/-- See the table. (LOP-6, R278). -/
def Reg.CUR_STAT_SD_LOSS (x : Nat) : Fld := ⟨0xe0008 + 0x200 * x, 11, 1⟩
/-- R255 (LOP-6, R278). -/
def Reg.CUR_STAT_HALL_ERR (x : Nat) : Fld := ⟨0xe0008 + 0x200 * x, 12, 1⟩
/-- Fault input level (LOP-6, R278). -/
def Reg.CUR_STAT_FAULT_IN (x : Nat) : Fld := ⟨0xe0008 + 0x200 * x, 16, 1⟩
/-- Enable output active (LOP-6, R278). -/
def Reg.CUR_STAT_ENABLE_OUT (x : Nat) : Fld := ⟨0xe0008 + 0x200 * x, 17, 1⟩
/-- Brake energised (released) (LOP-6, R278). -/
def Reg.CUR_STAT_BRAKE_OUT (x : Nat) : Fld := ⟨0xe0008 + 0x200 * x, 18, 1⟩
/-- θ at the last boundary (LOP-6, R278). -/
def Reg.CUR_ANGLE (x : Nat) : Fld := ⟨0xe000c + 0x200 * x, 0, 32⟩
/-- i32 (R254) (LOP-6, R278). -/
def Reg.CUR_WE (x : Nat) : Fld := ⟨0xe0010 + 0x200 * x, 0, 32⟩
/-- Phase currents, Q1.31 (LOP-6, R278). -/
def Reg.CUR_IA (x : Nat) : Fld := ⟨0xe0014 + 0x200 * x, 0, 32⟩
/-- Phase currents, Q1.31 (LOP-6, R278). -/
def Reg.CUR_IB (x : Nat) : Fld := ⟨0xe0018 + 0x200 * x, 0, 32⟩
/-- Phase currents, Q1.31 (LOP-6, R278). -/
def Reg.CUR_IC (x : Nat) : Fld := ⟨0xe001c + 0x200 * x, 0, 32⟩
/-- Q1.31 (LOP-6, R278). -/
def Reg.CUR_ID (x : Nat) : Fld := ⟨0xe0020 + 0x200 * x, 0, 32⟩
/-- Q1.31 (LOP-6, R278). -/
def Reg.CUR_IQ (x : Nat) : Fld := ⟨0xe0024 + 0x200 * x, 0, 32⟩
/-- Applied vd, Q2.30 (LOP-6, R278). -/
def Reg.CUR_VD (x : Nat) : Fld := ⟨0xe0028 + 0x200 * x, 0, 32⟩
/-- Applied vq, Q2.30 (LOP-6, R278). -/
def Reg.CUR_VQ (x : Nat) : Fld := ⟨0xe002c + 0x200 * x, 0, 32⟩
/-- Compare values (LOP-6, R278). -/
def Reg.CUR_CMP_AB_A (x : Nat) : Fld := ⟨0xe0030 + 0x200 * x, 0, 16⟩
/-- Compare values (LOP-6, R278). -/
def Reg.CUR_CMP_AB_B (x : Nat) : Fld := ⟨0xe0030 + 0x200 * x, 16, 16⟩
/-- See the table. (LOP-6, R278). -/
def Reg.CUR_CMP_C (x : Nat) : Fld := ⟨0xe0034 + 0x200 * x, 0, 16⟩
/-- Applied d set-point, Q1.31 (LOP-6, R278). -/
def Reg.CUR_ID_SET (x : Nat) : Fld := ⟨0xe0038 + 0x200 * x, 0, 32⟩
/-- Applied q set-point, Q1.31 (LOP-6, R278). -/
def Reg.CUR_IQ_SET (x : Nat) : Fld := ⟨0xe003c + 0x200 * x, 0, 32⟩
/-- ANG_SRC 2 (LOP-6, R278). -/
def Reg.CUR_FORCE_ANGLE (x : Nat) : Fld := ⟨0xe0040 + 0x200 * x, 0, 32⟩
/-- UQ2.30 (R256) (LOP-6, R278). -/
def Reg.CUR_UDC_SCALE (x : Nat) : Fld := ⟨0xe0044 + 0x200 * x, 0, 32⟩
/-- Trips, saturating (LOP-6, R278). -/
def Reg.CUR_TRIP_CNT (x : Nat) : Fld := ⟨0xe0048 + 0x200 * x, 0, 16⟩
/-- UQ1.31 (LOP-6, R278). -/
def Reg.CUR_OC_LIM (x : Nat) : Fld := ⟨0xe0050 + 0x200 * x, 0, 32⟩
/-- 1–255 (LOP-6, R278). -/
def Reg.CUR_OC_FILT (x : Nat) : Fld := ⟨0xe0054 + 0x200 * x, 0, 8⟩
/-- UQ1.31 (LOP-6, R278). -/
def Reg.CUR_SUM_LIM (x : Nat) : Fld := ⟨0xe0058 + 0x200 * x, 0, 32⟩
/-- Table LOP-3 (LOP-6, R278). -/
def Reg.CUR_EN_DELAY (x : Nat) : Fld := ⟨0xe0060 + 0x200 * x, 0, 20⟩
/-- See the table. (LOP-6, R278). -/
def Reg.CUR_BRAKE_REL_DELAY (x : Nat) : Fld := ⟨0xe0064 + 0x200 * x, 0, 20⟩
/-- See the table. (LOP-6, R278). -/
def Reg.CUR_BRAKE_ENG_DELAY (x : Nat) : Fld := ⟨0xe0068 + 0x200 * x, 0, 20⟩
/-- Coefficient word k of the write window (LOP-6, R278). -/
def Reg.CUR_COEF_W (x k : Nat) : Fld := ⟨0xe0080 + 0x200 * x + 4 * k, 0, 32⟩
/-- Coefficient word k of the active view (LOP-6, R278). -/
def Reg.CUR_COEF_A (x k : Nat) : Fld := ⟨0xe00c0 + 0x200 * x + 4 * k, 0, 32⟩
/-- Q1.31 (R247) (LOP-6, R278). -/
def Reg.CUR_OFS_A (x : Nat) : Fld := ⟨0xe0100 + 0x200 * x, 0, 32⟩
/-- Q1.31 (R247) (LOP-6, R278). -/
def Reg.CUR_OFS_B (x : Nat) : Fld := ⟨0xe0104 + 0x200 * x, 0, 32⟩
/-- Q1.31 (R247) (LOP-6, R278). -/
def Reg.CUR_OFS_C (x : Nat) : Fld := ⟨0xe0108 + 0x200 * x, 0, 32⟩
/-- UQ2.30 (LOP-6, R278). -/
def Reg.CUR_GAIN_A (x : Nat) : Fld := ⟨0xe010c + 0x200 * x, 0, 32⟩
/-- UQ2.30 (LOP-6, R278). -/
def Reg.CUR_GAIN_B (x : Nat) : Fld := ⟨0xe0110 + 0x200 * x, 0, 32⟩
/-- UQ2.30 (LOP-6, R278). -/
def Reg.CUR_GAIN_C (x : Nat) : Fld := ⟨0xe0114 + 0x200 * x, 0, 32⟩
/-- Commutation offset (LOP-6, R278). -/
def Reg.CUR_ANG_OFS (x : Nat) : Fld := ⟨0xe0118 + 0x200 * x, 0, 32⟩
/-- Bits [3*c*+2:3*c*]: sector 0–5 for Hall code *c* (LOP-6, R278). -/
def Reg.CUR_HALL_MAP (x : Nat) : Fld := ⟨0xe011c + 0x200 * x, 0, 24⟩
/-- Group fault LOOP_FOLLOW (R266) (LOP-7, R279). -/
def Reg.AXIS_LOOP_FLT_FOLLOW (x : Nat) : Fld := ⟨0x20100 + 0x400 * x, 0, 1⟩
/-- Group fault LOOP_VEL (LOP-7, R279). -/
def Reg.AXIS_LOOP_FLT_VEL (x : Nat) : Fld := ⟨0x20100 + 0x400 * x, 1, 1⟩
/-- Group fault LOOP_USER (LOP-7, R279). -/
def Reg.AXIS_LOOP_FLT_USER (x : Nat) : Fld := ⟨0x20100 + 0x400 * x, 2, 1⟩
/-- Carried in the fault's ledger record (LOP-7, R279). -/
def Reg.AXIS_LOOP_FLT_DETAIL (x : Nat) : Fld := ⟨0x20100 + 0x400 * x, 16, 16⟩
/-- Table LOP-4; 4 for an inert or local axis (LOP-7, R279). -/
def Reg.AXIS_NET_STAT_DSTATE (x : Nat) : Fld := ⟨0x20110 + 0x400 * x, 0, 3⟩
/-- Consecutive valid frames (LOP-7, R279). -/
def Reg.AXIS_NET_STAT_SYNC_CNT (x : Nat) : Fld := ⟨0x20110 + 0x400 * x, 8, 8⟩
/-- EPOCH recorded at READY (LOP-7, R279). -/
def Reg.AXIS_NET_STAT_EPOCH (x : Nat) : Fld := ⟨0x20110 + 0x400 * x, 16, 8⟩
/-- Missed cycles, saturating (LOP-7, R279). -/
def Reg.AXIS_NET_MISS (x : Nat) : Fld := ⟨0x20114 + 0x400 * x, 0, 32⟩
/-- Last valid position, Q40.24 (LOP-7, R279). -/
def Reg.AXIS_NET_POS_RAW (x : Nat) : Fld := ⟨0x20118 + 0x400 * x, 0, 64⟩
/-- Its sample NTIME (LOP-7, R279). -/
def Reg.AXIS_NET_SAMPLE (x : Nat) : Fld := ⟨0x20120 + 0x400 * x, 0, 64⟩
/-- 1–4 (LOP-7, R279). -/
def Reg.AXIS_NET_CFG_APPLY_DELAY (x : Nat) : Fld := ⟨0x20128 + 0x400 * x, 0, 3⟩
/-- 1–15; default 3 (LOP-7, R279). -/
def Reg.AXIS_NET_CFG_MISS_LIMIT (x : Nat) : Fld := ⟨0x20128 + 0x400 * x, 8, 4⟩
/-- 4–64; default 8 (LOP-7, R279). -/
def Reg.AXIS_NET_CFG_RESYNC_N (x : Nat) : Fld := ⟨0x20128 + 0x400 * x, 16, 8⟩
/-- NET_TOL_NS; default 1000 (LOP-7, R279). -/
def Reg.AXIS_NET_TOL (x : Nat) : Fld := ⟨0x2012c + 0x400 * x, 0, 16⟩
/-- Coefficient word k of the write window (LOP-7, R279). -/
def Reg.AXIS_COEF_W (x k : Nat) : Fld := ⟨0x20200 + 0x400 * x + 4 * k, 0, 32⟩
/-- Coefficient word k of the active view (LOP-7, R279). -/
def Reg.AXIS_COEF_A (x k : Nat) : Fld := ⟨0x20280 + 0x400 * x + 4 * k, 0, 32⟩
/-- 0 BANKED, 1 DIRECT (LOP-8, R280). -/
def Reg.GRP_COEF_STAT_MODE (n : Nat) : Fld := ⟨0x10040 + 0x1000 * n, 0, 1⟩
/-- Active bank: 0 A, 1 B (LOP-8, R280). -/
def Reg.GRP_COEF_STAT_ACTIVE (n : Nat) : Fld := ⟨0x10040 + 0x1000 * n, 1, 1⟩
/-- Swap requested, not yet taken (LOP-8, R280). -/
def Reg.GRP_COEF_STAT_PENDING (n : Nat) : Fld := ⟨0x10040 + 0x1000 * n, 2, 1⟩
/-- Swaps taken, saturating (LOP-8, R280). -/
def Reg.GRP_COEF_STAT_SWAPS (n : Nat) : Fld := ⟨0x10040 + 0x1000 * n, 16, 16⟩
/-- R274; cleared by a Clave swap (LOP-8, R280). -/
def Reg.GRP_COEF_CTL (n : Nat) : Fld := ⟨0x10044 + 0x1000 * n, 0, 1⟩
/-- Boundary of the last swap (LOP-8, R280). -/
def Reg.GRP_COEF_SWAP_NTIME (n : Nat) : Fld := ⟨0x10048 + 0x1000 * n, 0, 64⟩
/-- Ignored Clave swaps, saturating (LOP-8, R280). -/
def Reg.GRP_COEF_IGN (n : Nat) : Fld := ⟨0x10050 + 0x1000 * n, 0, 16⟩
/-- 0 profile, 1 path, 2 gear/cam, 3 follow (SET-5, R320). -/
def Reg.AXIS_SRC_SOURCE (x : Nat) : Fld := ⟨0x20000 + 0x400 * x, 0, 3⟩
/-- Motion in progress (R286) (SET-5, R320). -/
def Reg.AXIS_SRC_ACTIVE (x : Nat) : Fld := ⟨0x20000 + 0x400 * x, 4, 1⟩
/-- Brought to rest by HOLD (SET-5, R320). -/
def Reg.AXIS_SRC_HELD (x : Nat) : Fld := ⟨0x20000 + 0x400 * x, 5, 1⟩
/-- Decelerating toward a reversal rest point (SET-5, R320). -/
def Reg.AXIS_SRC_REVERSING (x : Nat) : Fld := ⟨0x20000 + 0x400 * x, 6, 1⟩
/-- R265 (SET-5, R320). -/
def Reg.AXIS_SRC_POWERED (x : Nat) : Fld := ⟨0x20000 + 0x400 * x, 8, 1⟩
/-- Q40.24 (SET-5, R320). -/
def Reg.AXIS_POS_CMD (x : Nat) : Fld := ⟨0x20008 + 0x400 * x, 0, 64⟩
/-- Q40.24 per slow sample (SET-5, R320). -/
def Reg.AXIS_VEL_CMD (x : Nat) : Fld := ⟨0x20010 + 0x400 * x, 0, 64⟩
/-- Q40.24 per slow sample squared (SET-5, R320). -/
def Reg.AXIS_ACC_CMD (x : Nat) : Fld := ⟨0x20018 + 0x400 * x, 0, 64⟩
/-- Q40.24 (SET-5, R320). -/
def Reg.AXIS_POS_ACT (x : Nat) : Fld := ⟨0x20020 + 0x400 * x, 0, 64⟩
/-- Profile target (SET-5, R320). -/
def Reg.AXIS_TARGET (x : Nat) : Fld := ⟨0x20028 + 0x400 * x, 0, 64⟩
/-- Q40.24 (SET-5, R320). -/
def Reg.AXIS_SOFT_MIN (x : Nat) : Fld := ⟨0x20030 + 0x400 * x, 0, 64⟩
/-- Q40.24 (SET-5, R320). -/
def Reg.AXIS_SOFT_MAX (x : Nat) : Fld := ⟨0x20038 + 0x400 * x, 0, 64⟩
/-- R317 (SET-5, R320). -/
def Reg.AXIS_LIM_CFG_SOFT_EN (x : Nat) : Fld := ⟨0x20040 + 0x400 * x, 0, 1⟩
/-- R297 (SET-5, R320). -/
def Reg.AXIS_LIM_CFG_REJECT_REVERSE (x : Nat) : Fld := ⟨0x20040 + 0x400 * x, 1, 1⟩
/-- Ceiling (SET-5, R320). -/
def Reg.AXIS_V_MAX (x : Nat) : Fld := ⟨0x20048 + 0x400 * x, 0, 64⟩
/-- Ceiling (SET-5, R320). -/
def Reg.AXIS_A_MAX (x : Nat) : Fld := ⟨0x20050 + 0x400 * x, 0, 64⟩
/-- Ceiling (SET-5, R320). -/
def Reg.AXIS_D_MAX (x : Nat) : Fld := ⟨0x20058 + 0x400 * x, 0, 64⟩
/-- Ceiling (SET-5, R320). -/
def Reg.AXIS_J_MAX (x : Nat) : Fld := ⟨0x20060 + 0x400 * x, 0, 64⟩
/-- DECEL reaction deceleration (SET-5, R320). -/
def Reg.AXIS_FAULT_DEC (x : Nat) : Fld := ⟨0x20068 + 0x400 * x, 0, 64⟩
/-- DECEL reaction jerk (SET-5, R320). -/
def Reg.AXIS_FAULT_JERK (x : Nat) : Fld := ⟨0x20070 + 0x400 * x, 0, 64⟩
/-- Profile reversals, saturating (SET-5, R320). -/
def Reg.AXIS_REV_COUNT (x : Nat) : Fld := ⟨0x20078 + 0x400 * x, 0, 16⟩
/-- Last OVERSHOOT (SET-5, R320). -/
def Reg.AXIS_LAST_OVERSHOOT (x : Nat) : Fld := ⟨0x20080 + 0x400 * x, 0, 64⟩
/-- 0 none, 1 gear, 2 cam (SET-5, R320). -/
def Reg.AXIS_CPL_CFG_KIND (x : Nat) : Fld := ⟨0x20300 + 0x400 * x, 0, 2⟩
/-- Table SET-4 (SET-5, R320). -/
def Reg.AXIS_CPL_CFG_MSRC (x : Nat) : Fld := ⟨0x20300 + 0x400 * x, 4, 3⟩
/-- Table SET-4 (SET-5, R320). -/
def Reg.AXIS_CPL_CFG_MIDX (x : Nat) : Fld := ⟨0x20300 + 0x400 * x, 8, 5⟩
/-- R312 (SET-5, R320). -/
def Reg.AXIS_CPL_CFG_CYCLIC (x : Nat) : Fld := ⟨0x20300 + 0x400 * x, 16, 1⟩
/-- R312 (SET-5, R320). -/
def Reg.AXIS_CPL_CFG_CUBIC (x : Nat) : Fld := ⟨0x20300 + 0x400 * x, 17, 1⟩
/-- 0 off, 1 clutching, 2 engaged, 3 suspended (SET-5, R320). -/
def Reg.AXIS_CPL_STAT_CLUTCH (x : Nat) : Fld := ⟨0x20304 + 0x400 * x, 0, 2⟩
/-- Clutch progress u, UQ0.24 (SET-5, R320). -/
def Reg.AXIS_CPL_STAT_U (x : Nat) : Fld := ⟨0x20304 + 0x400 * x, 8, 24⟩
/-- i32 (SET-5, R320). -/
def Reg.AXIS_GEAR_NUM (x : Nat) : Fld := ⟨0x20308 + 0x400 * x, 0, 32⟩
/-- u32 (SET-5, R320). -/
def Reg.AXIS_GEAR_DEN (x : Nat) : Fld := ⟨0x2030c + 0x400 * x, 0, 32⟩
/-- OFFSET (SET-5, R320). -/
def Reg.AXIS_CPL_OFFSET (x : Nat) : Fld := ⟨0x20310 + 0x400 * x, 0, 64⟩
/-- M0 (SET-5, R320). -/
def Reg.AXIS_CPL_M0 (x : Nat) : Fld := ⟨0x20318 + 0x400 * x, 0, 64⟩
/-- Signed CLUTCH (SET-5, R320). -/
def Reg.AXIS_CLUTCH (x : Nat) : Fld := ⟨0x20320 + 0x400 * x, 0, 64⟩
/-- Byte offset in the cam area (SET-5, R320). -/
def Reg.AXIS_CAM_BASE (x : Nat) : Fld := ⟨0x20328 + 0x400 * x, 0, 27⟩
/-- 2–65 536 (SET-5, R320). -/
def Reg.AXIS_CAM_N (x : Nat) : Fld := ⟨0x2032c + 0x400 * x, 0, 17⟩
/-- PERIOD (SET-5, R320). -/
def Reg.AXIS_CAM_PERIOD (x : Nat) : Fld := ⟨0x20330 + 0x400 * x, 0, 64⟩
/-- i32 (SET-5, R320). -/
def Reg.AXIS_CAM_CYCLES (x : Nat) : Fld := ⟨0x20338 + 0x400 * x, 0, 32⟩
/-- 0–3 AI0–AI3, 4–7 PU0–PU3, 0xFF off (SET-5, R320). -/
def Reg.AXIS_FOL_CFG_SRC (x : Nat) : Fld := ⟨0x20380 + 0x400 * x, 0, 8⟩
/-- 0 POSITION, 1 VELOCITY (SET-5, R320). -/
def Reg.AXIS_FOL_CFG_MODE (x : Nat) : Fld := ⟨0x20380 + 0x400 * x, 8, 1⟩
/-- Q40.24 units per count (SET-5, R320). -/
def Reg.AXIS_FOL_SCALE (x : Nat) : Fld := ⟨0x20388 + 0x400 * x, 0, 64⟩
/-- Q40.24 (SET-5, R320). -/
def Reg.AXIS_FOL_OFFSET (x : Nat) : Fld := ⟨0x20390 + 0x400 * x, 0, 64⟩
/-- F_VMAX (SET-5, R320). -/
def Reg.AXIS_FOL_VMAX (x : Nat) : Fld := ⟨0x20398 + 0x400 * x, 0, 64⟩
/-- F_AMAX (SET-5, R320). -/
def Reg.AXIS_FOL_AMAX (x : Nat) : Fld := ⟨0x203a0 + 0x400 * x, 0, 64⟩
/-- 0 DISABLED, 1 ENABLED, 2 MOVING, 3 HELD, 4 STOPPING, 5 FAULT, 6 TAKEOVER (SET-6, R320). -/
def Reg.GRP_STATE_STATE (n : Nat) : Fld := ⟨0x10100 + 0x1000 * n, 0, 3⟩
/-- R287 (SET-6, R320). -/
def Reg.GRP_STATE_POWERING (n : Nat) : Fld := ⟨0x10100 + 0x1000 * n, 8, 1⟩
/-- Path interpolator running (SET-6, R320). -/
def Reg.GRP_STATE_PATH_RUN (n : Nat) : Fld := ⟨0x10100 + 0x1000 * n, 9, 1⟩
/-- R307 (SET-6, R320). -/
def Reg.GRP_FEED_OVR (n : Nat) : Fld := ⟨0x10104 + 0x1000 * n, 0, 11⟩
/-- R299 (SET-6, R320). -/
def Reg.GRP_PATH_AXES (n : Nat) : Fld := ⟨0x10108 + 0x1000 * n, 0, 32⟩
/-- Path acceleration limit (SET-6, R320). -/
def Reg.GRP_A_PATH (n : Nat) : Fld := ⟨0x10110 + 0x1000 * n, 0, 64⟩
/-- Path jerk limit (SET-6, R320). -/
def Reg.GRP_J_PATH (n : Nat) : Fld := ⟨0x10118 + 0x1000 * n, 0, 64⟩
/-- Records queued, 0–262 144 (SET-6, R320). -/
def Reg.GRP_QUEUE (n : Nat) : Fld := ⟨0x10120 + 0x1000 * n, 0, 19⟩
/-- Segments in look-ahead, 0–512 (SET-6, R320). -/
def Reg.GRP_PLANNED (n : Nat) : Fld := ⟨0x10124 + 0x1000 * n, 0, 10⟩
/-- Arc length at the last boundary (SET-6, R320). -/
def Reg.GRP_ARC_POS (n : Nat) : Fld := ⟨0x10128 + 0x1000 * n, 0, 64⟩
/-- Arc length at the end of the last appended segment (SET-6, R320). -/
def Reg.GRP_ARC_END (n : Nat) : Fld := ⟨0x10130 + 0x1000 * n, 0, 64⟩
/-- Running segment's TAG (SET-6, R320). -/
def Reg.GRP_SEG_TAG (n : Nat) : Fld := ⟨0x10138 + 0x1000 * n, 0, 16⟩
/-- Path speed, Q40.24 per slow sample (SET-6, R320). -/
def Reg.GRP_PATH_VEL (n : Nat) : Fld := ⟨0x10140 + 0x1000 * n, 0, 64⟩
/-- R306, saturating (SET-6, R320). -/
def Reg.GRP_UNDERRUN (n : Nat) : Fld := ⟨0x10148 + 0x1000 * n, 0, 16⟩
/-- R301 (SET-6, R320). -/
def Reg.GRP_ARC_TOL (n : Nat) : Fld := ⟨0x10150 + 0x1000 * n, 0, 64⟩
/-- Table CLV-1 (CLV-7, R354). -/
def Reg.CLAVE_CFG_SRC (n : Nat) : Fld := ⟨0x40000 + 0x400 * n, 0, 3⟩
/-- Table CLV-1 (CLV-7, R354). -/
def Reg.CLAVE_CFG_IDX (n : Nat) : Fld := ⟨0x40000 + 0x400 * n, 8, 5⟩
/-- R337 (CLV-7, R354). -/
def Reg.CLAVE_CFG_SUPPRESS (n : Nat) : Fld := ⟨0x40000 + 0x400 * n, 16, 1⟩
/-- R329; default 1 (CLV-7, R354). -/
def Reg.CLAVE_CFG_PASSED (n : Nat) : Fld := ⟨0x40000 + 0x400 * n, 17, 1⟩
/-- R343 (CLV-7, R354). -/
def Reg.CLAVE_CFG_RECORD (n : Nat) : Fld := ⟨0x40000 + 0x400 * n, 18, 1⟩
/-- 1–255; default 4 (CLV-7, R354). -/
def Reg.CLAVE_CFG_MIN_PULSE (n : Nat) : Fld := ⟨0x40000 + 0x400 * n, 24, 8⟩
/-- R323 (CLV-7, R354). -/
def Reg.CLAVE_STAT_SRC_VALID (n : Nat) : Fld := ⟨0x40004 + 0x400 * n, 0, 1⟩
/-- 802.1AS not synchronised (CLV-7, R354). -/
def Reg.CLAVE_STAT_TIME_UNSYNC (n : Nat) : Fld := ⟨0x40004 + 0x400 * n, 1, 1⟩
/-- Coordinate at the last slow boundary (CLV-7, R354). -/
def Reg.CLAVE_COORD (n : Nat) : Fld := ⟨0x40008 + 0x400 * n, 0, 64⟩
/-- Entries in the window (CLV-7, R354). -/
def Reg.CLAVE_PENDING (n : Nat) : Fld := ⟨0x40010 + 0x400 * n, 0, 11⟩
/-- Entries queued outside the window (CLV-7, R354). -/
def Reg.CLAVE_QUEUED (n : Nat) : Fld := ⟨0x40014 + 0x400 * n, 0, 21⟩
/-- Actions executed, wrapping (CLV-7, R354). -/
def Reg.CLAVE_EXECUTED (n : Nat) : Fld := ⟨0x40018 + 0x400 * n, 0, 32⟩
/-- R335 (CLV-7, R354). -/
def Reg.CLAVE_ORPHAN_OFF (n : Nat) : Fld := ⟨0x4001c + 0x400 * n, 0, 16⟩
/-- R336 (CLV-7, R354). -/
def Reg.CLAVE_SHORT (n : Nat) : Fld := ⟨0x40020 + 0x400 * n, 0, 16⟩
/-- R337 (CLV-7, R354). -/
def Reg.CLAVE_SUPPRESSED (n : Nat) : Fld := ⟨0x40024 + 0x400 * n, 0, 16⟩
/-- R338 (CLV-7, R354). -/
def Reg.CLAVE_GAP_MERGED (n : Nat) : Fld := ⟨0x40028 + 0x400 * n, 0, 16⟩
/-- R333 (CLV-7, R354). -/
def Reg.CLAVE_LATE (n : Nat) : Fld := ⟨0x4002c + 0x400 * n, 0, 16⟩
/-- Lateness of the last late action (CLV-7, R354). -/
def Reg.CLAVE_LAST_LATE (n : Nat) : Fld := ⟨0x40030 + 0x400 * n, 0, 24⟩
/-- R329 (CLV-7, R354). -/
def Reg.CLAVE_PASSED (n : Nat) : Fld := ⟨0x40034 + 0x400 * n, 0, 16⟩
/-- R334 (CLV-7, R354). -/
def Reg.CLAVE_DEFERRED (n : Nat) : Fld := ⟨0x40038 + 0x400 * n, 0, 16⟩
/-- R339, R340, R345 (CLV-7, R354). -/
def Reg.CLAVE_BLOCKED (n : Nat) : Fld := ⟨0x4003c + 0x400 * n, 0, 16⟩
/-- R326, engine appends (CLV-7, R354). -/
def Reg.CLAVE_REJECTED (n : Nat) : Fld := ⟨0x40040 + 0x400 * n, 0, 16⟩
/-- R341 (CLV-7, R354). -/
def Reg.CLAVE_DO_LOST (n : Nat) : Fld := ⟨0x40044 + 0x400 * n, 0, 16⟩
/-- R343 (CLV-7, R354). -/
def Reg.CLAVE_REC_LOST (n : Nat) : Fld := ⟨0x40048 + 0x400 * n, 0, 16⟩
/-- R322 (CLV-7, R354). -/
def Reg.CLAVE_TIME_ORIGIN (n : Nat) : Fld := ⟨0x40050 + 0x400 * n, 0, 64⟩
/-- R339; 0 off (CLV-7, R354). -/
def Reg.CLAVE_HO_LIM_MAX_SPAN (n k : Nat) : Fld := ⟨0x40100 + 0x400 * n + 0x10 * k, 0, 64⟩
/-- R339; 0 off (CLV-7, R354). -/
def Reg.CLAVE_HO_LIM_MAX_ON (n k : Nat) : Fld := ⟨0x40108 + 0x400 * n + 0x10 * k, 0, 32⟩
/-- Output state (CLV-7, R354). -/
def Reg.CLAVE_HO_STATE_ON (n k : Nat) : Fld := ⟨0x40180 + 0x400 * n + 4 * k, 0, 1⟩
/-- R339 (CLV-7, R354). -/
def Reg.CLAVE_HO_STATE_BLOCKED (n k : Nat) : Fld := ⟨0x40180 + 0x400 * n + 4 * k, 1, 1⟩
/-- 0 none, 1 SPAN, 2 MAXON, 3 SOURCE or FAULT (CLV-7, R354). -/
def Reg.CLAVE_HO_STATE_CAUSE (n k : Nat) : Fld := ⟨0x40180 + 0x400 * n + 4 * k, 2, 2⟩
/-- Table CLV-5 (CLV-8, R355). -/
def Reg.SNARE_CFG_KIND (u : Nat) : Fld := ⟨0x50000 + 0x80 * u, 0, 2⟩
/-- Table CLV-5: HI index 0–7, port 0–15, 0, or DI index 0–31, by KIND (CLV-8, R355). -/
def Reg.SNARE_CFG_SEL (u : Nat) : Fld := ⟨0x50000 + 0x80 * u, 4, 5⟩
/-- 0b01 rising, 0b10 falling, 0b11 both (CLV-8, R355). -/
def Reg.SNARE_CFG_EDGE (u : Nat) : Fld := ⟨0x50000 + 0x80 * u, 12, 2⟩
/-- R350 (CLV-8, R355). -/
def Reg.SNARE_HOLDOFF (u : Nat) : Fld := ⟨0x50004 + 0x80 * u, 0, 16⟩
/-- 1–4096 (CLV-8, R355). -/
def Reg.SNARE_DEPTH (u : Nat) : Fld := ⟨0x50008 + 0x80 * u, 0, 13⟩
/-- See the table. (CLV-8, R355). -/
def Reg.SNARE_STAT_ARMED (u : Nat) : Fld := ⟨0x5000c + 0x80 * u, 0, 1⟩
/-- 0 ONESHOT, 1 CONTINUOUS (CLV-8, R355). -/
def Reg.SNARE_STAT_MODE (u : Nat) : Fld := ⟨0x5000c + 0x80 * u, 1, 1⟩
/-- Edges awaiting completion, 0–4 (CLV-8, R355). -/
def Reg.SNARE_STAT_PENDING (u : Nat) : Fld := ⟨0x5000c + 0x80 * u, 2, 3⟩
/-- Unread records (CLV-8, R355). -/
def Reg.SNARE_STAT_STORED (u : Nat) : Fld := ⟨0x5000c + 0x80 * u, 16, 13⟩
/-- SEQ of the last stored record (CLV-8, R355). -/
def Reg.SNARE_SEQ (u : Nat) : Fld := ⟨0x50010 + 0x80 * u, 0, 32⟩
/-- R351 (CLV-8, R355). -/
def Reg.SNARE_LOST (u : Nat) : Fld := ⟨0x50014 + 0x80 * u, 0, 16⟩
/-- R350 (CLV-8, R355). -/
def Reg.SNARE_OVERRUN (u : Nat) : Fld := ⟨0x50018 + 0x80 * u, 0, 16⟩
/-- R350 (CLV-8, R355). -/
def Reg.SNARE_HOLDOFF_MISS (u : Nat) : Fld := ⟨0x5001c + 0x80 * u, 0, 16⟩
/-- R348 (CLV-8, R355). -/
def Reg.SNARE_EMPTY_WIN (u : Nat) : Fld := ⟨0x50020 + 0x80 * u, 0, 16⟩
/-- Latest record (CLV-8, R355). -/
def Reg.SNARE_LAST_NTIME (u : Nat) : Fld := ⟨0x50028 + 0x80 * u, 0, 64⟩
/-- Latest record (CLV-8, R355). -/
def Reg.SNARE_LAST_COORD (u : Nat) : Fld := ⟨0x50030 + 0x80 * u, 0, 64⟩
/-- R344 (CLV-9, R356). -/
def Reg.FIELD_HI_CFG_FILT (k : Nat) : Fld := ⟨0x78000 + 4 * k, 0, 8⟩
/-- 1 inverts (CLV-9, R356). -/
def Reg.FIELD_HI_CFG_POL (k : Nat) : Fld := ⟨0x78000 + 4 * k, 8, 1⟩
/-- After filter and POL (CLV-9, R356). -/
def Reg.FIELD_HI_STAT_LEVEL : Fld := ⟨0x78020, 0, 8⟩
/-- R344 (CLV-9, R356). -/
def Reg.FIELD_HI_STAT_LINE_FAULT : Fld := ⟨0x78020, 8, 8⟩
/-- 0: ON drives the non-inverted line high (CLV-9, R356). -/
def Reg.FIELD_HO_CFG_POL (k : Nat) : Fld := ⟨0x78040 + 4 * k, 0, 1⟩
/-- R345; 3 is treated as 0 (CLV-9, R356). -/
def Reg.FIELD_HO_CFG_MODE (k : Nat) : Fld := ⟨0x78040 + 4 * k, 1, 2⟩
/-- Output states (CLV-9, R356). -/
def Reg.FIELD_HO_STAT : Fld := ⟨0x78060, 0, 8⟩
/-- Table FBK-1 (FBK-3, R383). -/
def Reg.FB_CFG_TYPE (p : Nat) : Fld := ⟨0x60000 + 0x200 * p, 0, 3⟩
/-- R358 (FBK-3, R383). -/
def Reg.FB_CFG_DIR (p : Nat) : Fld := ⟨0x60000 + 0x200 * p, 3, 1⟩
/-- R368 (FBK-3, R383). -/
def Reg.FB_CFG_ZGATE (p : Nat) : Fld := ⟨0x60000 + 0x200 * p, 4, 3⟩
/-- Axis served (FBK-3, R383). -/
def Reg.FB_CFG_POS_AXIS (p : Nat) : Fld := ⟨0x60000 + 0x200 * p, 8, 5⟩
/-- R362 (FBK-3, R383). -/
def Reg.FB_CFG_POS_EN (p : Nat) : Fld := ⟨0x60000 + 0x200 * p, 13, 1⟩
/-- 0–24 (R361) (FBK-3, R383). -/
def Reg.FB_CFG_CSHIFT (p : Nat) : Fld := ⟨0x60000 + 0x200 * p, 16, 5⟩
/-- R358 (FBK-3, R383). -/
def Reg.FB_FILT_LINE_FILT (p : Nat) : Fld := ⟨0x60004 + 0x200 * p, 0, 3⟩
/-- 1–255 (FBK-3, R383). -/
def Reg.FB_FILT_ILL_LIMIT (p : Nat) : Fld := ⟨0x60004 + 0x200 * p, 8, 8⟩
/-- 1–255 (FBK-3, R383). -/
def Reg.FB_FILT_AMP_FILT (p : Nat) : Fld := ⟨0x60004 + 0x200 * p, 16, 8⟩
/-- 1–15 (FBK-3, R383). -/
def Reg.FB_FILT_ERR_LIMIT (p : Nat) : Fld := ⟨0x60004 + 0x200 * p, 24, 4⟩
/-- R377 (FBK-3, R383). -/
def Reg.FB_STAT_VALID (p : Nat) : Fld := ⟨0x60008 + 0x200 * p, 0, 1⟩
/-- R374 (FBK-3, R383). -/
def Reg.FB_STAT_STALE (p : Nat) : Fld := ⟨0x60008 + 0x200 * p, 1, 1⟩
/-- R379 (FBK-3, R383). -/
def Reg.FB_STAT_REF_LOST (p : Nat) : Fld := ⟨0x60008 + 0x200 * p, 2, 1⟩
/-- R361 (FBK-3, R383). -/
def Reg.FB_STAT_WRAPPED (p : Nat) : Fld := ⟨0x60008 + 0x200 * p, 3, 1⟩
/-- R371 (FBK-3, R383). -/
def Reg.FB_STAT_WARN_AMP (p : Nat) : Fld := ⟨0x60008 + 0x200 * p, 4, 1⟩
/-- R374 (FBK-3, R383). -/
def Reg.FB_STAT_ENC_WARN (p : Nat) : Fld := ⟨0x60008 + 0x200 * p, 5, 1⟩
/-- R363 (FBK-3, R383). -/
def Reg.FB_STAT_OFS_PENDING (p : Nat) : Fld := ⟨0x60008 + 0x200 * p, 6, 1⟩
/-- R376 (FBK-3, R383). -/
def Reg.FB_STAT_FAULT (p : Nat) : Fld := ⟨0x60008 + 0x200 * p, 8, 1⟩
/-- 0 none, 1 LINE, 2 AMP_LOW, 3 AMP_HIGH, 4 ILLEGAL, 5 COMM, 6 OVERSPEED, 7 JUMP (FBK-3, R383). -/
def Reg.FB_STAT_CAUSE (p : Nat) : Fld := ⟨0x60008 + 0x200 * p, 9, 3⟩
/-- L1+, L1−, L2+, L2−, L3+, L3− (FBK-3, R383). -/
def Reg.FB_STAT_LINE_BAD (p : Nat) : Fld := ⟨0x60008 + 0x200 * p, 16, 6⟩
/-- Filtered L1–L3 (FBK-3, R383). -/
def Reg.FB_STAT_LEVEL (p : Nat) : Fld := ⟨0x60008 + 0x200 * p, 24, 3⟩
/-- Presented count, i64 (FBK-3, R383). -/
def Reg.FB_COUNT (p : Nat) : Fld := ⟨0x60010 + 0x200 * p, 0, 64⟩
/-- Port position, Q40.24 (FBK-3, R383). -/
def Reg.FB_POS (p : Nat) : Fld := ⟨0x60018 + 0x200 * p, 0, 64⟩
/-- i32 (FBK-3, R383). -/
def Reg.FB_SCALE_NUM (p : Nat) : Fld := ⟨0x60020 + 0x200 * p, 0, 32⟩
/-- u32, ≥ 1 (FBK-3, R383). -/
def Reg.FB_SCALE_DEN (p : Nat) : Fld := ⟨0x60024 + 0x200 * p, 0, 32⟩
/-- Q40.24, group units; reads the value in effect (R363) (FBK-3, R383). -/
def Reg.FB_OFFSET (p : Nat) : Fld := ⟨0x60028 + 0x200 * p, 0, 64⟩
/-- R364 (FBK-3, R383). -/
def Reg.FB_TURN (p : Nat) : Fld := ⟨0x60030 + 0x200 * p, 0, 32⟩
/-- Mechanical angle (FBK-3, R383). -/
def Reg.FB_ANGLE (p : Nat) : Fld := ⟨0x60034 + 0x200 * p, 0, 32⟩
/-- Clears REF_LOST; reads 0 (FBK-3, R383). -/
def Reg.FB_CTL (p : Nat) : Fld := ⟨0x60038 + 0x200 * p, 0, 1⟩
/-- R367 (FBK-3, R383). -/
def Reg.FB_ILLEGAL (p : Nat) : Fld := ⟨0x6003c + 0x200 * p, 0, 16⟩
/-- Failed reads (FBK-3, R383). -/
def Reg.FB_ERRORS (p : Nat) : Fld := ⟨0x60040 + 0x200 * p, 0, 16⟩
/-- Faults raised (FBK-3, R383). -/
def Reg.FB_FAULTS (p : Nat) : Fld := ⟨0x60044 + 0x200 * p, 0, 16⟩
/-- R368 (FBK-3, R383). -/
def Reg.FB_INDEX_COUNT (p : Nat) : Fld := ⟨0x60048 + 0x200 * p, 0, 64⟩
/-- Default 5461 (FBK-3, R383). -/
def Reg.FB_NOM (p : Nat) : Fld := ⟨0x60080 + 0x200 * p, 0, 16⟩
/-- 2–12 (FBK-3, R383). -/
def Reg.FB_INTERP (p : Nat) : Fld := ⟨0x60084 + 0x200 * p, 0, 4⟩
/-- i16 each (FBK-3, R383). -/
def Reg.FB_OFS_SC_SIN (p : Nat) : Fld := ⟨0x60088 + 0x200 * p, 0, 16⟩
/-- i16 each (FBK-3, R383). -/
def Reg.FB_OFS_SC_COS (p : Nat) : Fld := ⟨0x60088 + 0x200 * p, 16, 16⟩
/-- UQ2.30 (FBK-3, R383). -/
def Reg.FB_GAIN_COS (p : Nat) : Fld := ⟨0x6008c + 0x200 * p, 0, 32⟩
/-- UQ2.30 (FBK-3, R383). -/
def Reg.FB_WIN_LO (p : Nat) : Fld := ⟨0x60090 + 0x200 * p, 0, 32⟩
/-- UQ2.30 (FBK-3, R383). -/
def Reg.FB_WIN_HI (p : Nat) : Fld := ⟨0x60094 + 0x200 * p, 0, 32⟩
/-- UQ2.30 (FBK-3, R383). -/
def Reg.FB_WARN_LO (p : Nat) : Fld := ⟨0x60098 + 0x200 * p, 0, 32⟩
/-- UQ2.30 (FBK-3, R383). -/
def Reg.FB_WARN_HI (p : Nat) : Fld := ⟨0x6009c + 0x200 * p, 0, 32⟩
/-- UQ2.30 (FBK-3, R383). -/
def Reg.FB_R2_LAST (p : Nat) : Fld := ⟨0x600a0 + 0x200 * p, 0, 32⟩
/-- Since reset (FBK-3, R383). -/
def Reg.FB_R2_MIN (p : Nat) : Fld := ⟨0x600a4 + 0x200 * p, 0, 32⟩
/-- Since reset (FBK-3, R383). -/
def Reg.FB_R2_MAX (p : Nat) : Fld := ⟨0x600a8 + 0x200 * p, 0, 32⟩
/-- Resets MIN and MAX; reads 0 (FBK-3, R383). -/
def Reg.FB_R2_CTL (p : Nat) : Fld := ⟨0x600ac + 0x200 * p, 0, 1⟩
/-- 1–64; SSI 8–32 (FBK-3, R383). -/
def Reg.FB_SER_CFG_DATA_BITS (p : Nat) : Fld := ⟨0x60100 + 0x200 * p, 0, 7⟩
/-- 1–64 (FBK-3, R383). -/
def Reg.FB_SER_CFG_POS_BITS (p : Nat) : Fld := ⟨0x60100 + 0x200 * p, 8, 7⟩
/-- R373 (FBK-3, R383). -/
def Reg.FB_SER_CFG_POS_LSB (p : Nat) : Fld := ⟨0x60100 + 0x200 * p, 16, 6⟩
/-- SSI only (FBK-3, R383). -/
def Reg.FB_SER_CFG_GRAY (p : Nat) : Fld := ⟨0x60100 + 0x200 * p, 24, 1⟩
/-- R360 (FBK-3, R383). -/
def Reg.FB_SER_CFG_SIGNED (p : Nat) : Fld := ⟨0x60100 + 0x200 * p, 25, 1⟩
/-- 0–16 (FBK-3, R383). -/
def Reg.FB_SER_CFG_CRC_BITS (p : Nat) : Fld := ⟨0x60100 + 0x200 * p, 26, 5⟩
/-- 0xFF absent (FBK-3, R383). -/
def Reg.FB_SER_BITS_NE_BIT (p : Nat) : Fld := ⟨0x60104 + 0x200 * p, 0, 8⟩
/-- 0xFF absent (FBK-3, R383). -/
def Reg.FB_SER_BITS_NW_BIT (p : Nat) : Fld := ⟨0x60104 + 0x200 * p, 8, 8⟩
/-- 0xFF absent (FBK-3, R383). -/
def Reg.FB_SER_BITS_ERR_BIT (p : Nat) : Fld := ⟨0x60104 + 0x200 * p, 16, 8⟩
/-- R373 (FBK-3, R383). -/
def Reg.FB_CRC_POLY (p : Nat) : Fld := ⟨0x60108 + 0x200 * p, 0, 16⟩
/-- Half-period in clocks, 20–2500 (FBK-3, R383). -/
def Reg.FB_SER_CLK_HALF (p : Nat) : Fld := ⟨0x6010c + 0x200 * p, 0, 12⟩
/-- 1–16 (FBK-3, R383). -/
def Reg.FB_SER_CLK_READ_DIV (p : Nat) : Fld := ⟨0x6010c + 0x200 * p, 16, 4⟩
/-- R372 (FBK-3, R383). -/
def Reg.FB_LEAD (p : Nat) : Fld := ⟨0x60110 + 0x200 * p, 0, 16⟩
/-- R372 (FBK-3, R383). -/
def Reg.FB_RECOVERY (p : Nat) : Fld := ⟨0x60114 + 0x200 * p, 0, 16⟩
/-- 0 off (FBK-3, R383). -/
def Reg.FB_MAX_STEP (p : Nat) : Fld := ⟨0x60118 + 0x200 * p, 0, 32⟩
/-- Measured line delay (FBK-3, R383). -/
def Reg.FB_LDELAY (p : Nat) : Fld := ⟨0x6011c + 0x200 * p, 0, 13⟩
/-- Last data field (FBK-3, R383). -/
def Reg.FB_RAW (p : Nat) : Fld := ⟨0x60120 + 0x200 * p, 0, 64⟩
/-- Source port (FBK-4, R383). -/
def Reg.ECHO_ROUTE_SEL (k : Nat) : Fld := ⟨0x68000 + 4 * k, 0, 4⟩
/-- 0 DIRECT, 1 EMULATE (FBK-4, R383). -/
def Reg.ECHO_ROUTE_MODE (k : Nat) : Fld := ⟨0x68000 + 4 * k, 4, 1⟩
/-- Bit *k*: default routing in force (R382) (FBK-4, R383). -/
def Reg.ECHO_STAT : Fld := ⟨0x68010, 0, 4⟩
/-- i32 (FBK-4, R383). -/
def Reg.ECHO_EMU_NUM (k : Nat) : Fld := ⟨0x68020 + 0x10 * k, 0, 32⟩
/-- u32, ≥ 1 (FBK-4, R383). -/
def Reg.ECHO_EMU_DEN (k : Nat) : Fld := ⟨0x68024 + 0x10 * k, 0, 32⟩
/-- 0 no index (FBK-4, R383). -/
def Reg.ECHO_EMU_ZPER (k : Nat) : Fld := ⟨0x68028 + 0x10 * k, 0, 32⟩
/-- R381 (FBK-4, R383). -/
def Reg.ECHO_EMU_SAT (k : Nat) : Fld := ⟨0x6802c + 0x10 * k, 0, 16⟩
/-- R386 (FIO-1, R410). -/
def Reg.FIELD_LINK_STAT_UP : Fld := ⟨0x70000, 0, 1⟩
/-- Some set has SAFE_ACTIVE (FIO-1, R410). -/
def Reg.FIELD_LINK_STAT_ANY_SAFE : Fld := ⟨0x70000, 1, 1⟩
/-- Mirrors `SYS.SUPPLY.VFIELD_OK` (FIO-1, R410). -/
def Reg.FIELD_LINK_STAT_VFIELD_OK : Fld := ⟨0x70000, 2, 1⟩
/-- Missing or invalid frames (FIO-1, R410). -/
def Reg.FIELD_LINK_ERR : Fld := ⟨0x70004, 0, 32⟩
/-- 1–1000; default 20 (FIO-1, R410). -/
def Reg.FIELD_SILENCE_MS : Fld := ⟨0x70008, 0, 10⟩
/-- R393 (FIO-1, R410). -/
def Reg.FIELD_SILENCE_AUTO_RESUME : Fld := ⟨0x70008, 16, 1⟩
/-- Bit *k*: DO2*k*, DO2*k*+1 paired (FIO-1, R410). -/
def Reg.FIELD_PAR_PAIR : Fld := ⟨0x7000c, 0, 8⟩
/-- Bit *k*: DO4*k*–DO4*k*+3 quad (FIO-1, R410). -/
def Reg.FIELD_PAR_QUAD : Fld := ⟨0x7000c, 8, 4⟩
/-- Silence timeouts (FIO-1, R410). -/
def Reg.FIELD_SAFE_COUNT : Fld := ⟨0x70010, 0, 16⟩
/-- VFIELD in mV (FIO-1, R410). -/
def Reg.FIELD_VFIELD_MV : Fld := ⟨0x70014, 0, 16⟩
/-- Filtered levels (R396) (FIO-1, R410). -/
def Reg.FIELD_DI_STATE : Fld := ⟨0x70100, 0, 32⟩
/-- DI_STATE is current (FIO-1, R410). -/
def Reg.FIELD_DI_VALID : Fld := ⟨0x70104, 0, 1⟩
/-- 1–4095 (FIO-1, R410). -/
def Reg.FIELD_DI_CFG_LIMIT (k : Nat) : Fld := ⟨0x70200 + 4 * k, 0, 12⟩
/-- R397 (FIO-1, R410). -/
def Reg.FIELD_DI_CFG_WB_EN (k : Nat) : Fld := ⟨0x70200 + 4 * k, 12, 1⟩
/-- Filtered (FIO-1, R410). -/
def Reg.FIELD_DI_STAT_LEVEL (k : Nat) : Fld := ⟨0x70280 + 4 * k, 0, 1⟩
/-- R397 (FIO-1, R410). -/
def Reg.FIELD_DI_STAT_BROKEN (k : Nat) : Fld := ⟨0x70280 + 4 * k, 1, 1⟩
/-- R395 (FIO-1, R410). -/
def Reg.FIELD_DI_STAT_MERGED (k : Nat) : Fld := ⟨0x70280 + 4 * k, 8, 8⟩
/-- Integrator I (FIO-1, R410). -/
def Reg.FIELD_DI_STAT_INTEG (k : Nat) : Fld := ⟨0x70280 + 4 * k, 16, 12⟩
/-- Commanded value; lowest member only (R400) (FIO-1, R410). -/
def Reg.FIELD_DO_OUT (k : Nat) : Fld := ⟨0x70400 + 4 * k, 0, 1⟩
/-- 0 OFF, 1 ON, 2 HOLD (FIO-1, R410). -/
def Reg.FIELD_DO_CFG_SAFE (k : Nat) : Fld := ⟨0x70440 + 4 * k, 0, 2⟩
/-- 0 single, 1 pair, 2 quad (FIO-1, R410). -/
def Reg.FIELD_DO_CFG_WIDTH (k : Nat) : Fld := ⟨0x70440 + 4 * k, 4, 2⟩
/-- µs, 20–100 000 (FIO-1, R410). -/
def Reg.FIELD_DO_CFG_OC_TIME (k : Nat) : Fld := ⟨0x70440 + 4 * k, 12, 17⟩
/-- Output level (FIO-1, R410). -/
def Reg.FIELD_DO_STAT_OUT (k : Nat) : Fld := ⟨0x70480 + 4 * k, 0, 1⟩
/-- R389 (FIO-1, R410). -/
def Reg.FIELD_DO_STAT_SAFE_ACTIVE (k : Nat) : Fld := ⟨0x70480 + 4 * k, 1, 1⟩
/-- R402 (FIO-1, R410). -/
def Reg.FIELD_DO_STAT_TRIPPED (k : Nat) : Fld := ⟨0x70480 + 4 * k, 2, 1⟩
/-- 0 none, 1 OVERCURRENT, 2 THERMAL (FIO-1, R410). -/
def Reg.FIELD_DO_STAT_CAUSE (k : Nat) : Fld := ⟨0x70480 + 4 * k, 3, 2⟩
/-- Channel current, mA (FIO-1, R410). -/
def Reg.FIELD_DO_STAT_MA (k : Nat) : Fld := ⟨0x70480 + 4 * k, 16, 16⟩
/-- R406 (FIO-1, R410). -/
def Reg.FIELD_AI_CFG (k : Nat) : Fld := ⟨0x70600 + 0x10 * k, 0, 1⟩
/-- i16 (R405) (FIO-1, R410). -/
def Reg.FIELD_AI_VAL_CODE (k : Nat) : Fld := ⟨0x70604 + 0x10 * k, 0, 16⟩
/-- See the table. (FIO-1, R410). -/
def Reg.FIELD_AI_VAL_OVR (k : Nat) : Fld := ⟨0x70604 + 0x10 * k, 16, 1⟩
/-- See the table. (FIO-1, R410). -/
def Reg.FIELD_AI_VAL_VALID (k : Nat) : Fld := ⟨0x70604 + 0x10 * k, 31, 1⟩
/-- Sampling instant (FIO-1, R410). -/
def Reg.FIELD_AI_STAMP (k : Nat) : Fld := ⟨0x70608 + 0x10 * k, 0, 64⟩
/-- 0 OFF, 1 STEP_DIR, 2 AB; 3 rejected (FIO-1, R410). -/
def Reg.FIELD_PU_CFG_MODE (k : Nat) : Fld := ⟨0x70700 + 0x20 * k, 0, 2⟩
/-- R409 (FIO-1, R410). -/
def Reg.FIELD_PU_CFG_DIFF (k : Nat) : Fld := ⟨0x70700 + 0x20 * k, 2, 1⟩
/-- 1 reverses count (FIO-1, R410). -/
def Reg.FIELD_PU_CFG_DIR (k : Nat) : Fld := ⟨0x70700 + 0x20 * k, 3, 1⟩
/-- Clocks, 0–7 (FIO-1, R410). -/
def Reg.FIELD_PU_CFG_FILT (k : Nat) : Fld := ⟨0x70700 + 0x20 * k, 8, 3⟩
/-- R409 (FIO-1, R410). -/
def Reg.FIELD_PU_STAT (k : Nat) : Fld := ⟨0x70704 + 0x20 * k, 0, 1⟩
/-- i64 at the last fast boundary (FIO-1, R410). -/
def Reg.FIELD_PU_COUNT (k : Nat) : Fld := ⟨0x70708 + 0x20 * k, 0, 64⟩
/-- R407 (FIO-1, R410). -/
def Reg.FIELD_PU_ILLEGAL (k : Nat) : Fld := ⟨0x70710 + 0x20 * k, 0, 16⟩
/-- MAC bytes 0–3, byte 0 in [7:0] (ETH-4, R447). -/
def Reg.ETH_MAC_LO : Fld := ⟨0x80000, 0, 32⟩
/-- MAC bytes 4–5 (ETH-4, R447). -/
def Reg.ETH_MAC_HI : Fld := ⟨0x80004, 0, 16⟩
/-- IPv4 address, first octet in [31:24] (ETH-4, R447). -/
def Reg.ETH_IP : Fld := ⟨0x80008, 0, 32⟩
/-- R419 (ETH-4, R447). -/
def Reg.ETH_VLAN_MGMT_VID : Fld := ⟨0x8000c, 0, 12⟩
/-- R420 (ETH-4, R447). -/
def Reg.ETH_VLAN_MGMT_PCP : Fld := ⟨0x8000c, 12, 3⟩
/-- R419 (ETH-4, R447). -/
def Reg.ETH_VLAN_DRV_VID : Fld := ⟨0x8000c, 16, 12⟩
/-- R413 (ETH-4, R447). -/
def Reg.ETH_DUP_SELF_SRC : Fld := ⟨0x80010, 0, 16⟩
/-- R416 (ETH-4, R447). -/
def Reg.ETH_DUP_IP_CONFLICT : Fld := ⟨0x80010, 16, 1⟩
/-- R439 (ETH-4, R447). -/
def Reg.ETH_POLICE : Fld := ⟨0x80014, 0, 1⟩
/-- R437 (ETH-4, R447). -/
def Reg.ETH_DRV_FOREIGN : Fld := ⟨0x80018, 0, 32⟩
/-- R444, R445 (ETH-4, R447). -/
def Reg.ETH_PORT_CTL_EN (k : Nat) : Fld := ⟨0x80100 + 0x40 * k, 0, 1⟩
/-- Table ETH-1 (ETH-4, R447). -/
def Reg.ETH_PORT_CTL_CAP100 (k : Nat) : Fld := ⟨0x80100 + 0x40 * k, 1, 1⟩
/-- Link up (ETH-4, R447). -/
def Reg.ETH_PORT_STAT_LINK (k : Nat) : Fld := ⟨0x80104 + 0x40 * k, 0, 1⟩
/-- 1000BASE-T (ETH-4, R447). -/
def Reg.ETH_PORT_STAT_G1000 (k : Nat) : Fld := ⟨0x80104 + 0x40 * k, 1, 1⟩
/-- R445 (ETH-4, R447). -/
def Reg.ETH_PORT_STAT_TX_HELD (k : Nat) : Fld := ⟨0x80104 + 0x40 * k, 2, 1⟩
/-- 802.1AS asCapable (ETH-4, R447). -/
def Reg.ETH_PORT_STAT_AS_CAPABLE (k : Nat) : Fld := ⟨0x80104 + 0x40 * k, 3, 1⟩
/-- Frames received (ETH-4, R447). -/
def Reg.ETH_PORT_RX_FRAMES (k : Nat) : Fld := ⟨0x80108 + 0x40 * k, 0, 32⟩
/-- Bad FCS, oversize, PAUSE (ETH-4, R447). -/
def Reg.ETH_PORT_RX_DROP_FCS (k : Nat) : Fld := ⟨0x8010c + 0x40 * k, 0, 32⟩
/-- Table GRP-6 (ETH-4, R447). -/
def Reg.ETH_PORT_RX_DROP_POOL (k : Nat) : Fld := ⟨0x80110 + 0x40 * k, 0, 32⟩
/-- R419 (ETH-4, R447). -/
def Reg.ETH_PORT_RX_DROP_VLAN (k : Nat) : Fld := ⟨0x80114 + 0x40 * k, 0, 32⟩
/-- R415, R417 (ETH-4, R447). -/
def Reg.ETH_PORT_RX_DROP_IP (k : Nat) : Fld := ⟨0x80118 + 0x40 * k, 0, 32⟩
/-- Frames sent (ETH-4, R447). -/
def Reg.ETH_PORT_TX_FRAMES (k : Nat) : Fld := ⟨0x8011c + 0x40 * k, 0, 32⟩
/-- R422, R423, R434, R444 (ETH-4, R447). -/
def Reg.ETH_PORT_TX_DROP (k : Nat) : Fld := ⟨0x80120 + 0x40 * k, 0, 32⟩
/-- Link losses (ETH-4, R447). -/
def Reg.ETH_PORT_LINK_DOWNS (k : Nat) : Fld := ⟨0x80124 + 0x40 * k, 0, 16⟩
/-- Frames spilled to the pool (ETH-4, R447). -/
def Reg.ETH_PORT_SPILL_RX (k : Nat) : Fld := ⟨0x80128 + 0x40 * k, 0, 16⟩
/-- Frames spilled to the pool (ETH-4, R447). -/
def Reg.ETH_PORT_SPILL_TX (k : Nat) : Fld := ⟨0x80128 + 0x40 * k, 16, 16⟩
/-- Peak buffer use, KiB (ETH-4, R447). -/
def Reg.ETH_PORT_BUF_PEAK_RX (k : Nat) : Fld := ⟨0x8012c + 0x40 * k, 0, 16⟩
/-- Peak buffer use, KiB (ETH-4, R447). -/
def Reg.ETH_PORT_BUF_PEAK_TX (k : Nat) : Fld := ⟨0x8012c + 0x40 * k, 16, 16⟩
/-- R425 (ETH-4, R447). -/
def Reg.ETH_PTP_CFG_ROLE : Fld := ⟨0x80200, 0, 2⟩
/-- See the table. (ETH-4, R447). -/
def Reg.ETH_PTP_CFG_PRIORITY1 : Fld := ⟨0x80200, 8, 8⟩
/-- See the table. (ETH-4, R447). -/
def Reg.ETH_PTP_CFG_PRIORITY2 : Fld := ⟨0x80200, 16, 8⟩
/-- See the table. (ETH-4, R447). -/
def Reg.ETH_PTP_CFG_CLOCK_CLASS : Fld := ⟨0x80200, 24, 8⟩
/-- i8 log2 intervals (ETH-4, R447). -/
def Reg.ETH_PTP_INT_SYNC : Fld := ⟨0x80204, 0, 8⟩
/-- i8 log2 intervals (ETH-4, R447). -/
def Reg.ETH_PTP_INT_PDELAY : Fld := ⟨0x80204, 8, 8⟩
/-- i8 log2 intervals (ETH-4, R447). -/
def Reg.ETH_PTP_INT_ANNOUNCE : Fld := ⟨0x80204, 16, 8⟩
/-- Clock identity (ETH-4, R447). -/
def Reg.ETH_PTP_ID : Fld := ⟨0x80208, 0, 64⟩
/-- R427 (ETH-4, R447). -/
def Reg.ETH_PTP_STAT_SYNC : Fld := ⟨0x80210, 0, 1⟩
/-- Grandmaster (ETH-4, R447). -/
def Reg.ETH_PTP_STAT_IS_GM : Fld := ⟨0x80210, 1, 1⟩
/-- 0 none, 1 ETH1, 2 ETH2 (ETH-4, R447). -/
def Reg.ETH_PTP_STAT_SLAVE_PORT : Fld := ⟨0x80210, 2, 2⟩
/-- R428 (ETH-4, R447). -/
def Reg.ETH_PTP_STAT_RATE_CLAMP : Fld := ⟨0x80210, 4, 1⟩
/-- R425 (ETH-4, R447). -/
def Reg.ETH_PTP_STAT_FOREIGN_GM : Fld := ⟨0x80210, 8, 8⟩
/-- R426 (ETH-4, R447). -/
def Reg.ETH_PTP_STAT_SELF_ID : Fld := ⟨0x80210, 16, 8⟩
/-- i32, last offset from master (ETH-4, R447). -/
def Reg.ETH_PTP_OFFSET : Fld := ⟨0x80214, 0, 32⟩
/-- i32, rate correction (ETH-4, R447). -/
def Reg.ETH_PTP_RATE : Fld := ⟨0x80218, 0, 32⟩
/-- At 0x021C for ETH1, 0x0220 for ETH2 (ETH-4, R447). -/
def Reg.ETH_PTP_PDELAY (k : Nat) : Fld := ⟨0x8021c + 4 * k, 0, 32⟩
/-- R428 (ETH-4, R447). -/
def Reg.ETH_PTP_STEP_NS : Fld := ⟨0x80224, 0, 32⟩
/-- R428 (ETH-4, R447). -/
def Reg.ETH_PTP_STEPS : Fld := ⟨0x80228, 0, 16⟩
/-- Live NTIME (ETH-4, R447). -/
def Reg.ETH_NTIME : Fld := ⟨0x80230, 0, 64⟩
/-- Grandmaster identity (ETH-4, R447). -/
def Reg.ETH_PTP_GM_ID : Fld := ⟨0x80238, 0, 64⟩
/-- R431 (ETH-4, R447). -/
def Reg.ETH_GCL_CTL_MODE (k : Nat) : Fld := ⟨0x80300 + 0x40 * k, 0, 2⟩
/-- R435; reads 0 (ETH-4, R447). -/
def Reg.ETH_GCL_CTL_CHANGE (k : Nat) : Fld := ⟨0x80300 + 0x40 * k, 8, 1⟩
/-- R436 (ETH-4, R447). -/
def Reg.ETH_GCL_CTL_ERR (k : Nat) : Fld := ⟨0x80300 + 0x40 * k, 9, 1⟩
/-- R435 (ETH-4, R447). -/
def Reg.ETH_GCL_CTL_PENDING (k : Nat) : Fld := ⟨0x80300 + 0x40 * k, 10, 1⟩
/-- See the table. (ETH-4, R447). -/
def Reg.ETH_GCL_ADMIN_COUNT (k : Nat) : Fld := ⟨0x80304 + 0x40 * k, 0, 8⟩
/-- See the table. (ETH-4, R447). -/
def Reg.ETH_GCL_ADMIN_CYCLE (k : Nat) : Fld := ⟨0x80308 + 0x40 * k, 0, 32⟩
/-- See the table. (ETH-4, R447). -/
def Reg.ETH_GCL_ADMIN_BASE (k : Nat) : Fld := ⟨0x8030c + 0x40 * k, 0, 64⟩
/-- See the table. (ETH-4, R447). -/
def Reg.ETH_GCL_OPER_COUNT (k : Nat) : Fld := ⟨0x80314 + 0x40 * k, 0, 8⟩
/-- Slow period in TEMPLATE (ETH-4, R447). -/
def Reg.ETH_GCL_OPER_CYCLE (k : Nat) : Fld := ⟨0x80318 + 0x40 * k, 0, 32⟩
/-- Last slow boundary in TEMPLATE (ETH-4, R447). -/
def Reg.ETH_GCL_OPER_BASE (k : Nat) : Fld := ⟨0x8031c + 0x40 * k, 0, 64⟩
/-- R435 (ETH-4, R447). -/
def Reg.ETH_GCL_CHANGE_TIME (k : Nat) : Fld := ⟨0x80324 + 0x40 * k, 0, 64⟩
/-- R432 (ETH-4, R447). -/
def Reg.ETH_GCL_DRV_WIN (k : Nat) : Fld := ⟨0x8032c + 0x40 * k, 0, 16⟩
/-- Gates open now (ETH-4, R447). -/
def Reg.ETH_GCL_GATES (k : Nat) : Fld := ⟨0x80330 + 0x40 * k, 0, 8⟩
/-- Bit *b*: filter 32*w* + *b*, *w* = 0–3 (ETH-4, R447). -/
def Reg.ETH_SF_BLOCKED (k : Nat) : Fld := ⟨0x80410 + 4 * k, 0, 32⟩
/-- R441 (ETH-4, R447). -/
def Reg.ETH_SF_MATCHED (k : Nat) : Fld := ⟨0x80800 + 0x10 * k, 0, 32⟩
/-- See the table. (ETH-4, R447). -/
def Reg.ETH_SF_PASSED (k : Nat) : Fld := ⟨0x80804 + 0x10 * k, 0, 32⟩
/-- See the table. (ETH-4, R447). -/
def Reg.ETH_SF_SDU_DROP (k : Nat) : Fld := ⟨0x80808 + 0x10 * k, 0, 32⟩
/-- See the table. (ETH-4, R447). -/
def Reg.ETH_SF_RED_DROP (k : Nat) : Fld := ⟨0x8080c + 0x10 * k, 0, 32⟩
/-- R442 (ETH-4, R447). -/
def Reg.ETH_MTR_GREEN (k : Nat) : Fld := ⟨0x81000 + 8 * k, 0, 32⟩
/-- See the table. (ETH-4, R447). -/
def Reg.ETH_MTR_RED (k : Nat) : Fld := ⟨0x81004 + 8 * k, 0, 32⟩
/-- Bucket level (ETH-4, R447). -/
def Reg.ETH_MTR_LEVEL (k : Nat) : Fld := ⟨0x81200 + 4 * k, 0, 32⟩
/-- Drive of X(16 + *i*), bytes 0–3 (ETH-4, R447). -/
def Reg.ETH_DRV_MAC_LO (k : Nat) : Fld := ⟨0x81400 + 0x10 * k, 0, 32⟩
/-- Bytes 4–5 (ETH-4, R447). -/
def Reg.ETH_DRV_MAC_HI_MAC (k : Nat) : Fld := ⟨0x81404 + 0x10 * k, 0, 16⟩
/-- 1 ETH1, 2 ETH2 (ETH-4, R447). -/
def Reg.ETH_DRV_MAC_HI_PORT (k : Nat) : Fld := ⟨0x81404 + 0x10 * k, 16, 2⟩
/-- See the table. (ETH-4, R447). -/
def Reg.ETH_DRV_IP (k : Nat) : Fld := ⟨0x81408 + 0x10 * k, 0, 32⟩
/-- Table CAN-6 (CAN-7, R476). -/
def Reg.CAN_CTL (c : Nat) : Fld := ⟨0x90000 + 0x1000 * c, 0, 1⟩
/-- Nominal, Table CAN-2 (CAN-7, R476). -/
def Reg.CAN_NBT_BRP (c : Nat) : Fld := ⟨0x90004 + 0x1000 * c, 0, 6⟩
/-- Nominal, Table CAN-2 (CAN-7, R476). -/
def Reg.CAN_NBT_TSEG1 (c : Nat) : Fld := ⟨0x90004 + 0x1000 * c, 8, 9⟩
/-- Nominal, Table CAN-2 (CAN-7, R476). -/
def Reg.CAN_NBT_TSEG2 (c : Nat) : Fld := ⟨0x90004 + 0x1000 * c, 24, 8⟩
/-- Data (CAN-7, R476). -/
def Reg.CAN_DBT_BRP (c : Nat) : Fld := ⟨0x90008 + 0x1000 * c, 0, 6⟩
/-- Data (CAN-7, R476). -/
def Reg.CAN_DBT_TSEG1 (c : Nat) : Fld := ⟨0x90008 + 0x1000 * c, 8, 6⟩
/-- Data (CAN-7, R476). -/
def Reg.CAN_DBT_TSEG2 (c : Nat) : Fld := ⟨0x90008 + 0x1000 * c, 16, 5⟩
/-- See the table. (CAN-7, R476). -/
def Reg.CAN_SJW_NSJW (c : Nat) : Fld := ⟨0x9000c + 0x1000 * c, 0, 8⟩
/-- See the table. (CAN-7, R476). -/
def Reg.CAN_SJW_DSJW (c : Nat) : Fld := ⟨0x9000c + 0x1000 * c, 16, 5⟩
/-- R454, R455 (CAN-7, R476). -/
def Reg.CAN_TDC_MODE (c : Nat) : Fld := ⟨0x90010 + 0x1000 * c, 0, 1⟩
/-- mtq (CAN-7, R476). -/
def Reg.CAN_TDC_TDCO (c : Nat) : Fld := ⟨0x90010 + 0x1000 * c, 8, 7⟩
/-- Last measured, mtq (CAN-7, R476). -/
def Reg.CAN_TDC_TDCV (c : Nat) : Fld := ⟨0x90010 + 0x1000 * c, 16, 7⟩
/-- R449 (CAN-7, R476). -/
def Reg.CAN_FMT_FD (c : Nat) : Fld := ⟨0x90014 + 0x1000 * c, 0, 1⟩
/-- See the table. (CAN-7, R476). -/
def Reg.CAN_FMT_BRS (c : Nat) : Fld := ⟨0x90014 + 0x1000 * c, 1, 1⟩
/-- R472 (CAN-7, R476). -/
def Reg.CAN_FMT_BEXIC_EN (c : Nat) : Fld := ⟨0x90014 + 0x1000 * c, 2, 1⟩
/-- See the table. (CAN-7, R476). -/
def Reg.CAN_FMT_XTD_BASE (c : Nat) : Fld := ⟨0x90014 + 0x1000 * c, 3, 1⟩
/-- R472 (CAN-7, R476). -/
def Reg.CAN_BEXIC_BASE (c : Nat) : Fld := ⟨0x90018 + 0x1000 * c, 0, 29⟩
/-- 0 REJECT, 1 FIFO0, 2 FIFO1 (CAN-7, R476). -/
def Reg.CAN_DEFAULT_STD (c : Nat) : Fld := ⟨0x9001c + 0x1000 * c, 0, 2⟩
/-- 0 REJECT, 1 FIFO0, 2 FIFO1 (CAN-7, R476). -/
def Reg.CAN_DEFAULT_EXT (c : Nat) : Fld := ⟨0x9001c + 0x1000 * c, 4, 2⟩
/-- Table CAN-6 (CAN-7, R476). -/
def Reg.CAN_STAT_STATE (c : Nat) : Fld := ⟨0x90020 + 0x1000 * c, 0, 3⟩
/-- R453 (CAN-7, R476). -/
def Reg.CAN_STAT_TDC_SAT (c : Nat) : Fld := ⟨0x90020 + 0x1000 * c, 8, 1⟩
/-- R475 (CAN-7, R476). -/
def Reg.CAN_STAT_DUP_ID (c : Nat) : Fld := ⟨0x90020 + 0x1000 * c, 16, 16⟩
/-- See the table. (CAN-7, R476). -/
def Reg.CAN_ERRCNT_TEC (c : Nat) : Fld := ⟨0x90024 + 0x1000 * c, 0, 9⟩
/-- See the table. (CAN-7, R476). -/
def Reg.CAN_ERRCNT_REC (c : Nat) : Fld := ⟨0x90024 + 0x1000 * c, 16, 9⟩
/-- 0 none, 1 stuff, 2 form, 3 ACK, 4 bit 1, 5 bit 0, 6 CRC (CAN-7, R476). -/
def Reg.CAN_LEC_NOMINAL (c : Nat) : Fld := ⟨0x90028 + 0x1000 * c, 0, 3⟩
/-- 0 none, 1 stuff, 2 form, 3 ACK, 4 bit 1, 5 bit 0, 6 CRC (CAN-7, R476). -/
def Reg.CAN_LEC_DATA (c : Nat) : Fld := ⟨0x90028 + 0x1000 * c, 4, 3⟩
/-- See the table. (CAN-7, R476). -/
def Reg.CAN_BUSOFF_COUNT (c : Nat) : Fld := ⟨0x9002c + 0x1000 * c, 0, 16⟩
/-- See the table. (CAN-7, R476). -/
def Reg.CAN_RX_FRAMES (c : Nat) : Fld := ⟨0x90030 + 0x1000 * c, 0, 32⟩
/-- See the table. (CAN-7, R476). -/
def Reg.CAN_TX_FRAMES (c : Nat) : Fld := ⟨0x90034 + 0x1000 * c, 0, 32⟩
/-- R474 (CAN-7, R476). -/
def Reg.CAN_RX_DROP_POOL (c : Nat) : Fld := ⟨0x90038 + 0x1000 * c, 0, 32⟩
/-- R459 (CAN-7, R476). -/
def Reg.CAN_RX_REJECT (c : Nat) : Fld := ⟨0x9003c + 0x1000 * c, 0, 32⟩
/-- R450 (CAN-7, R476). -/
def Reg.CAN_RX_REMOTE (c : Nat) : Fld := ⟨0x90040 + 0x1000 * c, 0, 16⟩
/-- R468 (CAN-7, R476). -/
def Reg.CAN_TX_DROP (c : Nat) : Fld := ⟨0x90044 + 0x1000 * c, 0, 16⟩
/-- R449 (CAN-7, R476). -/
def Reg.CAN_PXE (c : Nat) : Fld := ⟨0x90048 + 0x1000 * c, 0, 16⟩
/-- R470 (CAN-7, R476). -/
def Reg.CAN_LISTEN_ERR (c : Nat) : Fld := ⟨0x9004c + 0x1000 * c, 0, 16⟩
/-- Records held, 0–64 (CAN-7, R476). -/
def Reg.CAN_RXF_STAT_LEVEL (c k : Nat) : Fld := ⟨0x90100 + 0x1000 * c + 0x80 * k, 0, 7⟩
/-- R462 (CAN-7, R476). -/
def Reg.CAN_RXF_STAT_OVF (c k : Nat) : Fld := ⟨0x90100 + 0x1000 * c + 0x80 * k, 8, 16⟩
/-- Removes the head; reads 0 (CAN-7, R476). -/
def Reg.CAN_RXF_POP (c k : Nat) : Fld := ⟨0x90104 + 0x1000 * c + 0x80 * k, 0, 1⟩
/-- Table CAN-5; zero when empty (CAN-7, R476). -/
def Reg.CAN_RXF_HEAD (c k i : Nat) : Fld := ⟨0x90110 + 0x1000 * c + 0x80 * k + 4 * i, 0, 32⟩
/-- Table CAN-5 layout (CAN-7, R476). -/
def Reg.CAN_TXB (c k : Nat) : Fld := ⟨0x90300 + 0x1000 * c + 4 * k, 0, 32⟩
/-- R466 (CAN-7, R476). -/
def Reg.CAN_TXCTL_SEND (c : Nat) : Fld := ⟨0x90350 + 0x1000 * c, 0, 1⟩
/-- See the table. (CAN-7, R476). -/
def Reg.CAN_TXCTL_ABORT (c : Nat) : Fld := ⟨0x90350 + 0x1000 * c, 1, 1⟩
/-- See the table. (CAN-7, R476). -/
def Reg.CAN_TXCTL_BUSY (c : Nat) : Fld := ⟨0x90350 + 0x1000 * c, 8, 1⟩
/-- Cleared by the next SEND (CAN-7, R476). -/
def Reg.CAN_TXCTL_ERR (c : Nat) : Fld := ⟨0x90350 + 0x1000 * c, 9, 1⟩
/-- R477; 0x2C in FALLBACK (IIC-3, R496). -/
def Reg.I2C_S_CFG_ADDR : Fld := ⟨0xa0000, 0, 7⟩
/-- 0 100 kHz, 1 400 kHz, 2 1 MHz (IIC-3, R496). -/
def Reg.I2C_S_CFG_SPEED : Fld := ⟨0xa0000, 8, 2⟩
/-- R481 (IIC-3, R496). -/
def Reg.I2C_S_CFG_ENDPOINT : Fld := ⟨0xa0000, 16, 8⟩
/-- R487 (IIC-3, R496). -/
def Reg.I2C_S_STAT_SCL_STUCK : Fld := ⟨0xa0004, 0, 1⟩
/-- R487 (IIC-3, R496). -/
def Reg.I2C_S_STAT_SDA_STUCK : Fld := ⟨0xa0004, 1, 1⟩
/-- Live level (IIC-3, R496). -/
def Reg.I2C_S_STAT_SCL_LOW : Fld := ⟨0xa0004, 2, 1⟩
/-- Live level (IIC-3, R496). -/
def Reg.I2C_S_STAT_SDA_LOW : Fld := ⟨0xa0004, 3, 1⟩
/-- 0 dormant responder, 1 ASIC target (IIC-3, R496). -/
def Reg.I2C_S_STAT_OWNER : Fld := ⟨0xa0004, 4, 1⟩
/-- Outbound entries held (IIC-3, R496). -/
def Reg.I2C_S_STAT_OUTQ : Fld := ⟨0xa0004, 8, 4⟩
/-- 1–100 (IIC-3, R496). -/
def Reg.I2C_S_TIMEOUT_SCL_MS : Fld := ⟨0xa0008, 0, 7⟩
/-- 1–100 (IIC-3, R496). -/
def Reg.I2C_S_TIMEOUT_SDA_MS : Fld := ⟨0xa0008, 8, 7⟩
/-- R484 (IIC-3, R496). -/
def Reg.I2C_S_EVT_DROP : Fld := ⟨0xa000c, 0, 16⟩
/-- R484 (IIC-3, R496). -/
def Reg.I2C_S_NACKED : Fld := ⟨0xa0010, 0, 16⟩
/-- R489 (IIC-3, R496). -/
def Reg.I2C_P_CFG_EN : Fld := ⟨0xa0100, 0, 1⟩
/-- As S_CFG (IIC-3, R496). -/
def Reg.I2C_P_CFG_SPEED : Fld := ⟨0xa0100, 1, 2⟩
/-- R495 (IIC-3, R496). -/
def Reg.I2C_P_CFG_RECOVERY_EN : Fld := ⟨0xa0100, 4, 1⟩
/-- R490 (IIC-3, R496). -/
def Reg.I2C_P_CFG_ARB_RETRY : Fld := ⟨0xa0100, 8, 3⟩
/-- R487 (IIC-3, R496). -/
def Reg.I2C_P_STAT_SCL_STUCK : Fld := ⟨0xa0104, 0, 1⟩
/-- R487 (IIC-3, R496). -/
def Reg.I2C_P_STAT_SDA_STUCK : Fld := ⟨0xa0104, 1, 1⟩
/-- See the table. (IIC-3, R496). -/
def Reg.I2C_P_STAT_SCL_LOW : Fld := ⟨0xa0104, 2, 1⟩
/-- See the table. (IIC-3, R496). -/
def Reg.I2C_P_STAT_SDA_LOW : Fld := ⟨0xa0104, 3, 1⟩
/-- Transfer in progress (IIC-3, R496). -/
def Reg.I2C_P_STAT_BUSY : Fld := ⟨0xa0104, 4, 1⟩
/-- Waiting transfers, 0–8 (IIC-3, R496). -/
def Reg.I2C_P_STAT_QUEUED : Fld := ⟨0xa0104, 8, 4⟩
/-- 1–100 (IIC-3, R496). -/
def Reg.I2C_P_TIMEOUT_SCL_MS : Fld := ⟨0xa0108, 0, 7⟩
/-- 1–100 (IIC-3, R496). -/
def Reg.I2C_P_TIMEOUT_SDA_MS : Fld := ⟨0xa0108, 8, 7⟩
/-- R490 (IIC-3, R496). -/
def Reg.I2C_P_ARB_LOST : Fld := ⟨0xa010c, 0, 16⟩
/-- ADDR_NACK and DATA_NACK results (IIC-3, R496). -/
def Reg.I2C_P_NACKS : Fld := ⟨0xa0110, 0, 16⟩
/-- Recoveries run (IIC-3, R496). -/
def Reg.I2C_P_RECOVERIES : Fld := ⟨0xa0114, 0, 16⟩
/-- R493 (IIC-3, R496). -/
def Reg.I2C_P_OWN_LO (k : Nat) : Fld := ⟨0xa0140 + 4 * k, 0, 7⟩
/-- See the table. (IIC-3, R496). -/
def Reg.I2C_P_OWN_HI (k : Nat) : Fld := ⟨0xa0140 + 4 * k, 8, 7⟩
/-- See the table. (IIC-3, R496). -/
def Reg.I2C_P_OWN_VALID (k : Nat) : Fld := ⟨0xa0140 + 4 * k, 15, 1⟩
/-- R508 (BXP-11, R524). -/
def Reg.SYS_BXP_SESSION_TAG (k : Nat) : Fld := ⟨0x400 + 0x20 * k, 0, 16⟩
/-- Session present (BXP-11, R524). -/
def Reg.SYS_BXP_SESSION_OPEN (k : Nat) : Fld := ⟨0x400 + 0x20 * k, 16, 1⟩
/-- 0 none, 1 UDP, 2 CAN0, 3 CAN1, 4 I2C-S (BXP-11, R524). -/
def Reg.SYS_BXP_SESSION_VIA (k : Nat) : Fld := ⟨0x400 + 0x20 * k, 17, 3⟩
/-- R510 (BXP-11, R524). -/
def Reg.SYS_BXP_LAST_SEQ (k : Nat) : Fld := ⟨0x404 + 0x20 * k, 0, 32⟩
/-- Messages consumed (BXP-11, R524). -/
def Reg.SYS_BXP_RX_MSG (k : Nat) : Fld := ⟨0x408 + 0x20 * k, 0, 32⟩
/-- Step 1 (BXP-11, R524). -/
def Reg.SYS_BXP_DROPPED (k : Nat) : Fld := ⟨0x40c + 0x20 * k, 0, 16⟩
/-- Protocol violations (BXP-11, R524). -/
def Reg.SYS_BXP_PROTO (k : Nat) : Fld := ⟨0x410 + 0x20 * k, 0, 16⟩
/-- R511 (BXP-11, R524). -/
def Reg.SYS_BXP_RATE (k : Nat) : Fld := ⟨0x414 + 0x20 * k, 0, 16⟩
/-- R521 (BXP-11, R524). -/
def Reg.SYS_BXP_EVT_LOST (k : Nat) : Fld := ⟨0x418 + 0x20 * k, 0, 16⟩
/-- Session source on UDP, first octet in [31:24] (BXP-11, R524). -/
def Reg.SYS_BXP_SRC_IP (k : Nat) : Fld := ⟨0x41c + 0x20 * k, 0, 32⟩
/-- Unanswered NOT_PERMITTED (R499) (BXP-11, R524). -/
def Reg.SYS_BXP_NOTPERM : Fld := ⟨0x620, 0, 16⟩
/-- IPv4 address, first octet in [31:24] (BXP-11, R524). -/
def Reg.ETH_DEV_SRC_ADDR (k : Nat) : Fld := ⟨0x80020 + 8 * k, 0, 32⟩
/-- 0 unused, 1 IPv4 (any port), 2 CAN0, 3 CAN1 (BXP-11, R524). -/
def Reg.ETH_DEV_SRC_KIND (k : Nat) : Fld := ⟨0x80024 + 8 * k, 0, 2⟩
/-- Ledger running (R526) (LDG-6, R542). -/
def Reg.LEDGER_STAT_RUN : Fld := ⟨0xc0000, 0, 1⟩
/-- Fewer than 2 entries free outside the reserve (LDG-6, R542). -/
def Reg.LEDGER_STAT_FULL : Fld := ⟨0xc0000, 1, 1⟩
/-- R531 (LDG-6, R542). -/
def Reg.LEDGER_STAT_LOSS_PENDING : Fld := ⟨0xc0000, 2, 1⟩
/-- Next sequence to commit (R536) (LDG-6, R542). -/
def Reg.LEDGER_WR_SEQ : Fld := ⟨0xc0008, 0, 64⟩
/-- Oldest record held (LDG-6, R542). -/
def Reg.LEDGER_OLDEST_SEQ : Fld := ⟨0xc0010, 0, 64⟩
/-- Entries in use, 0–1024 (LDG-6, R542). -/
def Reg.LEDGER_EVQ_LEVEL_LEVEL : Fld := ⟨0xc0018, 0, 11⟩
/-- Highest LEVEL since reset or PEAK_RESET (LDG-6, R542). -/
def Reg.LEDGER_EVQ_LEVEL_PEAK : Fld := ⟨0xc0018, 16, 11⟩
/-- Sets PEAK to LEVEL; reads 0 (LDG-6, R542). -/
def Reg.LEDGER_CTL : Fld := ⟨0xc001c, 0, 1⟩
/-- R530 (LDG-6, R542). -/
def Reg.LEDGER_MERGED : Fld := ⟨0xc0020, 0, 32⟩
/-- LOSS records committed (LDG-6, R542). -/
def Reg.LEDGER_LOSS_RECORDS : Fld := ⟨0xc0024, 0, 16⟩
/-- Records committed in the last whole millisecond (LDG-6, R542). -/
def Reg.LEDGER_RATE : Fld := ⟨0xc0028, 0, 12⟩
/-- BUILD_STAMP [15:0] (LDG-6, R542). -/
def Reg.LEDGER_STAMP : Fld := ⟨0xc002c, 0, 16⟩
/-- Drops of class *c*, *c* = 0–7 (LDG-6, R542). -/
def Reg.LEDGER_LOST (k : Nat) : Fld := ⟨0xc0040 + 4 * k, 0, 32⟩
/-- Bit *k*: code 0x0100 + *k* latched (FLT-5, R564). -/
def Reg.FAULT_DEV_LATCH : Fld := ⟨0xd0000, 1, 5⟩
/-- Condition present now (FLT-5, R564). -/
def Reg.FAULT_DEV_LIVE : Fld := ⟨0xd0004, 1, 5⟩
/-- R547 (FLT-5, R564). -/
def Reg.FAULT_DEV_FIRST_CODE : Fld := ⟨0xd0008, 0, 16⟩
/-- See the table. (FLT-5, R564). -/
def Reg.FAULT_DEV_FIRST_VALID : Fld := ⟨0xd0008, 31, 1⟩
/-- See the table. (FLT-5, R564). -/
def Reg.FAULT_DEV_FIRST_NTIME : Fld := ⟨0xd0010, 0, 64⟩
/-- i16, 0.1 °C (FLT-5, R564). -/
def Reg.FAULT_TEMP_DC : Fld := ⟨0xd0018, 0, 16⟩
/-- Above 90 °C (FLT-5, R564). -/
def Reg.FAULT_TEMP_HOT : Fld := ⟨0xd0018, 16, 1⟩
/-- DRIVE_ENABLE after filter (FLT-5, R564). -/
def Reg.FAULT_DE_LEVEL : Fld := ⟨0xd001c, 0, 1⟩
/-- R560 (FLT-5, R564). -/
def Reg.FAULT_DE_HW_CUT : Fld := ⟨0xd001c, 1, 1⟩
/-- ms, 0–1000 (FLT-5, R564). -/
def Reg.FAULT_DE_CFG : Fld := ⟨0xd0020, 0, 10⟩
/-- Bit *x*: STO line of PS*x* asserted (FLT-5, R564). -/
def Reg.FAULT_STO_STAT : Fld := ⟨0xd0024, 0, 16⟩
/-- Faults broadcast (FLT-5, R564). -/
def Reg.FAULT_GONG_COUNT : Fld := ⟨0xd0028, 0, 32⟩
/-- Bit *k*: code *k* latched (FLT-5, R564). -/
def Reg.FAULT_GRP_LATCH (k : Nat) : Fld := ⟨0xd0100 + 0x40 * k, 1, 26⟩
/-- Cause persists (FLT-5, R564). -/
def Reg.FAULT_GRP_LIVE (k : Nat) : Fld := ⟨0xd0104 + 0x40 * k, 1, 26⟩
/-- R547 (FLT-5, R564). -/
def Reg.FAULT_GRP_FIRST_CODE (k : Nat) : Fld := ⟨0xd0108 + 0x40 * k, 0, 16⟩
/-- See the table. (FLT-5, R564). -/
def Reg.FAULT_GRP_FIRST_UNIT (k : Nat) : Fld := ⟨0xd0108 + 0x40 * k, 16, 8⟩
/-- See the table. (FLT-5, R564). -/
def Reg.FAULT_GRP_FIRST_REACT (k : Nat) : Fld := ⟨0xd0108 + 0x40 * k, 24, 3⟩
/-- See the table. (FLT-5, R564). -/
def Reg.FAULT_GRP_FIRST_VALID (k : Nat) : Fld := ⟨0xd0108 + 0x40 * k, 31, 1⟩
/-- See the table. (FLT-5, R564). -/
def Reg.FAULT_GRP_FIRST_NTIME (k : Nat) : Fld := ⟨0xd010c + 0x40 * k, 0, 64⟩
/-- Strongest reaction in force; 0 when none (FLT-5, R564). -/
def Reg.FAULT_GRP_REACT_NOW (k : Nat) : Fld := ⟨0xd0114 + 0x40 * k, 0, 3⟩
/-- Faults raised for G*n* (FLT-5, R564). -/
def Reg.FAULT_GRP_COUNT (k : Nat) : Fld := ⟨0xd0118 + 0x40 * k, 0, 32⟩
/-- 1–60 000 (R550) (FLT-5, R564). -/
def Reg.FAULT_GRP_STOP_MAX (k : Nat) : Fld := ⟨0xd011c + 0x40 * k, 0, 16⟩
/-- 0 COAST, 1 SHORT, 2 BRAKE_OUT; 3 rejected (FLT-5, R564). -/
def Reg.FAULT_AXG_CFG (k : Nat) : Fld := ⟨0xd0800 + 8 * k, 0, 2⟩
/-- G in Table FLT-3 (FLT-5, R564). -/
def Reg.FAULT_AXG_GTIME (k : Nat) : Fld := ⟨0xd0804 + 8 * k, 0, 20⟩

/-- Reaction of group `n` to group code `code`, nibble `code % 8` of REACT[code / 8] (FLT-5, R564). -/
def Reg.FAULT_GRP_REACT (n code : Nat) : Fld := ⟨0xd0120 + 0x40 * n + 4 * (code / 8), 4 * (code % 8), 4⟩
/-- Reaction of group `n` to device code 0x0100 + `k` (FLT-5, R564). -/
def Reg.FAULT_GRP_DEV_REACT (n k : Nat) : Fld := ⟨0xd0130 + 0x40 * n, 4 * k, 4⟩
/-- Mailbox map of filter element `i`: the group (CAN-7). -/
def Reg.CAN_MBX_MAP_GROUP (c i : Nat) : Fld := ⟨0x90400 + 0x1000 * c + 4 * (i / 4), 8 * (i % 4), 4⟩
/-- Mailbox map of filter element `i`: the slot (CAN-7). -/
def Reg.CAN_MBX_MAP_SLOT (c i : Nat) : Fld := ⟨0x90400 + 0x1000 * c + 4 * (i / 4), 8 * (i % 4) + 4, 2⟩
/-- Mailbox map of filter element `i`: valid (CAN-7). -/
def Reg.CAN_MBX_MAP_VALID (c i : Nat) : Fld := ⟨0x90400 + 0x1000 * c + 4 * (i / 4), 8 * (i % 4) + 7, 1⟩

end Sys2Proof.Machine
end

