-- ==== Sys2Proof/Machine/Ops.lean ====
section
/-!
DEFINITION. Ops.lean: the named operations over the state: register fields, unit records, memory bytes, time, device
mode, ownership, the event queue and the items of event frames.
-/
namespace Sys2Proof.Machine

/-- The result type of every meaning. -/
abbrev Out := Host.Outcome State Fault Refusal

/-! ### Register fields -/

/-- The value of a register field. -/
def State.get (s : State) (f : Fld) : Nat := SMap.get regReset s.regs f.key

/-- The state with a register field set (to the low bits of `v` that it holds). -/
def State.set (s : State) (f : Fld) (v : Nat) : State :=
  { s with regs := SMap.set regReset s.regs f.key (v % 2 ^ f.width) }

/-- A field read as a signed number (R12). -/
def State.getI (s : State) (f : Fld) : Int := toInt f.width (s.get f)

/-- A field set to a signed number (R12). -/
def State.setI (s : State) (f : Fld) (i : Int) : State := s.set f (ofInt f.width i)

/-- A one-bit field read as a truth value. -/
def State.flag (s : State) (f : Fld) : Bool := decide (s.get f ≠ 0)

/-- A one-bit field set from a truth value. -/
def State.put (s : State) (f : Fld) (b : Bool) : State := s.set f (b2n b)

/-- A saturating counter field raised by `k`. -/
def State.addSat (s : State) (f : Fld) (k : Nat) : State := s.set f (satN (2 ^ f.width - 1) (s.get f + k))

/-- A saturating counter field raised by one. -/
def State.inc (s : State) (f : Fld) : State := s.addSat f 1

/-- `f` applied when `c` holds. -/
def State.when (s : State) (c : Bool) (f : State → State) : State := if c then f s else s

/-- `f k` applied in turn for k = 0 .. n-1. -/
def State.each (s : State) : Nat → (Nat → State → State) → State
  | 0, _ => s
  | n + 1, f => f n (s.each n f)

/-! ### Unit records -/

def State.engX (s : State) (e : Nat) : EngX := SMap.get (fun _ => {}) s.eng e
def State.setEng (s : State) (e : Nat) (x : EngX) : State := { s with eng := SMap.set (fun _ => {}) s.eng e x }
def State.modEng (s : State) (e : Nat) (f : EngX → EngX) : State := s.setEng e (f (s.engX e))
def State.grpX (s : State) (n : Nat) : GroupX := SMap.get (fun _ => {}) s.grp n
def State.setGrp (s : State) (n : Nat) (x : GroupX) : State := { s with grp := SMap.set (fun _ => {}) s.grp n x }
def State.modGrp (s : State) (n : Nat) (f : GroupX → GroupX) : State := s.setGrp n (f (s.grpX n))
def State.axisX (s : State) (k : Nat) : AxisX := SMap.get (fun _ => {}) s.axis k
def State.setAxis (s : State) (k : Nat) (x : AxisX) : State := { s with axis := SMap.set (fun _ => {}) s.axis k x }
def State.modAxis (s : State) (k : Nat) (f : AxisX → AxisX) : State := s.setAxis k (f (s.axisX k))
def State.curX (s : State) (k : Nat) : CurX := SMap.get (fun _ => {}) s.cur k
def State.setCur (s : State) (k : Nat) (x : CurX) : State := { s with cur := SMap.set (fun _ => {}) s.cur k x }
def State.modCur (s : State) (k : Nat) (f : CurX → CurX) : State := s.setCur k (f (s.curX k))
def State.claveX (s : State) (n : Nat) : ClaveX := SMap.get (fun _ => {}) s.clave n
def State.setClave (s : State) (n : Nat) (x : ClaveX) : State := { s with clave := SMap.set (fun _ => {}) s.clave n x }
def State.modClave (s : State) (n : Nat) (f : ClaveX → ClaveX) : State := s.setClave n (f (s.claveX n))
def State.hoX (s : State) (k : Nat) : HoX := SMap.get (fun _ => {}) s.ho k
def State.setHo (s : State) (k : Nat) (x : HoX) : State := { s with ho := SMap.set (fun _ => {}) s.ho k x }
def State.modHo (s : State) (k : Nat) (f : HoX → HoX) : State := s.setHo k (f (s.hoX k))
def State.snareX (s : State) (u : Nat) : SnareX := SMap.get (fun _ => {}) s.snare u
def State.setSnare (s : State) (u : Nat) (x : SnareX) : State := { s with snare := SMap.set (fun _ => {}) s.snare u x }
def State.modSnare (s : State) (u : Nat) (f : SnareX → SnareX) : State := s.setSnare u (f (s.snareX u))
def State.fbX (s : State) (p : Nat) : FbX := SMap.get (fun _ => {}) s.fb p
def State.setFb (s : State) (p : Nat) (x : FbX) : State := { s with fb := SMap.set (fun _ => {}) s.fb p x }
def State.modFb (s : State) (p : Nat) (f : FbX → FbX) : State := s.setFb p (f (s.fbX p))
def State.echoX (s : State) (k : Nat) : EchoX := SMap.get (fun _ => {}) s.echo k
def State.setEcho (s : State) (k : Nat) (x : EchoX) : State := { s with echo := SMap.set (fun _ => {}) s.echo k x }
def State.canX (s : State) (c : Nat) : CanX := SMap.get (fun _ => {}) s.can c
def State.setCan (s : State) (c : Nat) (x : CanX) : State := { s with can := SMap.set (fun _ => {}) s.can c x }
def State.modCan (s : State) (c : Nat) (f : CanX → CanX) : State := s.setCan c (f (s.canX c))
def State.sessX (s : State) (ep : Nat) : Session := SMap.get (fun _ => {}) s.sess ep
def State.setSess (s : State) (ep : Nat) (x : Session) : State := { s with sess := SMap.set (fun _ => {}) s.sess ep x }
def State.modSess (s : State) (ep : Nat) (f : Session → Session) : State := s.setSess ep (f (s.sessX ep))
def State.holdX (s : State) (a : Nat) : PairHold := SMap.get (fun _ => {}) s.holds a
def State.setHold (s : State) (a : Nat) (x : PairHold) : State := { s with holds := SMap.set (fun _ => {}) s.holds a x }

/-! ### Memory (R121, R73): a byte that is not listed reads zero -/

/-- What an unlisted byte reads as: memory is cleared on every entry to LOADING (R73). -/
def memReset : Nat → Byte := fun _ => 0

/-- The canonical form of memory: addresses rise strictly and no listed byte is zero. -/
def Memory.wf (m : List Host.Cell) : Bool := SMap.wf memReset m

def State.rdByte (s : State) (a : Nat) : Byte := SMap.get memReset s.mem a
def State.wrByte (s : State) (a : Nat) (b : Byte) : State := { s with mem := SMap.set memReset s.mem a b }

/-- `n` bytes from address `a`. -/
def State.rdBytes (s : State) (a : Nat) : Nat → List Byte
  | 0 => []
  | n + 1 => s.rdByte a :: State.rdBytes s (a + 1) n

/-- The bytes `l` stored from address `a`. -/
def State.wrBytes (s : State) (a : Nat) : List Byte → State
  | [] => s
  | b :: r => State.wrBytes (s.wrByte a b) (a + 1) r

/-- Every word with check bits from `lo` to before `hi` has been written anew: what was wrong with it is gone (R595). -/
def State.eccHeal (s : State) (lo hi : Nat) : State :=
  { s with flt := { s.flt with latent := s.flt.latent.filter (fun w => !(decide (lo ≤ w) && decide (w < hi))) } }

/-- A little-endian number of `k` bytes at address `a` (R10). -/
def State.rdLE (s : State) (a k : Nat) : Nat := ofLE (s.rdBytes a k)

/-- A little-endian number of `k` bytes stored at address `a` (R10). -/
def State.wrLE (s : State) (a k v : Nat) : State := s.wrBytes a (leBytes k v)

/-- Every listed byte from address `a` up to, not including, `b` removed: the range reads zero. -/
def State.clearRange (s : State) (a b : Nat) : State :=
  { s with mem := s.mem.filter (fun c => !(decide (a ≤ c.1) && decide (c.1 < b))) }

/-- A backup register, with its mirror in the fallback-reason block (R120). -/
def State.setBk (s : State) (i v : Nat) : State :=
  let s := s.set (Reg.SYS_BKREG i) v
  if i = 1 then s.set Reg.SYS_FB_REASON v
  else if i = 2 then s.set Reg.SYS_FB_DETAIL_A v
  else if i = 3 then s.set Reg.SYS_FB_DETAIL_B v
  else s

/-! ### Time and mode -/

/-- NTIME in nanoseconds (u64). -/
def State.ntime (s : State) : Nat := s.ntimeH / 2 % 2 ^ 64

/-- Device modes (Table PWR-5). -/
def modeDormant : Nat := 0
def modeLoading : Nat := 1
def modeFallback : Nat := 2
def modeStandby : Nat := 3
def modeOperate : Nat := 4
def modeSafeHold : Nat := 5

/-- The device mode (R63). -/
def State.mode (s : State) : Nat := s.get Reg.SYS_MODE_CODE

/-- The main clock runs: not in DORMANT, not while it is lost (R41, R556). -/
def State.awake (s : State) : Bool := decide (s.mode ≠ modeDormant) && !s.flt.clockLost

/-- RESTART has been answered and LOADING has not yet closed the transports: what waits in them still leaves (R69, Table
PWR-6). -/
def State.draining (s : State) : Bool := decide (s.mode = modeLoading) && decide (s.start.entry = some 2)

/-- The RTC counts on for 2.5 ns: 512 of 6250000 parts of a 1/32768 s tick (R47). -/
def Backup.tick (b : Backup) : Backup :=
  if 6250000 ≤ b.sub + 512 then { b with sub := b.sub + 512 - 6250000, rtc := (b.rtc + 1) % 2 ^ 48 }
  else { b with sub := b.sub + 512 }

/-- A clock counts toward the 30 s of a start attempt in STANDBY and OPERATE until it is concluded; HELD_S shows whole seconds
(R79, R80). -/
def State.hold30 (s : State) : State :=
  if (s.mode = modeStandby ∨ s.mode = modeOperate) ∧ s.get Reg.SYS_START_STAT_CONCLUDED = 0 then
    let h := s.start.held + 1
    let s := { s with start := { s.start with held := h } }
    if h % 400000000 = 0 then s.set Reg.SYS_START_STAT_HELD_S (min 30 (h / 400000000)) else s
  else s

/-- 2.5 ns pass: the backup domain counts on, and the main clock with NTIME where it runs (R9), at the rate that the time engine
has set (R428, R429). -/
def State.tick (s : State) : State :=
  let s := { s with bk := s.bk.tick }
  if s.awake then
    let s := s.hold30
    let f := s.eth.frac + 5 * s.getI Reg.ETH_PTP_RATE
    { s with clk := s.clk + 1, ntimeH := s.ntimeH + (5 + f / 1000000000).toNat, eth := { s.eth with frac := f % 1000000000 } }
  else s

/-- STANDBY, OPERATE or SAFE_HOLD: groups exist, ticks and ledger run (R70, R155, R526). -/
def State.live (s : State) : Bool := decide (3 ≤ s.mode)

/-- The main clock runs and groups and engines exist. -/
def State.up (s : State) : Bool := s.awake && s.live

/-- The next value of the free-value counter, and the state that has drawn it. -/
def State.draw (s : State) : State := { s with drawn := s.drawn + 1 }

/-! ### Groups and ownership (R124, Table GRP-7) -/

/-- Group states (Table SET-6). -/
def gsDisabled : Nat := 0
def gsEnabled : Nat := 1
def gsMoving : Nat := 2
def gsHeld : Nat := 3
def gsStopping : Nat := 4
def gsFault : Nat := 5
def gsTakeover : Nat := 6

def State.gstate (s : State) (n : Nat) : Nat := s.get (Reg.GRP_STATE_STATE n)

/-- The first of groups 0-15 whose ownership field has bit `i`. -/
def State.ownerOf (s : State) (own : Nat → Fld) (i : Nat) : Option Nat :=
  (List.range 16).find? (fun n => bit (s.get (own n)) i)

def State.axisGroup (s : State) (x : Nat) : Option Nat := s.ownerOf Reg.GRP_OWN_AXES x
def State.snareGroup (s : State) (u : Nat) : Option Nat := s.ownerOf Reg.GRP_OWN_SNARE u
def State.fbGroup (s : State) (p : Nat) : Option Nat := s.ownerOf Reg.GRP_OWN_FB p
def State.diGroup (s : State) (i : Nat) : Option Nat := s.ownerOf Reg.GRP_OWN_DI i
def State.doGroup (s : State) (j : Nat) : Option Nat := s.ownerOf Reg.GRP_OWN_DO j
def State.hiGroup (s : State) (k : Nat) : Option Nat := s.ownerOf Reg.GRP_OWN_IO_HI k
def State.hoGroup (s : State) (k : Nat) : Option Nat := s.ownerOf Reg.GRP_OWN_IO_HO k
def State.aiGroup (s : State) (k : Nat) : Option Nat := s.ownerOf Reg.GRP_OWN_IO_AI k
def State.puGroup (s : State) (k : Nat) : Option Nat := s.ownerOf Reg.GRP_OWN_IO_PU k

/-- The axes of group `n` in rising order. -/
def State.axesOf (s : State) (n : Nat) : List Nat := (List.range 32).filter (fun x => bit (s.get (Reg.GRP_OWN_AXES n)) x)

/-- The engine that serves group `n` (R126). -/
def State.engOf (s : State) (n : Nat) : Nat := s.get (Reg.GRP_ENGINE n)

/-! ### Event frames: items offered to subscribers (R520, R521) -/

/-- The item waits at endpoint `ep` when its session's mask has bit `b`. -/
def State.offerTo (s : State) (ep b : Nat) (it : Item) : State :=
  if s.flag (Reg.SYS_BXP_SESSION_OPEN ep) && bit (s.sessX ep).mask b then
    s.modSess ep (fun x => { x with waiting := x.waiting ++ [it] })
  else s

/-- The item is offered to the endpoint of its group and to the device endpoint (R520). -/
def State.offer (s : State) (group b : Nat) (it : Item) : State :=
  let s := if group < 16 then s.offerTo group b it else s
  s.offerTo 16 b it

/-- A group state change, with its STATE item (Table BXP-9). -/
def State.setGState (s : State) (n st : Nat) : State :=
  let old := s.gstate n
  if old = st then s
  else
    (s.set (Reg.GRP_STATE_STATE n) st).offer n 11
      { kind := 5, body := leBytes 1 n ++ leBytes 1 old ++ leBytes 1 st ++ [0] ++ leBytes 8 s.ntime }

/-- `f` applied to each axis of a list in turn. -/
def State.forAll (s : State) (l : List Nat) (f : State → Nat → State) : State := l.foldl f s

/-! ### The event queue (R527-R531) -/

/-- Entries that an event takes (R527). -/
def Ev.entries (e : Ev) : Nat := if e.long then 2 else 1

/-- Entries in use by waiting events other than LOSS. -/
def evqUsed (q : List Ev) : Nat := (q.map Ev.entries).sum

/-- Level, peak, FULL and LOSS_PENDING as the queue stands (Table LDG-6). -/
def State.syncEvq (s : State) : State :=
  let u := evqUsed s.led.evq
  let lvl := u + (if s.led.loss.isSome then 2 else 0)
  let s := s.set Reg.LEDGER_EVQ_LEVEL_LEVEL lvl
  let s := s.set Reg.LEDGER_EVQ_LEVEL_PEAK (max lvl (s.get Reg.LEDGER_EVQ_LEVEL_PEAK))
  let s := s.put Reg.LEDGER_STAT_FULL (decide (1022 < u + 2))
  s.put Reg.LEDGER_STAT_LOSS_PENDING s.led.loss.isSome

/-- A twin of `e` nearest the tail takes it over: COUNT grows, the payload is replaced (R530). -/
def mergeEv (e : Ev) : List Ev → Option (List Ev)
  | [] => none
  | q :: r =>
    match mergeEv e r with
    | some r' => some (q :: r')
    | none =>
      if q.group = e.group ∧ q.cls = e.cls ∧ q.code = e.code then
        some ({ q with count := satN 65535 (q.count + e.count), payload := e.payload } :: r)
      else none

/-- One drop of class `c` counted in the LOSS event (R531). -/
def lossAdd (now c : Nat) : Option (Nat × List Nat) → Option (Nat × List Nat)
  | none => some (now, (List.replicate 8 0).set c 1)
  | some (t, l) => some (t, l.set c (l.getD c 0 + 1))

/-- One event is placed, merged or dropped and counted (R530, R531). -/
def EvqPart.place (now : Nat) (p : EvqPart) (e : Ev) : EvqPart :=
  if evqUsed p.evq + e.entries ≤ 1022 then { p with evq := p.evq ++ [e] }
  else
    match mergeEv e p.evq with
    | some q => { p with evq := q, merged := p.merged + 1 }
    | none => { p with loss := lossAdd now e.cls p.loss, lost := p.lost.set e.cls (p.lost.getD e.cls 0 + 1) }

/-- The place of an event among those of its clock (R529): DEVICE_FAULT, then GROUP_FAULT by group, then the rest by group, the
device last, and class. -/
def Ev.rank (e : Ev) : Nat :=
  if e.cls = 3 then 0 else if e.cls = 2 then 1 + e.group else 1000 + e.group * 8 + e.cls

/-- The event takes its place among those of its clock, behind its equals. -/
def offerEv (e : Ev) : List Ev → List Ev
  | [] => [e]
  | q :: r => if e.rank < q.rank then e :: q :: r else q :: offerEv e r

/-- The events of the present clock and the queue that they found. -/
def State.evqTurn (s : State) : EvqTurn :=
  let fresh : EvqTurn := { clk := s.clk, base := { evq := s.led.evq, loss := s.led.loss } }
  match s.led.turn with
  | some t => if t.clk = s.clk then t else fresh
  | none => fresh

/-- An event is posted: each event of this clock is placed, merged or dropped and counted in the order of R529 (R530, R531). Outside
STANDBY, OPERATE and SAFE_HOLD nothing is recorded (R526). -/
def State.post (s : State) (e : Ev) : State :=
  if !s.live then s
  else
    let t := s.evqTurn
    let l := offerEv { e with clk := s.clk } t.events
    let p0 := t.events.foldl (EvqPart.place s.ntime) t.base
    let p := l.foldl (EvqPart.place s.ntime) t.base
    let s := State.syncEvq { s with led := { s.led with evq := p.evq, loss := p.loss, turn := some { t with events := l } } }
    let s := if p.merged = p0.merged then s
      else s.set Reg.LEDGER_MERGED (satN 0xFFFFFFFF (s.get Reg.LEDGER_MERGED + p.merged - p0.merged))
    if p.lost = p0.lost then s
    else s.forAll (List.range 8) (fun s c =>
      s.set (Reg.LEDGER_LOST c) (satN 0xFFFFFFFF (s.get (Reg.LEDGER_LOST c) + p.lost.getD c 0 - p0.lost.getD c 0)))

/-- The events posted so far keep their places whatever this clock still brings: START stays the first record (R526). -/
def State.sealEvq (s : State) : State := { s with led := { s.led with turn := none } }

/-- Event classes (Table LDG-1). -/
def clsInfo : Nat := 0
def clsWarn : Nat := 1
def clsGroupFault : Nat := 2
def clsDeviceFault : Nat := 3
def clsProto : Nat := 4
def clsCmd : Nat := 5
def clsMark : Nat := 6
def clsLoss : Nat := 7

/-- The master coordinate of a group now, from the motion that Clave uses for the present span (R349, R528); 0 for the
device (group 255). -/
def State.coordOf (s : State) (group : Nat) : Int :=
  if group < 16 then (s.claveX group).motion.posAt s.clk else 0

/-- An event that occurs now. -/
def State.event (s : State) (group cls code : Nat) (long : Bool) (payload : List Byte) : State :=
  s.post { ntime := s.ntime, coord := s.coordOf group, group := group, cls := cls, code := code, count := 1, long := long,
           payload := payload }

/-- An INFO event (Table LDG-5). -/
def State.info (s : State) (group code : Nat) (long : Bool) (payload : List Byte) : State := s.event group clsInfo code long payload
/-- A WARN event (Table LDG-5). -/
def State.warn (s : State) (group code : Nat) (long : Bool) (payload : List Byte) : State := s.event group clsWarn code long payload

/-- Bytes from small numbers, each in one byte. -/
def u8s (l : List Nat) : List Byte := l.map (fun n => BitVec.ofNat 8 n)

end Sys2Proof.Machine
end

