-- ==== Sys2Proof/Machine/Units.lean ====
section
/-!
DEFINITION. Units.lean: what the units of the module do on command of other units: power stages and GUARD variants
(Tables LOP-3, FLT-3), dropping of plans (R288), fast and field outputs (R335, R340, R341), latch arming (R347).
-/
namespace Sys2Proof.Machine

/-- Whether axis `x` is a network axis (X16-X31). -/
def isNet (x : Nat) : Bool := decide (16 ≤ x)

/-- Cell states (Table LOP-6). -/
def cellOff : Nat := 0
def cellEnabling : Nat := 1
def cellRun : Nat := 2
def cellTripped : Nat := 3

/-- The enable output of PSx driven, unless the hardware cut of R560 or an idle main domain forbids it. -/
def State.setEnable (s : State) (x : Nat) (on : Bool) : State :=
  s.put (Reg.CUR_STAT_ENABLE_OUT x) (on && !s.flag Reg.FAULT_DE_HW_CUT)

/-- The carrier counter (R260): it stands at 0 and at FAST_CLK on alternate fast boundaries. -/
def State.carrier (s : State) : Nat :=
  let f := s.get Reg.SYS_TICK_CFG_FAST_CLK
  let e := min f (s.clk - s.tick_.lastFast)
  if s.tick_.down then f - e else e

/-- The compare value of phase `k` (R260). -/
def State.compareOf (s : State) (x k : Nat) : Nat :=
  s.get (if k = 0 then Reg.CUR_CMP_AB_A x else if k = 1 then Reg.CUR_CMP_AB_B x else Reg.CUR_CMP_C x)

/-- Which switch of phase `k` the cell commands on: the high-side one, the low-side one, or none (R260, Table FLT-3). -/
def State.switchOn (s : State) (x k : Nat) : Option Bool :=
  match (s.curX x).pwm with
  | 0 => none
  | 1 => some (decide (s.carrier < s.compareOf x k))
  | _ => some false

/-- The clock since which the command of phase `k` stands: the counter passes the compare value at most once in a fast sample. -/
def State.switchAt (s : State) (x k : Nat) : Nat :=
  let q := (s.curX x).phases.getD k (none, 0)
  let c := s.compareOf x k
  if s.switchOn x k = q.1 then q.2
  else s.tick_.lastFast + (if s.tick_.down then s.get Reg.SYS_TICK_CFG_FAST_CLK + 1 - c else c)

/-- PWM line of the high-side (`hi`) or low-side switch of phase `k`: it turns on DT after the command and off with it (R261). -/
def State.gateOn (s : State) (x k : Nat) (hi : Bool) : Bool :=
  decide (s.switchOn x k = some hi) && decide (s.switchAt x k + s.get (Reg.CUR_DEADTIME_DT x) ≤ s.clk)

/-- The lines of power-stage interface PSx (R570, R42): the high-side and low-side PWM lines of the three phases, ENABLE and BRAKE; a
high line turns its switch on, is active, or releases the brake. Without VMAIN the pull-downs hold all of them low. -/
def State.psLines (s : State) (x : Nat) : List Bool × List Bool × Bool × Bool :=
  let up := decide (s.mode ≠ modeDormant)
  ((List.range 3).map (fun k => up && s.gateOn x k true), (List.range 3).map (fun k => up && s.gateOn x k false),
    up && s.flag (Reg.CUR_STAT_ENABLE_OUT x), up && s.flag (Reg.CUR_STAT_BRAKE_OUT x))

/-- The phase commands after the change from `s` to `t`, each with the clock since which it stands. -/
def State.phasesFrom (s t : State) (x : Nat) : List (Option Bool × Nat) :=
  (List.range 3).map (fun k => (t.switchOn x k, if t.switchOn x k = s.switchOn x k then s.switchAt x k else t.clk))

/-- The PWM lines of PSx put into a state: 0 off, 1 switching, 2 low-side on; the hardware cut holds them off (R560). -/
def State.setPwm (s : State) (x k : Nat) : State :=
  let t := s.modCur x (fun c => { c with pwm := if s.flag Reg.FAULT_DE_HW_CUT then 0 else k })
  t.modCur x (fun c => { c with phases := s.phasesFrom t x })

/-- The cell goes OFF unless it is TRIPPED; its integrators are zero (R263). -/
def State.cellToOff (s : State) (x : Nat) : State :=
  let s := if s.get (Reg.CUR_STAT_STATE x) = cellTripped then s else s.set (Reg.CUR_STAT_STATE x) cellOff
  s.modCur x (fun c => { c with iD := 0, iQ := 0, zero := false })

/-- The coupling of an axis is released (R288, R311). -/
def State.dropCoupling (s : State) (x : Nat) : State :=
  let s := (s.set (Reg.AXIS_CPL_CFG_KIND x) 0).set (Reg.AXIS_CPL_STAT_CLUTCH x) 0
  let s := s.set (Reg.AXIS_CPL_STAT_U x) 0
  s.modAxis x (fun a => { a with chain := [], lead := none, next := none, declutch := false })

/-- The follow channel of an axis is released (R288, R314). -/
def State.dropFollow (s : State) (x : Nat) : State :=
  let s := s.set (Reg.AXIS_FOL_CFG_SRC x) 0xFF
  s.modAxis x (fun a => { a with folV := 0, folEnd := false })

/-- Every plan of an axis is dropped (R288). -/
def State.dropPlans (s : State) (x : Nat) : State :=
  let s := (s.dropCoupling x).dropFollow x
  let s := (s.set (Reg.AXIS_SRC_ACTIVE x) 0).set (Reg.AXIS_SRC_HELD x) 0
  let s := s.set (Reg.AXIS_SRC_REVERSING x) 0
  s.modAxis x (fun a => { a with plan := none, kept := none })

/-- The axis stops being powered, and with it every plan of it ends (R283). -/
def State.unpower (s : State) (x : Nat) : State := (s.set (Reg.AXIS_SRC_POWERED x) 0).dropPlans x

/-- What the GUARD variants do after G (Table FLT-3). -/
def State.guardEnd (s : State) (x : Nat) : State :=
  let s := (s.setPwm x 0).setEnable x false
  let s := s.set (Reg.CUR_STAT_BRAKE_OUT x) 0
  s.modAxis x (fun a => { a with phase := 0 })

/-- GUARD variant `v` of a local axis at once (Table FLT-3); with G = 0 its delayed part follows at once. -/
def State.guardLocal (s : State) (x v : Nat) : State :=
  let s := (s.unpower x).cellToOff x
  if v = 1 then
    let s := (s.setPwm x 2).setEnable x true
    if s.get (Reg.FAULT_AXG_GTIME x) = 0 then s.guardEnd x else s.modAxis x (fun a => { a with phase := 5 })
  else if v = 2 then s.guardEnd x
  else
    let s := (s.setPwm x 0).setEnable x false
    if s.get (Reg.FAULT_AXG_GTIME x) = 0 then s.guardEnd x else s.modAxis x (fun a => { a with phase := 5 })

/-- An axis performs its GUARD variant (R551, R552): a tripped cell COAST whatever its variant holds; a network axis stops
being powered. An axis whose power stage is already off or guarded stays as it is. -/
def State.guardAxis (s : State) (x : Nat) : State :=
  if isNet x then s.unpower x
  else if (s.axisX x).phase = 0 ∨ (s.axisX x).phase = 5 then s.unpower x
  else if s.get (Reg.CUR_STAT_STATE x) = cellTripped then s.guardLocal x 0
  else s.guardLocal x (s.get (Reg.FAULT_AXG_CFG x))

/-- The end of the power-down sequence (Table LOP-3): cell OFF, PWM off, enable output inactive. -/
def State.powerDownEnd (s : State) (x : Nat) : State :=
  let s := ((s.cellToOff x).setPwm x 0).setEnable x false
  s.modAxis x (fun a => { a with phase := 0 })

/-- The power-down sequence of an axis starts (Table LOP-3, R553); without BRAKE_ENG_DELAY it ends at once. -/
def State.powerDown (s : State) (x : Nat) : State :=
  if isNet x then s.unpower x
  else if (s.axisX x).phase = 0 ∨ (s.axisX x).phase = 5 then s.unpower x
  else
    let s := (s.unpower x).set (Reg.CUR_STAT_BRAKE_OUT x) 0
    let s := s.modAxis x (fun a => { a with phase := 4 })
    if s.get (Reg.CUR_BRAKE_ENG_DELAY x) = 0 then s.powerDownEnd x else s

/-- The end of the power-up sequence (Table LOP-3): brake released, axis powered. -/
def State.powerUpEnd (s : State) (x : Nat) : State :=
  let s := (s.set (Reg.CUR_STAT_BRAKE_OUT x) 1).set (Reg.AXIS_SRC_POWERED x) 1
  s.modAxis x (fun a => { a with phase := 3 })

/-- EN_DELAY has passed: the cell enters RUN with integrators zero and set-points zero until the next slow boundary
(R259, Table LOP-3). -/
def State.cellEnterRun (s : State) (x : Nat) : State :=
  let s := (s.set (Reg.CUR_STAT_STATE x) cellRun).setPwm x 1
  let s := s.modCur x (fun c => { c with iD := 0, iQ := 0, zero := true })
  let s := (s.set (Reg.CUR_IQ_SET x) 0).set (Reg.CUR_ID_SET x) 0
  let s := s.modAxis x (fun a => { a with phase := 2 })
  if s.get (Reg.CUR_BRAKE_REL_DELAY x) = 0 then s.powerUpEnd x else s

/-- The power-up sequence of an axis starts (Table LOP-3); a network axis is powered while its drive is READY (R265). A
tripped cell stays tripped (R262). -/
def State.powerUp (s : State) (x : Nat) : State :=
  if isNet x then s.put (Reg.AXIS_SRC_POWERED x) (decide (s.get (Reg.AXIS_NET_STAT_DSTATE x) = 2))
  else if s.get (Reg.CUR_STAT_STATE x) = cellTripped then s
  else
    let s := (s.setEnable x true).set (Reg.CUR_STAT_STATE x) cellEnabling
    let s := (s.setPwm x 0).modAxis x (fun a => { a with phase := 1 })
    if s.get (Reg.CUR_EN_DELAY x) = 0 then s.cellEnterRun x else s

/-! ### Plans -/

/-- The path queue of a group is emptied and the path rests (R288, R301): ARC_END is ARC_POS. -/
def State.dropPath (s : State) (n : Nat) : State :=
  let s := s.modGrp n (fun g => { g with
    path := [], pend := none, pnext := [], pv := 0, pa := 0, pplan := [], pdirty := false, pstop := 0, dwell := 0, pidle := true })
  let s := (s.set (Reg.GRP_QUEUE n) 0).set (Reg.GRP_PLANNED n) 0
  let s := (s.set (Reg.GRP_PATH_VEL n) 0).set (Reg.GRP_STATE_PATH_RUN n) 0
  s.set (Reg.GRP_ARC_END n) (s.get (Reg.GRP_ARC_POS n))

/-- Every plan of a group is discarded (R288). -/
def State.discard (s : State) (n : Nat) : State := (s.forAll (s.axesOf n) State.dropPlans).dropPath n

/-! ### Latch units (R347, R348) -/

/-- A unit is armed from this clock on; an armed unit only changes its mode. -/
def State.armSnare (s : State) (u : Nat) (continuous : Bool) : State :=
  let s := if s.flag (Reg.SNARE_STAT_ARMED u) then s else s.modSnare u (fun x => { x with ta := s.clk })
  (s.set (Reg.SNARE_STAT_ARMED u) 1).put (Reg.SNARE_STAT_MODE u) continuous

/-- A unit is disarmed from this clock on; an arming in the same clock leaves an empty interval (R348). -/
def State.disarmSnare (s : State) (u : Nat) : State :=
  if s.flag (Reg.SNARE_STAT_ARMED u) then
    let x := s.snareX u
    let s := (s.set (Reg.SNARE_STAT_ARMED u) 0).setSnare u { x with prev := some (x.ta, s.clk, s.flag (Reg.SNARE_STAT_MODE u)) }
    if x.ta = s.clk then s.inc (Reg.SNARE_EMPTY_WIN u) else s
  else s

/-- The latch units of a group. -/
def State.snaresOf (s : State) (n : Nat) : List Nat := (List.range 32).filter (fun u => bit (s.get (Reg.GRP_OWN_SNARE n)) u)

/-! ### Field outputs (R399-R401, R341) -/

/-- The lowest channel of the set that channel `j` belongs to (R399). -/
def State.doBase (s : State) (j : Nat) : Nat :=
  if bit (s.get Reg.FIELD_PAR_QUAD) (j / 4) then j / 4 * 4
  else if bit (s.get Reg.FIELD_PAR_PAIR) (j / 2) then j / 2 * 2
  else j

/-- The channels of the set whose lowest channel is `b`. -/
def State.doMembers (s : State) (b : Nat) : List Nat := (List.range 16).filter (fun j => s.doBase j = b)

/-- Every DO set, by lowest channel. -/
def State.doSets (s : State) : List Nat := (List.range 16).filter (fun j => s.doBase j = j)

/-- The DO sets that Clave counts as turned on by it. -/
def State.setDoOn (s : State) (n b : Nat) (on : Bool) : State :=
  s.modClave n (fun c => { c with doOn := if on then (if c.doOn.contains b then c.doOn else c.doOn ++ [b]) else c.doOn.filter (fun j => decide (j ≠ b)) })

/-- An output command is sent with an apply instant 30 us later on the 1 us grid (R401, R341): a host write changes the commanded value at
once, a Clave action when it arrives. A Clave action that the link cannot deliver is lost and counted. -/
def State.doSend (s : State) (b : Nat) (on : Bool) (clave : Option Nat) : State :=
  let c : DoCmd := { at_ := (s.ntime + 30000 + 999) / 1000 * 1000, set_ := b, on := on, clave := clave, was := false, sent := false }
  match clave with
  | none => { s.put (Reg.FIELD_DO_OUT b) on with field := { s.field with cmds := s.field.cmds ++ [c] } }
  | some n =>
    if s.flag Reg.FIELD_LINK_STAT_UP then
      { s.setDoOn n b on with field := { s.field with cmds := s.field.cmds ++ [{ c with was := (s.claveX n).doOn.contains b }] } }
    else s.inc (Reg.CLAVE_DO_LOST n)

/-! ### Fast outputs (R335-R340, R345) -/

/-- The state of output HOk, and its mirrors in HO_STAT and in HO_STATE of the owning group. -/
def State.hoPut (s : State) (k : Nat) (on : Bool) : State :=
  let v := s.get Reg.FIELD_HO_STAT
  let s := s.set Reg.FIELD_HO_STAT (setBits v k 1 (b2n on))
  match s.hoGroup k with
  | some n => s.put (Reg.CLAVE_HO_STATE_ON n k) on
  | none => s

/-- Whether output HOk is ON. -/
def State.hoOn (s : State) (k : Nat) : Bool := bit (s.get Reg.FIELD_HO_STAT) k

/-- The lines of HOk, non-inverted and inverted (R576, Table CLV-9): high-impedance in DORMANT; in LOADING and FALLBACK the OFF state
with POL = 0; else the output's state as POL sets its level. -/
def State.hoPins (s : State) (k : Nat) : Option (Bool × Bool) :=
  if s.mode = modeDormant then none
  else
    let high := s.live && (s.hoOn k != s.flag (Reg.FIELD_HO_CFG_POL k))
    some (high, !high)

/-- Output HOk turns on now: coordinate and clock are kept for its limits (R339). -/
def State.hoTurnOn (s : State) (k : Nat) (coord : Int) (clave : Bool) : State :=
  (s.hoPut k true).setHo k { s.hoX k with byClave := clave, onCoord := coord, onClk := s.clk, offAt := none }

/-- Output HOk turns off now. -/
def State.hoTurnOff (s : State) (k : Nat) : State :=
  (s.hoPut k false).setHo k { s.hoX k with byClave := false, offAt := none }

/-- The fast outputs of a group. -/
def State.hosOf (s : State) (n : Nat) : List Nat := (List.range 8).filter (fun k => bit (s.get (Reg.GRP_OWN_IO_HO n)) k)

/-- Clave drives every HO output and DO set of the group that it has turned on to OFF; `cause` 3 is shown in HO_STATE
(R323, R340). -/
def State.claveOff (s : State) (n : Nat) : State :=
  let s := s.forAll (s.hosOf n) (fun s k =>
    if s.hoOn k && (s.hoX k).byClave then (s.hoTurnOff k).set (Reg.CLAVE_HO_STATE_CAUSE n k) 3 else s)
  let l := (List.range 16).filter (fun b => (s.claveX n).doOn.contains b)
  let s := s.forAll l (fun s b => (s.doSend b false (some n)).set (Reg.FIELD_DO_OUT b) 0)
  s.modClave n (fun c => { c with doOn := [] })

/-- ON actions of the group's Clave are blocked: FAULT or SAFE_HOLD (R340). -/
def State.onBlocked (s : State) (n : Nat) : Bool := decide (s.gstate n = gsFault) || decide (s.mode = modeSafeHold)

/-! ### Event causes of engines (R162, Table ENG-3) -/

/-- Engine states (Table ENG-5). -/
def esOff : Nat := 0
def esActive : Nat := 1
def esSpare : Nat := 2
def esTakeover : Nat := 3
def esShadow : Nat := 4
def esQuarantine : Nat := 5
def esTesting : Nat := 6

/-- Engine `e` is in state `st` for group `n`. -/
def State.engIs (s : State) (e st n : Nat) : Bool :=
  decide (s.get (Reg.ENG_STATE_STATE e) = st) && s.flag (Reg.ENG_STATE_GVALID e) && decide (s.get (Reg.ENG_STATE_GROUP e) = n)

/-- The spare that loads for group `n`. -/
def State.loaderOf (s : State) (n : Nat) : Option Nat := (List.range 17).find? (fun e => s.engIs e esTakeover n)

/-- The target that shadows the engine of group `n` (R185). -/
def State.shadowOf (s : State) (n : Nat) : Option Nat :=
  let g := (s.grpX n).mig
  if g.phase = 2 ∨ g.phase = 3 then some g.target else none

/-- Bits set in the cause word of engine `e`. -/
def State.addCause (s : State) (e v : Nat) : State := s.set (Reg.ENG_EVT_CAUSE e) (s.get (Reg.ENG_EVT_CAUSE e) ||| v)

/-- Event cause bit `b` of group `n` is set in the cause word of the engine that serves it, or of the spare that loads for it, and of
a shadow, which sees the same causes (R162, R180, R186). -/
def State.raiseCause (s : State) (n b : Nat) : State :=
  let s := if s.flag (Reg.GRP_ENG_CFG_SERVED n) then s.addCause (s.engOf n) (2 ^ b)
    else match s.loaderOf n with
      | some e => s.addCause e (2 ^ b)
      | none => s
  match s.shadowOf n with
  | some e => s.addCause e (2 ^ b)
  | none => s

end Sys2Proof.Machine
end

