-- ==== Sys2Proof/Machine/Faults.lean ====
section
/-!
DEFINITION. Faults.lean: raising, reacting to, and clearing faults: Gong, group and device faults, reactions, SAFE_HOLD
and the backup history (R57, R543-R563), and the Clave source check (R323).
-/
namespace Sys2Proof.Machine

/-! ### Entering DISABLED and FAULT -/

/-- The group enters FAULT: every plan is discarded, Clave's outputs go off, its latch units are disarmed (R288, R340,
R347). -/
def State.enterFault (s : State) (n : Nat) : State :=
  let s := (s.setGState n gsFault).discard n
  let s := s.claveOff n
  let s := s.forAll (s.snaresOf n) State.disarmSnare
  let s := s.set (Reg.GRP_STATE_POWERING n) 0
  s.modGrp n (fun g => { g with stopFrom := none, replan := false, power := 0 })

/-- The group enters DISABLED (R288, R347). -/
def State.enterDisabled (s : State) (n : Nat) : State :=
  let s := (s.setGState n gsDisabled).discard n
  let s := s.forAll (s.snaresOf n) State.disarmSnare
  let s := (s.set (Reg.GRP_STATE_POWERING n) 0).set (Reg.FAULT_GRP_REACT_NOW n) 0
  s.modGrp n (fun g => { g with react := 0, stopFrom := none, replan := false, power := 0 })

/-! ### Reactions (R548-R554) -/

/-- GUARD: the group is in FAULT at once and each of its axes performs its GUARD variant (R551). -/
def State.guardGroup (s : State) (n : Nat) : State :=
  let s := s.forAll (s.axesOf n) State.guardAxis
  (s.enterFault n).set (Reg.FAULT_GRP_REACT_NOW n) 4

/-- DECEL (2) or QUICK (3): the group is in STOPPING; the stop is planned at the next slow boundary (R549). -/
def State.stopGroup (s : State) (n r : Nat) : State :=
  let s := s.setGState n gsStopping
  let s := (s.set (Reg.FAULT_GRP_REACT_NOW n) r).set (Reg.GRP_STATE_POWERING n) 0
  s.modGrp n (fun g => { g with react := r, stopFrom := some (g.stopFrom.getD s.clk), replan := true, power := 0 })

/-- Whether a group state is one in which reactions act (R548). -/
def reacts (gs : Nat) : Bool := decide (1 ≤ gs) && decide (gs ≠ gsFault)

/-- A reaction of DECEL, QUICK or GUARD in its group: the stronger one replaces the weaker (R554); a DISABLED group whose
axes are powering up guards them and stays DISABLED. -/
def State.react (s : State) (n r : Nat) : State :=
  let gs := s.gstate n
  if r < 2 then s
  else if gs = gsDisabled then
    if s.flag (Reg.GRP_STATE_POWERING n) then
      let s := (s.forAll (s.axesOf n) State.guardAxis).set (Reg.GRP_STATE_POWERING n) 0
      s.modGrp n (fun g => { g with power := 0 })
    else s
  else if gs = gsFault then s
  else if gs = gsStopping ∧ r ≤ (s.grpX n).react then s
  else if r = 4 then s.guardGroup n
  else s.stopGroup n r

/-! ### Group faults -/

/-- The reaction that the image assigns to a group code (Table FLT-5). -/
def State.reactOf (s : State) (n code : Nat) : Nat := s.get (Reg.FAULT_GRP_REACT n code)

/-- FIRST of a group: the first fault since CLEAR_FAULT; among faults of one clock the lowest code (R547). -/
def State.firstGroup (s : State) (n code unit r : Nat) : State :=
  let f := Reg.FAULT_GRP_FIRST_VALID n
  if !s.flag f || (decide (s.get (Reg.FAULT_GRP_FIRST_NTIME n) = s.ntime) && decide (code < s.get (Reg.FAULT_GRP_FIRST_CODE n))) then
    let s := ((s.set f 1).set (Reg.FAULT_GRP_FIRST_CODE n) code).set (Reg.FAULT_GRP_FIRST_UNIT n) unit
    (s.set (Reg.FAULT_GRP_FIRST_REACT n) r).set (Reg.FAULT_GRP_FIRST_NTIME n) s.ntime
  else s

/-- A group fault is raised with reaction `r` (5: ENG_FAIL), recorded and counted; its reaction is not applied here (R545,
R547). -/
def State.recordGroup (s : State) (n code unit detail r : Nat) : State :=
  let gs := s.gstate n
  let s := (s.inc Reg.FAULT_GONG_COUNT).inc (Reg.FAULT_GRP_COUNT n)
  let s := s.firstGroup n code unit r
  let s := if 1 ≤ r then s.set (Reg.FAULT_GRP_LATCH n) (s.get (Reg.FAULT_GRP_LATCH n) ||| 2 ^ (code - 1)) else s
  s.event n clsGroupFault code false (u8s [unit, r, gs, 0] ++ leBytes 4 detail)

/-- A group fault is raised (R543, R545-R548). -/
def State.raiseGroup (s : State) (n code unit detail : Nat) : State :=
  let r := s.reactOf n code
  (s.recordGroup n code unit detail r).react n r

/-- A group fault for the group that owns a unit, if there is one. -/
def State.raiseFor (s : State) (g : Option Nat) (code unit detail : Nat) : State :=
  match g with
  | some n => s.raiseGroup n code unit detail
  | none => s

/-! ### Device faults (R555-R557, R57) -/

/-- The device fault history entry (R57). -/
def State.history (s : State) (code : Nat) : State :=
  let b12 := s.get (Reg.SYS_BKREG 12)
  let next := bits b12 0 3
  let total := satN 0xFFFFFF (bits b12 8 24 + 1)
  let s := s.set (Reg.SYS_BKREG (4 + next)) (code % 65536 + s.mode * 65536 + total % 256 * 2 ^ 24)
  s.set (Reg.SYS_BKREG 12) ((next + 1) % 8 + total * 256)

/-- DEV_FIRST records the first device fault (R547). -/
def State.firstDevice (s : State) (code : Nat) : State :=
  if !s.flag Reg.FAULT_DEV_FIRST_VALID ||
      (decide (s.get Reg.FAULT_DEV_FIRST_NTIME = s.ntime) && decide (code < s.get Reg.FAULT_DEV_FIRST_CODE)) then
    ((s.set Reg.FAULT_DEV_FIRST_VALID 1).set Reg.FAULT_DEV_FIRST_CODE code).set Reg.FAULT_DEV_FIRST_NTIME s.ntime
  else s

/-- The groups that react to a device fault (R555). -/
def State.reacting (s : State) : List Nat := (List.range 16).filter (fun n => reacts (s.gstate n))

/-- The reaction of a group to device code `code` (Table FLT-5): nibble 4 is GUARD (R556). -/
def State.devReact (s : State) (n code : Nat) : Nat := s.get (Reg.FAULT_GRP_DEV_REACT n (code - 0x100))

/-- Device fault record: strongest reaction applied, and the mode before (R545). -/
def State.recordDevice (s : State) (code detail strongest : Nat) : State :=
  let s0 := s
  let s := (s.inc Reg.FAULT_GONG_COUNT).firstDevice code
  let s := s.set Reg.FAULT_DEV_LATCH (s.get Reg.FAULT_DEV_LATCH ||| 2 ^ (code - 0x101))
  let s := s.history code
  s.event 255 clsDeviceFault code false (u8s [0xFF, strongest, s0.mode, 0] ++ leBytes 4 detail)

/-- SAFE_HOLD is entered: Clave's outputs go off (R340), each active group applies its reaction (R555), and a group whose axes are powering
up guards them and stays DISABLED (Table PWR-7). -/
def State.safeHold (s : State) (code : Nat) : State :=
  let l := s.reacting
  let up := (List.range 16).filter (fun n => decide (s.gstate n = gsDisabled) && s.flag (Reg.GRP_STATE_POWERING n))
  let s := s.set Reg.SYS_MODE_CODE modeSafeHold
  let s := s.forAll (List.range 16) State.claveOff
  let s := s.forAll up (fun s n => s.react n 4)
  s.forAll l (fun s n => s.react n (s.devReact n code))

/-- A device fault with SAFE_HOLD = Yes (Table FLT-2): recorded in every mode; SAFE_HOLD from STANDBY, OPERATE and
SAFE_HOLD (Table PWR-6, R557). -/
def State.raiseDevice (s : State) (code detail : Nat) : State :=
  let strongest := if code = 0x104 then 4 else (s.reacting.map (fun n => s.devReact n code)).foldl max 0
  let live := s.live
  let s := s.recordDevice code detail strongest
  if live then s.safeHold code else s

/-! ### Clave's source (R323) -/

/-- The feedback port that serves axis `x` (R362). -/
def State.portOf (s : State) (x : Nat) : Option Nat :=
  (List.range 16).find? (fun p => s.flag (Reg.FB_CFG_POS_EN p) && decide (s.get (Reg.FB_CFG_POS_AXIS p) = x))

/-- Whether the master coordinate source of a group is valid (R323). -/
def State.sourceOk (s : State) (n : Nat) : Bool :=
  let i := s.get (Reg.CLAVE_CFG_IDX n)
  let axisOk := if isNet i then decide (s.get (Reg.AXIS_NET_STAT_DSTATE i) = 2) else true
  match s.get (Reg.CLAVE_CFG_SRC n) with
  | 1 => axisOk
  | 2 => axisOk && (match s.portOf i with | some p => !s.flag (Reg.FB_STAT_FAULT p) | none => true)
  | 3 => !s.flag (Reg.FB_STAT_FAULT (i % 16))
  | 4 => !s.flag (Reg.FIELD_PU_STAT (i % 4))
  | _ => true

/-- A source that becomes invalid stops prediction, turns Clave's outputs off and raises CLAVE_SOURCE; validity returns at
a boundary only (R323). -/
def State.sourceLoss (s : State) (n : Nat) : State :=
  if s.flag (Reg.CLAVE_STAT_SRC_VALID n) && !s.sourceOk n then
    let s := (s.set (Reg.CLAVE_STAT_SRC_VALID n) 0).claveOff n
    let s := s.modClave n (fun c => { c with pred := false, due := none, hist := [] })
    s.raiseGroup n 0x0C 0xFF (s.get (Reg.CLAVE_CFG_SRC n))
  else s

/-- The source check of every group, after something that can invalidate a source. -/
def State.sourceLossAll (s : State) : State := s.forAll (List.range 16) State.sourceLoss

/-! ### Clearing (R562, R563, R67, R378, R403) -/

/-- Whether the cause of a port's fault persists: a LINE cause while a conductor is outside its window (R378). -/
def State.portPersists (s : State) (p : Nat) : Bool :=
  s.flag (Reg.FB_STAT_FAULT p) && decide (s.get (Reg.FB_STAT_CAUSE p) = 1) && decide (s.get (Reg.FB_STAT_LINE_BAD p) ≠ 0)

/-- Whether a DO set is tripped and one of its drivers has not cooled (R403). -/
def State.doPersists (s : State) (b : Nat) : Bool :=
  s.flag (Reg.FIELD_DO_STAT_TRIPPED b) && (s.doMembers b).any (fun j => bit s.field.hot j)

/-- Whether the trip cause of a cell with cause bit `f` is present (Table FLT-1). -/
def State.cellPersists (s : State) (x : Nat) (f : Nat → Fld) (now : Bool) : Bool :=
  decide (s.get (Reg.CUR_STAT_STATE x) = cellTripped) && s.flag (f x) && now

/-- The absolute value of a phase current above OC_LIM. -/
def State.overCurrent (s : State) (x : Nat) : Bool :=
  [Reg.CUR_IA x, Reg.CUR_IB x, Reg.CUR_IC x].any (fun f => decide ((s.get (Reg.CUR_OC_LIM x) : Int) < (s.getI f).natAbs))

/-- The phase sum above SUM_LIM. -/
def State.sumHigh (s : State) (x : Nat) : Bool :=
  decide (s.get (Reg.CUR_SUM_LIM x) < (s.getI (Reg.CUR_IA x) + s.getI (Reg.CUR_IB x) + s.getI (Reg.CUR_IC x)).natAbs)

/-- The ports, DI channels and DO sets of a group. -/
def State.portsOf (s : State) (n : Nat) : List Nat := (List.range 16).filter (fun p => bit (s.get (Reg.GRP_OWN_FB n)) p)
def State.disOf (s : State) (n : Nat) : List Nat := (List.range 32).filter (fun i => bit (s.get (Reg.GRP_OWN_DI n)) i)
def State.dosOf (s : State) (n : Nat) : List Nat := s.doSets.filter (fun j => bit (s.get (Reg.GRP_OWN_DO n)) j)

/-- The local axes of a group, and its network axes. -/
def State.localsOf (s : State) (n : Nat) : List Nat := (s.axesOf n).filter (fun x => !isNet x)
def State.netsOf (s : State) (n : Nat) : List Nat := (s.axesOf n).filter isNet

/-- Whether the cause of a group code persists (Table FLT-1). -/
def State.persists (s : State) (n code : Nat) : Bool :=
  let loc := s.localsOf n
  match code with
  | 0x03 => loc.any (fun x => s.cellPersists x Reg.CUR_STAT_OC (s.overCurrent x))
  | 0x04 => loc.any (fun x => s.cellPersists x Reg.CUR_STAT_SUM (s.sumHigh x))
  | 0x05 => loc.any (fun x => s.flag (Reg.CUR_STAT_FAULT_IN x))
  | 0x06 => loc.any (fun x => s.cellPersists x Reg.CUR_STAT_SD_LOSS (s.curX x).lossNow)
  | 0x0B => (s.netsOf n).any (fun x => decide (s.get (Reg.AXIS_NET_STAT_DSTATE x) ≠ 2))
  | 0x0C => !s.sourceOk n
  | 0x0F => (s.portsOf n).any s.portPersists
  | 0x15 => !s.flag Reg.FIELD_LINK_STAT_UP
  | 0x16 => (s.disOf n).any (fun i => s.flag (Reg.FIELD_DI_STAT_BROKEN i))
  | 0x17 => (s.dosOf n).any s.doPersists
  | 0x1A => loc.any (fun x => bit (s.get Reg.FAULT_STO_STAT) x)
  | _ => false

/-- The live causes of a group (FAULT.GRP[n].LIVE, field bit k-1 for code k). -/
def State.liveCodes (s : State) (n : Nat) : Nat := ((List.range 26).map (fun k => if s.persists n (k + 1) then 2 ^ k else 0)).sum

/-- Whether a CLEAR_FAULT of the group is held back: a latched code's cause persists, a network axis is not READY (R272),
a port's cause persists (R378), or a tripped driver has not cooled (R403). -/
def State.clearHeld (s : State) (n : Nat) : Bool :=
  (List.range 26).any (fun k => bit (s.get (Reg.FAULT_GRP_LATCH n)) k && s.persists n (k + 1))
    || (s.netsOf n).any (fun x => decide (s.get (Reg.AXIS_NET_STAT_DSTATE x) ≠ 2))
    || (s.portsOf n).any s.portPersists || (s.dosOf n).any s.doPersists

/-- VALID of a port as R377 says. -/
def State.portValid (s : State) (p : Nat) : Bool :=
  let t := s.get (Reg.FB_CFG_TYPE p)
  decide (t ≠ 0) && !s.flag (Reg.FB_STAT_FAULT p) && (decide (t < 4) || decide (2 ≤ (s.fbX p).succ))

/-- VALID brought up to date. -/
def State.syncValid (s : State) (p : Nat) : State := s.put (Reg.FB_STAT_VALID p) (s.portValid p)

/-- The fault of a port is cleared unless its cause persists (R378). -/
def State.clearPort (s : State) (p : Nat) : State :=
  if s.flag (Reg.FB_STAT_FAULT p) && !s.portPersists p then
    let s := (s.set (Reg.FB_STAT_FAULT p) 0).set (Reg.FB_STAT_CAUSE p) 0
    (s.modFb p (fun x => { x with succ := 0, fails := 0, abn := 0, ill := 0 })).syncValid p
  else s

/-- Whether a DO set's output may follow its commanded value: not safe, not tripped, supplied. -/
def State.doFree (s : State) (b : Nat) : Bool :=
  !s.flag (Reg.FIELD_DO_STAT_SAFE_ACTIVE b) && !s.flag (Reg.FIELD_DO_STAT_TRIPPED b) && s.field.powered

/-- Every member of a DO set at a level (R399). -/
def State.doLevel (s : State) (b : Nat) (on : Bool) : State :=
  s.forAll (s.doMembers b) (fun s j => s.put (Reg.FIELD_DO_STAT_OUT j) on)

/-- The trip of a DO set is cleared once its drivers have cooled; the set takes its commanded value (R403). -/
def State.clearTrip (s : State) (b : Nat) : State :=
  if s.flag (Reg.FIELD_DO_STAT_TRIPPED b) && !s.doPersists b then
    let s := (s.set (Reg.FIELD_DO_STAT_TRIPPED b) 0).set (Reg.FIELD_DO_STAT_CAUSE b) 0
    if s.doFree b then s.doLevel b (s.flag (Reg.FIELD_DO_OUT b)) else s
  else s

/-- A tripped cell is cleared: OFF, cause bits 0 (R262). -/
def State.clearCell (s : State) (x : Nat) : State :=
  let s := if s.get (Reg.CUR_STAT_STATE x) = cellTripped then s.set (Reg.CUR_STAT_STATE x) cellOff else s
  s.forAll [0, 1, 2, 3, 4] (fun s k =>
    s.set ([Reg.CUR_STAT_OC x, Reg.CUR_STAT_SUM x, Reg.CUR_STAT_PS_FLT x, Reg.CUR_STAT_SD_LOSS x, Reg.CUR_STAT_HALL_ERR x].getD k (Reg.CUR_STAT_OC x)) 0)

/-- What CLEAR_FAULT clears in a group (R562): LATCH, FIRST, tripped cells, port faults, LOOP_FLT bits, Clave blocks and
DO trips; a group in FAULT becomes DISABLED. -/
def State.clearGroup (s : State) (n : Nat) : State :=
  let s := s.set (Reg.FAULT_GRP_LATCH n) 0
  let s := ((s.set (Reg.FAULT_GRP_FIRST_CODE n) 0).set (Reg.FAULT_GRP_FIRST_UNIT n) 0).set (Reg.FAULT_GRP_FIRST_REACT n) 0
  let s := (s.set (Reg.FAULT_GRP_FIRST_VALID n) 0).set (Reg.FAULT_GRP_FIRST_NTIME n) 0
  let s := s.forAll (s.localsOf n) State.clearCell
  let s := s.forAll (s.axesOf n) (fun s x =>
    ((s.set (Reg.AXIS_LOOP_FLT_FOLLOW x) 0).set (Reg.AXIS_LOOP_FLT_VEL x) 0).set (Reg.AXIS_LOOP_FLT_USER x) 0)
  let s := s.forAll (s.portsOf n) State.clearPort
  let s := s.forAll (s.hosOf n) (fun s k => (s.set (Reg.CLAVE_HO_STATE_BLOCKED n k) 0).set (Reg.CLAVE_HO_STATE_CAUSE n k) 0)
  let s := s.forAll (s.dosOf n) State.clearTrip
  if s.gstate n = gsFault then s.enterDisabled n else s

/-- Ports and DO sets that are in no group, cleared from the device endpoint (R378, R403). -/
def State.clearFree (s : State) : State :=
  let s := s.forAll ((List.range 16).filter (fun p => (s.fbGroup p).isNone)) State.clearPort
  s.forAll (s.doSets.filter (fun b => (s.doGroup b).isNone)) State.clearTrip

/-- Whether a SAFE_HOLD condition persists (R67): VMAIN below 19.0 V, temperature above 90 C, main clock absent. -/
def State.holdPersists (s : State) : Bool := s.flt.supplyLow || s.flt.below19 || s.flag Reg.FAULT_TEMP_HOT || s.flt.clockLost

/-- The live device conditions (FAULT.DEV_LIVE, field bit k-1 for code 0x0100 + k). -/
def State.devLive (s : State) : Nat :=
  b2n s.flt.supplyLow + 2 * b2n s.flt.overTemp + 4 * b2n s.flt.xmemUe + 8 * b2n s.flt.clockLost
    + 16 * b2n (!s.flag Reg.SYS_MODE_DRIVE_ENABLE)

end Sys2Proof.Machine
end

