-- ==== Sys2Proof/Machine/Trig.lean ====
section
/-!
DEFINITION. Trig.lean: sine, cosine and arc tangent, with angles in turns. The spec computes with the real functions (R251, R256, R303,
R304); these are rationals within 2^-100 of them, exact at whole quarter turns, so that what the spec rounds once to 24 to 31 fraction
bits comes out as the real function would give it (log 7).
-/
namespace Sys2Proof.Machine

/-- One, and the number π, as fixed-point integers with 120 fraction bits. -/
def trigOne : Int := 2 ^ 120
def piFix : Int := 4175892906503776358826876457663557747

/-- `n` terms of an alternating power series in `x`, whose next term `t` has exponent `k`: t - t x² / (k+1)(k+2) + … -/
def trigSeries (x2 : Int) : Nat → Int → Int → Int
  | 0, _, _ => 0
  | n + 1, k, t => t + trigSeries x2 n (k + 2) (-(t * x2 / trigOne) / ((k + 1) * (k + 2)))

/-- Cosine and sine of `r` turns, 0 ≤ r < 1/4, as fixed-point integers. -/
def quarterTrig (r : Rat) : Int × Int :=
  let x := (r * (2 * piFix : Int)).floor
  let x2 := x * x / trigOne
  (trigSeries x2 40 0 trigOne, trigSeries x2 40 1 x)

/-- Cosine and sine of `f` turns. -/
def turnTrig (f : Rat) : Rat × Rat :=
  let m := 4 * (f - f.floor)
  let k := m.floor
  let q := quarterTrig ((m - k) / 4)
  let c := mkRat q.1 (2 ^ 120)
  let s := mkRat q.2 (2 ^ 120)
  if k = 0 then (c, s) else if k = 1 then (-s, c) else if k = 2 then (-c, -s) else (s, -c)

def cosTurn (f : Rat) : Rat := (turnTrig f).1
def sinTurn (f : Rat) : Rat := (turnTrig f).2

/-- The tangent of half the angle whose tangent is `t`, 0 ≤ t ≤ 1, as fixed-point integers. -/
def halfTan (t : Int) : Int := t * trigOne / (trigOne + isqrt (trigOne * trigOne + t * t).toNat)

/-- `n` terms of t - t³/3 + t⁵/5 - …, from the power `p` with divisor `k` on. -/
def atanSeries (t2 : Int) : Nat → Int → Int → Int
  | 0, _, _ => 0
  | n + 1, k, p => p / k + atanSeries t2 n (k + 2) (-(p * t2 / trigOne))

/-- The angle in turns whose tangent is `t`, 0 ≤ t ≤ 1; of these only 0 and 1 have a rational one. -/
def atanUnit (t : Rat) : Rat :=
  if t = 1 then 1 / 8 else
  let h := halfTan (halfTan (t * (trigOne : Int)).floor)
  mkRat (4 * atanSeries (h * h / trigOne) 40 1 h) (2 * piFix).toNat

/-- The angle of the point (x, y) in turns, 0 ≤ angle < 1; 0 for the origin. -/
def atanTurn (y x : Rat) : Rat :=
  let ax := if x < 0 then -x else x
  let ay := if y < 0 then -y else y
  let a := if ay ≤ ax then (if ax = 0 then 0 else atanUnit (ay / ax)) else 1 / 4 - atanUnit (ax / ay)
  let b := if x < 0 then 1 / 2 - a else a
  if y < 0 then 1 - b else b

end Sys2Proof.Machine
end

