-- ==== Sys2Proof/Machine/Geo.lean ====
section
/-!
DEFINITION. Geo.lean: path geometry (R299-R305): lengths, positions and derivatives of segments, junctions and blends. Positions,
lengths and angles (in turns) are rationals.
-/
namespace Sys2Proof.Machine

/-- A rational square root from below, to 2^-120. -/
def sqrtFine (r : Rat) : Rat := if r ≤ 0 then 0 else mkRat (isqrt (r * ((2 ^ 240 : Nat) : Rat)).floor.toNat) (2 ^ 120)

/-- 2π. -/
def twoPi : Rat := mkRat (2 * piFix) (2 ^ 120)

/-- Element `i` of a list of numbers, zero beyond its end. -/
def nthQ (l : List Rat) (i : Nat) : Rat := l.getD i 0

/-- The six path slots. -/
def slotIdx : List Nat := [0, 1, 2, 3, 4, 5]

/-- A list of slot values times a number, sums, differences and the scalar product of such lists. -/
def vScale (k : Rat) (a : List Rat) : List Rat := slotIdx.map (fun i => k * nthQ a i)
def vAdd (a b : List Rat) : List Rat := slotIdx.map (fun i => nthQ a i + nthQ b i)
def vSub (a b : List Rat) : List Rat := slotIdx.map (fun i => nthQ a i - nthQ b i)
def vDot (a b : List Rat) : Rat := slotIdx.foldl (fun t i => t + nthQ a i * nthQ b i) 0

/-- Whether the segment is an arc. -/
def PathSeg.isArc (g : PathSeg) : Bool := decide (g.typ = 2) || decide (g.typ = 3)

/-- A position relative to an arc's centre, in its plane. -/
def PathSeg.fromCentre (g : PathSeg) (p : List Rat) : Rat × Rat := (nthQ p g.slots.1 - g.centre.1, nthQ p g.slots.2 - g.centre.2)

/-- Radii and angles of an arc with `turns` extra turns; clockwise sweeps are negative, and an arc that ends on the ray it starts on
makes one turn more. -/
def PathSeg.measure (g : PathSeg) (turns : Nat) : PathSeg :=
  if g.isArc then
    let a := g.fromCentre g.fr
    let b := g.fromCentre g.dst
    let a0 := atanTurn a.2 a.1
    let d0 := atanTurn b.2 b.1 - a0
    let d := d0 - d0.floor
    let w := if g.typ = 3 then (if d = 0 then 1 else d) + turns else -(1 - d + turns)
    { g with rad0 := sqrtFine (a.1 * a.1 + a.2 * a.2), rad1 := sqrtFine (b.1 * b.1 + b.2 * b.2), ang0 := a0, sweep := w }
  else g

/-- The differences of a segment's ends over the slots that move linearly. -/
def PathSeg.linear (g : PathSeg) : List Rat :=
  let d := vSub g.dst g.fr
  if g.isArc then (d.set g.slots.1 0).set g.slots.2 0 else d

/-- The angle that an arc sweeps, in radians. -/
def PathSeg.radians (g : PathSeg) : Rat := twoPi * g.sweep

/-- Programmed length (R303): Euclidean for a line, the helix for an arc, 0 for a dwell. -/
def PathSeg.length (g : PathSeg) : Rat :=
  if g.typ = 4 then 0
  else
    let c := g.rad0 * g.radians
    sqrtFine (vDot g.linear g.linear + (if g.isArc then c * c else 0))

/-- A point of the path: position, and its first and second derivative by distance travelled. -/
structure PathPt where
  pos : List Rat
  tan : List Rat
  cur : List Rat
  deriving DecidableEq, Repr

/-- How far along its programmed length a segment is at arc length `s`, 0 to 1. -/
def PathSeg.frac (g : PathSeg) (s : Rat) : Rat :=
  let l := g.s1 - g.s0
  if l ≤ 0 then 1 else
    let f := (s - g.s0) / l
    if f < 0 then 0 else if 1 < f then 1 else f

/-- The point of a segment at arc length `s`. -/
def PathSeg.at_ (g : PathSeg) (s : Rat) : PathPt :=
  let l := g.s1 - g.s0
  if l ≤ 0 then { pos := g.dst, tan := vScale 0 g.dst, cur := vScale 0 g.dst }
  else
    let f := g.frac s
    let lin := vAdd g.fr (vScale f (vSub g.dst g.fr))
    let t := vScale (1 / l) g.linear
    if g.isArc then
      let q := turnTrig (g.ang0 + f * g.sweep)
      let r := g.rad0 + (g.rad1 - g.rad0) * f
      let r1 := (g.rad1 - g.rad0) / l
      let w := g.radians / l
      let put := fun (v : List Rat) (a b : Rat) => (v.set g.slots.1 a).set g.slots.2 b
      { pos := if f = 0 then g.fr else if f = 1 then g.dst else put lin (g.centre.1 + r * q.1) (g.centre.2 + r * q.2)
        tan := put t (r1 * q.1 - r * w * q.2) (r1 * q.2 + r * w * q.1)
        cur := put (vScale 0 t) (-(2 * r1 * w * q.2) - r * w * w * q.1) (2 * r1 * w * q.1 - r * w * w * q.2) }
    else { pos := if f = 1 then g.dst else lin, tan := t, cur := vScale 0 t }

/-- A junction between two segments: its blend radius, the arc length its blend takes on either side, whether the path must stop
there, and the turning angle with its sine and cosine (R304). -/
structure Junction where
  rb   : Rat
  ext  : Rat
  stop : Bool
  phi  : Rat
  cosA : Rat
  sinA : Rat
  deriving DecidableEq, Repr

/-- The junction of segment `a` with the next segment `b` (R304). -/
def junction (a b : PathSeg) : Junction :=
  let t1 := (a.at_ a.s1).tan
  let t2 := (b.at_ b.s0).tan
  let c0 := vDot t1 t2
  let c := if 1 < c0 then 1 else if c0 < -1 then -1 else c0
  let sn := sqrtFine (1 - c * c)
  let q : Junction := { rb := 0, ext := 0, stop := true, phi := atanTurn sn c, cosA := c, sinA := sn }
  let tol := mkRat a.tol 256
  if a.exact_ || decide (a.typ = 4) || decide (b.typ = 4) then q
  else if 1 - c ≤ mkRat 1 (2 ^ 41) then { q with stop := false }
  else if tol = 0 ∨ 1 + c ≤ mkRat 1 (2 ^ 80) then q
  else
    let ch := sqrtFine ((1 + c) / 2)
    let sh := sqrtFine ((1 - c) / 2)
    let ext := tol * sh / (1 - ch)
    let m := min ext (min (min (a.s1 - a.s0) (b.s1 - b.s0) / 2) a.room)
    if m ≤ 0 then q else { q with stop := false, ext := m, rb := m * ch / sh }

/-- The length of a blend's circle. -/
def Junction.len (q : Junction) : Rat := q.rb * twoPi * q.phi

/-- The unit vector in which a blend turns away from its first tangent `t1` toward `t2`. -/
def Junction.side (q : Junction) (t1 t2 : List Rat) : List Rat := vScale (1 / q.sinA) (vSub t2 (vScale q.cosA t1))

/-- The point on the blend between `a` and `b` at arc length `s`: a circle from tangent point to tangent point over which
arc length advances linearly (R305). Beside an arc, what the circle misses of the second tangent point is made up linearly. -/
def blendAt (a b : PathSeg) (q : Junction) (s : Rat) : PathPt :=
  let s0 := a.s1 - q.ext
  let u := (s - s0) / (2 * q.ext)
  let t1 := (a.at_ a.s1).tan
  let n := q.side t1 (b.at_ b.s0).tan
  let p1 := (a.at_ s0).pos
  let on := fun (f : Rat × Rat) => vAdd p1 (vAdd (vScale (q.rb * f.2) t1) (vScale (q.rb * (1 - f.1)) n))
  let e := vSub (b.at_ (b.s0 + q.ext)).pos (on (q.cosA, q.sinA))
  let f := turnTrig (u * q.phi)
  { pos := vAdd (on f) (vScale u e)
    tan := vAdd (vAdd (vScale f.1 t1) (vScale f.2 n)) (vScale (1 / q.len) e)
    cur := vScale (1 / q.rb) (vSub (vScale f.1 n) (vScale f.2 t1)) }

/-- The point at arc length `s` of a queue of segments whose first one runs. -/
def pathAt : List PathSeg → Rat → PathPt
  | [], _ => { pos := [], tan := [], cur := [] }
  | [g], s => g.at_ s
  | a :: b :: r, s =>
    let q := junction a b
    if s < a.s1 - q.ext then a.at_ s
    else if s < a.s1 + q.ext then blendAt a b q s
    else pathAt (b :: r) s

/-- The segment that runs at arc length `s`. -/
def segAt : List PathSeg → Rat → Option PathSeg
  | [], _ => none
  | [g], _ => some g
  | a :: r, s => if s < a.s1 then some a else segAt r s

/-- The largest |cos| between two angles, in turns. -/
def peakCos (lo hi : Rat) : Rat := if -((-2 * lo).floor) ≤ (2 * hi).floor then 1 else max (absQ (cosTurn lo)) (absQ (cosTurn hi))

/-- The largest share of each slot in a segment's motion. -/
def PathSeg.shares (g : PathSeg) : List Rat :=
  let l := g.s1 - g.s0
  if l ≤ 0 then []
  else
    let t := (vScale (1 / l) g.linear).map absQ
    if g.isArc then
      let k := max g.rad0 g.rad1 * absQ g.radians / l
      let lo := min g.ang0 (g.ang0 + g.sweep)
      let hi := max g.ang0 (g.ang0 + g.sweep)
      (t.set g.slots.1 (k * peakCos (lo + 1 / 4) (hi + 1 / 4))).set g.slots.2 (k * peakCos lo hi)
    else t

/-- The largest share of each slot along a blend. -/
def Junction.shares (q : Junction) (a b : PathSeg) : List Rat :=
  let t1 := (a.at_ a.s1).tan
  let n := q.side t1 (b.at_ b.s0).tan
  slotIdx.map (fun i =>
    let x := nthQ t1 i
    let y := nthQ n i
    let p := atanTurn y x
    sqrtFine (x * x + y * y) * peakCos (-p) (q.phi - p))

end Sys2Proof.Machine
end

