-- ==== Sys2Proof/Machine/PathRun.lean ====
section
/-!
DEFINITION. PathRun.lean: the path interpolator (R299-R307): the pieces that bound its speed, its look-ahead, its motion over
one slow sample, stopping along the geometry, and the shortening of its queue.
-/
namespace Sys2Proof.Machine

/-- The nominal slow period in seconds. -/
def State.slowSec (s : State) : Rat := clkSec (s.get Reg.SYS_TICK_CFG_FAST_CLK * s.get Reg.SYS_TICK_CFG_SLOW_DIV)

/-- A 64-bit Q40.24 field as a rational. -/
def State.getQ (s : State) (f : Fld) : Rat := ofQ (s.getI f)

/-- The path axes of a group in slot order (R299). -/
def State.pathAxes (s : State) (n : Nat) : List Nat :=
  ((List.range 32).filter (fun x => bit (s.get (Reg.GRP_PATH_AXES n)) x)).take 6

/-- The lowest, over the path axes, of an axis limit divided by the axis's share, if any axis moves (R306, R549). -/
def State.shareCap (s : State) (n : Nat) (f : Nat → Fld) (sh : List Rat) : Option Rat :=
  ((s.pathAxes n).zip sh).foldl (fun m q =>
    let h := absQ q.2
    if h = 0 then m
    else
      let c := s.getQ (f q.1) / h
      match m with
      | none => some c
      | some w => some (min w c)) none

/-- A bound and an optional further bound. -/
def minOpt (b : Rat) : Option Rat → Rat
  | none => b
  | some c => min b c

/-! ### Bounds and look-ahead (R304, R306, R307) -/

/-- The speed that a segment's feed allows: feed times override (R307). -/
def State.segFeed (s : State) (n : Nat) (g : PathSeg) : Rat := mkRat g.feed 256 * mkRat (s.grpX n).ovr 1000

/-- The speed that a segment allows: feed, axis ceilings, arc radius (R306). -/
def State.segCap (s : State) (n : Nat) (g : PathSeg) : Rat :=
  let c := minOpt (s.segFeed n g) (s.shareCap n Reg.AXIS_V_MAX g.shares)
  if g.isArc then min c (sqrtLow (s.getQ (Reg.GRP_A_PATH n) * min g.rad0 g.rad1)) else c

/-- The path acceleration that shares allow (R306). -/
def State.accCap (s : State) (n : Nat) (sh : List Rat) : Rat := minOpt (s.getQ (Reg.GRP_A_PATH n)) (s.shareCap n Reg.AXIS_A_MAX sh)

/-- A piece of the path with one bound on speed: where it ends, arc length per distance travelled on it, its bounds, and the
highest speed at its end. -/
structure Piece where
  s1  : Rat
  sc  : Rat
  cap : Rat
  acc : Rat
  ve  : Rat
  deriving DecidableEq, Repr

/-- The pieces of a queue: bodies and blends in turn (R304, R306); the path can always rest at its end. -/
def State.pieces (s : State) (n : Nat) : List PathSeg → List Piece
  | [] => []
  | [a] => [{ s1 := a.s1, sc := 1, cap := s.segCap n a, acc := s.accCap n a.shares, ve := 0 }]
  | a :: b :: r =>
    let q := junction a b
    let sh := q.shares a b
    let both := min (s.segFeed n a) (s.segFeed n b)
    let vj := if q.stop then 0 else if q.ext = 0 then both
      else minOpt (min both (sqrtLow (s.getQ (Reg.GRP_A_PATH n) * q.rb))) (s.shareCap n Reg.AXIS_V_MAX sh)
    let body : Piece := { s1 := a.s1 - q.ext, sc := 1, cap := s.segCap n a, acc := s.accCap n a.shares, ve := vj }
    let blend : List Piece :=
      if q.ext = 0 then [] else [{ s1 := a.s1 + q.ext, sc := 2 * q.ext / q.len, cap := vj, acc := s.accCap n sh, ve := vj }]
    body :: blend ++ s.pieces n (b :: r)

/-- The pieces still ahead, with up to 512 segments of look-ahead (R306). -/
def State.ahead (s : State) (n : Nat) (l : List PathSeg) : List Piece :=
  (s.pieces n (l.take 512)).filter (fun p => decide ((s.grpX n).arc < p.s1))

/-- The distance travelled on a piece from arc length `a` to its end. -/
def Piece.len (p : Piece) (a : Rat) : Rat := (p.s1 - a) / p.sc

/-- The distance travelled over pieces from arc length `a` on. -/
def distAhead : Rat → List Piece → Rat
  | _, [] => 0
  | a, p :: r => p.len a + distAhead p.s1 r

/-- The arc length that a distance `d` travelled from arc length `a` reaches, at most the end. -/
def travel : List Piece → Rat → Rat → Rat
  | [], a, _ => a
  | p :: r, a, d => if d < p.len a then a + d * p.sc else travel r p.s1 (d - p.len a)

/-- The highest speed, up to `cap`, from which `ve` is reached over `len`. -/
def reachIn (cap ve acc j len : Rat) : Rat :=
  let ok := fun u => decide ((kinEnd (velChange u 0 ve acc j) 0 u).p ≤ len)
  if cap ≤ ve then cap else if ok cap then cap else bisect ok 48 ve cap

/-- The highest speed at which a list of pieces may be entered at arc length `a`. -/
def entrySpeed (j : Rat) : Rat → List Piece → Rat
  | _, [] => 0
  | a, p :: r => reachIn p.cap (min p.ve (entrySpeed j p.s1 r)) p.acc j (p.len a)

/-- Whether speed `ve` can be reached within `len`. -/
def reaches (v0 a0 ve acc j len : Rat) : Bool := decide ((kinEnd (velChange v0 a0 ve acc j) 0 v0).p ≤ len)

/-- The lowest end speed, at least `ve`, that a piece of length `len` can still reach. -/
def reachOut (v0 a0 ve acc j len : Rat) : Rat :=
  if reaches v0 a0 ve acc j len then ve else if v0 ≤ ve then ve
  else v0 - bisect (fun d => reaches v0 a0 (v0 - d) acc j len) 48 0 (v0 - ve)

/-- A new path plan from the present state to the end of the present piece (R306). -/
def State.replanPath (s : State) (n : Nat) : State :=
  let g := s.grpX n
  let j := s.getQ (Reg.GRP_J_PATH n)
  match s.ahead n g.path with
  | [] => s.modGrp n (fun g => { g with pplan := [], pgoal := g.arc, pdirty := false })
  | p :: r =>
    let ve := reachOut g.pv g.pa (min p.ve (entrySpeed j p.s1 r)) p.acc j (p.len g.arc)
    let plan := movePlan (p.len g.arc) g.pv g.pa ve (max p.cap ve) p.acc p.acc j
    s.modGrp n (fun g => { g with pplan := plan, pgoal := p.s1, psc := p.sc, pdirty := false })

/-- Whether the path, in its present state, can keep the bounds of a queue (R306). -/
def State.canRun (s : State) (n : Nat) (l : List PathSeg) : Bool :=
  let g := s.grpX n
  let j := s.getQ (Reg.GRP_J_PATH n)
  match s.ahead n l with
  | [] => true
  | p :: r =>
    let ve := min p.ve (entrySpeed j p.s1 r)
    decide (g.pv ≤ ve) || reaches g.pv g.pa ve p.acc j (p.len g.arc)

/-! ### The queue (R300, R306) -/

/-- Records that a segment occupies (R300). -/
def PathSeg.records (g : PathSeg) : Nat := if g.isArc then 2 else 1

/-- The segments in the queue: of a flushed path those that begin before its end, and those appended behind it. -/
def GroupX.queued (g : GroupX) : List PathSeg :=
  match g.pend with
  | none => g.path
  | some e => g.path.filter (fun q => decide (q.s0 < e)) ++ g.pnext

/-- The path registers as the queue stands (Table SET-6). -/
def State.syncPath (s : State) (n : Nat) : State :=
  let g := s.grpX n
  let s := s.set (Reg.GRP_QUEUE n) ((g.queued.map PathSeg.records).sum)
  let s := s.set (Reg.GRP_PLANNED n) (min 512 g.queued.length)
  let s := s.setI (Reg.GRP_ARC_POS n) (max (s.getI (Reg.GRP_ARC_POS n)) (q24 g.arc))
  let s := s.setI (Reg.GRP_PATH_VEL n) (q24 (g.pv * s.slowSec))
  match segAt g.path g.arc with
  | some q => s.set (Reg.GRP_SEG_TAG n) q.tag
  | none => s

/-- The set-points of the path axes from the path's state (R281, R282, R305): the acceleration of a curve is part of ACC_CMD. -/
def State.pathOut (s : State) (n : Nat) : State :=
  let g := s.grpX n
  if g.path.isEmpty then s
  else
    let q := pathAt g.path g.arc
    let t := s.slowSec
    s.forAll (List.range (s.pathAxes n).length) (fun s i =>
      let x := (s.pathAxes n).getD i 0
      if s.get (Reg.AXIS_SRC_SOURCE x) = 1 ∧ s.flag (Reg.AXIS_SRC_POWERED x) then
        let v := nthQ q.tan i * g.pv
        let a := nthQ q.tan i * g.pa + nthQ q.cur i * g.pv * g.pv
        let s := s.setI (Reg.AXIS_POS_CMD x) (q24 (nthQ q.pos i))
        let s := s.setI (Reg.AXIS_VEL_CMD x) (q24 (v * t))
        let s := s.setI (Reg.AXIS_ACC_CMD x) (q24 (a * t * t))
        s.modAxis x (fun y => { y with motion := { p := nthQ q.pos i, v := v, segs := [{ t := 1000000000, a := a, j := 0 }], clk := s.clk } })
      else s)

/-- The path rests at an empty queue: its last set-points, then PATH_IDLE, and PATH_UNDERRUN when the queue ran dry without an exact
stop (R306). -/
def State.pathDry (s : State) (n : Nat) (under : Bool) : State :=
  let s := s.pathOut n
  let g := s.grpX n
  let pos := leBytes 8 (ofInt 64 (q24 g.arc))
  let s := s.modGrp n (fun g => { g with path := [], pv := 0, pa := 0, pplan := [], dwell := 0, pidle := true })
  let s := s.set (Reg.GRP_STATE_PATH_RUN n) 0
  let s := if under then (s.inc (Reg.GRP_UNDERRUN n)).warn n 0x000A false pos else s
  s.info n 0x0007 false pos

/-- A flushed path that has come to rest at its end goes on with what was appended behind it. -/
def State.pathRested (s : State) (n : Nat) : State :=
  let g := s.grpX n
  let s := if g.pnext.isEmpty then s.pathDry n false else s.pathOut n
  s.modGrp n (fun x => { x with path := g.pnext, pnext := [], pend := none, pv := 0, pa := 0, pplan := [], pdirty := true })

/-- Segments whose end, with the blend behind it, has been passed leave the queue. -/
def passedOff (arc : Rat) : List PathSeg → List PathSeg
  | a :: b :: r => if a.typ ≠ 4 ∧ a.s1 + (junction a b).ext ≤ arc then passedOff arc (b :: r) else a :: b :: r
  | l => l

/-- Passed segments leave the queue, and a queue that has run dry rests (R306). -/
def State.popPath (s : State) (n : Nat) : State :=
  let s := s.modGrp n (fun g => { g with path := passedOff g.arc g.path })
  let g := s.grpX n
  if g.pend = some g.arc ∧ g.pv = 0 then s.pathRested n
  else
    match g.path with
    | [a] => if a.typ ≠ 4 ∧ a.s1 ≤ g.arc ∧ g.pv = 0 ∧ g.pend = none then s.pathDry n (!a.exact_) else s
    | _ => s

/-- A finished dwell leaves the queue; a path that ends with it rests. -/
def State.endDwell (s : State) (n : Nat) : State :=
  let g := s.grpX n
  match g.path with
  | [a] => s.pathDry n (!a.exact_)
  | _ => s.modGrp n (fun g => { g with path := g.path.drop 1, dwell := 0, pdirty := true })

/-! ### One slow sample -/

/-- A motion goes on with pieces of a path plan that starts at speed `v`, at `sc` arc length per distance travelled. -/
def Motion.extend (m : Motion) (sc v : Rat) (l : List KSeg) : Motion :=
  match l.map (fun g => { g with a := sc * g.a, j := sc * g.j }) with
  | [] => m
  | g :: r => { m with segs := m.segs ++ { g with dv := sc * v - (kinEnd m.segs m.p m.v).v } :: r }

/-- The first `t` seconds of a plan. -/
def kinTake : List KSeg → Rat → List KSeg
  | [], _ => []
  | g :: r, t => if t ≤ g.t then [{ g with t := t }] else g :: kinTake r (t - g.t)

/-- The path moves by its plan for `t` seconds, and rests where the plan ends before. -/
def State.pathGo (s : State) (n : Nat) (sc t arc : Rat) : State :=
  let g := s.grpX n
  let e := kinAt g.pplan 0 g.pv t
  s.modGrp n (fun x => { x with arc := arc, pv := e.v, pa := e.a, pplan := kinRest g.pplan t, amot := g.amot.extend sc g.pv (kinTake g.pplan t) })

/-- The path stands for `t` seconds. -/
def State.pathWait (s : State) (n : Nat) (t : Rat) : State :=
  s.modGrp n (fun g => { g with amot := g.amot.extend 1 0 [{ t := t, a := 0, j := 0 }] })

/-- The time in which a plan from speed `v` travels `len`, at most `d`. -/
def timeTo (l : List KSeg) (v len d : Rat) : Rat := bisect (fun t => decide ((kinAt l 0 v t).p ≤ len)) 96 0 d

/-- One move of a path that is coming to rest along its geometry: to the end of the present piece, or by `t` seconds; the time used.
It passes neither its last segment's end nor the end of a flushed path. -/
def State.pathCoast (s : State) (n : Nat) (t : Rat) : State × Rat :=
  let g := s.grpX n
  let d := min t (kinTime g.pplan)
  let fin := decide (kinTime g.pplan ≤ t)
  match s.ahead n g.path with
  | [] => ((s.modGrp n (fun g => { g with pv := 0, pa := 0, pplan := [] })).pathWait n t, t)
  | p :: r =>
    let lim := match g.pend with | some e => min e p.s1 | none => p.s1
    let len := (lim - g.arc) / p.sc
    if d = 0 then (s.pathWait n t, t)
    else if (kinAt g.pplan 0 g.pv d).p < len ∧ ¬ (fin ∧ some lim = g.pend) then (s.pathGo n p.sc d (g.arc + p.sc * (kinAt g.pplan 0 g.pv d).p), d)
    else
      let u := if fin ∧ some lim = g.pend then d else timeTo g.pplan g.pv len d
      let s := s.pathGo n p.sc u lim
      if some lim = g.pend ∨ r.isEmpty then (s.modGrp n (fun g => { g with pv := 0, pa := 0, pplan := [] }), u) else (s, u)

/-- The path moves on by `t` seconds. `fuel` bounds the pieces passed in one slow sample. -/
def State.pathMove (s : State) (n : Nat) (t : Rat) : Nat → State
  | 0 => s
  | fuel + 1 =>
    let g := s.grpX n
    if t ≤ 0 then s
    else if g.pend = some g.arc ∧ g.pv = 0 then
      let s := s.pathRested n
      if (s.grpX n).path.isEmpty ∨ g.pstop ≠ 0 then s.pathWait n t else s.pathMove n t fuel
    else
      match g.path with
      | [] => s.pathWait n t
      | a :: _ =>
        if g.pstop ≠ 0 ∨ g.pend.isSome then
          let q := s.pathCoast n t
          q.1.pathMove n (t - q.2) fuel
        else if g.dwell ≠ 0 then
          if t < g.dwell then (s.pathWait n t).modGrp n (fun g => { g with dwell := g.dwell - t })
          else ((s.pathWait n g.dwell).endDwell n).pathMove n (t - g.dwell) fuel
        else if a.typ = 4 ∧ a.s1 ≤ g.arc then
          (s.modGrp n (fun g => { g with dwell := mkRat a.dwell 1000000, pv := 0, pa := 0 })).pathMove n t fuel
        else
          let s := if g.pdirty || g.pplan.isEmpty then s.replanPath n else s
          let g := s.grpX n
          let d := kinTime g.pplan
          if t < d then s.pathGo n g.psc t (g.arc + g.psc * (kinAt g.pplan 0 g.pv t).p)
          else
            let arc := g.arc + g.psc * (kinEnd g.pplan 0 g.pv).p
            let there := decide (g.pgoal - arc ≤ mkRat 1 16777216)
            let last := match g.path.getLast? with | some q => decide (q.s1 ≤ g.pgoal) | none => true
            let s := s.pathGo n g.psc d (if there then g.pgoal else arc)
            let s := s.modGrp n (fun g => { g with pv := if there && last then 0 else g.pv, pa := 0, pplan := [], path := passedOff g.arc g.path })
            if d = 0 ∧ ¬ there ∨ there ∧ last ∧ g.path.length = 1 ∧ a.typ ≠ 4 then s.pathWait n (t - d) else s.pathMove n (t - d) fuel

/-- One slow sample of a group's path. -/
def State.pathStep (s : State) (n : Nat) : State :=
  if s.flag (Reg.GRP_STATE_PATH_RUN n) then
    let s := (s.pathMove n s.slowSec 600).pathOut n
    (s.popPath n).syncPath n
  else s

/-- The path starts, when its queue is not empty, no hold is in force and the group is ENABLED or MOVING: the interpolator
becomes the source of every path axis (R302). -/
def State.pathStart (s : State) (n : Nat) : State :=
  let g := s.grpX n
  if !s.flag (Reg.GRP_STATE_PATH_RUN n) && !g.path.isEmpty && !g.hold && (decide (s.gstate n = gsEnabled) || decide (s.gstate n = gsMoving)) then
    let s := s.forAll (s.pathAxes n) (fun s x => s.set (Reg.AXIS_SRC_SOURCE x) 1)
    (s.set (Reg.GRP_STATE_PATH_RUN n) 1).modGrp n (fun g => { g with pdirty := true, pidle := false })
  else s

/-- The path at the end of the slow sample that begins, as the path interpolator has fixed it (R330): it runs ahead on a copy. -/
def State.pathAhead (s : State) (n : Nat) : GroupX :=
  let s := s.modGrp n (fun g => { g with amot := { p := g.arc, clk := s.clk } })
  (if s.flag (Reg.GRP_STATE_PATH_RUN n) then s.pathMove n s.slowSec 600 else s).grpX n

/-- A motion whose first change of speed is its speed. -/
def Motion.fold (m : Motion) : Motion :=
  match m.segs with
  | [] => m
  | k :: r => { m with v := m.v + k.dv, segs := { k with dv := 0 } :: r }

/-- The cubic that leads from one state to another in `t` seconds. -/
def hermite (p0 v0 p1 v1 t : Rat) (clk : Nat) : Motion :=
  if t = 0 then { p := p0, v := v0, clk := clk }
  else
    let d := p1 - p0
    { p := p0, v := v0, clk := clk
      segs := [{ t := t, a := 6 * d / (t * t) - (4 * v0 + 2 * v1) / t, j := 6 * (v0 + v1) / (t * t) - 12 * d / (t * t * t) }] }

/-- The motions of the path axes over the slow sample that begins: on one line they are its share of the arc length's motion; on curves
and across corners, cubics between the exact set-points of the two boundaries (R330, R349). -/
def State.pathMotions (s : State) (n : Nat) : State :=
  let g := s.grpX n
  let c := s.pathAhead n
  let m := c.amot.fold
  let s := s.modGrp n (fun g => { g with amot := m })
  if s.flag (Reg.GRP_STATE_PATH_RUN n) && !g.path.isEmpty then
    let t := s.slowSec
    let e := kinAt m.segs m.p m.v t
    let line := match g.path with
      | a :: b :: _ => decide (a.typ = 1) && decide (e.p ≤ a.s1 - (junction a b).ext)
      | [a] => decide (a.typ = 1)
      | [] => false
    let q0 := pathAt g.path g.arc
    let q1 := pathAt (if c.path.isEmpty then g.path else c.path) c.arc
    s.forAll (List.range (s.pathAxes n).length) (fun s i =>
      let x := (s.pathAxes n).getD i 0
      if s.get (Reg.AXIS_SRC_SOURCE x) = 1 ∧ s.flag (Reg.AXIS_SRC_POWERED x) then
        let h := nthQ q0.tan i
        let v : Motion :=
          if line then { p := nthQ q0.pos i, v := h * m.v, segs := m.segs.map (fun k => { k with a := h * k.a, j := h * k.j, dv := h * k.dv }), clk := s.clk }
          else hermite (nthQ q0.pos i) (h * g.pv) (nthQ q1.pos i) (nthQ q1.tan i * c.pv) t s.clk
        s.modAxis x (fun a => { a with motion := v })
      else s)
  else s

/-! ### Stopping along the geometry -/

/-- The plan by which the path stops (R291, R549): A_PATH and J_PATH for HOLD, the lowest axis limits for a reaction. Where the path's
end comes first, the limits of the path hold; a flushed path already stops as fast as a HOLD would. -/
def State.stopPath (s : State) (n why : Nat) : State :=
  let g := s.grpX n
  let sh := (pathAt g.path g.arc).tan
  let a := s.getQ (Reg.GRP_A_PATH n)
  let j := s.getQ (Reg.GRP_J_PATH n)
  let plan :=
    if why = 3 then stopPlan g.pv g.pa ((s.shareCap n Reg.AXIS_FAULT_DEC sh).getD a) ((s.shareCap n Reg.AXIS_FAULT_JERK sh).getD j)
    else stopPlan g.pv g.pa ((s.shareCap n Reg.AXIS_D_MAX sh).getD a) 0
  let own := if g.pend.isSome then g.pplan else stopPlan g.pv g.pa a j
  let room := if g.pend.isSome then (kinEnd own 0 g.pv).p else distAhead g.arc (s.ahead n g.path)
  let fits := decide ((kinEnd plan 0 g.pv).p ≤ room)
  s.modGrp n (fun g => { g with pstop := why, pplan := if why = 1 || !fits then own else plan, pdirty := false })

/-- The path queue is removed beyond the earliest point at which the path can rest with A_PATH and J_PATH; ARC_END is that point
(R301, R292). What the path still needs of a segment that is cut stays for its geometry. -/
def State.flushPath (s : State) (n : Nat) : State :=
  let g := s.grpX n
  let plan := stopPlan g.pv g.pa (s.getQ (Reg.GRP_A_PATH n)) (s.getQ (Reg.GRP_J_PATH n))
  let e := travel (s.ahead n g.path) g.arc (kinEnd plan 0 g.pv).p
  let last := match g.path.getLast? with | some q => q.s1 | none => g.arc
  match g.pend with
  | some e => ((s.modGrp n (fun g => { g with pnext := [] })).setI (Reg.GRP_ARC_END n) (q24 e)).syncPath n
  | none =>
    if kinTime plan ≤ 0 then
      let s := s.setI (Reg.GRP_ARC_END n) (q24 g.arc)
      let s := if s.flag (Reg.GRP_STATE_PATH_RUN n) then s.pathDry n false else s.modGrp n (fun g => { g with path := [], dwell := 0 })
      s.syncPath n
    else if last ≤ e then s
    else
      let k := (g.path.filter (fun q => decide (q.s0 < e))).length
      let s := s.modGrp n (fun g => { g with path := g.path.take (k + 1), pend := some e, pplan := plan })
      (s.setI (Reg.GRP_ARC_END n) (q24 e)).syncPath n

end Sys2Proof.Machine
end

