-- ==== Sys2Proof/Machine/Reply.lean ====
section
/-!
DEFINITION. Reply.lean: answers of the command sequencer (Table BXP-4), and how the fields of a request are read and checked
(R284, R516): the first offending payload byte is the offset that LIMIT names.
-/
namespace Sys2Proof.Machine

/-- What the execution of a consumed command leads to: the state, the status word's STATUS and DETAIL, the payload after it,
whether the outcome is a protocol violation that only the boundary shows (R301), whether the answer comes later, when the operation
ends (R592), and whether LOADING follows the response (Table PWR-6). -/
structure Reply where
  s      : State
  status : Nat
  detail : Nat
  body   : List Byte
  proto  : Bool := false
  later  : Bool := false
  restart : Bool := false

/-! ### Status codes (Table BXP-4) -/
def stOk : Nat := 0x00
def stBadCrc : Nat := 0x01
def stBadLength : Nat := 0x02
def stBadVersion : Nat := 0x03
def stUnknownOp : Nat := 0x04
def stStaleSeq : Nat := 0x05
def stWrongMode : Nat := 0x06
def stNoSession : Nat := 0x07
def stLimit : Nat := 0x08
def stQueueFull : Nat := 0x09
def stSuperseded : Nat := 0x0A
def stBusy : Nat := 0x0B
def stNoBuf : Nat := 0x0C
def stFragError : Nat := 0x0D
def stRate : Nat := 0x0E
def stBadGroup : Nat := 0x0F
def stWouldReverse : Nat := 0x10
def stNotPermitted : Nat := 0x11

/-- OK with a payload. -/
def State.ok (s : State) (body : List Byte) : Reply := { s := s, status := stOk, detail := 0, body := body }
/-- A NAK without payload. -/
def State.nak (s : State) (st : Nat) : Reply := { s := s, status := st, detail := 0, body := [] }
/-- NAK LIMIT with the offset of the first offending byte. -/
def State.limit (s : State) (off : Nat) : Reply := { s := s, status := stLimit, detail := 0, body := leBytes 2 off ++ [0, 0] }

/-- EFFECT: NTIME of the effect boundary (R513). -/
def State.effect (s : State) : List Byte := leBytes 8 s.ntime

/-! ### Fields of a request -/

/-- No offence when `c` holds, else the byte offset. -/
def chk (c : Bool) (off : Nat) : Option Nat := if c then none else some off

/-- The first offence of a list in payload order. -/
def firstBad : List (Option Nat) → Option Nat
  | [] => none
  | some o :: _ => some o
  | none :: r => firstBad r

/-- The first byte from `off` on, `n` bytes, that is not zero. -/
def zeroAt (p : List Byte) (off n : Nat) : Option Nat :=
  ((List.range n).map (fun i => off + i)).find? (fun i => byteAt p i ≠ 0)

end Sys2Proof.Machine

namespace Sys2Proof
open Sys2Proof.Machine

/-- A byte of a request. -/
def Msg.u8 (m : Msg) (i : Nat) : Nat := byteAt m.payload i
/-- A little-endian number of a request. -/
def Msg.le (m : Msg) (i n : Nat) : Nat := leAt m.payload i n

/-- A binary64 field as Q40.24; none when it is no number or does not fit (R284). -/
def Msg.f64q (m : Msg) (i : Nat) : Option Int :=
  match f64 (m.le i 8) with
  | none => none
  | some r => toQ r

/-- A position field: Q40.24 with POS_Q, binary64 without (R516). -/
def Msg.posq (m : Msg) (q : Bool) (i : Nat) : Option Int :=
  if q then some (toInt 64 (m.le i 8)) else m.f64q i

end Sys2Proof

namespace Sys2Proof.Machine

/-- Whether a magnitude lies between zero and a ceiling. -/
def inCeil (c : Int) : Option Int → Bool
  | none => false
  | some v => decide (0 ≤ v) && decide (v ≤ c)

/-- Whether a field holds a number. -/
def isNum (o : Option Int) : Bool := o.isSome

/-- A limit of a command: 0 stands for the ceiling (R284). -/
def ceilOr (c : Int) (o : Option Int) : Int := if o.getD 0 = 0 then c else o.getD 0

/-- A Q40.24 number as binary64, rounded to nearest even. -/
def toF64 (i : Int) : Nat :=
  if i = 0 then 0
  else
    let m := i.natAbs
    let e := Nat.log2 m
    let mant : Nat := if e ≤ 52 then m * 2 ^ (52 - e) else (convShift m (e - 52)).toNat
    let (mant, e) := if mant = 2 ^ 53 then (2 ^ 52, e + 1) else (mant, e)
    (if i < 0 then 2 ^ 63 else 0) + (e + 999) * 2 ^ 52 + (mant - 2 ^ 52)

/-- A position in a response, in the request's choice of format. -/
def posBytes (q : Bool) (i : Int) : List Byte := if q then leBytes 8 (ofInt 64 i) else leBytes 8 (toF64 i)

end Sys2Proof.Machine
end

