-- ==== Sys2Proof/Machine/Ledger.lean ====
section
/-!
DEFINITION. Ledger.lean: the event queue as memory shows it (Table LDG-2), ledger records (Table LDG-3), the ledger writer
(R531-R536), its subscribers (R540), and LEDGER_READ (R537).
-/
namespace Sys2Proof.Machine

/-! ### The event queue in shared SRAM (R527) -/

/-- The entries of an event, 32 bytes each (Table LDG-2). -/
def Ev.image (e : Ev) : List Byte :=
  let p := padTo 32 e.payload
  leBytes 8 e.ntime ++ leBytes 8 (ofInt 64 e.coord) ++ u8s [e.group, e.cls] ++ leBytes 2 e.code ++ leBytes 2 e.count
    ++ u8s [b2n e.long, 0] ++ p.take 8 ++ (if e.long then p.drop 8 ++ leBytes 8 0 else [])

/-- The LOSS event of a first drop at `t` with drops `l` of each class (R531, Table LDG-5). -/
def lossEv (t : Nat) (l : List Nat) : Ev :=
  { ntime := t, coord := 0, group := 255, cls := clsLoss, code := 1, count := satN 65535 l.sum, long := true,
    payload := (l.map (leBytes 4)).flatten }

/-- The waiting events with the LOSS event behind them. -/
def State.waiting (s : State) : List Ev :=
  s.led.evq ++ (match s.led.loss with | none => [] | some (t, l) => [lossEv t l])

/-- The word at byte offset `o` of the queue. Where an event lies in the queue the spec does not say: the head event is shown
from entry 0 on (DESIGN CHOICE, log 60). -/
def State.evqWord (s : State) (o : Nat) : Nat := leAt (s.waiting.map Ev.image).flatten o 4

/-! ### Records (R533) -/

/-- Slots of the ring. -/
def ringSlots : Nat := 2097152

/-- A record's bytes (Table LDG-3). -/
def State.recImage (s : State) (r : LRec) : List Byte :=
  leBytes 8 r.seq ++ leBytes 8 r.ntime ++ leBytes 8 (ofInt 64 r.coord) ++ u8s [r.group, r.cls] ++ leBytes 2 r.code
    ++ leBytes 2 r.count ++ leBytes 2 (s.get Reg.LEDGER_STAMP) ++ padTo 32 r.payload

/-- The committed record in a slot, the newest one where two lie there, with the words that an uncorrectable error has made zero. -/
def State.slotRec (s : State) (k : Nat) : List Byte :=
  match s.led.ring.find? (fun r => (r.seq - 1) % ringSlots = k) with
  | some r => (s.recImage r).mapIdx (fun i b => if s.led.bad.contains (64 * k + i / 8 * 8) then 0 else b)
  | none => []

/-- The word at byte offset `o` of the ring. In the slot being written SEQ reads 0 from some clock up to 40 after the claim, and a body
word is the new one from some clock up to 160 after it, and the old one before; when exactly the spec leaves open (R535, Table LDG-4): a
free choice within those bounds. -/
def State.ringWord (s : State) (o : Nat) : State × Nat :=
  let k := o / 64
  let old := leAt (s.slotRec k) (o % 64) 4
  match s.led.writing with
  | some r =>
    if (r.seq - 1) % ringSlots = k then
      let gone := fun (n : Nat) => match s.led.lastClaim with | some t => decide (t + n ≤ s.clk) | none => true
      let new := if o % 64 < 8 then 0 else leAt (s.recImage r) (o % 64) 4
      if gone (if o % 64 < 8 then 40 else 160) then (s, new)
      else (s.draw, if Config.freeNat s.drawn % 2 = 0 then new else old)
    else (s, old)
  | none => (s, old)

/-! ### The writer (R532, R534-R536) -/

/-- The LOSS event is claimed once 64 entries are free outside the reserve (R532). -/
def State.lossDue (s : State) : Bool := s.led.loss.isSome && decide (evqUsed s.led.evq + 64 ≤ 1022)

/-- 200 clocks have passed since the previous claim (R534). -/
def State.claimTime (s : State) : Bool :=
  match s.led.lastClaim with
  | none => true
  | some t => decide (t + 200 ≤ s.clk)

/-- The event that the next claim takes, and the queue without it: LOSS where it is due, else the head event. -/
def State.nextClaim (s : State) : Option (Ev × LedgerCtl) :=
  match s.lossDue, s.led.loss, s.led.evq with
  | true, some (t, l), _ => some (lossEv t l, { s.led with loss := none })
  | _, _, e :: r => some (e, { s.led with evq := r })
  | _, _, [] => none

/-- The event was placed in an earlier clock (R534). -/
def State.ripe (s : State) (e : Ev) : Bool := decide (e.clk < s.clk)

/-- LEDGER_CLAIM (R534): an idle writer claims the next event, frees its entries and gives it WR_SEQ; the record whose slot it
takes is no longer held. -/
def execLedgerClaim (s : State) : Out :=
  if s.live && s.awake && s.led.writing.isNone && s.claimTime then
    match s.nextClaim with
    | none => .next s
    | some (e, led) =>
      if !(decide (e.cls = clsLoss) || s.ripe e) then .next s else
      let w := s.get Reg.LEDGER_WR_SEQ
      let r : LRec := { seq := w, ntime := e.ntime, coord := e.coord, group := e.group, cls := e.cls, code := e.code,
                        count := e.count, payload := e.payload }
      let s := State.syncEvq { s with led := { led with writing := some r, lastClaim := some s.clk, turn := none } }
      .next (s.set Reg.LEDGER_OLDEST_SEQ (max (s.get Reg.LEDGER_OLDEST_SEQ) (w + 1 - ringSlots)))
  else .next s

/-- Main clocks of a millisecond. -/
def msClk : Nat := 400000

/-- One record is counted in its millisecond; RATE is the count of the last whole one. -/
def State.countRate (s : State) : State :=
  let m := s.clk / msClk
  if m = s.led.ms then { s with led := { s.led with msRecords := s.led.msRecords + 1 } }
  else
    let s := s.set Reg.LEDGER_RATE (if m = s.led.ms + 1 then s.led.msRecords else 0)
    { s with led := { s.led with ms := m, msRecords := 1 } }

/-- RATE as a read finds it. -/
def State.rateNow (s : State) : Nat :=
  let m := s.clk / msClk
  if m = s.led.ms then s.get Reg.LEDGER_RATE else if m = s.led.ms + 1 then s.led.msRecords else 0

/-- LEDGER_COMMIT (R535, R540): the SEQ word is written; WR_SEQ rises; copies are offered to the subscribers of its class. -/
def execLedgerCommit (s : State) : Out :=
  match s.led.writing with
  | none => .next s
  | some r =>
    if s.live && s.awake then
      let k := (r.seq - 1) % ringSlots
      let s := s.eccHeal (0xB0000000 + 64 * k) (0xB0000000 + 64 * k + 64)
      let s := { s with led := { s.led with writing := none, ring := (r :: s.led.ring).take ringSlots,
                                            bad := s.led.bad.filter (fun o => decide (o / 64 ≠ k)) } }
      let s := (s.set Reg.LEDGER_WR_SEQ (r.seq + 1)).countRate
      let s := if r.cls = clsLoss then s.inc Reg.LEDGER_LOSS_RECORDS else s
      .next (s.offer r.group r.cls { kind := 1, body := s.recImage r })
    else .next s

/-! ### LEDGER_READ (R537) -/

/-- The checks of LEDGER_READ (Table BXP-8): FROM_SEQ above WR_SEQ is out of range. -/
def chkLedgerRead (m : Msg) (s : State) : Option Nat :=
  firstBad [chk (decide (m.le 0 8 ≤ s.get Reg.LEDGER_WR_SEQ)) 0, chk (decide (1 ≤ m.u8 8) && decide (m.u8 8 ≤ 21)) 8,
    zeroAt m.payload 9 3]

/-- LEDGER_READ: up to MAX committed records in rising sequence. -/
def runLedgerRead (m : Msg) (s : State) : Reply :=
  let oldest := s.get Reg.LEDGER_OLDEST_SEQ
  let wr := s.get Reg.LEDGER_WR_SEQ
  let frm := m.le 0 8
  let gap := decide (frm ≠ 0) && decide (frm < oldest)
  let start := max frm oldest
  let n := min (m.u8 8) (wr - start)
  let recs := (List.range n).map (fun i => s.slotRec ((start + i - 1) % ringSlots))
  s.ok (u8s [n, b2n gap, 0, 0] ++ leBytes 8 (start + n) ++ recs.flatten)

end Sys2Proof.Machine
end

