-- ==== Sys2Proof/Machine/Crypto.lean ====
section
/-!
DEFINITION. Crypto.lean: the hash functions and the signature check of image verification: SHA-256 (FIPS 180-4; Table SCO-4, R103) and
Ed25519 of RFC 8032 with its SHA-512 (R101, R103). The constants of the hashes are computed from what FIPS 180-4 says they are: the
first bits of the fractional parts of square and cube roots of the first primes.
-/
namespace Sys2Proof.Machine

/-! ### Constants from roots of primes -/

/-- The first primes, as many as SHA-512 has rounds: those below 410. -/
def primes : List Nat := (List.range 410).filter (fun n => decide (2 ≤ n) && (List.range n).all (fun d => decide (d < 2) || decide (n % d ≠ 0)))

/-- The integer `k`-th root of `n`, found bit by bit from bit `b - 1` down over the root `r` so far. -/
def rootFrom (k n : Nat) : Nat → Nat → Nat
  | 0, r => r
  | b + 1, r => rootFrom k n b (if (r + 2 ^ b) ^ k ≤ n then r + 2 ^ b else r)

/-- The first `w` bits of the fractional part of the `k`-th root of `p`. -/
def rootFrac (k w p : Nat) : Nat := rootFrom k (p * 2 ^ (k * w)) (w + 5) 0 % 2 ^ w

/-! ### SHA-2 -/

/-- What distinguishes the members of the SHA-2 family: word width, rounds, rotations of the two large mixing functions, and
rotations with the shift of the two small ones. -/
structure Sha2 where
  w      : Nat
  rounds : Nat
  upA    : List Nat
  upE    : List Nat
  low0   : List Nat × Nat
  low1   : List Nat × Nat
  deriving DecidableEq, Repr

def sha256Kind : Sha2 :=
  { w := 32, rounds := 64, upA := [2, 13, 22], upE := [6, 11, 25], low0 := ([7, 18], 3), low1 := ([17, 19], 10) }

def sha512Kind : Sha2 :=
  { w := 64, rounds := 80, upA := [28, 34, 39], upE := [14, 18, 41], low0 := ([1, 8], 7), low1 := ([19, 61], 6) }

/-- The exclusive or of several rotations of a word. -/
def turns {w : Nat} (r : List Nat) (x : BitVec w) : BitVec w := r.foldl (fun y n => y ^^^ x.rotateRight n) 0

/-- A small mixing function: rotations and one shift. -/
def turnsShift {w : Nat} (r : List Nat × Nat) (x : BitVec w) : BitVec w := turns r.1 x ^^^ (x >>> r.2)

/-- The big-endian words of `b` bytes that a run of bytes spells. -/
def bigWords (w b : Nat) : Nat → List Byte → List (BitVec w)
  | 0, _ => []
  | n + 1, l => BitVec.ofNat w (ofLE (l.take b).reverse) :: bigWords w b n (l.drop b)

/-- `n` words more of a message schedule whose words stand newest first. -/
def Sha2.expand (c : Sha2) : Nat → List (BitVec c.w) → List (BitVec c.w)
  | 0, l => l
  | n + 1, l =>
    let back := fun (i : Nat) => l.getD (i - 1) 0
    c.expand n ((turnsShift c.low1 (back 2) + back 7 + turnsShift c.low0 (back 15) + back 16) :: l)

/-- The chaining value of a hash: its first half and its second half, four words each. -/
structure ShaHalf (w : Nat) where
  x : BitVec w
  y : BitVec w
  z : BitVec w
  t : BitVec w

/-- A new word enters a half at the front; the last one leaves it. -/
def ShaHalf.push {w : Nat} (h : ShaHalf w) (v : BitVec w) : ShaHalf w := ⟨v, h.x, h.y, h.z⟩

def ShaHalf.add {w : Nat} (h g : ShaHalf w) : ShaHalf w := ⟨h.x + g.x, h.y + g.y, h.z + g.z, h.t + g.t⟩

def ShaHalf.words {w : Nat} (h : ShaHalf w) : List (BitVec w) := [h.x, h.y, h.z, h.t]

/-- One round with round constant plus schedule word `kw`: choice and majority of the two halves, and what enters each of them. -/
def Sha2.round (c : Sha2) (p : ShaHalf c.w × ShaHalf c.w) (kw : BitVec c.w) : ShaHalf c.w × ShaHalf c.w :=
  let a := p.1
  let e := p.2
  let choice := (e.x &&& e.y) ||| (~~~e.x &&& e.z)
  let major := (a.x &&& a.y) ||| (a.z &&& (a.x ||| a.y))
  let m := e.t + turns c.upE e.x + choice + kw
  (a.push (m + turns c.upA a.x + major), e.push (a.t + m))

/-- One message block, of 16 words, taken into the chaining value. -/
def Sha2.block (c : Sha2) (p : ShaHalf c.w × ShaHalf c.w) (l : List Byte) : ShaHalf c.w × ShaHalf c.w :=
  let ws := (c.expand (c.rounds - 16) (bigWords c.w (c.w / 8) 16 l).reverse).reverse
  let q := (List.zip primes ws).foldl (fun q pw => c.round q (BitVec.ofNat c.w (rootFrac 3 c.w pw.1) + pw.2)) p
  (p.1.add q.1, p.2.add q.2)

/-- `n` blocks taken in one after the other. -/
def Sha2.blocks (c : Sha2) : Nat → List Byte → ShaHalf c.w × ShaHalf c.w → ShaHalf c.w × ShaHalf c.w
  | 0, _, p => p
  | n + 1, l, p => c.blocks n (l.drop (2 * c.w)) (c.block p l)

/-- The chaining value that a hash starts from. -/
def Sha2.start (c : Sha2) : ShaHalf c.w × ShaHalf c.w :=
  let v := fun (i : Nat) => BitVec.ofNat c.w (rootFrac 2 c.w (primes.getD i 2))
  (⟨v 0, v 1, v 2, v 3⟩, ⟨v 4, v 5, v 6, v 7⟩)

/-- The digest of a message: padded with a 1 bit, zeros and its length in bits to whole blocks. -/
def Sha2.hash (c : Sha2) (l : List Byte) : List Byte :=
  let blk := 2 * c.w
  let len := c.w / 4
  let zeros := (blk - (l.length + 1 + len) % blk) % blk
  let m := l ++ 0x80 :: List.replicate zeros 0 ++ (leBytes len (8 * l.length)).reverse
  let p := c.blocks (m.length / blk) m c.start
  ((p.1.words ++ p.2.words).map (fun v => (leBytes (c.w / 8) v.toNat).reverse)).flatten

/-- SHA-256 (FIPS 180-4). -/
def sha256 (l : List Byte) : List Byte := sha256Kind.hash l

/-- SHA-512 (FIPS 180-4), which Ed25519 uses. -/
def sha512 (l : List Byte) : List Byte := sha512Kind.hash l

/-! ### Ed25519 (RFC 8032) -/

/-- The prime of the field, the constant of the curve, and the order of the base point. -/
def edP : Nat := 2 ^ 255 - 19
def edL : Nat := 2 ^ 252 + 27742317777372353535851937790883648493

/-- A power in the field; `n` bits of the exponent count. -/
def edPow : Nat → Nat → Nat → Nat
  | 0, _, _ => 1
  | n + 1, x, e => (if e % 2 = 1 then x else 1) * edPow n (x * x % edP) (e / 2) % edP

/-- The inverse in the field. -/
def edInv (x : Nat) : Nat := edPow 255 x (edP - 2)

/-- A difference in the field. -/
def edSub (x y : Nat) : Nat := (x + (edP - y % edP)) % edP

/-- The constant d = -121665 / 121666 of the curve. -/
def edD : Nat := edSub 0 (121665 * edInv 121666 % edP)

/-- The sum of two points of the curve (RFC 8032, the addition formulas of its section 5.1.4 in affine form). -/
def edAdd (p q : Nat × Nat) : Nat × Nat :=
  let c := edD * (p.1 * q.1 % edP) % edP * (p.2 * q.2 % edP) % edP
  ((p.1 * q.2 + p.2 * q.1) % edP * edInv (1 + c) % edP, (p.2 * q.2 + p.1 * q.1) % edP * edInv (edSub 1 c) % edP)

/-- A multiple of a point; `n` bits of the factor count. -/
def edMul : Nat → Nat → Nat × Nat → Nat × Nat
  | 0, _, _ => (0, 1)
  | n + 1, k, p =>
    let r := edMul n (k / 2) (edAdd p p)
    if k % 2 = 1 then edAdd p r else r

/-- The point that 32 bytes spell, none where they spell none (RFC 8032, decoding). -/
def edPoint (l : List Byte) : Option (Nat × Nat) :=
  let n := ofLE l
  let y := n % 2 ^ 255
  let sign := n / 2 ^ 255
  let u := edSub (y * y % edP) 1
  let v := (edD * (y * y % edP) + 1) % edP
  let r := u * edPow 3 v 3 % edP * edPow 255 (u * edPow 3 v 7 % edP) ((edP - 5) / 8) % edP
  let root := if v * (r * r % edP) % edP = u then some r
    else if v * (r * r % edP) % edP = edSub 0 u then some (r * edPow 255 2 ((edP - 1) / 4) % edP) else none
  if edP ≤ y then none
  else match root with
    | none => none
    | some x => if x = 0 ∧ sign = 1 then none else some (if x % 2 = sign then x else edP - x, y)

/-- The base point: y = 4/5 with an even x. -/
def edBase : Nat × Nat := (edPoint (leBytes 32 (4 * edInv 5 % edP))).getD (0, 1)

/-- Whether `sig` by public key `key` verifies over `msg` (RFC 8032, pure Ed25519; the group equation with the cofactor 8, DEDUCED,
log 7). -/
def ed25519Valid (key sig msg : List Byte) : Bool :=
  let r := sig.take 32
  let k := ofLE (sha512 (r ++ key ++ msg))
  let n := ofLE (sig.drop 32)
  match edPoint key, edPoint r with
  | some a, some c =>
    decide (sig.length = 64) && decide (key.length = 32) && decide (n < edL) &&
      decide (edMul 4 8 (edMul 253 n edBase) = edMul 4 8 (edAdd c (edMul 253 (k % edL) a)))
  | _, _ => false

end Sys2Proof.Machine
end

