-- ==== Sys2Proof/Machine/Profile.lean ====
section
/-!
DEFINITION. Profile.lean: the profile unit (R281-R298): MOVE_ABS, MOVE_REL, JOG, the way to rest of any unit, and the
set-points of one slow sample.
-/
namespace Sys2Proof.Machine

/-- Exact position, velocity and acceleration of an axis's unit at the present boundary (R281): those of its plan, else those of the
motion that its set-points at this boundary began. -/
def State.axisKin (s : State) (x : Nat) : KSt :=
  let a := s.axisX x
  match a.plan with
  | some q => kinAt q.segs q.p q.v ((q.n : Rat) * s.slowSec)
  | none => { p := a.motion.p, v := a.motion.v, a := match a.motion.segs with | g :: _ => g.a | [] => 0 }

/-- Pieces that wait for ever: a motion with a limit of zero never arrives (R294). -/
def stuckSegs : List KSeg := [{ t := 9223372036854775808, a := 0, j := 0 }]

/-- The pieces from a state to rest at `target`, and how many of them lead to a reversal rest point (R296). -/
def planTo (k : KSt) (target v a d j : Rat) : List KSeg × Nat :=
  let stop := stopPlan k.v k.a d j
  let r := (kinEnd stop k.p k.v).p
  let rev := decide (r ≠ k.p) && !(if k.p < r then decide (r ≤ target) else decide (target ≤ r))
  if (v = 0 ∨ a = 0 ∨ d = 0 ∨ j = 0) ∧ target ≠ k.p then (stop ++ stuckSegs, 0)
  else if rev then (stop ++ moveTo (target - r) 0 0 v a d j, stop.length)
  else (moveTo (target - k.p) k.v k.a v a d j, 0)

/-- Whether a position lies beyond a soft limit that is in force (R317). -/
def State.beyondSoft (s : State) (x : Nat) (p : Rat) : Bool :=
  s.flag (Reg.AXIS_LIM_CFG_SOFT_EN x) && (decide (p < s.getQ (Reg.AXIS_SOFT_MIN x)) || decide (s.getQ (Reg.AXIS_SOFT_MAX x) < p))

/-- An axis gets a plan, which it follows from the present boundary on. -/
def State.setPlan (s : State) (x : Nat) (q : Plan) : State :=
  let s := s.put (Reg.AXIS_SRC_ACTIVE x) (decide (0 < kinTime q.segs))
  let s := s.put (Reg.AXIS_SRC_REVERSING x) (decide (0 < q.rev))
  s.modAxis x (fun a => { a with plan := some q, motion := { p := q.p, v := q.v, segs := q.segs, clk := s.clk } })

/-- The unit brings its axis to rest from the present state, with deceleration `d` and jerk `j` (raw Q40.24). -/
def State.brake (s : State) (x : Nat) (d j : Int) : State :=
  let k := s.axisKin x
  let l := stopPlan k.v k.a (ofQ d) (ofQ j)
  s.setPlan x { kind := .brake, p := k.p, v := k.v, segs := l, n := 0, rev := 0, target := q24 (kinEnd l k.p k.v).p, lv := 0, la := 0,
                ld := d, lj := j }

/-- An axis follows a move to `t` with the given limits (raw Q40.24). -/
def State.planMove (s : State) (x : Nat) (t lv la ld lj : Int) : State :=
  let k := s.axisKin x
  let q := planTo k (ofQ t) (ofQ lv) (ofQ la) (ofQ ld) (ofQ lj)
  let s := (s.set (Reg.AXIS_SRC_SOURCE x) 0).setI (Reg.AXIS_TARGET x) t
  s.setPlan x { kind := .move, p := k.p, v := k.v, segs := q.1, n := 0, rev := q.2, target := t, lv := lv, la := la, ld := ld, lj := lj }

/-- Where a jog leads: the soft limit in its direction, or the end of the number range (R298). -/
def State.jogGoal (s : State) (x : Nat) (speed : Int) : Int :=
  if s.flag (Reg.AXIS_LIM_CFG_SOFT_EN x) then s.getI (if 0 < speed then Reg.AXIS_SOFT_MAX x else Reg.AXIS_SOFT_MIN x)
  else if 0 < speed then 2 ^ 63 - 1 else -(2 ^ 63 - 1)

/-- A stop with deceleration `d` and jerk `j` that keeps inside the soft limit ahead of it: where it would cross, both are raised by
the least factor that keeps it inside (R298, R317). -/
def State.stopInside (s : State) (x : Nat) (k : KSt) (d j : Rat) : List KSeg :=
  let plan := fun (f : Rat) => stopPlan k.v k.a (d * f) (j * f)
  let inside := fun (f : Rat) => !s.beyondSoft x (kinEnd (plan f) k.p k.v).p
  let top : Rat := 1099511627776
  if inside 1 || !inside top then plan 1 else plan (top - bisect (fun u => inside (top - u)) 64 0 (top - 1))

/-- An axis jogs at a signed speed (R293, R298); speed 0 brings it to rest, and so does a goal that lies behind the stop. -/
def State.planJog (s : State) (x : Nat) (speed la ld lj : Int) : State :=
  let k := s.axisKin x
  let v := absQ (ofQ speed)
  let stop := s.stopInside x k (ofQ ld) (ofQ lj)
  let r := (kinEnd stop k.p k.v).p
  let goal := s.jogGoal x speed
  let dir : Rat := if 0 < speed then 1 else -1
  let s := s.set (Reg.AXIS_SRC_SOURCE x) 0
  let segs :=
    if speed = 0 ∨ dir * (ofQ goal - r) ≤ 0 then stop
    else if la = 0 ∨ ld = 0 ∨ lj = 0 then stop ++ stuckSegs
    else if dir * k.v < 0 then stop ++ moveTo (ofQ goal - r) 0 0 v (ofQ la) (ofQ ld) (ofQ lj)
    else moveTo (ofQ goal - k.p) k.v k.a v (ofQ la) (ofQ ld) (ofQ lj)
  let e := (kinEnd segs k.p k.v).p
  let s := s.setI (Reg.AXIS_TARGET x) (q24 e)
  s.setPlan x { kind := .jog speed, p := k.p, v := k.v, segs := segs, n := 0, rev := 0, target := q24 e, lv := 0, la := la, ld := ld, lj := lj }

/-- The set-points of an axis at rest where it stands. -/
def State.restAt (s : State) (x : Nat) (p : Int) : State :=
  let s := ((s.setI (Reg.AXIS_POS_CMD x) p).set (Reg.AXIS_VEL_CMD x) 0).set (Reg.AXIS_ACC_CMD x) 0
  let s := (s.set (Reg.AXIS_SRC_ACTIVE x) 0).set (Reg.AXIS_SRC_REVERSING x) 0
  s.modAxis x (fun a => { a with plan := none, motion := { p := ofQ p, clk := s.clk } })

/-- An axis that a way to rest has brought to rest shows HELD when its unit has kept something to resume (R291, Table SET-5). -/
def State.showHeld (s : State) (x : Nat) (kind : PlanKind) : State :=
  if kind = .brake ∧ ((s.axisX x).kept.isSome ∨ s.get (Reg.AXIS_CPL_STAT_CLUTCH x) = 3
      ∨ s.get (Reg.AXIS_SRC_SOURCE x) = 3 ∧ s.get (Reg.AXIS_FOL_CFG_SRC x) ≠ 0xFF) then s.set (Reg.AXIS_SRC_HELD x) 1
  else s

/-- One slow sample of an axis with a plan (R282, R294). -/
def State.planStep (s : State) (x : Nat) (q : Plan) : State :=
  let t := ((q.n + 1 : Nat) : Rat) * s.slowSec
  if kinTime q.segs ≤ t then (s.restAt x q.target).showHeld x q.kind
  else
    let k := kinAt q.segs q.p q.v t
    let s := s.setI (Reg.AXIS_POS_CMD x) (q24 k.p)
    let s := s.setI (Reg.AXIS_VEL_CMD x) (q24 (k.v * s.slowSec))
    let s := s.setI (Reg.AXIS_ACC_CMD x) (q24 (k.a * s.slowSec * s.slowSec))
    let s := s.put (Reg.AXIS_SRC_REVERSING x) (decide (t < kinTime (q.segs.take q.rev)))
    s.modAxis x (fun a => { a with plan := some { q with n := q.n + 1 },
                                   motion := { p := k.p, v := k.v, segs := kinRest q.segs t, clk := s.clk } })

/-- Whether the axis has a plan that is not finished. -/
def State.planning (s : State) (x : Nat) : Bool :=
  match (s.axisX x).plan with
  | some q => decide ((q.n : Rat) * s.slowSec < kinTime q.segs)
  | none => false

/-- Whether an axis's set-point is at rest. -/
def State.resting (s : State) (x : Nat) : Bool :=
  decide (s.get (Reg.AXIS_VEL_CMD x) = 0) && decide (s.get (Reg.AXIS_ACC_CMD x) = 0) && !s.planning x

/-- Whether an axis has motion in progress (R286). A move that a HOLD keeps has not reached its target. -/
def State.inMotion (s : State) (n x : Nat) : Bool :=
  let src := s.get (Reg.AXIS_SRC_SOURCE x)
  s.planning x || (s.axisX x).kept.isSome
    || (s.flag (Reg.GRP_STATE_PATH_RUN n) && bit (s.get (Reg.GRP_PATH_AXES n)) x)
    || (decide (src = 2) && (decide (s.get (Reg.AXIS_CPL_STAT_CLUTCH x) = 1) || decide (s.get (Reg.AXIS_CPL_STAT_CLUTCH x) = 2)))
    || (decide (src = 3) && decide (s.get (Reg.AXIS_FOL_CFG_SRC x) ≠ 0xFF))

/-- Motion in progress under another source than the profile unit, or a path axis with a queue: MOVE and JOG are BUSY (R295). -/
def State.otherBusy (s : State) (n x : Nat) : Bool :=
  (decide (s.get (Reg.AXIS_SRC_SOURCE x) ≠ 0) && s.inMotion n x)
    || (bit (s.get (Reg.GRP_PATH_AXES n)) x && !(s.grpX n).queued.isEmpty)

/-! ### MOVE_ABS, MOVE_REL, JOG -/

/-- Whether `x` is an axis of group `n`. -/
def State.ownsAxis (s : State) (n x : Nat) : Bool := decide (x < 32) && bit (s.get (Reg.GRP_OWN_AXES n)) x

/-- The checks of MOVE_ABS and MOVE_REL (R284, R516). -/
def chkMove (m : Msg) (s : State) : Option Nat :=
  let x := m.u8 0
  let q := bit (m.u8 1) 0
  firstBad [chk (s.ownsAxis m.ep x) 0, chk (m.u8 1 < 2) 1, zeroAt m.payload 2 6, chk (isNum (m.posq q 8)) 8,
    chk (inCeil (s.getI (Reg.AXIS_V_MAX x)) (m.f64q 16)) 16, chk (inCeil (s.getI (Reg.AXIS_A_MAX x)) (m.f64q 24)) 24,
    chk (inCeil (s.getI (Reg.AXIS_D_MAX x)) (m.f64q 32)) 32, chk (inCeil (s.getI (Reg.AXIS_J_MAX x)) (m.f64q 40)) 40]

/-- The checks of JOG. -/
def chkJog (m : Msg) (s : State) : Option Nat :=
  let x := m.u8 0
  let vm := s.getI (Reg.AXIS_V_MAX x)
  firstBad [chk (s.ownsAxis m.ep x) 0, chk (m.u8 1 < 2) 1, zeroAt m.payload 2 6,
    chk (match m.f64q 8 with | some v => decide (-vm ≤ v) && decide (v ≤ vm) | none => false) 8,
    chk (inCeil (s.getI (Reg.AXIS_A_MAX x)) (m.f64q 16)) 16, chk (inCeil (s.getI (Reg.AXIS_D_MAX x)) (m.f64q 24)) 24,
    chk (inCeil (s.getI (Reg.AXIS_J_MAX x)) (m.f64q 32)) 32]

/-- A soft-limit refusal (R296): a WARN record and NAK LIMIT that names the field at `off`. -/
def State.softRefuse (s : State) (n x op off : Nat) (p : Int) : Reply :=
  (s.warn n 0x0009 true (u8s [x, op, 0, 0, 0, 0, 0, 0] ++ leBytes 8 (ofInt 64 p))).limit off

/-- A move at its effect boundary (R296). -/
def State.moveEffect (s : State) (op n x : Nat) (q : Bool) (target lv la ld lj : Int) : Reply :=
  let k := s.axisKin x
  let stop := stopPlan k.v k.a (ofQ ld) (ofQ lj)
  let r := (kinEnd stop k.p k.v).p
  let rev := decide (r ≠ k.p) && !(if k.p < r then decide (r ≤ ofQ target) else decide (ofQ target ≤ r))
  if s.beyondSoft x (ofQ target) then s.softRefuse n x op 8 target
  else if rev then
    if s.beyondSoft x r then s.softRefuse n x op 8 (q24 r)
    else if s.flag (Reg.AXIS_LIM_CFG_REJECT_REVERSE x) then s.nak stWouldReverse
    else
      let dist := q24 (absQ (r - k.p))
      let s := s.planMove x target lv la ld lj
      let s := (s.inc (Reg.AXIS_REV_COUNT x)).setI (Reg.AXIS_LAST_OVERSHOOT x) dist
      let s := s.info n 0x0006 true (u8s [x, 0, 0, 0, 0, 0, 0, 0] ++ leBytes 8 (ofInt 64 dist) ++ leBytes 8 (ofInt 64 (q24 r))
        ++ leBytes 8 (ofInt 64 target))
      s.ok (s.effect ++ posBytes q dist ++ posBytes q (q24 r))
  else
    let s := s.planMove x target lv la ld lj
    s.ok (s.effect ++ posBytes q 0 ++ posBytes q target)

/-- The target of a MOVE_REL (R293). -/
def State.relTarget (s : State) (x : Nat) (dist : Int) : Int :=
  match (s.axisX x).plan with
  | some q => if q.kind = .move ∧ s.planning x then q.target + dist else s.getI (Reg.AXIS_POS_CMD x) + dist
  | none => s.getI (Reg.AXIS_POS_CMD x) + dist

/-- MOVE_ABS (0x20) and MOVE_REL (0x21) at the effect boundary (R293-R296). A relative target outside Q40.24 is refused. -/
def effMove (rel : Bool) (m : Msg) (s : State) : Reply :=
  let n : Nat := m.ep
  let x := m.u8 0
  let q := bit (m.u8 1) 0
  let v := (m.posq q 8).getD 0
  let target := if rel then s.relTarget x v else v
  if s.otherBusy n x then s.nak stBusy
  else if target < -(2 ^ 63) ∨ 2 ^ 63 ≤ target then s.limit 8
  else
    s.moveEffect (if rel then 0x21 else 0x20) n x q target (ceilOr (s.getI (Reg.AXIS_V_MAX x)) (m.f64q 16))
      (ceilOr (s.getI (Reg.AXIS_A_MAX x)) (m.f64q 24)) (ceilOr (s.getI (Reg.AXIS_D_MAX x)) (m.f64q 32))
      (ceilOr (s.getI (Reg.AXIS_J_MAX x)) (m.f64q 40))

/-- JOG at the effect boundary (R293, R298). -/
def effJog (m : Msg) (s : State) : Reply :=
  let n : Nat := m.ep
  let x := m.u8 0
  if s.otherBusy n x then s.nak stBusy
  else
    let s := s.planJog x ((m.f64q 8).getD 0) (ceilOr (s.getI (Reg.AXIS_A_MAX x)) (m.f64q 16))
      (ceilOr (s.getI (Reg.AXIS_D_MAX x)) (m.f64q 24)) (ceilOr (s.getI (Reg.AXIS_J_MAX x)) (m.f64q 32))
    s.ok s.effect

end Sys2Proof.Machine
end

