-- ==== Sys2Proof/Machine/PathCmd.lean ====
section
/-!
DEFINITION. PathCmd.lean: PATH_APPEND and PATH_FLUSH (R299-R301, R317, Table SET-3).
-/
namespace Sys2Proof.Machine

/-- Record `i` of a PATH_APPEND. -/
def pathRec (m : Msg) (i : Nat) : List Byte := slice m.payload (4 + 64 * i) 64

/-- The type byte of record `i`. -/
def recType (m : Msg) (i : Nat) : Nat := m.u8 (4 + 64 * i)

/-- Whether a record type is an arc. -/
def arcType (t : Nat) : Bool := decide (t = 2) || decide (t = 3)

/-- The checks of record `i` of `cnt`, with `k` path axes (Table SET-3, R301). -/
def chkRec (m : Msg) (cnt k i : Nat) : Option Nat :=
  let b := 4 + 64 * i
  let t := m.u8 b
  let ext := decide (t = 5)
  let prevArc := decide (0 < i) && arcType (recType m (i - 1))
  let p0 := m.u8 (b + 1) % 8
  let p1 := m.u8 (b + 1) / 8 % 8
  firstBad [
    chk (decide (1 ≤ t) && decide (t ≤ 5) && (ext == prevArc)) b,
    chk (!(arcType t && decide (cnt ≤ i + 1))) b,
    if ext then chk (decide (m.u8 (b + 1) < 64) && decide (p0 ≠ p1) && decide (p0 < k) && decide (p1 < k)) (b + 1)
    else chk (m.u8 (b + 1) < 2) (b + 1),
    if t = 4 then chk (m.le (b + 12) 4 ≠ 0) (b + 12) else zeroAt m.payload (b + 12) 4,
    if ext then zeroAt m.payload (b + 32) 32 else if t = 4 then zeroAt m.payload (b + 16) 48
    else zeroAt m.payload (b + 16 + 8 * k) (48 - 8 * k)]

/-- The checks of PATH_APPEND that the message alone decides. -/
def chkPathAppend (m : Msg) (s : State) : Option Nat :=
  let cnt := m.u8 0
  firstBad ([chk (decide (1 ≤ cnt) && decide (cnt ≤ 21)) 0, zeroAt m.payload 1 3]
    ++ (List.range cnt).map (chkRec m cnt (s.pathAxes m.ep).length))

/-- The segments that records `i` to `cnt - 1` spell, from position `fr` and arc length `a`, with `feed` in force. -/
def segsFrom (m : Msg) (cnt : Nat) : Nat → Nat → List Rat → Rat → Nat → List PathSeg
  | 0, _, _, _, _ => []
  | f + 1, i, fr, a, feed =>
    if cnt ≤ i then []
    else
      let b := 4 + 64 * i
      let t := m.u8 b
      let arc := arcType t
      let e := b + 64
      let fd := if m.le (b + 4) 4 = 0 then feed else m.le (b + 4) 4
      let dst := if t = 4 then fr else slotIdx.map (fun j => ofQ (toInt 64 (m.le (b + 16 + 8 * j) 8)))
      let g : PathSeg := {
        typ := t, exact_ := bit (m.u8 (b + 1)) 0, tag := m.le (b + 2) 2, feed := fd, tol := m.le (b + 8) 4, dwell := m.le (b + 12) 4
        slots := if arc then (m.u8 (e + 1) % 8, m.u8 (e + 1) / 8 % 8) else (0, 0)
        centre := if arc then (ofQ (toInt 64 (m.le (e + 16) 8)), ofQ (toInt 64 (m.le (e + 24) 8))) else (0, 0)
        fr := fr, dst := dst, s0 := a, s1 := a
        raw := pathRec m i ++ (if arc then pathRec m (i + 1) else []) }
      let g := g.measure (m.le (e + 4) 4)
      let g := { g with s1 := a + g.length }
      g :: segsFrom m cnt f (if arc then i + 2 else i + 1) dst g.s1 fd

/-- The record index at which segment `k` of a message begins. -/
def segRec (m : Msg) : Nat → Nat → Nat
  | 0, i => i
  | k + 1, i => segRec m k (if arcType (recType m i) then i + 2 else i + 1)

/-- Whether an arc passes the angle `q` (in turns). -/
def PathSeg.passes (g : PathSeg) (q : Rat) : Bool :=
  let d := if 0 ≤ g.sweep then q - g.ang0 else g.ang0 - q
  decide (d - d.floor ≤ absQ g.sweep)

/-- The lowest and highest position of slot `i` along a segment. -/
def PathSeg.extent (g : PathSeg) (i : Nat) : Rat × Rat :=
  let lo := min (nthQ g.fr i) (nthQ g.dst i)
  let hi := max (nthQ g.fr i) (nthQ g.dst i)
  let r := max g.rad0 g.rad1
  if g.isArc && decide (i = g.slots.1) then
    (if g.passes (1 / 2) then g.centre.1 - r else lo, if g.passes 0 then g.centre.1 + r else hi)
  else if g.isArc && decide (i = g.slots.2) then
    (if g.passes (3 / 4) then g.centre.2 - r else lo, if g.passes (1 / 4) then g.centre.2 + r else hi)
  else (lo, hi)

/-- The first path axis, with the position, that a segment takes beyond a soft limit (R317). -/
def State.segBeyond (s : State) (n : Nat) (g : PathSeg) : Option (Nat × Nat × Int) :=
  if g.typ = 4 then none
  else
    ((s.pathAxes n).zip slotIdx).findSome? (fun q =>
      let e := g.extent q.2
      ([nthQ g.dst q.2, e.1, e.2].find? (fun p => s.beyondSoft q.1 p)).map (fun p => (q.1, q.2, q24 p)))

/-- An arc whose radii differ by more than ARC_TOL (R301). -/
def State.arcBad (s : State) (n : Nat) (g : PathSeg) : Bool :=
  g.isArc && decide (s.getQ (Reg.GRP_ARC_TOL n) < absQ (g.rad0 - g.rad1))

/-- A path axis in motion, or under a gear/cam unit or follow channel: an empty queue cannot start (R301). -/
def State.pathBlocked (s : State) (n : Nat) : Bool :=
  (s.pathAxes n).any (fun x => s.inMotion n x
    || (decide (s.get (Reg.AXIS_SRC_SOURCE x) = 2) && decide (s.get (Reg.AXIS_CPL_CFG_KIND x) ≠ 0))
    || (decide (s.get (Reg.AXIS_SRC_SOURCE x) = 3) && decide (s.get (Reg.AXIS_FOL_CFG_SRC x) ≠ 0xFF)))

/-- A queue whose last segment leaves `r` for the blend to the next one. -/
def leaveRoom (r : Rat) : List PathSeg → List PathSeg
  | [] => []
  | [g] => [{ g with room := r }]
  | g :: t => g :: leaveRoom r t

/-- Segments joined to a queue: the blend where they join is as large as R304 allows, unless the path is already too fast for it; then
it is as large as the path can still keep (R306). -/
def State.joinPath (s : State) (n : Nat) (old new : List PathSeg) : List PathSeg :=
  if s.canRun n (old ++ new) then old ++ new
  else
    let half := match old.getLast? with | some g => (g.s1 - g.s0) / 2 | none => 0
    leaveRoom (bisect (fun r => s.canRun n (leaveRoom r old ++ new)) 32 0 half) old ++ new

/-- Records stored in a group's path queue, in the slots that follow the latest one (Table GRP-5). -/
def State.storePath (s : State) (n : Nat) : List (List Byte) → State
  | [] => s
  | r :: l =>
    let k := (s.grpX n).recNo
    let a := 0x90000000 + n * 0x1000000 + k % 262144 * 64
    let s := ((s.eccHeal a (a + 64)).wrBytes a (padTo 64 r)).modGrp n (fun g => { g with recNo := k + 1 })
    s.storePath n l

/-- Where the next appended segment starts (R300): position and arc length of the queue's end. -/
def State.pathTail (s : State) (n : Nat) : List Rat × Rat :=
  let g := s.grpX n
  match g.pend, g.pnext.getLast?, g.path.getLast? with
  | some _, some q, _ => (q.dst, q.s1)
  | some e, none, _ => ((pathAt g.path e).pos, e)
  | none, _, some q => (q.dst, q.s1)
  | none, _, none =>
    (slotIdx.map (fun i => match (s.pathAxes n)[i]? with | some x => s.getQ (Reg.AXIS_POS_CMD x) | none => 0), s.getQ (Reg.GRP_ARC_END n))

/-- PATH_APPEND at the effect boundary (R300, R301, R317). -/
def effPathAppend (m : Msg) (s : State) : Reply :=
  let n : Nat := m.ep
  let cnt := m.u8 0
  let g := s.grpX n
  let isFirst := g.queued.isEmpty
  let segs := segsFrom m cnt (cnt + 1) 0 (s.pathTail n).1 (s.pathTail n).2 g.feed
  let limitAt := fun (off : Nat) => { s.limit off with proto := true }
  if s.get (Reg.GRP_PATH_AXES n) = 0 then s.nak stWrongMode
  else if isFirst && decide (m.le 8 4 = 0) then limitAt 8
  else
    match (List.range segs.length).find? (fun i => match segs[i]? with | some q => s.arcBad n q | none => false) with
    | some i => limitAt (4 + 64 * segRec m i 0 + 16)
    | none =>
      if 262144 < s.get (Reg.GRP_QUEUE n) + cnt then s.nak stQueueFull
      else if isFirst && s.pathBlocked n then s.nak stBusy
      else
        match (List.range segs.length).findSome? (fun i => match segs[i]? with
          | some q => (s.segBeyond n q).map (fun e => (i, e))
          | none => none) with
        | some (i, x, slot, p) => s.softRefuse n x 0x23 (4 + 64 * segRec m i 0 + 16 + 8 * slot) p
        | none =>
          let a0 := match segs.head? with | some q => q.s0 | none => 0
          let a1 := match segs.getLast? with | some q => q.s1 | none => 0
          let fd := match segs.getLast? with | some q => q.feed | none => g.feed
          let s := s.modGrp n (fun g => { g with
            arc := if isFirst then s.getQ (Reg.GRP_ARC_END n) else g.arc
            path := if g.pend.isSome then g.path else s.joinPath n g.path segs
            pnext := if g.pend.isSome then g.pnext ++ segs else g.pnext
            feed := fd, pdirty := true })
          let s := s.storePath n ((List.range cnt).map (pathRec m))
          let s := (s.setI (Reg.GRP_ARC_END n) (q24 a1)).syncPath n
          s.ok (s.effect ++ leBytes 8 (ofInt 64 (q24 a0)) ++ leBytes 8 (ofInt 64 (q24 a1)) ++ leBytes 4 (s.get (Reg.GRP_QUEUE n)))

/-- The answer of PATH_FLUSH. -/
def State.flushAnswer (s : State) (n : Nat) : Reply := s.ok (s.effect ++ leBytes 8 (s.get (Reg.GRP_ARC_END n)))

/-- PATH_FLUSH at the effect boundary (R301). -/
def effPathFlush (m : Msg) (s : State) : Reply := (s.flushPath m.ep).flushAnswer m.ep

end Sys2Proof.Machine
end

