-- ==== Sys2Proof/Machine/Couple.lean ====
section
/-!
DEFINITION. Couple.lean: the gear/cam unit and the follow unit (R308-R319): master values, couplings and clutches, cams,
following, and the commands GEAR_SET, CAM_SET and FOLLOW_SET.
-/
namespace Sys2Proof.Machine

/-! ### Master values -/

/-- The position of a feedback port in group units (R362). -/
def State.portUnits (s : State) (p : Nat) : Int :=
  s.getI (Reg.FB_OFFSET p) + convDiv (s.getI (Reg.FB_COUNT p) * s.getI (Reg.FB_SCALE_NUM p) * 16777216) (s.get (Reg.FB_SCALE_DEN p))

/-- The master coordinate of a group as its source shows it now (Table CLV-1). -/
def State.coordNow (s : State) (n : Nat) : Int :=
  let i := s.get (Reg.CLAVE_CFG_IDX n)
  match s.get (Reg.CLAVE_CFG_SRC n) with
  | 0 => s.getI (Reg.GRP_ARC_POS n)
  | 1 => s.getI (Reg.AXIS_POS_CMD i)
  | 2 => s.getI (Reg.AXIS_POS_ACT i)
  | 3 => s.getI (Reg.FB_POS i)
  | 4 => s.getI (Reg.FIELD_PU_COUNT (i % 4)) * 16777216
  | _ => q24 (s.claveX n).time

/-- The value of a master source for group `n` (Table SET-4), Q40.24. -/
def State.masterVal (s : State) (n msrc midx : Nat) : Int :=
  match msrc with
  | 0 => s.getI (Reg.AXIS_POS_CMD midx)
  | 1 => s.getI (Reg.AXIS_POS_ACT midx)
  | 2 => s.portUnits midx
  | 3 => s.getI (Reg.FIELD_PU_COUNT midx) * 16777216
  | _ => s.coordNow n

/-! ### Couplings -/

/-- Start of the cam and compensation area (R312). -/
def camBase : Nat := 0xB8000000
/-- Bytes of the cam and compensation area. -/
def camBytes : Nat := 96 * 1024 * 1024

/-- Point `i` of a cam table. -/
def State.camY (s : State) (base i : Nat) : Int := toInt 64 (s.rdLE (camBase + base + 8 * i) 8)

/-- The point before the first, or after the last, of a cyclic table (R312). -/
def State.camWrap (s : State) (c : Cpl) (i : Int) : Int :=
  let rise := s.camY c.base c.n - s.camY c.base 0
  if i < 0 then s.camY c.base (i + c.n).toNat - rise
  else if (c.n : Int) < i then s.camY c.base (i - c.n).toNat + rise
  else s.camY c.base i.toNat

/-- The slope at point `i`, per point distance: Catmull-Rom, one-sided at the ends of a one-shot table (R312). -/
def State.camSlope (s : State) (c : Cpl) (i : Nat) : Rat :=
  if c.cyclic then mkRat (s.camWrap c ((i : Int) + 1) - s.camWrap c ((i : Int) - 1)) 2
  else if i = 0 then ((s.camY c.base 1 - s.camY c.base 0 : Int) : Rat)
  else if i = c.n then ((s.camY c.base c.n - s.camY c.base (c.n - 1) : Int) : Rat)
  else mkRat (s.camY c.base (i + 1) - s.camY c.base (i - 1)) 2

/-- The cam function over one period, raw Q40.24, at phase `ph` in 0 .. PERIOD, with its first and second derivative by phase (R312). -/
def State.camF (s : State) (c : Cpl) (ph : Rat) : KSt :=
  let k : Rat := (c.n : Rat) / (c.period : Rat)
  let u := ph * k
  let i := min (u.floor.toNat) (c.n - 1)
  let t := u - (i : Rat)
  let y0 : Rat := (s.camY c.base i : Int)
  let y1 : Rat := (s.camY c.base (i + 1) : Int)
  if c.cubic then
    let m0 := s.camSlope c i
    let m1 := s.camSlope c (i + 1)
    let r := y1 - y0
    { p := y0 + m0 * t + (3 * r - 2 * m0 - m1) * t * t + (m0 + m1 - 2 * r) * t * t * t
      v := k * (m0 + 2 * (3 * r - 2 * m0 - m1) * t + 3 * (m0 + m1 - 2 * r) * t * t)
      a := k * k * (2 * (3 * r - 2 * m0 - m1) + 6 * (m0 + m1 - 2 * r) * t) }
  else { p := y0 + (y1 - y0) * t, v := k * (y1 - y0), a := 0 }

/-- Which period of a cam the master is in. -/
def camCycle (c : Cpl) (m : Int) : Int := if c.period = 0 then 0 else (m - c.m0) / c.period

/-- A function of a moving argument `m`, given its value and its first and second derivative there. -/
def KSt.chain (f m : KSt) : KSt := { p := f.p, v := f.v * m.v, a := f.a * m.v * m.v + f.v * m.a }

/-- The slave position that a coupling gives for a moving master value, raw Q40.24 and per slow sample (R310, R312). -/
def State.cplAt (s : State) (c : Cpl) (m : KSt) : KSt :=
  let i := m.p.floor
  if c.kind = 1 then
    { p := ((c.offset + convDiv ((i - c.m0) * c.num) c.den : Int) : Rat), v := m.v * mkRat c.num c.den, a := m.a * mkRat c.num c.den }
  else if c.cyclic then
    let k := camCycle c i
    let f := s.camF c ((i - c.m0 - k * c.period : Int) : Rat)
    KSt.chain { f with p := f.p + ((c.offset + k * (s.camY c.base c.n - s.camY c.base 0) : Int) : Rat) } m
  else
    let ph := clampI 0 c.period (i - c.m0)
    let f := s.camF c (ph : Rat)
    let f := { f with p := f.p + (c.offset : Rat) }
    if ph = i - c.m0 then KSt.chain f m else { f with v := 0, a := 0 }

/-- Clutch progress u (R311). -/
def clutchU (r : CplRun) (m : KSt) : KSt :=
  if r.done then { p := 1, v := 0, a := 0 }
  else
    let u := (m.p - (r.ms : Rat)) / (r.c.clutch : Rat)
    if u < 0 then { p := 0, v := 0, a := 0 } else if 1 ≤ u then { p := 1, v := 0, a := 0 }
    else { p := u, v := m.v / (r.c.clutch : Rat), a := m.a / (r.c.clutch : Rat) }

/-- The set-point of a coupling with its clutches, for master values `mv`, above `rest` (R311): s_old + w(u) × (s_new - s_old). -/
def State.chainAt (s : State) (mv : CplRun → KSt) (rest : KSt) : List CplRun → KSt
  | [] => rest
  | r :: t =>
    let m := mv r
    let u := clutchU r m
    let new := s.cplAt r.c m
    if u.p = 1 then new
    else
      let old := s.chainAt mv rest t
      let x := u.p
      let w := KSt.chain { p := x * x * x * (10 - 15 * x + 6 * x * x), v := 30 * x * x * (1 - x) * (1 - x), a := 60 * x * (1 - x) * (1 - 2 * x) } u
      let d : KSt := { p := new.p - old.p, v := new.v - old.v, a := new.a - old.a }
      { p := old.p + w.p * d.p, v := old.v + w.v * d.p + w.p * d.v, a := old.a + w.a * d.p + 2 * w.v * d.v + w.p * d.a }

/-- A state in units and seconds as raw Q40.24 per slow sample. -/
def State.perSample (s : State) (k : KSt) : KSt :=
  let t := s.slowSec
  { p := k.p * 16777216, v := k.v * t * 16777216, a := k.a * t * t * 16777216 }

/-- What lies below the clutches of an axis: its rest position, or the way to rest that goes on beneath them. -/
def State.leadAt (s : State) (x : Nat) : KSt :=
  let a := s.axisX x
  match a.lead with
  | some q =>
    if kinTime q.segs ≤ (q.n : Rat) * s.slowSec then { p := (q.target : Rat), v := 0, a := 0 }
    else s.perSample (kinAt q.segs q.p q.v ((q.n : Rat) * s.slowSec))
  | none => { p := (a.rest : Rat), v := 0, a := 0 }

/-- The rates of a commanded master at the present boundary; none for a measured one (Table SET-4, R330). -/
def State.masterRate (s : State) (n msrc midx : Nat) : Option KSt :=
  let src := s.get (Reg.CLAVE_CFG_SRC n)
  if msrc = 0 then some (s.perSample (s.axisKin midx))
  else if msrc = 4 ∧ src = 0 then
    let g := s.grpX n
    let k := match s.ahead n g.path with | p :: _ => p.sc | [] => 1
    some (s.perSample { p := 0, v := k * g.pv, a := k * g.pa })
  else if msrc = 4 ∧ src = 1 then some (s.perSample (s.axisKin (s.get (Reg.CLAVE_CFG_IDX n))))
  else if msrc = 4 ∧ src = 5 then some { p := 0, v := s.slowSec * 1000 * 16777216, a := 0 }
  else none

/-- A master value at the present boundary with its rates: exact ones for a commanded master, differences of the latest values for a
measured one (R282). -/
def State.masterAt (s : State) (n : Nat) (r : CplRun) : KSt :=
  let m := s.masterVal n r.c.msrc r.c.midx
  match s.masterRate n r.c.msrc r.c.midx, r.last with
  | some k, _ => { k with p := (m : Rat) }
  | none, m1 :: m2 :: _ => { p := (m : Rat), v := ((m - m1 : Int) : Rat), a := ((m - 2 * m1 + m2 : Int) : Rat) }
  | none, [m1] => { p := (m : Rat), v := ((m - m1 : Int) : Rat), a := 0 }
  | none, [] => { p := (m : Rat), v := 0, a := 0 }

/-- The coupling registers as a coupling stands (Table SET-5). -/
def State.showCpl (s : State) (x : Nat) (c : Cpl) : State :=
  let s := (s.set (Reg.AXIS_CPL_CFG_KIND x) c.kind).set (Reg.AXIS_CPL_CFG_MSRC x) c.msrc
  let s := (s.set (Reg.AXIS_CPL_CFG_MIDX x) c.midx).put (Reg.AXIS_CPL_CFG_CYCLIC x) c.cyclic
  let s := (s.put (Reg.AXIS_CPL_CFG_CUBIC x) c.cubic).setI (Reg.AXIS_CPL_OFFSET x) c.offset
  let s := (s.setI (Reg.AXIS_CPL_M0 x) c.m0).setI (Reg.AXIS_CLUTCH x) c.clutch
  if c.kind = 1 then (s.setI (Reg.AXIS_GEAR_NUM x) c.num).set (Reg.AXIS_GEAR_DEN x) c.den
  else ((s.set (Reg.AXIS_CAM_BASE x) c.base).set (Reg.AXIS_CAM_N x) c.n).setI (Reg.AXIS_CAM_PERIOD x) c.period

/-- A coupling takes over at the present boundary, through a clutch or, with `done`, at once. -/
def State.engage (s : State) (n x : Nat) (c : Cpl) (done : Bool) : State :=
  let a := s.axisX x
  let under := decide (s.get (Reg.AXIS_SRC_SOURCE x) = 2) && decide (s.get (Reg.AXIS_CPL_CFG_KIND x) ≠ 0)
  let run : CplRun := { c := c, ms := s.masterVal n c.msrc c.midx, done := done }
  let s := (s.showCpl x c).set (Reg.AXIS_SRC_SOURCE x) 2
  let s := s.set (Reg.AXIS_CPL_STAT_CLUTCH x) (if done then 2 else 1)
  let s := s.set (Reg.AXIS_CPL_STAT_U x) (if done then 0xFFFFFF else 0)
  let s := s.set (Reg.AXIS_SRC_ACTIVE x) 1
  let rest := if under then a.rest else s.getI (Reg.AXIS_POS_CMD x)
  let s := if c.kind = 2 ∧ c.cyclic then s.setI (Reg.AXIS_CAM_CYCLES x) (camCycle c run.ms) else s
  s.setAxis x { a with chain := if done then [run] else run :: (if under then a.chain else []), rest := rest,
                       lead := if under then a.lead else none, plan := none, kept := none,
                       declutch := decide (c.kind = 1) && decide (c.num = 0), next := none }

/-- The set-points of a coupled axis or a follower from the unit's exact state (R282), raw and per slow sample; the ceilings of
R319 (gear and cam only) and the soft limits of R318, each raised at the first boundary that shows it. -/
def State.putFollow (s : State) (n x : Nat) (k : KSt) (ceil : Bool) : State :=
  let t := s.slowSec
  let pos := toInt 64 (ofInt 64 (convRat k.p))
  let s := ((s.setI (Reg.AXIS_POS_CMD x) pos).setI (Reg.AXIS_VEL_CMD x) (convRat k.v)).setI (Reg.AXIS_ACC_CMD x) (convRat k.a)
  let v := k.v / 16777216 / t
  let a := k.a / 16777216 / (t * t)
  let s := s.modAxis x (fun q => { q with motion := { p := k.p / 16777216, v := v, segs := [{ t := 1000000000, a := a, j := 0 }], clk := s.clk } })
  let past := ceil && (decide (s.getQ (Reg.AXIS_V_MAX x) < absQ v) || decide (s.getQ (Reg.AXIS_A_MAX x) < absQ a))
  let r := (kinEnd (stopPlan v a (s.getQ (Reg.AXIS_FAULT_DEC x)) (s.getQ (Reg.AXIS_FAULT_JERK x))) (ofQ pos) v).p
  let gs := s.gstate n
  let act := decide (gs = gsEnabled) || decide (gs = gsMoving) || decide (gs = gsTakeover)
  let soft := act && (s.beyondSoft x r || s.beyondSoft x (ofQ pos))
  let was := s.axisX x
  let s := s.modAxis x (fun q => { q with atCeil := past, atSoft := soft })
  let s := if past && !was.atCeil then s.raiseGroup n 0x19 x 0 else s
  if soft && !was.atSoft then s.raiseGroup n 0x18 x 0 else s

/-- A clutch that is complete leaves only the new coupling; a completed way to rest releases it (R311). -/
def State.clutchDone (s : State) (x : Nat) (r : CplRun) : State :=
  if (s.axisX x).declutch then (s.dropCoupling x).set (Reg.AXIS_SRC_ACTIVE x) 0
  else
    let s := (s.set (Reg.AXIS_CPL_STAT_CLUTCH x) 2).set (Reg.AXIS_CPL_STAT_U x) 0xFFFFFF
    s.modAxis x (fun a => { a with chain := [{ r with done := true }] })

/-- A run of a coupling one slow sample later, with the latest value of a measured master. -/
def State.noteMaster (s : State) (n : Nat) (r : CplRun) : CplRun :=
  { r with last := (s.masterVal n r.c.msrc r.c.midx :: r.last).take 2 }

/-- The set-points of a coupled axis at the present boundary, and the progress of its clutch (R310, R311). -/
def State.coupleOut (s : State) (n x : Nat) (r : CplRun) : State :=
  let a := s.axisX x
  let s := s.putFollow n x (s.chainAt (s.masterAt n) (s.leadAt x) a.chain) true
  let u := (clutchU r (s.masterAt n r)).p
  let s := if r.done then s else s.set (Reg.AXIS_CPL_STAT_U x) (satN 0xFFFFFF ((u * 16777216).floor.toNat))
  let s := s.modAxis x (fun a => { a with chain := a.chain.map (s.noteMaster n) })
  if !r.done && decide (u = 1) then s.clutchDone x (s.noteMaster n r) else s

/-- A cam that waits for the present cam's wrap takes over at the boundary that shows it, without a clutch (R312). -/
def State.camSwitch (s : State) (n x : Nat) (c : Cpl) (rel : Bool) : State :=
  let pos := convRat (s.chainAt (s.masterAt n) (s.leadAt x) (s.axisX x).chain).p
  s.engage n x (if rel then { c with m0 := s.masterVal n c.msrc c.midx, offset := pos } else c) true

/-- One slow sample of a coupled axis (R310-R313). -/
def State.coupleStep (s : State) (n x : Nat) : State :=
  let s := s.modAxis x (fun a => { a with lead := a.lead.map (fun q => { q with n := q.n + 1 }) })
  let a := s.axisX x
  match a.chain with
  | [] => s.restAt x (s.getI (Reg.AXIS_POS_CMD x))
  | r :: _ =>
    let k := camCycle r.c (s.masterVal n r.c.msrc r.c.midx)
    let cyc := decide (r.c.kind = 2) && r.c.cyclic
    let wraps := cyc && decide (k ≠ s.getI (Reg.AXIS_CAM_CYCLES x))
    let s := if cyc then s.setI (Reg.AXIS_CAM_CYCLES x) k else s
    match a.next, wraps with
    | some (c, rel), true =>
      let s := s.camSwitch n x c rel
      match (s.axisX x).chain with
      | r :: _ => s.coupleOut n x r
      | [] => s
    | _, _ => s.coupleOut n x r

/-! ### Chains of masters (R308) -/

/-- The couplings of an axis under its gear/cam unit: the masters it names. -/
def State.mastersOf (s : State) (x : Nat) : List (Nat × Nat) :=
  if s.get (Reg.AXIS_SRC_SOURCE x) = 2 ∧ s.get (Reg.AXIS_CPL_CFG_KIND x) ≠ 0 then
    (s.axisX x).chain.map (fun r => (r.c.msrc, r.c.midx))
  else []

/-- The axis whose POS_CMD or POS_ACT a master value is. -/
def State.masterAxis (s : State) (n : Nat) (q : Nat × Nat) : Option Nat :=
  if q.1 = 0 ∨ q.1 = 1 then some q.2
  else if q.1 = 4 ∧ (s.get (Reg.CLAVE_CFG_SRC n) = 1 ∨ s.get (Reg.CLAVE_CFG_SRC n) = 2) then some (s.get (Reg.CLAVE_CFG_IDX n))
  else none

/-- The axes that the couplings of an axis name as masters. -/
def State.masterAxes (s : State) (n x : Nat) : List Nat := (s.mastersOf x).filterMap (s.masterAxis n)

/-- How many masters lie before an axis, at most `fuel`. -/
def State.depthOf (s : State) (n : Nat) : Nat → Nat → Nat
  | 0, _ => 0
  | f + 1, x => ((s.masterAxes n x).map (fun y => 1 + s.depthOf n f y)).foldl max 0

/-- How many slaves lie behind an axis, at most `fuel`. -/
def State.depthBelow (s : State) (n : Nat) : Nat → Nat → Nat
  | 0, _ => 0
  | f + 1, x => (((s.axesOf n).filter (fun y => (s.masterAxes n y).contains x)).map (fun y => 1 + s.depthBelow n f y)).foldl max 0

/-- Whether a chain of masters from `y` leads back to `x`, within `fuel` links. -/
def State.leadsTo (s : State) (n x : Nat) : Nat → Nat → Bool
  | 0, y => y = x
  | f + 1, y => decide (y = x) || (s.masterAxes n y).any (fun z => s.leadsTo n x f z)

/-- Whether a master is in the group's window, is not the slave and does not lead back to it, and the chain through both is at most 8
axes deep (R308). -/
def State.masterOk (s : State) (n x msrc midx : Nat) : Bool :=
  (match msrc with
    | 0 => s.ownsAxis n midx
    | 1 => s.ownsAxis n midx
    | 2 => decide (midx < 16) && bit (s.get (Reg.GRP_OWN_FB n)) midx
    | 3 => decide (midx < 4) && bit (s.get (Reg.GRP_OWN_IO_PU n)) midx
    | 4 => decide (midx = 0)
    | _ => false)
  && (match s.masterAxis n (msrc, midx) with
    | some y => !s.leadsTo n x 32 y && decide (s.depthOf n 9 y + 2 + s.depthBelow n 9 x ≤ 8)
    | none => true)

/-! ### GEAR_SET and CAM_SET -/

/-- A magnitude of 1 to 2^39 - 1 units. -/
def unitRange : Option Int → Bool
  | none => false
  | some v => decide (16777216 ≤ v.natAbs) && decide (v.natAbs ≤ (2 ^ 39 - 1) * 16777216)

/-- The checks of GEAR_SET (R308-R311). -/
def chkGear (m : Msg) (s : State) : Option Nat :=
  let n : Nat := m.ep
  let q := bit (m.u8 3) 0
  firstBad [chk (s.ownsAxis n (m.u8 0)) 0, chk (m.u8 1 < 5) 1, chk (s.masterOk n (m.u8 0) (m.u8 1) (m.u8 2)) 2, chk (m.u8 3 < 4) 3,
    chk (m.le 8 4 ≠ 0) 8, zeroAt m.payload 12 4, chk (isNum (m.posq q 16)) 16, chk (isNum (m.posq q 24)) 24,
    chk (unitRange (m.posq q 32)) 32]

/-- The checks of CAM_SET (R308-R312). -/
def chkCam (m : Msg) (s : State) : Option Nat :=
  let n : Nat := m.ep
  let q := bit (m.u8 3) 0
  firstBad [chk (s.ownsAxis n (m.u8 0)) 0, chk (m.u8 1 < 5) 1, chk (s.masterOk n (m.u8 0) (m.u8 1) (m.u8 2)) 2, chk (m.u8 3 < 32) 3,
    chk (decide (m.le 4 4 % 8 = 0) && decide (m.le 4 4 + 8 * (m.le 8 4 + 1) ≤ camBytes)) 4,
    chk (decide (2 ≤ m.le 8 4) && decide (m.le 8 4 ≤ 65536)) 8, zeroAt m.payload 12 4, chk (isNum (m.posq q 16)) 16,
    chk (isNum (m.posq q 24)) 24, chk (unitRange (m.posq q 32) && decide (0 < (m.posq q 32).getD 0)) 32,
    chk (bit (m.u8 3) 4 || unitRange (m.posq q 40)) 40]

/-- Whether the slave may take a coupling now (R309). -/
def State.cplOk (s : State) (n x : Nat) : Bool :=
  (decide (s.get (Reg.AXIS_SRC_SOURCE x) = 2) && decide (s.get (Reg.AXIS_CPL_CFG_KIND x) ≠ 0))
    || (decide (s.get (Reg.AXIS_SRC_SOURCE x) ≠ 1) && !s.inMotion n x && s.resting x)

/-- GEAR_SET at the effect boundary (R309-R311). -/
def effGear (m : Msg) (s : State) : Reply :=
  let n : Nat := m.ep
  let x := m.u8 0
  let q := bit (m.u8 3) 0
  let num := toInt 32 (m.le 4 4)
  let clutch := (m.posq q 32).getD 0
  let mv := s.masterVal n (m.u8 1) (m.u8 2)
  if !s.masterOk n x (m.u8 1) (m.u8 2) then { s.limit 2 with proto := true }
  else if !s.cplOk n x then s.nak stBusy
  else
    let a := s.axisX x
    let under := decide (s.get (Reg.AXIS_SRC_SOURCE x) = 2) && decide (s.get (Reg.AXIS_CPL_CFG_KIND x) ≠ 0)
    -- NUM = 0 leads to where the present coupling stands when the clutch ends
    let mEnd := fun (r : CplRun) => if r.c.msrc = m.u8 1 ∧ r.c.midx = m.u8 2 then { s.masterAt n r with p := ((mv + clutch : Int) : Rat) } else s.masterAt n r
    let rest := if under then convRat (s.chainAt mEnd (s.leadAt x) a.chain).p else s.getI (Reg.AXIS_POS_CMD x)
    let rel := bit (m.u8 3) 1
    let c : Cpl := {
      kind := 1, msrc := m.u8 1, midx := m.u8 2, cyclic := false, cubic := false, num := num, den := m.le 8 4
      offset := if num = 0 then rest else if rel then s.getI (Reg.AXIS_POS_CMD x) else (m.posq q 16).getD 0
      m0 := if rel then mv else (m.posq q 24).getD 0, clutch := clutch, base := 0, n := 0, period := 0 }
    let s := s.engage n x c false
    s.ok s.effect

/-- CAM_SET at the effect boundary, or, with AT_CYCLE and a running cam, at that cam's next wrap (R312). -/
def effCam (m : Msg) (s : State) : Reply :=
  let n : Nat := m.ep
  let x := m.u8 0
  let q := bit (m.u8 3) 0
  let mv := s.masterVal n (m.u8 1) (m.u8 2)
  if !s.masterOk n x (m.u8 1) (m.u8 2) then { s.limit 2 with proto := true }
  else if !s.cplOk n x then s.nak stBusy
  else
    let rel := bit (m.u8 3) 1
    let atCycle := bit (m.u8 3) 4
    let c : Cpl := {
      kind := 2, msrc := m.u8 1, midx := m.u8 2, cyclic := bit (m.u8 3) 2, cubic := bit (m.u8 3) 3, num := 0, den := 1
      offset := if rel then s.getI (Reg.AXIS_POS_CMD x) else (m.posq q 16).getD 0, m0 := if rel then mv else (m.posq q 24).getD 0
      clutch := (m.posq q 40).getD 0, base := m.le 4 4, n := m.le 8 4, period := (m.posq q 32).getD 0 }
    let camRuns := decide (s.get (Reg.AXIS_SRC_SOURCE x) = 2) && decide (s.get (Reg.AXIS_CPL_CFG_KIND x) = 2)
    let s := if atCycle && camRuns then s.modAxis x (fun a => { a with next := some (c, rel) }) else s.engage n x c atCycle
    s.ok s.effect

/-! ### Following -/

/-- The raw input of a follow source at a boundary (R315). -/
def State.folRaw (s : State) (x : Nat) : Int :=
  let src := s.get (Reg.AXIS_FOL_CFG_SRC x)
  if src < 4 then s.getI (Reg.FIELD_AI_VAL_CODE src) else s.getI (Reg.FIELD_PU_COUNT (src % 4)) - (s.axisX x).folC0

/-- The speed from which a distance `e` is covered without overshoot, slowing by at most `d` per sample of `t` seconds (R316). -/
def folSpeed (e d t : Rat) : Rat :=
  if d = 0 ∨ t = 0 then 0
  else
    let q := e / t
    let k := (((isqrt ((1 + 8 * q / d).floor.toNat) : Nat) - 1) / 2 : Nat)
    (q + d * (k : Rat) * ((k : Rat) + 1) / 2) / ((k : Rat) + 1)

/-- One slow sample of a follow channel (R315, R316). -/
def State.folStep (s : State) (n x : Nat) (release : Bool) : State :=
  let a := s.axisX x
  let t := s.slowSec
  let scale := s.getQ (Reg.AXIS_FOL_SCALE x)
  let raw : Rat := (s.folRaw x : Int)
  let vel := s.flag (Reg.AXIS_FOL_CFG_MODE x)
  let tgt := if vel then a.folTgt + scale * raw * t else s.getQ (Reg.AXIS_FOL_OFFSET x) + scale * raw
  let dv := s.getQ (Reg.AXIS_FOL_AMAX x) * t
  let p := (s.axisKin x).p
  let e := tgt - p
  let want := if release then 0 else sgnQ e * min (s.getQ (Reg.AXIS_FOL_VMAX x)) (folSpeed (absQ e) dv t)
  let v := if want < a.folV - dv then a.folV - dv else if a.folV + dv < want then a.folV + dv else want
  let s := s.modAxis x (fun q => { q with folV := v, folTgt := tgt })
  let s := s.putFollow n x { p := (p + v * t) * 16777216, v := v * t * 16777216, a := (v - a.folV) * t * 16777216 } false
  if release && decide (v = 0) then (s.modAxis x (fun q => { q with folEnd := false })).set (Reg.AXIS_SRC_ACTIVE x) 0 else s

/-- The checks of FOLLOW_SET (R314). -/
def chkFollow (m : Msg) (s : State) : Option Nat :=
  let n : Nat := m.ep
  let x := m.u8 0
  let src := m.u8 1
  let q := bit (m.u8 3) 0
  let srcOk := decide (src = 0xFF) || (decide (src < 4) && bit (s.get (Reg.GRP_OWN_IO_AI n)) src)
    || (decide (4 ≤ src) && decide (src < 8) && bit (s.get (Reg.GRP_OWN_IO_PU n)) (src - 4))
  firstBad [chk (s.ownsAxis n x) 0, chk srcOk 1, chk (m.u8 2 < 2) 2, chk (m.u8 3 < 2) 3, zeroAt m.payload 4 4,
    chk (isNum (m.f64q 8)) 8, chk (isNum (m.posq q 16)) 16, chk (inCeil (s.getI (Reg.AXIS_V_MAX x)) (m.f64q 24)) 24,
    chk (inCeil (s.getI (Reg.AXIS_A_MAX x)) (m.f64q 32)) 32]

/-- FOLLOW_SET at the effect boundary (R314, R315). An axis that follows already takes it too: it could not be released otherwise (log 133). -/
def effFollow (m : Msg) (s : State) : Reply :=
  let n : Nat := m.ep
  let x := m.u8 0
  let src := m.u8 1
  let q := bit (m.u8 3) 0
  let engaged := decide (s.get (Reg.AXIS_SRC_SOURCE x) = 3) && decide (s.get (Reg.AXIS_FOL_CFG_SRC x) ≠ 0xFF)
  if !engaged && !s.cplOk n x then s.nak stBusy
  else if src = 0xFF then
    let s := if engaged then (s.set (Reg.AXIS_FOL_CFG_SRC x) 0xFF).modAxis x (fun a => { a with folEnd := true }) else s
    s.ok s.effect
  else
    let k := s.axisKin x
    let s := s.dropCoupling x
    let s := (s.set (Reg.AXIS_SRC_SOURCE x) 3).set (Reg.AXIS_SRC_ACTIVE x) 1
    let s := (s.set (Reg.AXIS_FOL_CFG_SRC x) src).set (Reg.AXIS_FOL_CFG_MODE x) (m.u8 2)
    let s := (s.setI (Reg.AXIS_FOL_SCALE x) ((m.f64q 8).getD 0)).setI (Reg.AXIS_FOL_OFFSET x) ((m.posq q 16).getD 0)
    let s := s.setI (Reg.AXIS_FOL_VMAX x) (ceilOr (s.getI (Reg.AXIS_V_MAX x)) (m.f64q 24))
    let s := s.setI (Reg.AXIS_FOL_AMAX x) (ceilOr (s.getI (Reg.AXIS_A_MAX x)) (m.f64q 32))
    let s := s.modAxis x (fun a => { a with
      folV := if engaged then a.folV else k.v, folEnd := false, plan := none, kept := none, folTgt := s.getQ (Reg.AXIS_POS_CMD x)
      folC0 := if src < 4 then 0 else s.getI (Reg.FIELD_PU_COUNT (src - 4)) })
    s.ok s.effect

end Sys2Proof.Machine
end

