-- ==== Sys2Proof/Machine/Motion.lean ====
section
/-!
DEFINITION. Motion.lean: the groups' motion at slow boundaries: set-points of every source (R281-R283), group transitions
(Table SET-1), and the effects of ARM, DISARM, CLEAR_FAULT, GROUP_ENABLE, GROUP_DISABLE, HOLD, STOP and RESUME (R65-R71,
R289-R292, R562, R563).
-/
namespace Sys2Proof.Machine

/-! ### Set-points -/

/-- Whether the path interpolator is the source of axis `x` of group `n`. -/
def State.onPath (s : State) (n x : Nat) : Bool :=
  decide (s.get (Reg.AXIS_SRC_SOURCE x) = 1) && bit (s.get (Reg.GRP_PATH_AXES n)) x

/-- The set-point of an axis that is not powered follows its actual position (R283). -/
def State.followAct (s : State) (x : Nat) : State := s.restAt x (s.getI (Reg.AXIS_POS_ACT x))

/-- The set-point of one axis at a boundary, from whichever unit produces it; a way to rest goes before a coupling. -/
def State.axisStep (s : State) (n x : Nat) : State :=
  let a := s.axisX x
  let src := s.get (Reg.AXIS_SRC_SOURCE x)
  if !s.flag (Reg.AXIS_SRC_POWERED x) then s.followAct x
  else
    match a.plan with
    | some q => s.planStep x q
    | none =>
      if s.onPath n x then (if s.flag (Reg.GRP_STATE_PATH_RUN n) then s else s.restAt x (s.getI (Reg.AXIS_POS_CMD x)))
      else if src = 2 ∧ (s.get (Reg.AXIS_CPL_STAT_CLUTCH x) = 1 ∨ s.get (Reg.AXIS_CPL_STAT_CLUTCH x) = 2) then s.coupleStep n x
      else if src = 3 ∧ ¬ s.flag (Reg.AXIS_SRC_HELD x) ∧ s.get (Reg.AXIS_FOL_CFG_SRC x) ≠ 0xFF then s.folStep n x false
      else if src = 3 ∧ a.folEnd then s.folStep n x true
      else s.restAt x (s.getI (Reg.AXIS_POS_CMD x))

/-- The axes of a group, each after the masters that it follows (R308). -/
def State.inOrder (s : State) (n : Nat) : List Nat :=
  let l := (s.axesOf n).map (fun x => (x, s.depthOf n 9 x))
  (List.range 10).flatMap (fun d => (l.filter (fun q => q.2 = d)).map Prod.fst)

/-- Every set-point of a group for the present boundary: the path, then the axes, each after the master it follows (R308). -/
def State.produce (s : State) (n : Nat) : State :=
  let s := s.pathStep n
  s.forAll (s.inOrder n) (fun s x => s.axisStep n x)

/-! ### Coming to rest -/

/-- HOLD or STOP of one axis: its unit brings it to rest, and a plan, a coupling or a follow channel is kept (R291). -/
def State.holdAxis (s : State) (n x : Nat) : State :=
  let a := s.axisX x
  let src := s.get (Reg.AXIS_SRC_SOURCE x)
  if s.onPath n x then s
  else if src = 2 ∧ s.get (Reg.AXIS_CPL_CFG_KIND x) ≠ 0 ∧ s.get (Reg.AXIS_CPL_STAT_CLUTCH x) ≠ 3 then
    (s.set (Reg.AXIS_CPL_STAT_CLUTCH x) 3).brake x (s.getI (Reg.AXIS_D_MAX x)) (s.getI (Reg.AXIS_J_MAX x))
  else if src = 3 ∧ (s.get (Reg.AXIS_FOL_CFG_SRC x) ≠ 0xFF ∨ a.folEnd) then
    (s.brake x (s.getI (Reg.AXIS_D_MAX x)) (s.getI (Reg.AXIS_J_MAX x))).modAxis x (fun a => { a with folEnd := false })
  else
    match a.plan with
    | some q => if q.kind = .brake ∨ ¬ s.planning x then s else (s.brake x q.ld q.lj).modAxis x (fun a => { a with kept := some q })
    | none => s

/-- The ways to rest that have no way left end at once. -/
def State.settleBrakes (s : State) (n : Nat) : State :=
  s.forAll (s.axesOf n) (fun s x =>
    match (s.axisX x).plan with
    | some q =>
      if kinTime q.segs ≤ 0 then
        let s := s.modAxis x (fun a => { a with plan := none })
        ((s.set (Reg.AXIS_SRC_ACTIVE x) 0).set (Reg.AXIS_SRC_REVERSING x) 0).showHeld x q.kind
      else s
    | none => s)

/-- The path axes show HELD once a HOLD has brought the path to rest (Table SET-5). -/
def State.pathHeld (s : State) (n : Nat) : State :=
  let g := s.grpX n
  if g.hold && s.flag (Reg.GRP_STATE_PATH_RUN n) && decide (g.pv = 0) then
    s.forAll ((s.axesOf n).filter (fun x => s.onPath n x)) (fun s x => s.set (Reg.AXIS_SRC_HELD x) 1)
  else s

/-- Every source of a group is brought to rest as HOLD does (R291). -/
def State.holdAll (s : State) (n : Nat) : State :=
  let s := s.forAll (s.axesOf n) (fun s x => s.holdAxis n x)
  let s := if s.flag (Reg.GRP_STATE_PATH_RUN n) && decide ((s.grpX n).pstop = 0) then s.stopPath n 1 else s
  (s.settleBrakes n).pathHeld n

/-- The stop of a reaction is planned (R549): couplings and follow channels are released. -/
def State.planReaction (s : State) (n : Nat) : State :=
  let r := (s.grpX n).react
  let s := s.forAll (s.axesOf n) (fun s x =>
    if s.onPath n x then s
    else
      let d := s.getI (if r = 2 then Reg.AXIS_FAULT_DEC x else Reg.AXIS_D_MAX x)
      let j := if r = 2 then s.getI (Reg.AXIS_FAULT_JERK x) else 0
      let s := s.brake x d j
      let s := (s.dropCoupling x).dropFollow x
      s.modAxis x (fun a => { a with kept := none }))
  let s := if s.flag (Reg.GRP_STATE_PATH_RUN n) then s.stopPath n (if r = 2 then 3 else 4) else s
  (s.settleBrakes n).modGrp n (fun g => { g with replan := false })

/-- Whether every axis of a group rests. -/
def State.allRest (s : State) (n : Nat) : Bool :=
  (s.axesOf n).all s.resting && (!s.flag (Reg.GRP_STATE_PATH_RUN n) || decide ((s.grpX n).pv = 0))

/-- Whether any axis of a group has motion in progress (R286). -/
def State.anyMotion (s : State) (n : Nat) : Bool := (s.axesOf n).any (fun x => s.inMotion n x)

/-- A host STOP is complete: targets, couplings, follow channels and the path queue are gone (R292). -/
def State.stopDone (s : State) (n : Nat) : State :=
  let ran := s.flag (Reg.GRP_STATE_PATH_RUN n)
  let s := s.forAll (s.axesOf n) State.dropPlans
  let s := s.dropPath n
  let s := if ran then s.info n 0x0007 false (leBytes 8 (s.get (Reg.GRP_ARC_POS n))) else s
  (s.setGState n gsEnabled).modGrp n (fun g => { g with hold := false, stopFrom := none })

/-- STOP goes on: what each axis held is dropped once that axis is at rest (R292). -/
def State.dropRested (s : State) (n : Nat) : State :=
  s.forAll ((s.axesOf n).filter (fun x => !s.onPath n x && s.resting x)) State.dropPlans

/-- A reaction is complete: the group enters FAULT and its axes power down (R550, R553). -/
def State.stopFault (s : State) (n : Nat) : State := (s.forAll (s.axesOf n) State.powerDown).enterFault n

/-- Whether the power sequences of POWERING are complete (Table SET-1). -/
def State.powered (s : State) (n : Nat) : Bool := (s.axesOf n).all (fun x => s.flag (Reg.AXIS_SRC_POWERED x))
def State.unpoweredAll (s : State) (n : Nat) : Bool := (s.localsOf n).all (fun x => decide ((s.axisX x).phase = 0))

/-- Transitions that a boundary finds due before its commands take effect (Table SET-1). -/
def State.settleBefore (s : State) (n : Nat) : State :=
  let g := s.grpX n
  let gs := s.gstate n
  if s.flag (Reg.GRP_STATE_POWERING n) ∧ g.power = 1 ∧ s.powered n then
    ((s.setGState n gsEnabled).set (Reg.GRP_STATE_POWERING n) 0).modGrp n (fun g => { g with power := 0, hold := false })
  else if s.flag (Reg.GRP_STATE_POWERING n) ∧ g.power = 2 ∧ s.unpoweredAll n then s.enterDisabled n
  else if gs = gsStopping ∧ g.react ≠ 0 then
    if s.allRest n then s.stopFault n else if g.replan then s.planReaction n else s
  else if gs = gsStopping then (if s.allRest n then s.stopDone n else s.dropRested n)
  else if gs = gsHeld then s.pathHeld n
  else if gs = gsMoving ∧ ¬ s.anyMotion n then s.setGState n gsEnabled
  else s

/-- The motion of a slave that is engaged in a gear with a commanded master: its master's, at the gear's ratio (R330). -/
def State.gearMotion (s : State) (n x : Nat) : State :=
  match (s.axisX x).chain with
  | [r] =>
    let m := if r.c.msrc = 0 then some (s.axisX r.c.midx).motion
      else if r.c.msrc = 4 ∧ s.get (Reg.CLAVE_CFG_SRC n) = 0 then some (s.grpX n).amot
      else if r.c.msrc = 4 ∧ s.get (Reg.CLAVE_CFG_SRC n) = 1 then some (s.axisX (s.get (Reg.CLAVE_CFG_IDX n))).motion
      else none
    match m with
    | some m =>
      if r.done ∧ r.c.kind = 1 ∧ s.get (Reg.AXIS_SRC_SOURCE x) = 2 ∧ (s.axisX x).plan = none ∧ s.flag (Reg.AXIS_SRC_POWERED x) then
        let k := mkRat r.c.num r.c.den
        s.modAxis x (fun a => { a with motion :=
          { a.motion with v := k * m.v, segs := m.segs.map (fun g => { g with a := k * g.a, j := k * g.j, dv := k * g.dv }) } })
      else s
    | none => s
  | _ => s

/-- The motions of commanded coordinates over the slow sample that begins, once every command of its boundary has taken effect (R330). -/
def State.fixMotions (s : State) (n : Nat) : State :=
  let s := s.pathMotions n
  s.forAll (s.inOrder n) (fun s x => s.gearMotion n x)

/-- Transitions that the commands of a boundary bring about. -/
def State.settleAfter (s : State) (n : Nat) : State :=
  let s := (s.pathStart n).fixMotions n
  let gs := s.gstate n
  let s := s.forAll (s.axesOf n) (fun s x => s.put (Reg.AXIS_SRC_ACTIVE x) (s.inMotion n x))
  if gs = gsEnabled ∧ s.anyMotion n then s.setGState n gsMoving
  else if gs = gsMoving ∧ ¬ s.anyMotion n then s.setGState n gsEnabled
  else s

/-! ### Table SET-2 -/

/-- How a motion command is answered in a group state: 0 executed, 1 OK without effect, 2 BUSY, 3 WRONG_MODE (Table SET-2). -/
def verdictOf (op gs : Nat) : Nat :=
  match op with
  | 0x12 => [0, 1, 1, 1, 2, 3, 2].getD gs 3
  | 0x13 => [1, 0, 2, 0, 2, 3, 2].getD gs 3
  | 0x14 => [3, 1, 0, 1, 1, 3, 0].getD gs 3
  | 0x16 => [3, 1, 0, 0, 1, 3, 0].getD gs 3
  | 0x15 => [3, 1, 1, 0, 2, 3, 2].getD gs 3
  | 0x23 => [3, 0, 0, 0, 2, 3, 0].getD gs 3
  | 0x24 => [1, 0, 0, 0, 1, 1, 0].getD gs 3
  | _ => [3, 0, 0, 2, 2, 3, 2].getD gs 3

/-- Whether an opcode is a command of Table SET-2. -/
def isMotionOp (op : Nat) : Bool :=
  [0x12, 0x13, 0x14, 0x15, 0x16, 0x20, 0x21, 0x22, 0x23, 0x24, 0x25, 0x26, 0x27].contains op

/-- The verdict for a group: while POWERING, what Table SET-2 marks Executed in DISABLED or ENABLED is BUSY whatever the group state, and
so is what the table would execute, since the group state does not change before the sequence ends (R287, log 134). -/
def State.verdict (s : State) (op n : Nat) : Nat :=
  let v := verdictOf op (s.gstate n)
  if s.flag (Reg.GRP_STATE_POWERING n) ∧ op ≠ 0x12 ∧ op ≠ 0x13 ∧ (v = 0 ∨ verdictOf op gsEnabled = 0) then 2 else v

/-! ### Effects of the group commands -/

/-- What makes GROUP_ENABLE BUSY: an unserved group, a drive that is not READY, a dead field link, an asserted STO line, a
latched reaction (R175, R272, R387, R561, R563). -/
def State.enableBusy (s : State) (n : Nat) : Bool :=
  !s.flag (Reg.GRP_ENG_CFG_SERVED n)
    || (s.netsOf n).any (fun x => decide (s.get (Reg.AXIS_NET_STAT_DSTATE x) ≠ 2))
    || (!s.flag Reg.FIELD_LINK_STAT_UP && (decide (s.get (Reg.GRP_OWN_DO n) ≠ 0) || decide (s.get (Reg.GRP_OWN_DI n) ≠ 0)))
    || (s.localsOf n).any (fun x => bit (s.get Reg.FAULT_STO_STAT) x && !s.flag (Reg.AXIS_SRC_POWERED x))
    || (List.range 26).any (fun k => bit (s.get (Reg.FAULT_GRP_LATCH n)) k && decide (2 ≤ s.reactOf n (k + 1)))

/-- GROUP_ENABLE where Table SET-2 executes it: power-up starts (R264, R287, R289). A sequence that runs already goes on. The model's
choice (log 134): outside OPERATE the answer is WRONG_MODE also for an unserved group, and R175's BUSY is given only here, so that such
a group in FAULT is answered WRONG_MODE as the table says. -/
def effGroupEnable (m : Msg) (s : State) : Reply :=
  let n : Nat := m.ep
  if s.mode ≠ modeOperate then s.nak stWrongMode
  else if s.enableBusy n then s.nak stBusy
  else if s.flag (Reg.GRP_STATE_POWERING n) then s.ok s.effect
  else
    let s := s.set (Reg.FAULT_GRP_REACT_NOW n) 0
    let s := (s.set (Reg.GRP_STATE_POWERING n) 1).modGrp n (fun g => { g with power := 1, react := 0, stopFrom := none, hold := false })
    let s := s.forAll (s.axesOf n) State.powerUp
    s.ok s.effect

/-- GROUP_DISABLE executed: power-down starts (R264, R287). -/
def effGroupDisable (m : Msg) (s : State) : Reply :=
  let n : Nat := m.ep
  if s.flag (Reg.GRP_STATE_POWERING n) then s.ok s.effect
  else
    let s := (s.set (Reg.GRP_STATE_POWERING n) 1).modGrp n (fun g => { g with power := 2 })
    let s := s.forAll (s.axesOf n) State.powerDown
    s.ok s.effect

/-- HOLD executed (R291); in TAKEOVER the group state stays until the takeover ends. -/
def effHold (m : Msg) (s : State) : Reply :=
  let n : Nat := m.ep
  let s := (s.modGrp n (fun g => { g with hold := true })).holdAll n
  let s := if s.gstate n = gsTakeover then s else s.setGState n gsHeld
  s.ok s.effect

/-- STOP executed (R292). -/
def effStop (m : Msg) (s : State) : Reply :=
  let n : Nat := m.ep
  let s := s.holdAll n
  let s := s.flushPath n
  let s := (s.setGState n gsStopping).modGrp n (fun g => { g with react := 0, replan := false, hold := false })
  let s := if s.allRest n then s.stopDone n else s
  s.ok s.effect

/-- Whether a hold left a plan to resume (Table SET-1). -/
def State.keptAny (s : State) (n : Nat) : Bool :=
  (s.flag (Reg.GRP_STATE_PATH_RUN n) || !(s.grpX n).queued.isEmpty)
    || (s.axesOf n).any (fun x => (s.axisX x).kept.isSome || decide (s.get (Reg.AXIS_CPL_STAT_CLUTCH x) = 3)
        || (decide (s.get (Reg.AXIS_SRC_SOURCE x) = 3) && decide (s.get (Reg.AXIS_FOL_CFG_SRC x) ≠ 0xFF)))

/-- One axis continues what its hold kept (R291). -/
def State.resumeAxis (s : State) (n x : Nat) : State :=
  let a := s.axisX x
  let s := s.set (Reg.AXIS_SRC_HELD x) 0
  match a.kept with
  | some q =>
    let s := match q.kind with
      | .jog v => s.planJog x v q.la q.ld q.lj
      | _ => s.planMove x q.target q.lv q.la q.ld q.lj
    s.modAxis x (fun a => { a with kept := none })
  | none =>
    if s.get (Reg.AXIS_CPL_STAT_CLUTCH x) = 3 then
      match a.chain with
      | r :: _ =>
        -- a way to rest that is still under way goes on beneath the clutch (R281)
        let rest := match a.plan with | some q => q.target | none => s.getI (Reg.AXIS_POS_CMD x)
        let s := (s.set (Reg.AXIS_CPL_STAT_CLUTCH x) 1).set (Reg.AXIS_CPL_STAT_U x) 0
        s.modAxis x (fun a => { a with
          plan := none, rest := rest, lead := a.plan
          chain := [{ c := if a.declutch then { r.c with offset := rest } else if r.c.clutch = 0 then { r.c with clutch := 16777216 } else r.c,
                      ms := s.masterVal n r.c.msrc r.c.midx, done := false }] })
      | [] => s
    else if s.get (Reg.AXIS_SRC_SOURCE x) = 3 then
      let k := s.axisKin x
      s.modAxis x (fun a => { a with
        plan := none, folV := k.v, motion := { p := k.p, v := k.v, segs := [{ t := 1000000000, a := k.a, j := 0 }], clk := s.clk } })
    else s

/-- RESUME executed (R291). -/
def effResume (m : Msg) (s : State) : Reply :=
  let n : Nat := m.ep
  let left := s.keptAny n
  let s := s.forAll (s.axesOf n) (fun s x => s.resumeAxis n x)
  let s := s.modGrp n (fun g => { g with hold := false, pstop := 0, pdirty := true })
  let s := s.setGState n (if left then gsMoving else gsEnabled)
  s.ok s.effect

/-! ### Device mode commands (R65-R71) -/

/-- ARM at its effect boundary (R65). -/
def effArm (s : State) : Reply :=
  if s.mode = modeSafeHold then s.nak stWrongMode
  else if s.mode = modeOperate then s.ok s.effect
  else if s.flash.openW.isSome then s.nak stBusy
  else if !s.flag Reg.SYS_MODE_DRIVE_ENABLE then s.nak stWrongMode
  else (s.set Reg.SYS_MODE_CODE modeOperate).ok s.effect

/-- DISARM at its effect boundary (R66). A group that is being enabled counts as not DISABLED: it would be ENABLED in STANDBY, which Table
PWR-7 rules out (log 134). -/
def effDisarm (s : State) : Reply :=
  if s.mode = modeSafeHold then s.nak stWrongMode
  else if s.mode = modeOperate then
    if (List.range 16).any (fun n => decide (s.gstate n ≠ gsDisabled) || s.flag (Reg.GRP_STATE_POWERING n)) then s.nak stBusy
    else (s.set Reg.SYS_MODE_CODE modeStandby).ok s.effect
  else s.ok s.effect

/-- Whether the cause of a code that a group has latched persists (R562). -/
def State.latchedPersist (s : State) (n : Nat) : Bool :=
  (List.range 26).any (fun k => bit (s.get (Reg.FAULT_GRP_LATCH n)) k && s.persists n (k + 1))

/-- CLEAR_FAULT of a group (R562, R272, R378, R403). -/
def effClearGroup (n : Nat) (s : State) : Reply :=
  if s.gstate n = gsStopping then s.nak stBusy
  else if s.clearHeld n then s.nak stBusy
  else
    let s := s.clearGroup n
    s.ok s.effect

/-- DEV_LATCH and DEV_FIRST cleared. -/
def State.clearDevice (s : State) : State :=
  let s := (s.set Reg.FAULT_DEV_LATCH 0).set Reg.FAULT_DEV_FIRST_CODE 0
  (s.set Reg.FAULT_DEV_FIRST_VALID 0).set Reg.FAULT_DEV_FIRST_NTIME 0

/-- CLEAR_FAULT of the device (R67, R68, R71, R563). -/
def effClearDevice (s : State) : Reply :=
  if s.mode = modeSafeHold then
    if s.flt.xmemUe then s.nak stWrongMode
    else if (List.range 16).any (fun n => decide (s.gstate n = gsStopping)) || s.holdPersists then s.nak stBusy
    else
      let s := s.clearDevice.clearFree
      let s := s.forAll (List.range 16) (fun s n => if s.latchedPersist n then s else s.clearGroup n)
      let s := s.forAll (List.range 16) (fun s n => if s.gstate n = gsDisabled then s else s.enterDisabled n)
      let s := s.set Reg.SYS_MODE_CODE modeStandby
      s.ok s.effect
  else
    let s := s.clearDevice.clearFree
    let s := s.forAll (List.range 16) (fun s n => if s.gstate n = gsStopping ∨ s.clearHeld n then s else s.clearGroup n)
    s.ok s.effect

/-- CLEAR_FAULT at its effect boundary. -/
def effClearFault (m : Msg) (s : State) : Reply := if m.ep = 16 then effClearDevice s else effClearGroup m.ep s

/-- STOP_MAX_EXPIRY (R550): a reaction that is still stopping its group escalates to GUARD. -/
def execStopMaxExpiry (n : Fin 16) (s : State) : Out :=
  if s.awake && s.live && decide (s.gstate n = gsStopping) && (s.grpX n).stopFrom.isSome then .next (s.react n 4) else .next s

/-- A motion command at its boundary (R289, Table SET-2). -/
def effMotion (op : Nat) (m : Msg) (s : State) : Reply :=
  let n : Nat := m.ep
  match s.verdict op n with
  | 0 =>
    match op with
    | 0x12 => effGroupEnable m s
    | 0x13 => effGroupDisable m s
    | 0x14 => effHold m s
    | 0x15 => effResume m s
    | 0x16 => effStop m s
    | 0x20 => effMove false m s
    | 0x21 => effMove true m s
    | 0x22 => effJog m s
    | 0x23 => effPathAppend m s
    | 0x24 => effPathFlush m s
    | 0x25 => effFollow m s
    | 0x26 => effGear m s
    | _ => effCam m s
  | 1 => if op = 0x24 then s.flushAnswer n else s.ok s.effect
  | 2 => s.nak stBusy
  | _ => s.nak stWrongMode

end Sys2Proof.Machine
end

