-- ==== Sys2Proof/Machine/Current.lean ====
section
/-!
DEFINITION. Current.lean: current cells (R247-R264), drives on the drive channel (R267-R272) and coefficients (R273-R277).
-/
namespace Sys2Proof.Machine

/-! ### Coefficients (R273-R277) -/

/-- Words of the two coefficient windows. -/
def curWords : Nat := 11
def axisWords : Nat := 32

/-- A coefficient word of a current cell written: to the inactive bank, or in a DIRECT group to the one set. -/
def State.putCurCoef (s : State) (x k v : Nat) : State :=
  if curWords ≤ k then s
  else
    let s := s.set (Reg.CUR_COEF_W x k) v
    match s.axisGroup x with
    | some n => if s.flag (Reg.GRP_COEF_STAT_MODE n) then s.set (Reg.CUR_COEF_A x k) v else s
    | none => s

/-- A coefficient word of an axis written. -/
def State.putAxisCoef (s : State) (x k v : Nat) : State :=
  if axisWords ≤ k then s
  else
    let s := s.set (Reg.AXIS_COEF_W x k) v
    match s.axisGroup x with
    | some n => if s.flag (Reg.GRP_COEF_STAT_MODE n) then s.set (Reg.AXIS_COEF_A x k) v else s
    | none => s

/-- The active coefficients of a cell, as it latches them at a fast boundary (R273). -/
def State.curCoefs (s : State) (x : Nat) : List Nat := (List.range curWords).map (fun k => s.get (Reg.CUR_COEF_A x k))

/-- A swap is requested; one that is already requested takes it in (R274). -/
def State.askSwap (s : State) (n : Nat) : State :=
  if s.flag (Reg.GRP_COEF_STAT_PENDING n) then s
  else (s.set (Reg.GRP_COEF_STAT_PENDING n) 1).modGrp n (fun g => { g with swapAt := s.clk })

/-- A swap requested before this slow boundary (R17): every axis and cell of the group takes the other bank, and the new inactive bank is
a copy of it (R274, R275). -/
def State.takeSwap (s : State) (n : Nat) : State :=
  if s.flag (Reg.GRP_COEF_STAT_PENDING n) && decide ((s.grpX n).swapAt < s.clk) then
    let s := s.forAll (s.axesOf n) (fun s x =>
      let s := s.forAll (List.range axisWords) (fun s k => s.set (Reg.AXIS_COEF_A x k) (s.get (Reg.AXIS_COEF_W x k)))
      if isNet x then s
      else
        let s := s.forAll (List.range curWords) (fun s k => s.set (Reg.CUR_COEF_A x k) (s.get (Reg.CUR_COEF_W x k)))
        s.modCur x (fun c => { c with coef := s.curCoefs x }))
    let s := (s.set (Reg.GRP_COEF_STAT_PENDING n) 0).put (Reg.GRP_COEF_STAT_ACTIVE n) (!s.flag (Reg.GRP_COEF_STAT_ACTIVE n))
    (s.inc (Reg.GRP_COEF_STAT_SWAPS n)).set (Reg.GRP_COEF_SWAP_NTIME n) s.ntime
  else s

/-- The checks of COEF_WRITE (Table BXP-8). -/
def chkCoefWrite (m : Msg) (s : State) : Option Nat :=
  let lim := if m.u8 0 = 0 then 16 else 32
  firstBad [chk (m.u8 0 < 2) 0, chk (s.ownsAxis m.ep (m.u8 1) && (decide (m.u8 0 = 1) || decide (m.u8 1 < 16))) 1,
    chk (m.u8 2 < lim) 2, chk (decide (1 ≤ m.u8 3) && decide (m.u8 3 ≤ 32) && decide (m.u8 2 + m.u8 3 ≤ lim)) 3]

/-- COEF_WRITE (R273, R277): its words land one after the other. -/
def runCoefWrite (m : Msg) (s : State) : Reply :=
  let s := s.forAll (List.range (m.u8 3)) (fun s i =>
    let v := m.le (4 + 4 * i) 4
    if m.u8 0 = 0 then s.putCurCoef (m.u8 1) (m.u8 2 + i) v else s.putAxisCoef (m.u8 1) (m.u8 2 + i) v)
  s.ok []

/-- COEF_SWAP at its boundary: the swap has been taken there; in a DIRECT group it is WRONG_MODE (R276). -/
def effCoefSwap (m : Msg) (s : State) : Reply :=
  if s.flag (Reg.GRP_COEF_STAT_MODE m.ep) then s.nak stWrongMode else s.ok s.effect

/-- A Clave COEF_SWAP: requests a swap while ARMED and clears ARMED; otherwise, and in a DIRECT group, it is counted (R274,
R276). -/
def State.claveSwap (s : State) (n : Nat) : State :=
  if s.flag (Reg.GRP_COEF_STAT_MODE n) || !s.flag (Reg.GRP_COEF_CTL n) then s.inc (Reg.GRP_COEF_IGN n)
  else (s.askSwap n).set (Reg.GRP_COEF_CTL n) 0

/-! ### Angle (R252-R255) -/

/-- Start of a Hall sector. -/
def sectorStart (k : Nat) : Nat := k * 4294967296 / 6

/-- The electrical angle that a cell takes at a fast boundary (Table LOP-1). -/
def State.cellAngle (s : State) (x : Nat) : Nat :=
  let ofs := s.get (Reg.CUR_ANG_OFS x)
  let p := s.get (Reg.CUR_CFG_ANG_FB x)
  match s.get (Reg.CUR_CFG_ANG_SRC x) with
  | 0 => (ofs + s.get (Reg.CUR_CFG_POLE_PAIRS x) * s.get (Reg.FB_ANGLE p)) % 4294967296
  | 1 =>
    let c := s.curX x
    let a : Int := sectorStart c.sector
    let b : Int := sectorStart (c.sector + 1) - 1
    let th := clampI a b (a + s.getI (Reg.CUR_WE x) * c.since)
    (ofs + th.toNat) % 4294967296
  | _ => s.get (Reg.CUR_FORCE_ANGLE x)

/-- What a Hall code does to one cell: an edge to a neighbouring sector, and the first code of all, starts a sector; a code of 0 or 7 or
an edge that skips a sector is HALL_INVALID, and the angle runs on until the next edge to a neighbour (R255). -/
def State.hallCell (s : State) (x code : Nat) : State :=
  let c := s.curX x
  let sec := bits (s.get (Reg.CUR_HALL_MAP x)) (3 * code) 3
  let near := match c.seen with
    | none => true
    | some o => decide (sec = (o + 1) % 6) || decide ((sec + 1) % 6 = o)
  if code = 0 ∨ code = 7 then (s.set (Reg.CUR_STAT_HALL_ERR x) 1).raiseFor (s.axisGroup x) 0x07 x code
  else if c.seen = some sec then s
  else
    let s := s.setCur x { c with seen := some sec }
    if near then s.setCur x { c with seen := some sec, sector := sec, since := 0 }
    else (s.set (Reg.CUR_STAT_HALL_ERR x) 1).raiseFor (s.axisGroup x) 0x07 x code

/-- A Hall code arrives at the cells that commutate on port `p` (R255). -/
def State.hallCode (s : State) (p code : Nat) : State :=
  s.forAll ((List.range 16).filter (fun x => decide (s.get (Reg.CUR_CFG_ANG_SRC x) = 1) && decide (s.get (Reg.CUR_CFG_ANG_FB x) = p)))
    (fun s x => s.hallCell x code)

/-! ### One fast sample of a cell -/

/-- What a cell does at a fast boundary (R159, R252, R254, R260, R273): applied set-points, compare values, coefficients,
angle, and a measurement to come; `s0` is the state before the boundary, whose phase commands end here. -/
def State.cellFast (s0 s : State) (x : Nat) : State :=
  let c := s.curX x
  let iq := if c.zero then 0 else c.iqNext.getD (s.get (Reg.CUR_IQ_SET x))
  let id := if c.zero then 0 else c.idNext.getD (s.get (Reg.CUR_ID_SET x))
  let s := (s.set (Reg.CUR_IQ_SET x) iq).set (Reg.CUR_ID_SET x) id
  let s := match c.cmpNext with
    | some q => ((s.set (Reg.CUR_CMP_AB_A x) q.1).set (Reg.CUR_CMP_AB_B x) q.2.1).set (Reg.CUR_CMP_C x) q.2.2
    | none => s
  let ph := s0.phasesFrom s x
  let th := s.cellAngle x
  let old := s.get (Reg.CUR_ANGLE x)
  let s := (s.set (Reg.CUR_ANGLE x) th).setI (Reg.CUR_WE x) ((th : Int) - old)
  -- what the axis view shows for this boundary (R250)
  let s := s.modAxis x (fun a => { a with idV := s.get (Reg.CUR_ID x), iqV := s.get (Reg.CUR_IQ x), angV := if s.flag (Reg.CUR_CFG_MEAS_ALIGN x) then th else old })
  s.setCur x { c with cmpNext := none, coef := s.curCoefs x, meas := true, since := c.since + 1, phases := ph }

/-- Set-points forced to zero on entry to RUN follow the engine from the next slow boundary on (Table LOP-3). -/
def State.cellSlow (s : State) (x : Nat) : State :=
  let c := s.curX x
  if c.zero then
    let s := (s.set (Reg.CUR_IQ_SET x) (c.iqNext.getD 0)).set (Reg.CUR_ID_SET x) (c.idNext.getD 0)
    s.setCur x { c with zero := false }
  else s

/-- Q1.31 as a rational. -/
def q31 (i : Int) : Rat := mkRat i 2147483648

/-- The square root of 3 from below, to 2^-64. -/
def sqrt3 : Rat := sqrtLow 3

/-- `m` choose 2. -/
def choose2 (m : Nat) : Nat := m * (m - 1) / 2

/-- Weight `k` of a sinc3 filter over `n` bits: the coefficient of z^k in (1 + z + … + z^(n-1))³. -/
def sincWeight (n k : Nat) : Nat :=
  choose2 (k + 2) + 3 * (if k < 2 * n then 0 else choose2 (k + 2 - 2 * n)) - 3 * (if k < n then 0 else choose2 (k + 2 - n))

/-- The sinc3 decimator's sum over a window of 3 × OSR modulator bits, of which the filter of 3 × OSR - 2 weights takes the middle
(R247, R248). -/
def sincSum (n : Nat) (w : BitVec 768) : Nat :=
  ((List.range (3 * n - 2)).map (fun k => if w.getLsbD (k + 1) then sincWeight n k else 0)).sum

/-- OSR of a cell (Table LOP-6). -/
def State.osr (s : State) (x : Nat) : Nat := 64 * 2 ^ s.get (Reg.CUR_CFG_OSR x)

/-- Decimator output x of a window, from -1 for all zeros to +1 for all ones (R247). -/
def decimate (n : Nat) (w : BitVec 768) : Rat := mkRat (2 * (sincSum n w : Int) - (n ^ 3 : Nat)) (n ^ 3)

/-- Phase current i = GAIN × x + OFS of a window, in Q1.31, saturated (R247). -/
def State.phaseCurrent (s : State) (x : Nat) (gain ofs : Fld) (w : BitVec 768) : Int :=
  satI 32 (convRat (decimate (s.osr x) w * mkRat (s.get gain) 1073741824 * 2147483648 + s.getI ofs))

/-- The d/q controller and its limits (R256-R258): new integrators, vd, vq in Q2.30, and which were clamped. -/
def State.dqControl (s : State) (x : Nat) (c : CurX) (id iq : Rat) : Int × Int × Int × Int × Bool × Bool :=
  let k := fun i => c.coef.getD i 0
  let g24 := fun i => mkRat (k i) 16777216
  let sg24 := fun i => mkRat (toInt 32 (k i)) 16777216
  let lim := fun (f : Fld) i => clampI (-(k i : Int)) (k i) (s.getI f)
  let ed := q31 (lim (Reg.CUR_ID_SET x) 9) - id
  let eq := q31 (lim (Reg.CUR_IQ_SET x) 10) - iq
  let w := q31 (s.getI (Reg.CUR_WE x))
  let q30 := fun (r : Rat) => convRat (r * 1073741824)
  let r30 := fun (i : Int) => mkRat i 1073741824
  let iD := r30 c.iD + g24 1 * ed
  let iQ := r30 c.iQ + g24 3 * eq
  let u := mkRat (s.get (Reg.CUR_UDC_SCALE x)) 1073741824
  let vdOf := fun (i : Rat) => u * (g24 0 * ed + i - sg24 5 * w * iq)
  let vqOf := fun (i : Rat) => u * (g24 2 * eq + i + w * (sg24 4 * id + sg24 6))
  let vm : Int := min (k 7) 1073741824
  let vd := clampI (-vm) vm (q30 (vdOf iD))
  let vl : Int := isqrt (vm * vm - vd * vd).toNat
  let vq := clampI (-vl) vl (q30 (vqOf iQ))
  let satD := decide (vd ≠ q30 (vdOf iD))
  let satQ := decide (vq ≠ q30 (vqOf iQ))
  let keep := fun (sat : Bool) (f : Rat → Rat) (old : Int) (i : Rat) =>
    if sat && decide (absQ (f (r30 old)) < absQ (f i)) then old else satI 32 (q30 i)
  (keep satD vdOf c.iD iD, keep satQ vqOf c.iQ iQ, vd, vq, satD, satQ)

/-- One compare value (R260, R261). -/
def State.compare (s : State) (x : Nat) (v : Rat) : Nat :=
  let f := s.get Reg.SYS_TICK_CFG_FAST_CLK
  let d := s.get (Reg.CUR_DEADTIME_DMIN x)
  let c := (clampI 0 f (convRat ((f : Rat) * (mkRat 1 2 + v / sqrt3)))).toNat
  if c < d then 0 else if f - d < c then f else c

/-- Compare values of the three phases from vd, vq and the angle (R254, R260). -/
def State.svpwm (s : State) (x : Nat) (c : CurX) (vd vq : Int) : Nat × Nat × Nat :=
  let th : Int := (s.get (Reg.CUR_ANGLE x) : Int) + convRat (mkRat (c.coef.getD 8 0) 1073741824 * (s.getI (Reg.CUR_WE x) : Rat))
  let cs := cosTurn (mkRat th 4294967296)
  let sn := sinTurn (mkRat th 4294967296)
  let d := mkRat vd 1073741824
  let q := mkRat vq 1073741824
  let va := d * cs - q * sn
  let vb0 := d * sn + q * cs
  let vb := -va / 2 + sqrt3 / 2 * vb0
  let vc := -va / 2 - sqrt3 / 2 * vb0
  let vo := -(max va (max vb vc) + min va (min vb vc)) / 2
  let b := s.compare x (vb + vo)
  let cc := s.compare x (vc + vo)
  if s.flag (Reg.CUR_CFG_PHASE_SWAP x) then (s.compare x (va + vo), cc, b) else (s.compare x (va + vo), b, cc)

/-- A cell trips (R262, R552): PWM and enable off, the cause set, the fault raised; a cause already set trips nothing new. -/
def State.trip (s : State) (x : Nat) (cause : Fld) (code detail : Nat) : State :=
  if s.flag cause && decide (s.get (Reg.CUR_STAT_STATE x) = cellTripped) then s
  else
    let s := (s.set cause 1).set (Reg.CUR_STAT_STATE x) cellTripped
    let s := ((s.setPwm x 0).setEnable x false).inc (Reg.CUR_TRIP_CNT x)
    let s := s.modCur x (fun c => { c with iD := 0, iQ := 0, zero := false })
    let s := s.guardAxis x
    s.raiseFor (s.axisGroup x) code x detail

/-- CELL_MEASUREMENT_READY (R247, R248, R250, R251, R256-R260): decimation, currents, d/q control and compare values of one fast
sample, from the modulator bits of each phase's window. -/
def execCellMeasurementReady (x : Fin 16) (wa wb wc : BitVec 768) (faultIn sdBad : Bool) (s : State) : Out :=
  let c := s.curX x
  if !s.awake || !c.meas then .next s
  else
    let ia := s.phaseCurrent x (Reg.CUR_GAIN_A x) (Reg.CUR_OFS_A x) wa
    let ib := s.phaseCurrent x (Reg.CUR_GAIN_B x) (Reg.CUR_OFS_B x) wb
    let ic := s.phaseCurrent x (Reg.CUR_GAIN_C x) (Reg.CUR_OFS_C x) wc
    let two := s.flag (Reg.CUR_CFG_TWO_PHASE x)
    let swap := s.flag (Reg.CUR_CFG_PHASE_SWAP x)
    let b := if swap then ic else ib
    let cc := if two then satI 32 (-ia - b) else if swap then ib else ic
    let s := ((s.setI (Reg.CUR_IA x) ia).setI (Reg.CUR_IB x) b).setI (Reg.CUR_IC x) cc
    let al := q31 (2 * ia - b - cc) / 3
    let be := q31 (b - cc) / sqrt3
    let th := mkRat (s.get (Reg.CUR_ANGLE x)) 4294967296
    let cs := cosTurn th
    let sn := sinTurn th
    let id := al * cs + be * sn
    let iq := be * cs - al * sn
    let s := s.setI (Reg.CUR_ID x) (satI 32 (convRat (id * 2147483648)))
    let s := s.setI (Reg.CUR_IQ x) (satI 32 (convRat (iq * 2147483648)))
    -- with TRAILING the axis view of this boundary holds this measurement (R250)
    let s := if s.flag (Reg.CUR_CFG_MEAS_ALIGN x) then
        s.modAxis x (fun a => { a with idV := s.get (Reg.CUR_ID x), iqV := s.get (Reg.CUR_IQ x) })
      else s
    let s := s.put (Reg.CUR_STAT_FAULT_IN x) faultIn
    let s := s.setCur x { c with meas := false, lossNow := sdBad }
    let s :=
      if s.get (Reg.CUR_STAT_STATE x) = cellRun then
        let r := s.dqControl x c id iq
        let s := (s.setI (Reg.CUR_VD x) r.2.2.1).setI (Reg.CUR_VQ x) r.2.2.2.1
        let s := (s.put (Reg.CUR_STAT_SAT_D x) r.2.2.2.2.1).put (Reg.CUR_STAT_SAT_Q x) r.2.2.2.2.2
        let q := s.svpwm x c r.2.2.1 r.2.2.2.1
        s.modCur x (fun c => { c with iD := r.1, iQ := r.2.1, cmpNext := some q })
      else s
    let sum := ia + b + cc
    .next (if !two && decide ((s.get (Reg.CUR_SUM_LIM x) : Int) < sum.natAbs) then
      s.trip x (Reg.CUR_STAT_SUM x) 0x04 (ofInt 32 (satI 32 sum)) else s)

/-- CELL_TRIP (R262, Table LOP-2). -/
def execCellTrip (x : Fin 16) (cause : TripCause) (detail : BitVec 32) (s : State) : Out :=
  if !s.awake then .next s
  else
    match cause with
    | .oc => .next (s.trip x (Reg.CUR_STAT_OC x) 0x03 detail.toNat)
    | .sum => .next (if s.flag (Reg.CUR_CFG_TWO_PHASE x) then s else s.trip x (Reg.CUR_STAT_SUM x) 0x04 detail.toNat)
    | .psFlt => .next ((s.set (Reg.CUR_STAT_FAULT_IN x) 1).trip x (Reg.CUR_STAT_PS_FLT x) 0x05 0)
    | .sdLoss => .next ((s.modCur x (fun c => { c with lossNow := true })).trip x (Reg.CUR_STAT_SD_LOSS x) 0x06 detail.toNat)

/-! ### Power sequences (R264, R551) -/

/-- EN_DELAY_EXPIRY (Table LOP-3). -/
def execEnDelayExpiry (x : Fin 16) (s : State) : Out :=
  if s.awake && decide ((s.axisX x).phase = 1) then .next (s.cellEnterRun x) else .next s

/-- BRAKE_REL_DELAY_EXPIRY (Table LOP-3). -/
def execBrakeRelDelayExpiry (x : Fin 16) (s : State) : Out :=
  if s.awake && decide ((s.axisX x).phase = 2) then .next (s.powerUpEnd x) else .next s

/-- BRAKE_ENG_DELAY_EXPIRY (Table LOP-3). -/
def execBrakeEngDelayExpiry (x : Fin 16) (s : State) : Out :=
  if s.awake && decide ((s.axisX x).phase = 4) then .next (s.powerDownEnd x) else .next s

/-- GTIME_EXPIRY (Table FLT-3). -/
def execGtimeExpiry (x : Fin 16) (s : State) : Out :=
  if s.awake && decide ((s.axisX x).phase = 5) then .next (s.guardEnd x) else .next s

/-! ### LOOP_FLT (R266) -/

/-- Bit `i` of a write of LOOP_FLT: when it is 1, flag `f` is set and fault `code` is raised. -/
def State.loopBit (s : State) (x v i code : Nat) (f : Fld) : State :=
  if bit v i then (s.set f 1).raiseFor (s.axisGroup x) code x (bits v 16 16) else s

/-- A write of LOOP_FLT: DETAIL is stored, each bit written 1 is set and raises its fault. -/
def State.loopFlt (s : State) (x v : Nat) : State :=
  let s := s.set (Reg.AXIS_LOOP_FLT_DETAIL x) (bits v 16 16)
  let s := s.loopBit x v 0 0x08 (Reg.AXIS_LOOP_FLT_FOLLOW x)
  let s := s.loopBit x v 1 0x09 (Reg.AXIS_LOOP_FLT_VEL x)
  s.loopBit x v 2 0x0A (Reg.AXIS_LOOP_FLT_USER x)

/-! ### Network axes (R267-R272) -/

/-- Whether an axis has a drive: a network axis in a group. -/
def State.hasDrive (s : State) (x : Nat) : Bool := isNet x && (s.axisGroup x).isSome

/-- The drive state as a read shows it: INERT for a local axis or one in no group (Table LOP-7). -/
def State.dstate (s : State) (x : Nat) : Nat := if s.hasDrive x then s.get (Reg.AXIS_NET_STAT_DSTATE x) else 4

/-- The drive is LOST (Table LOP-4, R552). -/
def State.driveLost (s : State) (x : Nat) : State :=
  let miss := (s.axisX x).miss
  let s := (s.set (Reg.AXIS_NET_STAT_DSTATE x) 3).set (Reg.AXIS_NET_STAT_SYNC_CNT x) 0
  let s := s.guardAxis x
  let s := s.raiseFor (s.axisGroup x) 0x0B x miss
  s.sourceLossAll

/-- Whether a drive frame is valid (R269): its header, an EPOCH, a sample near a slow boundary, and 256 clocks before the next. -/
def State.driveValid (s : State) (x : Nat) (f : DriveFb) : Bool :=
  let period := s.get Reg.SYS_TICK_CFG_FAST_CLK * s.get Reg.SYS_TICK_CFG_SLOW_DIV
  let off : Int := (2 * f.sample.toNat : Int) - ((s.ntimeH : Int) - 5 * ((s.clk : Int) - s.tick_.lastSlow))
  let r := off % ((5 * period : Nat) : Int)
  let d := min r ((5 * period : Nat) - r)
  f.headerOk && decide (f.epoch.toNat ≠ 0) && decide (s.clk + 256 ≤ s.tick_.lastSlow + period)
    && decide (d ≤ 2 * (s.get (Reg.AXIS_NET_TOL x) : Int))

/-- A valid frame drives the drive state (Table LOP-4). -/
def State.driveFrame (s : State) (x : Nat) (f : DriveFb) : State :=
  let s := (s.set (Reg.AXIS_NET_POS_RAW x) f.pos.toNat).set (Reg.AXIS_NET_SAMPLE x) f.sample.toNat
  let s := s.modAxis x (fun a => { a with net2 := a.net1, net1 := some f.pos.toInt, miss := 0, got := true, iqV := f.current.toNat })
  let e := f.epoch.toNat
  match s.get (Reg.AXIS_NET_STAT_DSTATE x) with
  | 1 =>
    if (s.axisX x).epoch = e then
      let n := s.get (Reg.AXIS_NET_STAT_SYNC_CNT x) + 1
      let s := s.set (Reg.AXIS_NET_STAT_SYNC_CNT x) n
      if s.get (Reg.AXIS_NET_CFG_RESYNC_N x) ≤ n then
        let s := (s.set (Reg.AXIS_NET_STAT_DSTATE x) 2).set (Reg.AXIS_NET_STAT_EPOCH x) e
        s.modAxis x (fun a => { a with net2 := none })
      else s
    else (s.set (Reg.AXIS_NET_STAT_SYNC_CNT x) 0).modAxis x (fun a => { a with epoch := e })
  | 2 => if s.get (Reg.AXIS_NET_STAT_EPOCH x) = e then s else s.driveLost x
  | _ =>
    if f.ready then
      ((s.set (Reg.AXIS_NET_STAT_DSTATE x) 1).set (Reg.AXIS_NET_STAT_SYNC_CNT x) 1).modAxis x (fun a => { a with epoch := e })
    else s

/-- A missed cycle (R269, Table LOP-4). -/
def State.driveMiss (s : State) (x : Nat) : State :=
  let s := (s.inc (Reg.AXIS_NET_MISS x)).modAxis x (fun a => { a with miss := a.miss + 1, judged := true })
  match s.get (Reg.AXIS_NET_STAT_DSTATE x) with
  | 1 => s.set (Reg.AXIS_NET_STAT_SYNC_CNT x) 0
  | 2 => if s.get (Reg.AXIS_NET_CFG_MISS_LIMIT x) ≤ (s.axisX x).miss then s.driveLost x else s
  | _ => s

/-- A frame of a drive, or a cycle known to bring none, is judged: any frame that is not valid counts as missed (R269). -/
def State.driveJudge (s : State) (x : Nat) (f : Option DriveFb) : State :=
  match f with
  | some f => if s.driveValid x f then s.driveFrame x f else s.driveMiss x
  | none => s.driveMiss x

/-- A drive cycle ends at a slow boundary: one that brought no frame at all is a missed one (R269, R270). -/
def State.netCycle (s : State) (x : Nat) : State :=
  let a := s.axisX x
  let s := if a.got || a.judged then s else s.driveMiss x
  s.modAxis x (fun a => { a with got := false, judged := false })

/-- DRIVE_FEEDBACK_FRAME (R269, R271, R523): a frame, or a cycle without one, of the drive of network axis 16 + x. -/
def execDriveFeedbackFrame (x : Fin 16) (f : Option DriveFb) (s : State) : Out :=
  let y := 16 + x.val
  if !s.live || !s.awake || !s.hasDrive y then .next s else .next (s.driveJudge y f)

/-- POS_ACT of a network axis at a slow boundary (R270). -/
def State.netPresent (s : State) (x : Nat) : State :=
  let a := s.axisX x
  match a.net1 with
  | none => s
  | some p =>
    let d := match a.net2 with | some q => p - q | none => 0
    s.setI (Reg.AXIS_POS_ACT x) (p + (a.miss + 1 : Nat) * d)

end Sys2Proof.Machine
end

