-- ==== Sys2Proof/Machine/Feedback.lean ====
section
/-!
DEFINITION. Feedback.lean: feedback ports and echo outputs (R357-R383).
-/
namespace Sys2Proof.Machine

/-- Port types (Table FBK-1). -/
def fbInc : Nat := 1
def fbSinCos : Nat := 2
def fbHall : Nat := 3
def fbBiss : Nat := 4
def fbSsi : Nat := 5

/-- Port fault causes (Table FBK-3), and the group fault of each (R376). -/
def causeCode (cause : Nat) : Nat :=
  match cause with
  | 1 => 0x0F
  | 2 => 0x10
  | 3 => 0x10
  | 4 => 0x11
  | 5 => 0x12
  | 6 => 0x14
  | _ => 0x13

/-- The group of a port as a record names it: 255 when it is in none. -/
def State.fbGroupNo (s : State) (p : Nat) : Nat := (s.fbGroup p).getD 255

/-- Whether the port counts what it cannot find again after a disturbance (R379). -/
def relative (t : Nat) : Bool := decide (1 ≤ t) && decide (t ≤ 3)

/-- Axes whose POS_ACT or commutation angle the port serves (R552). -/
def State.servedBy (s : State) (p : Nat) : List Nat :=
  (List.range 32).filter (fun x => decide (s.portOf x = some p)
    || (decide (x < 16) && decide (s.get (Reg.CUR_CFG_ANG_SRC x) < 2) && decide (s.get (Reg.CUR_CFG_ANG_FB x) = p)))

/-! ### Echo outputs (R32, R42, R380-R382) -/

/-- Whether the default routing of EOk is in force (R382). -/
def State.echoDefault (s : State) (k : Nat) : Bool :=
  !s.live || (decide (s.get (Reg.ECHO_ROUTE_SEL k) = k) && !s.flag (Reg.ECHO_ROUTE_MODE k))

/-- States of the present sample emitted by clock `t`: the i-th of n comes i parts of n into the sample (log 212). -/
def EchoX.emitted (e : EchoX) (t : Nat) : Int :=
  let n := e.out.natAbs
  let i : Int := if e.len = 0 then n else min n (((t + 1 - e.since) * n - 1) / e.len)
  if e.out < 0 then -i else i

/-- E as the emulated lines show it at clock `t`. -/
def EchoX.shown (e : EchoX) (t : Nat) : Int := e.pos + e.emitted t

/-- Levels of L1, L2, L3 (bits 0, 1, 2) for a shown E: quadrature with L1 ahead of L2, and L3 high at the multiples of EMU_ZPER (R381). -/
def quadLevels (zper : Nat) (v : Int) : Nat :=
  (match v % 4 with | 0 => 0 | 1 => 1 | 2 => 3 | _ => 2) + 4 * b2n (decide (zper ≠ 0) && decide (v % (zper : Int) = 0))

/-- The levels at echo output EOk now; none: idle or released in DORMANT (R42). -/
def State.echoPins (s : State) (k : Nat) : Option Nat :=
  if s.mode = modeDormant then none
  else if s.echoDefault k then some (s.fbX k).rx
  else if s.flag (Reg.ECHO_ROUTE_MODE k) then some (quadLevels (s.get (Reg.ECHO_EMU_ZPER k)) ((s.echoX k).shown s.clk))
  else some (s.fbX (s.get (Reg.ECHO_ROUTE_SEL k))).rx

/-- One fast sample of an echo output in EMULATE mode (R381). -/
def State.echoStep (s : State) (k : Nat) : State :=
  let p := s.get (Reg.ECHO_ROUTE_SEL k)
  if !s.flag (Reg.ECHO_ROUTE_MODE k) || s.flag (Reg.FB_STAT_FAULT p) then s
  else
    let e := s.echoX k
    let v := (s.getI (Reg.FB_COUNT p) * toInt 32 (s.get (Reg.ECHO_EMU_NUM k))) / (s.get (Reg.ECHO_EMU_DEN k) : Int)
    match e.last with
    | none => s.setEcho k { e with last := some v, pos := v, out := 0 }
    | some l =>
      let d := e.carry + (v - l)
      let len := (s.get Reg.SYS_TICK_CFG_FAST_CLK + s.tick_.slew).toNat
      let out := clampI (-(len / 10 : Nat)) (len / 10 : Nat) d
      let s := s.setEcho k { last := some v, carry := d - out, pos := e.pos + e.out, out := out, since := s.clk, len := len }
      s.addSat (Reg.ECHO_EMU_SAT k) (d - out).natAbs

/-- The emulated lines of the outputs that follow a port stand still: what is not emitted waits (R381). -/
def State.echoHold (s : State) (p : Nat) : State :=
  s.forAll ((List.range 4).filter (fun k => s.flag (Reg.ECHO_ROUTE_MODE k) && decide (s.get (Reg.ECHO_ROUTE_SEL k) = p))) (fun s k =>
    let e := s.echoX k
    let i := e.emitted s.clk
    s.setEcho k { e with pos := e.pos + i, carry := e.carry + (e.out - i), out := 0 })

/-! ### Faults of a port -/

/-- A port raises a fault (R376, R379, R552); one that holds a fault raises no other. -/
def State.fbFault (s : State) (p cause detail : Nat) : State :=
  if s.flag (Reg.FB_STAT_FAULT p) then s
  else
    let s := (((s.echoHold p).set (Reg.FB_STAT_FAULT p) 1).set (Reg.FB_STAT_CAUSE p) cause).set (Reg.FB_STAT_VALID p) 0
    let s := s.inc (Reg.FB_FAULTS p)
    let s := if relative (s.get (Reg.FB_CFG_TYPE p)) && (decide (cause = 1) || decide (cause = 4) || decide (cause = 6))
      then s.set (Reg.FB_STAT_REF_LOST p) 1 else s
    match s.fbGroup p with
    | some n =>
      let s := s.forAll (s.servedBy p) (fun s x => if s.flag (Reg.AXIS_SRC_POWERED x) then s.guardAxis x else s)
      (s.raiseGroup n (causeCode cause) p detail).sourceLossAll
    | none => s.sourceLossAll

/-- +1 or -1 as DIR has it (R358). -/
def State.fbDir (s : State) (p : Nat) (d : Int) : Int := if s.flag (Reg.FB_CFG_DIR p) then -d else d

/-- An illegal transition (R367). -/
def State.fbIllegal (s : State) (p : Nat) : State :=
  let s := (s.inc (Reg.FB_ILLEGAL p)).modFb p (fun x => { x with ill := x.ill + 1 })
  if s.get (Reg.FB_FILT_ILL_LIMIT p) ≤ (s.fbX p).ill then s.fbFault p 4 (s.get (Reg.FB_ILLEGAL p)) else s

/-- Place of a quadrature state in the order in which L1 leads L2, for `ab` = 2 L1 + L2. -/
def quadPos (ab : Nat) : Nat :=
  match ab with
  | 0 => 0
  | 2 => 1
  | 3 => 2
  | _ => 3

/-- Place of a Hall code (bit 0 U, bit 1 V, bit 2 W) in the order in which U leads V leads W; none for 0 and 7. -/
def hallPos (c : Nat) : Option Nat :=
  match c with
  | 1 => some 0
  | 3 => some 1
  | 2 => some 2
  | 6 => some 3
  | 4 => some 4
  | 5 => some 5
  | _ => none

/-- An accepted edge moves the count of an INC or HALL port by one, and an index edge of this clock has latched it with the edge
(R359, R365, R368). -/
def State.countEdge (s : State) (p : Nat) (up : Bool) : State :=
  let x := s.fbX p
  let c := x.cnt + s.fbDir p (if up then 1 else -1)
  let s := s.setFb p { x with cnt := c, edge := s.clk, before := if x.edge = s.clk then x.before else x.cnt }
  if x.index = some s.clk then
    s.forAll ((List.range 32).filter (fun u => decide (s.get (Reg.SNARE_CFG_KIND u) = 1) && decide (s.get (Reg.SNARE_CFG_SEL u) = p)))
      (fun s u => s.modSnare u (fun y => { y with pend := y.pend.map (fun e =>
        if e.clk = s.clk ∧ e.aux.isSome then { e with aux := some c } else e) }))
      |>.setI (Reg.FB_INDEX_COUNT p) c
  else s

/-- Which of three new levels the filter accepts: those that differ from the accepted ones and hold for LINE_FILT + 1 clocks (R358). -/
def accepted (old new filt : Nat) (held : List Nat) : Nat :=
  (List.range 3).foldl (fun v i => if filt < held.getD i 0 then setBits v i 1 (bits new i 1) else v) old

/-- New accepted levels of an INC port (R359, R367). -/
def State.incEdge (s : State) (p old v : Nat) : State :=
  let a := bits old 0 1 * 2 + bits old 1 1
  let b := bits v 0 1 * 2 + bits v 1 1
  let d := (quadPos b + 4 - quadPos a) % 4
  if d = 0 then s else if d = 2 then s.fbIllegal p else s.countEdge p (d = 1)

/-- New accepted levels of a HALL port (R255, R359, R367). -/
def State.hallEdge (s : State) (p old v : Nat) : State :=
  let s :=
    match hallPos v, hallPos old with
    | none, _ => s.fbIllegal p
    | some b, some a =>
      let d := (b + 6 - a) % 6
      if d = 0 then s else if d = 1 ∨ d = 5 then s.countEdge p (d = 1) else s.fbIllegal p
    | some _, none => s
  s.hallCode p v

/-- FB_LINE_EDGE (R358, R359, R367, R380): all lines of a port that change in this clock. The receivers show it to the echo outputs
in every mode; an INC or HALL port accepts the levels that hold long enough, with this clock as the timestamp. -/
def execFbLineEdge (p : Fin 16) (levels : BitVec 3) (held1 held2 held3 : Nat) (s : State) : Out :=
  let t := s.get (Reg.FB_CFG_TYPE p)
  let old := (s.fbX p).lines
  let v := accepted old levels.toNat (s.get (Reg.FB_FILT_LINE_FILT p)) [held1, held2, held3]
  let s := s.modFb p (fun x => { x with rx := levels.toNat })
  if !s.up || !(decide (t = fbInc) || decide (t = fbHall)) || decide (v = old) then .next s
  else
    let s := (s.set (Reg.FB_STAT_LEVEL p) v).modFb p (fun x => { x with lines := v })
    .next (if t = fbInc then s.incEdge p old v else s.hallEdge p old v)

/-- Whether an index edge is accepted: ungated, or the lines are in the gate's state (R368). -/
def State.indexOk (s : State) (p : Nat) : Bool :=
  let g := s.get (Reg.FB_CFG_ZGATE p)
  let l := (s.fbX p).lines
  decide (g = 0) || decide (bits l 0 1 * 2 + bits l 1 1 + 1 = g)

/-- A sin/cos conversion corrected (R369): SIN, and COS times 2^30. -/
def State.scFix (s : State) (p : Nat) (sin cos : BitVec 16) : Int × Int :=
  (sin.toInt - s.getI (Reg.FB_OFS_SC_SIN p), (cos.toInt - s.getI (Reg.FB_OFS_SC_COS p)) * s.get (Reg.FB_GAIN_COS p))

/-- r² in UQ2.30, saturating (R369). -/
def State.scR2 (s : State) (p : Nat) (q : Int × Int) : Nat :=
  let n : Nat := s.get (Reg.FB_NOM p)
  let r : Rat := if n = 0 then 0 else
    (((q.1 * q.1 : Int) : Rat) + mkRat (q.2 * q.2) (2 ^ 60)) / ((n * n : Nat) : Rat)
  satN 0xFFFFFFFF (convRat (r * 1073741824)).toNat

/-- A conversion counts (R359): the period count follows the nearer way from the last phase. -/
def State.scCount (s : State) (p : Nat) (q : Int × Int) : State :=
  let x := s.fbX p
  let phi := (atanTurn q.1 (mkRat q.2 1073741824) * 65536).floor.toNat % 65536
  let d : Int := (phi : Int) - x.phi
  let per := if !x.started then x.per else if 32768 < d then x.per - 1 else if d < -32768 then x.per + 1 else x.per
  let log2 := s.get (Reg.FB_INTERP p)
  let c := s.fbDir p (per * 2 ^ log2 + (phi * 2 ^ log2 / 65536 : Nat))
  let travel := if 32768 < d then 65536 - d else if d < -32768 then 65536 + d else (d.natAbs : Int)
  let fast := x.started && decide (1048576 < 100 * travel)
  let s := s.setFb p { x with per := per, phi := phi, started := true, cnt := c, hist := ((s.clk, c) :: x.hist).take 2
                              lines := (if 0 < q.1 then 1 else 0) + (if 0 < q.2 then 2 else 0) }
  if fast then s.fbFault p 6 0 else s

/-- The amplitude windows of a conversion (R370, R371). -/
def State.scWindows (s : State) (p r2 bad : Nat) : State :=
  let filt := s.get (Reg.FB_FILT_AMP_FILT p)
  let low := decide (r2 < s.get (Reg.FB_WIN_LO p))
  let high := decide (s.get (Reg.FB_WIN_HI p) < r2)
  let x := s.fbX p
  if low || high || decide (bad ≠ 0) then
    let s := s.setFb p { x with abn := x.abn + 1, wrn := 0, okr := 0 }
    if filt ≤ x.abn + 1 then
      if bad ≠ 0 then s.fbFault p 1 bad else s.fbFault p (if low then 2 else 3) r2
    else s
  else
    let out := decide (r2 < s.get (Reg.FB_WARN_LO p)) || decide (s.get (Reg.FB_WARN_HI p) < r2)
    if out then
      let s := s.setFb p { x with abn := 0, wrn := x.wrn + 1, okr := 0 }
      if filt ≤ x.wrn + 1 ∧ ¬ s.flag (Reg.FB_STAT_WARN_AMP p) then
        (s.set (Reg.FB_STAT_WARN_AMP p) 1).warn (s.fbGroupNo p) 0x000E false (u8s [p, 0, 0, 0] ++ leBytes 4 r2)
      else s
    else
      let s := s.setFb p { x with abn := 0, wrn := 0, okr := x.okr + 1 }
      if filt ≤ x.okr + 1 then s.set (Reg.FB_STAT_WARN_AMP p) 0 else s

/-- The conductors that a port's windows show outside. -/
def FbX.bad (x : FbX) : Nat := (x.outside.map (fun q => 2 ^ q.1)).sum

/-- A conductor is outside its window from now on, or inside; one that leaves it costs a relative port its reference (R370, R379). -/
def State.setLine (s : State) (p c : Nat) (out : Bool) : State :=
  let l := (s.fbX p).outside
  if out then
    if l.any (fun q => decide (q.1 = c)) then s
    else
      let s := s.modFb p (fun x => { x with outside := x.outside ++ [(c, s.clk)] })
      if s.live && relative (s.get (Reg.FB_CFG_TYPE p)) then s.set (Reg.FB_STAT_REF_LOST p) 1 else s
  else s.modFb p (fun x => { x with outside := x.outside.filter (fun q => decide (q.1 ≠ c)) })

/-- LINE_BAD as a relative port flags it. -/
def State.showLines (s : State) (p : Nat) : State :=
  if s.live && relative (s.get (Reg.FB_CFG_TYPE p)) then s.set (Reg.FB_STAT_LINE_BAD p) (s.fbX p).bad else s

/-- The checks of a conversion that are complete by now: 48 clocks after its sampling instant (R370). -/
def State.scChecks (s : State) (p : Nat) (now : Bool) : State :=
  match (s.fbX p).check with
  | none => s
  | some (t, r2, bad) =>
    if !now && decide (s.clk < t) then s
    else ((s.modFb p (fun x => { x with check := none })).set (Reg.FB_STAT_LINE_BAD p) bad).scWindows p r2 bad

/-- The checks of every port that are complete by now. -/
def State.fbChecks (s : State) : State := if s.up then s.forAll (List.range 16) (fun s p => s.scChecks p false) else s

/-- SINCOS_CONVERSION (R359, R369-R371, R375): a conversion is sampled, with the conductors outside their windows at it. It counts at
once; its checks are complete 48 clocks later. The comparators of SIN and COS feed the echo outputs (R380). -/
def execSincosConversion (p : Fin 16) (sin cos : BitVec 16) (lineBad : BitVec 6) (s : State) : Out :=
  let s := s.modFb p (fun x => { x with rx := setBits (setBits x.rx 0 1 (b2n (decide (0 < sin.toInt)))) 1 1 (b2n (decide (0 < cos.toInt))) })
  if !s.up || decide (s.get (Reg.FB_CFG_TYPE p) ≠ fbSinCos) then .next s
  else
    let s := s.scChecks p true
    let q := s.scFix p sin cos
    let r2 := s.scR2 p q
    let s := s.set (Reg.FB_R2_LAST p) r2
    let s := s.set (Reg.FB_R2_MIN p) (min r2 (s.get (Reg.FB_R2_MIN p)))
    let s := s.set (Reg.FB_R2_MAX p) (max r2 (s.get (Reg.FB_R2_MAX p)))
    let s := s.forAll (List.range 6) (fun s c => s.setLine p c (bit lineBad.toNat c))
    .next ((s.scCount p q).modFb p (fun x => { x with check := some (s.clk + 48, r2, lineBad.toNat) }))

/-- LINE_WINDOW_LEAVE (R370, R379): a conductor is outside, or again inside, its common-mode window. -/
def execLineWindowLeave (p : Fin 16) (conductor : Fin 6) (outside : Bool) (s : State) : Out :=
  .next ((s.setLine p conductor outside).showLines p)

/-- LINE_FAULT_TIMEOUT (R371): a conductor of an INC or HALL port has been outside its window for 64 clocks. -/
def execLineFaultTimeout (p : Fin 16) (s : State) : Out :=
  let t := s.get (Reg.FB_CFG_TYPE p)
  if s.up && (decide (t = fbInc) || decide (t = fbHall)) && (s.fbX p).outside.any (fun q => decide (q.2 + 64 ≤ s.clk))
  then .next (s.fbFault p 1 (s.fbX p).bad) else .next s

/-- STANDBY entry of a port: its count is 0 at the levels that stand, and a conductor that is outside its window leaves it now (R359,
R379). -/
def State.fbBegin (s : State) (p : Nat) : State :=
  let x := s.fbX p
  let t := s.get (Reg.FB_CFG_TYPE p)
  let s := s.setFb p { rx := x.rx, lines := x.rx, outside := x.outside }
  let s := if t = fbInc ∨ t = fbHall then s.set (Reg.FB_STAT_LEVEL p) x.rx else s
  if relative t then (s.set (Reg.FB_STAT_LINE_BAD p) x.bad).put (Reg.FB_STAT_REF_LOST p) (decide (x.bad ≠ 0)) else s

/-! ### Absolute ports (R372-R374) -/

/-- READ_DIV; the 4-bit field holds 16 as 0 (DEDUCED, log 170). -/
def State.readDiv (s : State) (p : Nat) : Nat :=
  let d := s.get (Reg.FB_SER_CLK_READ_DIV p)
  if d = 0 then 16 else d

/-- Whether a transaction that starts now serves a fast boundary whose number is a multiple of READ_DIV: the one LEAD clocks on,
which is the nearest to that instant. -/
def State.readDue (s : State) (p : Nat) : Bool :=
  let f := s.get Reg.SYS_TICK_CFG_FAST_CLK
  let k := s.tick_.fastNo + (s.clk + s.get (Reg.FB_LEAD p) + f / 2 - s.tick_.lastFast) / f
  decide (k % s.readDiv p = 0)

/-- The latest clock at which a transaction that started at `t` may complete: 32 clocks before the boundary it serves (R372). -/
def State.readEnd (s : State) (p t : Nat) : Int := (t : Int) + s.get (Reg.FB_LEAD p) - 32

/-- A failed read (R374). -/
def State.readFail (s : State) (p : Nat) (jump : Bool) : State :=
  let s := ((s.set (Reg.FB_STAT_STALE p) 1).inc (Reg.FB_ERRORS p)).modFb p (fun x => { x with fails := x.fails + 1, busy := none })
  if s.get (Reg.FB_FILT_ERR_LIMIT p) ≤ (s.fbX p).fails then
    if jump then s.fbFault p 7 0 else s.fbFault p 5 (s.get (Reg.FB_ERRORS p))
  else s

/-- SERIAL_READ_START (R372): a transaction starts, and the encoder samples now; one that has not ended has failed. -/
def execSerialReadStart (p : Fin 16) (s : State) : Out :=
  if s.up && (decide (s.get (Reg.FB_CFG_TYPE p) = fbBiss) || decide (s.get (Reg.FB_CFG_TYPE p) = fbSsi)) && s.readDue p then
    let s := if (s.fbX p).busy.isSome then s.readFail p false else s
    .next (s.modFb p (fun x => { x with busy := some s.clk }))
  else .next s

/-- A CRC of `w` bits with polynomial `poly` over the top `n` bits of a number, most significant first, initial value 0. -/
def crcBits (w poly data : Nat) : Nat → Nat → Nat
  | 0, c => c
  | n + 1, c =>
    let top := b2n (bit c (w - 1)) ^^^ b2n (bit data n)
    let c := c * 2 % 2 ^ w
    crcBits w poly data n (if top = 1 then c ^^^ (poly % 2 ^ w) else c)

/-- Gray code decoded, `n` bits from the top. -/
def grayDecode (g : Nat) : Nat → Nat → Nat
  | 0, acc => acc
  | n + 1, acc => grayDecode g n (acc * 2 + ((acc % 2) ^^^ b2n (bit g n)))

/-- A named bit of a data field, 0xFF meaning absent. -/
def namedBit (k data : Nat) : Option Bool := if k = 0xFF then none else some (bit data k)

/-- SERIAL_READ_DONE (R360, R373, R374): the data field as received, right-aligned, its CRC field, and whether framing held
(for SSI: the data line high at idle). -/
def execSerialReadDone (p : Fin 16) (data : BitVec 64) (crc : BitVec 16) (ldelay : BitVec 13) (frameOk : Bool) (s : State) : Out :=
  match (s.fbX p).busy with
  | none => .next s
  | some at_ =>
    if !s.up then .next s else
    let biss := decide (s.get (Reg.FB_CFG_TYPE p) = fbBiss)
    let db := s.get (Reg.FB_SER_CFG_DATA_BITS p)
    let pb := s.get (Reg.FB_SER_CFG_POS_BITS p)
    let d := data.toNat % 2 ^ db
    let s := s.set (Reg.FB_RAW p) d
    let s := if biss then s.set (Reg.FB_LDELAY p) ldelay.toNat else s
    let cb := s.get (Reg.FB_SER_CFG_CRC_BITS p)
    let crcOk := !biss || decide (cb = 0) || decide (crc.toNat % 2 ^ cb = 2 ^ cb - 1 - crcBits cb (s.get (Reg.FB_CRC_POLY p)) d db 0)
    let err := if biss then namedBit (s.get (Reg.FB_SER_BITS_NE_BIT p)) d = some false
      else namedBit (s.get (Reg.FB_SER_BITS_ERR_BIT p)) d = some true
    if !frameOk || !crcOk || err || decide (s.readEnd p at_ < s.clk) then .next (s.readFail p false)
    else
      let f := bits d (s.get (Reg.FB_SER_CFG_POS_LSB p)) pb
      let raw := if !biss && s.flag (Reg.FB_SER_CFG_GRAY p) then grayDecode f pb 0 else f
      let x := s.fbX p
      let diff0 : Int := match x.raw with | some r => ((raw : Int) - r) % (2 ^ pb : Int) | none => 0
      let diff : Int := if (2 ^ pb : Int) < 2 * diff0 then diff0 - 2 ^ pb else diff0
      let step := s.get (Reg.FB_MAX_STEP p)
      if x.raw.isSome && decide (step ≠ 0) && decide (step < diff.natAbs) then .next (s.readFail p true)
      else
        let c := match x.raw with
          | none => if s.flag (Reg.FB_SER_CFG_SIGNED p) then toInt pb raw else (raw : Int)
          | some _ => x.cnt + s.fbDir p diff
        let s := s.setFb p { x with cnt := c, raw := some raw, busy := none, fails := 0, succ := min 2 (x.succ + 1)
                                    hist := ((at_, c) :: x.hist).take 2 }
        let s := s.set (Reg.FB_STAT_STALE p) 0
        let s := if biss && decide (namedBit (s.get (Reg.FB_SER_BITS_NW_BIT p)) d = some false) then s.set (Reg.FB_STAT_ENC_WARN p) 1 else s
        .next (s.syncValid p)

/-- SERIAL_READ_TIMEOUT (R372): the transaction is not complete 32 clocks before its boundary. -/
def execSerialReadTimeout (p : Fin 16) (s : State) : Out :=
  match (s.fbX p).busy with
  | none => .next s
  | some at_ => .next (if s.up && decide (s.readEnd p at_ ≤ s.clk) then s.readFail p false else s)

/-! ### Presentation at fast boundaries (R361-R366) -/

/-- The count that stands for the position at clock `b` (R365). -/
def State.countAt (s : State) (p b : Nat) : Int :=
  let x := s.fbX p
  match s.get (Reg.FB_CFG_TYPE p), x.hist with
  | 2, [(t1, c1), (t0, c0)] => c1 + convDiv ((c1 - c0) * ((b : Int) - t1)) (if t1 = t0 then 128 else t1 - t0)
  | 4, [(t1, c1), (t0, c0)] => c1 + convDiv ((c1 - c0) * ((b : Int) - t1)) (t1 - t0)
  | 5, [(t1, c1), (t0, c0)] => c1 + convDiv ((c1 - c0) * ((b : Int) - t1)) (t1 - t0)
  | _, _ => if x.edge = b then x.before else x.cnt

/-- How many times a value has left the 64-bit range. -/
def wraps (i : Int) : Int := (i + 2 ^ 63) / 2 ^ 64

/-- A position that leaves the Q40.24 range is recorded once (R361, R362). -/
def State.noteWrap (s : State) (p : Nat) (was now : Int) : State :=
  if was ≠ now ∧ now ≠ 0 then (s.set (Reg.FB_STAT_WRAPPED p) 1).warn (s.fbGroupNo p) 0x000D false (u8s [p]) else s

/-- POS_ACT before it wraps (R362). -/
def State.posActRaw (s : State) (p : Nat) (c : Int) : Int :=
  s.getI (Reg.FB_OFFSET p) + convDiv (c * s.getI (Reg.FB_SCALE_NUM p) * 16777216) (s.get (Reg.FB_SCALE_DEN p))

/-- POS_ACT of the axis that a port serves, from its presented count (R362). -/
def State.serveAxis (s : State) (p : Nat) : State :=
  if s.flag (Reg.FB_CFG_POS_EN p) then
    let x := s.get (Reg.FB_CFG_POS_AXIS p)
    let v := s.posActRaw p (s.getI (Reg.FB_COUNT p))
    let s := s.noteWrap p (s.fbX p).wrapA (wraps v)
    let s := s.modFb p (fun y => { y with wrapA := wraps v })
    s.setI (Reg.AXIS_POS_ACT x) v
  else s

/-- A port presents its count, position, angle and POS_ACT for a fast boundary; a faulted port holds them (R365, R376). -/
def State.present (s : State) (p : Nat) : State :=
  let s := s.modFb p (fun x => { x with ill := 0 })
  if s.get (Reg.FB_CFG_TYPE p) = 0 ∨ s.flag (Reg.FB_STAT_FAULT p) then s
  else
    let c := s.countAt p s.clk
    let s := s.setI (Reg.FB_COUNT p) c
    let v := c * 2 ^ (24 - s.get (Reg.FB_CFG_CSHIFT p))
    let s := s.noteWrap p (s.fbX p).wrapP (wraps v)
    let s := (s.modFb p (fun x => { x with wrapP := wraps v })).setI (Reg.FB_POS p) v
    let t := s.get (Reg.FB_TURN p)
    let s := s.set (Reg.FB_ANGLE p) (if t = 0 then 0 else ((c % (t : Int)).toNat * 4294967296 / t))
    s.serveAxis p

/-- VALID of every port as its type and fault have it. -/
def State.presentAll (s : State) : State := s.forAll (List.range 16) (fun s p => (s.present p).syncValid p)

/-- A write of OFFSET waits (R363). -/
def State.askOffset (s : State) (p v : Nat) : State :=
  (s.set (Reg.FB_STAT_OFS_PENDING p) 1).modFb p (fun x => { x with ofs := some (s.clk, v) })

/-- A waiting OFFSET at a slow boundary: it takes effect unless the served axis is powered (R363, R379). -/
def State.takeOffset (s : State) (p : Nat) : State :=
  match (s.fbX p).ofs with
  | none => s
  | some (t, v) =>
    if decide (s.clk ≤ t) || s.flag (Reg.FB_CFG_POS_EN p) && s.flag (Reg.AXIS_SRC_POWERED (s.get (Reg.FB_CFG_POS_AXIS p))) then s
    else
      let s := (s.set (Reg.FB_OFFSET p) v).set (Reg.FB_STAT_OFS_PENDING p) 0
      let s := (s.set (Reg.FB_STAT_REF_LOST p) 0).modFb p (fun x => { x with ofs := none })
      s.serveAxis p

end Sys2Proof.Machine
end

