-- ==== Sys2Proof/Machine/Pool.lean ====
section
/-!
DEFINITION. Pool.lean: the buffer pool (R139-R148): owners, floors, grants, frees, and BUF_ALLOC and BUF_FREE.
-/
namespace Sys2Proof.Machine

/-- Holder numbers: 0-15 a group, 16 the device, 255 nobody. -/
def holderDevice : Nat := 16
def holderFree : Nat := 255

/-- Who holds block `k`. -/
def State.owner (s : State) (k : Nat) : Nat := SMap.get (fun _ => holderFree) s.pool.owner k

/-- How often block `k` has been granted. -/
def State.grantsOf (s : State) (k : Nat) : Nat := SMap.get (fun _ => 0) s.pool.grants k

/-- Blocks charged to a holder. -/
def State.used (s : State) (h : Nat) : Nat := if h < 16 then s.get (Reg.POOL_GRP_USED h) else s.get Reg.POOL_DEV_USED

/-- Unused floor of a group. -/
def State.floorLeft (s : State) (n : Nat) : Nat := s.get (Reg.POOL_GRP_FLOOR n) - s.get (Reg.POOL_GRP_USED n)

/-- FREE_SHARED (R141). -/
def State.freeShared (s : State) : Nat :=
  s.get Reg.POOL_STAT_FREE_TOTAL - ((List.range 16).map s.floorLeft).sum

/-- SHARED, MIN_SHARED and LOW as the pool stands; a fall below the level writes POOL_LOW while armed (R148). -/
def State.syncPool (s : State) : State :=
  let sh := s.freeShared
  let lvl := s.get Reg.POOL_WARN_LEVEL
  let s := (s.set Reg.POOL_SHARED sh).set Reg.POOL_MIN_SHARED (min sh (s.get Reg.POOL_MIN_SHARED))
  let was := s.flag Reg.POOL_STAT_LOW
  let low := decide (sh < lvl)
  let s := s.put Reg.POOL_STAT_LOW low
  let s := if lvl + 256 < sh then { s with pool := { s.pool with armed := true } } else s
  if low && !was && s.pool.armed then
    { s with pool := { s.pool with armed := false } }.warn 255 0x0004 false (leBytes 4 sh)
  else s

/-- Whether a request for `k` blocks charged to `h` is granted (R141). -/
def State.poolOk (s : State) (h k : Nat) : Bool :=
  if h < 16 then decide (k ≤ s.get Reg.POOL_STAT_FREE_TOTAL) && decide (k ≤ s.floorLeft h + s.freeShared)
  else decide (k ≤ s.freeShared)

/-- The `i`-th block that a rising list of held blocks leaves free. -/
def nthFree : SMap Nat → Nat → Nat
  | [], i => i
  | (j, _) :: r, i => if j ≤ i then nthFree r (i + 1) else i

/-- One block charged to `h`: which of the free ones the spec does not say. -/
def State.takeBlock (s : State) (h : Nat) : State × Nat :=
  let free := s.get Reg.POOL_STAT_FREE_TOTAL
  let b := nthFree s.pool.owner (Config.freeNat s.drawn % (if free = 0 then 1 else free))
  let s := s.draw
  let s := { s with pool := { s.pool with owner := SMap.set (fun _ => holderFree) s.pool.owner b h
                                          grants := SMap.set (fun _ => 0) s.pool.grants b (s.grantsOf b + 1) } }
  let s := s.set Reg.POOL_STAT_FREE_TOTAL (free - 1)
  let s := if h < 16 then
      let u := s.get (Reg.POOL_GRP_USED h) + 1
      (s.set (Reg.POOL_GRP_USED h) u).set (Reg.POOL_GRP_PEAK h) (max u (s.get (Reg.POOL_GRP_PEAK h)))
    else s.set Reg.POOL_DEV_USED (s.get Reg.POOL_DEV_USED + 1)
  (s, b)

/-- `k` blocks charged to `h`. -/
def State.takeBlocks (s : State) (h : Nat) : Nat → State × List Nat
  | 0 => (s, [])
  | k + 1 =>
    let q := s.takeBlock h
    let r := q.1.takeBlocks h k
    (r.1, q.2 :: r.2)

/-- A refused request (R144): counted and recorded; `place` is that of Table GRP-4. -/
def State.noBuf (s : State) (h place : Nat) : State :=
  let s := if h < 16 then s.inc (Reg.POOL_GRP_NOBUF h) else s.inc Reg.POOL_NOBUF_DEV
  s.warn (if h < 16 then h else 255) 0x0003 false (u8s [place, if h < 16 then h else 0x10])

/-- A free that has reached the pool unit: the block goes back unless `h` does not hold it any more. -/
def State.freeBlock (s : State) (h b : Nat) : State :=
  if b < 65536 ∧ s.owner b = h then
    let s := { s with pool := { s.pool with owner := SMap.set (fun _ => holderFree) s.pool.owner b holderFree } }
    let s := s.set Reg.POOL_STAT_FREE_TOTAL (s.get Reg.POOL_STAT_FREE_TOTAL + 1)
    let s := if h < 16 then s.set (Reg.POOL_GRP_USED h) (s.get (Reg.POOL_GRP_USED h) - 1)
      else s.set Reg.POOL_DEV_USED (s.get Reg.POOL_DEV_USED - 1)
    s.syncPool
  else s

/-- A block held by `h` is freed: it goes back in the clock after, or with the allocation that the pool unit evaluates next (R142,
R143). Any other index is left untouched (R128, R145). -/
def State.poolFree (s : State) (h b : Nat) : State :=
  if b < 65536 ∧ s.owner b = h then { s with pool := { s.pool with frees := s.pool.frees ++ [(h, b)] } } else s

/-- Every free that has been issued reaches the pool unit, in order of issue (R142). -/
def State.poolSettle (s : State) : State :=
  s.pool.frees.foldl (fun s q => s.freeBlock q.1 q.2) { s with pool := { s.pool with frees := [] } }

/-- A request of `k` blocks, after every free (R142): all or none (R141, R144). -/
def State.poolAlloc (s : State) (h k place : Nat) : State × Option (List Nat) :=
  let s := s.poolSettle
  if s.poolOk h k then
    let q := s.takeBlocks h k
    (q.1.syncPool, some q.2)
  else (s.noBuf h place, none)

/-! ### Bytes of pool blocks (R143) -/

/-- Start of the buffer pool (Table GRP-5). -/
def poolBase : Nat := 0x80000000

/-- The byte at pool offset `o`: a free value until its holder has written it since the grant (R143). -/
def State.poolByte (s : State) (o : Nat) : Byte :=
  let k := o / 4096
  let g := s.grantsOf k
  if SMap.get (fun _ => 0) s.pool.written o = g ∧ g ≠ 0 then s.rdByte (poolBase + o)
  else if g = 0 then s.rdByte (poolBase + o)
  else BitVec.ofNat 8 (Config.freePoolByte g k (o % 4096)).toNat

/-- A byte written at pool offset `o`. -/
def State.poolPut (s : State) (o : Nat) (b : Byte) : State :=
  let g := s.grantsOf (o / 4096)
  { s with pool := { s.pool with written := SMap.set (fun _ => 0) s.pool.written o g } }.wrByte (poolBase + o) b

/-- Bytes written from pool offset `o` on. -/
def State.poolPuts (s : State) (o : Nat) : List Byte → State
  | [] => s
  | b :: r => (s.poolPut o b).poolPuts (o + 1) r

/-- Bytes read from pool offset `o` on. -/
def State.poolGets (s : State) (o : Nat) : Nat → List Byte
  | 0 => []
  | n + 1 => s.poolByte o :: s.poolGets (o + 1) n

/-! ### BUF_ALLOC and BUF_FREE (R145, R146) -/

/-- The checks of BUF_ALLOC. -/
def chkBufAlloc (m : Msg) (_ : State) : Option Nat :=
  firstBad [chk (decide (1 ≤ m.u8 0) && decide (m.u8 0 ≤ 64)) 0, zeroAt m.payload 1 3]

/-- BUF_ALLOC (R145): blocks charged to the sender, or NOBUF. -/
def runBufAlloc (m : Msg) (s : State) : Reply :=
  match s.poolAlloc m.ep (m.u8 0) 6 with
  | (s, some l) => s.ok (u8s [l.length, 0, 0, 0] ++ (l.map (leBytes 4)).flatten)
  | (s, none) => s.nak stNoBuf

/-- The checks of BUF_FREE. -/
def chkBufFree (m : Msg) (_ : State) : Option Nat :=
  firstBad ([chk (decide (1 ≤ m.u8 0) && decide (m.u8 0 ≤ 64)) 0, zeroAt m.payload 1 3]
    ++ (List.range (m.u8 0)).map (fun i => chk (m.le (4 + 4 * i) 4 < 65536) (4 + 4 * i)))

/-- BUF_FREE (R145). -/
def runBufFree (m : Msg) (s : State) : Reply :=
  ((List.range (m.u8 0)).foldl (fun s i => s.poolFree m.ep (m.le (4 + 4 * i) 4)) s).ok []

end Sys2Proof.Machine
end

