-- ==== Sys2Proof/Machine/Snare.lean ====
section
/-!
DEFINITION. Snare.lean: latch units: capture, completion, records, SNARE_ARM and SNARE_READ, and the edges of fast inputs
and index pulses (R344, R346-R353, R368).
-/
namespace Sys2Proof.Machine

/-! ### What an edge records (R349) -/

/-- NTIME in ns at an earlier clock. -/
def State.ntimeAt (s : State) (t : Nat) : Nat := (s.ntimeH - 5 * (s.clk - t)) / 2 % 2 ^ 64

/-- The clock of an NTIME not later than now, to the nearest clock below. -/
def State.clockOf (s : State) (ns : Nat) : Nat := s.clk - (s.ntimeH - 2 * ns + 4) / 5

/-- The master coordinate at clock `t`, from the motion that Clave uses for the span containing it. -/
def State.coordAt (s : State) (n t : Nat) : Int :=
  let c := s.claveX n
  (if c.swap ≤ t then c.motion else c.oldMot).posAt t

/-- POS_CMD of an axis at clock `t`, from the commanded plan. -/
def State.cmdAt (s : State) (x t : Nat) : Int :=
  let a := s.axisX x
  (if a.motion.clk ≤ t then a.motion else a.oldMot).posAt t

/-- Whether the feedback of an axis is invalid. -/
def State.actBad (s : State) (x : Nat) : Bool :=
  if isNet x then decide (s.get (Reg.AXIS_NET_STAT_DSTATE x) ≠ 2)
  else match s.portOf x with | some p => !s.flag (Reg.FB_STAT_VALID p) | none => false

/-- POS_ACT at clock `t` between the latched values that enclose it. -/
def actBetween (t : Nat) : List (Nat × Int) → Int
  | (c1, v1) :: (c0, v0) :: r =>
    if c0 ≤ t then (if c1 ≤ c0 then v1 else v0 + convDiv ((v1 - v0) * ((t - c0 : Nat) : Int)) (c1 - c0))
    else actBetween t ((c0, v0) :: r)
  | [(_, v)] => v
  | [] => 0

/-- The latches of POS_ACT: local axes at fast boundaries, network axes at slow ones. -/
def State.latchAct (s : State) (net : Bool) : State :=
  s.forAll ((List.range 32).filter (fun x => isNet x == net && (s.axisGroup x).isSome)) (fun s x =>
    s.modAxis x (fun a => { a with actH := ((s.clk, s.getI (Reg.AXIS_POS_ACT x)) :: a.actH).take 4 }))

/-! ### Capture (R348, R350) -/

/-- Whether the armed interval of a unit holds clock `t`: the present one, or the one before. -/
def State.armedAt (s : State) (u t : Nat) : Bool :=
  let x := s.snareX u
  (s.flag (Reg.SNARE_STAT_ARMED u) && decide (x.ta ≤ t))
    || (match x.prev with | some (a, d, _) => decide (a ≤ t) && decide (t < d) | none => false)

/-- A captured edge ends the arming of a ONESHOT unit; a CONTINUOUS one ignores edges for HOLDOFF clocks. -/
def State.afterCapture (s : State) (u t : Nat) : State :=
  let x := s.snareX u
  let now := s.flag (Reg.SNARE_STAT_ARMED u) && decide (x.ta ≤ t)
  let cont := if now then s.flag (Reg.SNARE_STAT_MODE u) else (match x.prev with | some (_, _, c) => c | none => true)
  if cont then s.setSnare u { x with hold := t + s.get (Reg.SNARE_HOLDOFF u) }
  else if now then (s.set (Reg.SNARE_STAT_ARMED u) 0).setSnare u { x with prev := none }
  else s.setSnare u { x with prev := none }

/-- An edge at clock `t` reaches a latch unit. -/
def State.capture (s : State) (u t : Nat) (rising : Bool) (aux : Option Int) : State :=
  match s.snareGroup u with
  | none => s
  | some n =>
    let x := s.snareX u
    if !s.live || !s.armedAt u t then s
    else if t < x.hold then s.inc (Reg.SNARE_HOLDOFF_MISS u)
    else if 4 ≤ x.pend.length then s.inc (Reg.SNARE_OVERRUN u)
    else
      let e : SnEdge := { clk := t, ntime := s.ntimeAt t, coord := s.coordAt n t, rising := rising, aux := aux,
                          cmd := (s.axesOf n).map (fun y => s.cmdAt y t), bad := (s.axesOf n).any s.actBad }
      let s := s.setSnare u { x with pend := x.pend ++ [e] }
      (s.set (Reg.SNARE_STAT_PENDING u) (x.pend.length + 1)).afterCapture u t

/-- An edge of source (`kind`, `sel`) reaches every latch unit that the image connects to it and that selects its direction
(R346). -/
def State.edgeTo (s : State) (kind sel t : Nat) (rising : Bool) (aux : Option Int) : State :=
  s.forAll ((List.range 32).filter (fun u => decide (s.get (Reg.SNARE_CFG_KIND u) = kind) && decide (s.get (Reg.SNARE_CFG_SEL u) = sel)
      && bit (s.get (Reg.SNARE_CFG_EDGE u)) (if rising then 0 else 1)))
    (fun s u => s.capture u t rising aux)

/-! ### Records (R349, R351, Table CLV-6) -/

/-- The bytes of a record. -/
def snareRecord (u kind seq : Nat) (e : SnEdge) (act : List Int) : List Byte :=
  let b64 := fun (i : Int) => leBytes 8 (ofInt 64 i)
  let flags := b2n e.rising + 2 * b2n e.aux.isSome + 4 * b2n e.bad
  let slots := ((e.cmd.zip act).take 8).map (fun q => b64 q.1 ++ b64 q.2)
  padTo 252 (u8s [u, kind, flags, slots.length] ++ leBytes 4 seq ++ leBytes 8 e.ntime ++ b64 e.coord ++ b64 (e.aux.getD 0)
    ++ slots.flatten) ++ leBytes 4 seq

/-- A block with room for a record: the one being filled, or a new one charged to the group. -/
def State.snareRoom (s : State) (u n : Nat) : State × Option (Nat × Nat) :=
  match (s.snareX u).blk with
  | some (b, k) => if k < 16 then (s, some (b, k)) else
    (match s.poolAlloc n 1 5 with
     | (s, some (b :: _)) => (s, some (b, 0))
     | (s, _) => (s, none))
  | none =>
    match s.poolAlloc n 1 5 with
    | (s, some (b :: _)) => (s, some (b, 0))
    | (s, _) => (s, none)

/-- STORED and PENDING as the lists stand. -/
def State.syncSnare (s : State) (u : Nat) : State :=
  (s.set (Reg.SNARE_STAT_PENDING u) (s.snareX u).pend.length).set (Reg.SNARE_STAT_STORED u) (s.snareX u).recs.length

/-- A completed record is stored, announced and signalled to the engine. -/
def State.storeRecord (s : State) (u n : Nat) (e : SnEdge) (act : List Int) : State :=
  if s.get (Reg.SNARE_DEPTH u) ≤ (s.snareX u).recs.length then s.inc (Reg.SNARE_LOST u)
  else
    match s.snareRoom u n with
    | (s, none) => s.inc (Reg.SNARE_LOST u)
    | (s, some (b, k)) =>
      let seq := (s.get (Reg.SNARE_SEQ u) + 1) % 2 ^ 32
      let s := s.poolPuts (b * 4096 + k * 256) (snareRecord u (s.get (Reg.SNARE_CFG_KIND u)) seq e act)
      let s := s.modSnare u (fun x => { x with recs := x.recs ++ [(seq, b, k)], blk := some (b, k + 1) })
      let s := ((s.set (Reg.SNARE_SEQ u) seq).set (Reg.SNARE_LAST_NTIME u) e.ntime).setI (Reg.SNARE_LAST_COORD u) e.coord
      (s.raiseCause n 16).offer n 10 { kind := 4, body := u8s [u, 0, 0, 0] ++ leBytes 4 seq }

/-- SNARE_RECORD_COMPLETE (R349, R351): the oldest pending edge, once a latch at or after it exists for every axis. -/
def execSnareRecordComplete (u : Fin 32) (s : State) : Out :=
  match s.snareGroup u, (s.snareX u).pend with
  | some n, e :: r =>
    let l := (s.axesOf n).map (fun y => (s.axisX y).actH)
    if s.awake && s.live && l.all (fun h => match h with | (c, _) :: _ => decide (e.clk ≤ c) | [] => false) then
      let s := s.modSnare u (fun x => { x with pend := r })
      .next ((s.storeRecord u n e (l.map (actBetween e.clk))).syncSnare u)
    else .next s
  | _, _ => .next s

/-! ### Commands -/

/-- The checks of SNARE_ARM (Table BXP-8). -/
def chkSnareArm (m : Msg) (s : State) : Option Nat :=
  firstBad [chk (decide (m.u8 0 < 32) && decide (s.snareGroup (m.u8 0) = some m.ep.val)) 0, chk (m.u8 1 < 3) 1, zeroAt m.payload 2 2]

/-- SNARE_ARM at its boundary (R347). -/
def effSnareArm (m : Msg) (s : State) : Reply :=
  let s := if m.u8 1 = 2 then s.disarmSnare (m.u8 0) else s.armSnare (m.u8 0) (decide (m.u8 1 = 1))
  s.ok s.effect

/-- The checks of SNARE_READ. -/
def chkSnareRead (m : Msg) (s : State) : Option Nat :=
  firstBad [chk (decide (m.u8 0 < 32) && decide (s.snareGroup (m.u8 0) = some m.ep.val)) 0,
    chk (decide (1 ≤ m.u8 1) && decide (m.u8 1 ≤ 5)) 1, zeroAt m.payload 2 2]

/-- A block whose records have all been read goes back to the pool. -/
def State.snareFree (s : State) (u n b : Nat) : State :=
  let x := s.snareX u
  if x.recs.any (fun q => decide (q.2.1 = b)) then s
  else
    let s := match x.blk with | some (c, _) => if c = b then s.setSnare u { x with blk := none } else s | none => s
    s.poolFree n b

/-- SNARE_READ (R351): records up to ACK_SEQ are read, then the oldest unread ones are returned. -/
def runSnareRead (m : Msg) (s : State) : Reply :=
  let u := m.u8 0
  let ack := m.le 4 4
  let gone := (s.snareX u).recs.filter (fun q => decide (q.1 ≤ ack))
  let s := s.modSnare u (fun x => { x with recs := x.recs.filter (fun q => decide (ack < q.1)) })
  let s := ((gone.map (fun q => q.2.1)).dedup).foldl (fun s b => s.snareFree u m.ep b) s
  let s := s.syncSnare u
  let l := (s.snareX u).recs
  let out := l.take (m.u8 1)
  s.ok (u8s [out.length, 0, 0, 0] ++ leBytes 4 l.length ++ (out.map (fun q => s.poolGets (q.2.1 * 4096 + q.2.2 * 256) 256)).flatten)

/-! ### Edges of fast inputs and index pulses -/

/-- The lines of HI0-HI7 with POL applied to LEVEL or taken off it (R344). -/
def State.hiFlip (s : State) : Nat :=
  s.get Reg.FIELD_HI_STAT_LEVEL ^^^ ((List.range 8).map (fun k => if s.flag (Reg.FIELD_HI_CFG_POL k) then 2 ^ k else 0)).sum

/-- HI_EDGE (R344): the filtered line level of HIk; a line in its fail-safe condition has no edges. The edge is stamped at the
clock at which the level first appeared. -/
def execHiEdge (k : Fin 8) (level : Bool) (lineFault : Bool) (s : State) : Out :=
  if !s.awake then .next s
  else
    let s := s.set Reg.FIELD_HI_STAT_LINE_FAULT (setBits (s.get Reg.FIELD_HI_STAT_LINE_FAULT) k 1 (b2n lineFault))
    if lineFault then .next s
    else
      let l := level != s.flag (Reg.FIELD_HI_CFG_POL k)
      let was := bit (s.get Reg.FIELD_HI_STAT_LEVEL) k
      let s := s.set Reg.FIELD_HI_STAT_LEVEL (setBits (s.get Reg.FIELD_HI_STAT_LEVEL) k 1 (b2n l))
      .next (if l = was then s else s.edgeTo 0 k (s.clk - s.get (Reg.FIELD_HI_CFG_FILT k)) l none)

/-- FB_INDEX_EDGE (R358, R368, R346, R380): L3 of a port takes a level from this clock on and holds it for `held` clocks. An accepted
edge of an INC or SINCOS port latches the count and serves KIND 1. -/
def execFbIndexEdge (p : Fin 16) (level : Bool) (held : Nat) (s : State) : Out :=
  let t := s.get (Reg.FB_CFG_TYPE p)
  let s := s.modFb p (fun x => { x with rx := setBits x.rx 2 1 (b2n level) })
  if !s.up || !(decide (t = fbInc) && decide (s.get (Reg.FB_FILT_LINE_FILT p) < held) || decide (t = fbSinCos)) then .next s
  else
    let s := s.set (Reg.FB_STAT_LEVEL p) (setBits (s.get (Reg.FB_STAT_LEVEL p)) 2 1 (b2n level))
    let s := s.modFb p (fun x => { x with lines := setBits x.lines 2 1 (b2n level) })
    if s.indexOk p then
      let c := (s.fbX p).cnt
      let s := s.modFb p (fun x => { x with index := some s.clk })
      let s := s.setI (Reg.FB_INDEX_COUNT p) c
      .next (s.edgeTo 1 p s.clk level (if t = fbInc then some c else none))
    else .next s

end Sys2Proof.Machine
end

