-- ==== Sys2Proof/Machine/Clave.lean ====
section
/-!
DEFINITION. Clave.lean: the coordinate schedulers: latching of the master coordinate, entries, queue and window, prediction,
the actions of Table CLV-3, the gate rules of the fast outputs, fire records, CLAVE_APPEND and CLAVE_FLUSH (R321-R345).
-/
namespace Sys2Proof.Machine

/-! ### Entries (R324-R326) -/

/-- The 16 bytes of an entry (Table CLV-2). -/
def ClEntry.bytes (e : ClEntry) : List Byte :=
  leBytes 8 (ofInt 64 e.coord) ++ leBytes 2 (e.act + e.dir * 1024) ++ leBytes 2 e.target ++ leBytes 4 e.param

/-- The entry that 16 bytes spell. -/
def ClEntry.ofBytes (l : List Byte) : ClEntry :=
  { coord := toInt 64 (leAt l 0 8), act := bits (leAt l 8 2) 0 10, dir := bits (leAt l 8 2) 10 2, target := leAt l 10 2,
    param := leAt l 12 4 }

/-- Whether PARAM is in range for an action (Table CLV-3). -/
def paramOk (act param : Nat) : Bool :=
  match act with
  | 0x003 => decide (1 ≤ param) && decide (param ≤ 65535)
  | 0x020 => decide (param ≤ 1)
  | 0x040 => decide (param ≤ 15)
  | 0x050 => decide (param ≤ 65535)
  | 0x060 => true
  | _ => decide (param = 0)

/-- Whether TARGET lies in the group's window for an action (Tables CLV-3, GRP-7; R400). -/
def State.targetOk (s : State) (n act t : Nat) : Bool :=
  if act = 1 ∨ act = 2 ∨ act = 3 then decide (t < 8) && decide (s.hoGroup t = some n)
  else if act = 0x10 ∨ act = 0x11 then decide (t < 16) && decide (s.doGroup t = some n) && decide (s.doBase t = t)
  else if act = 0x20 ∨ act = 0x21 ∨ act = 0x22 then decide (t < 32) && decide (s.snareGroup t = some n)
  else decide (t = 0)

/-- The first offending byte of an entry at append (R326). -/
def State.entryBad (s : State) (n : Nat) (l : List Byte) : Option Nat :=
  let e := ClEntry.ofBytes l
  let known := [0, 1, 2, 3, 0x10, 0x11, 0x20, 0x21, 0x22, 0x30, 0x40, 0x50, 0x60].contains e.act
  firstBad [chk (known && decide (e.dir ≠ 0) && decide (bits (leAt l 8 2) 12 4 = 0)) 8, chk (s.targetOk n e.act e.target) 10,
    chk (paramOk e.act e.param) 12]

/-! ### The master coordinate (R321-R323, R330) -/

/-- The pieces of a plan up to `t` seconds, the last of them without end (R330). -/
def spanOf : List KSeg → Rat → List KSeg
  | [], _ => []
  | g :: r, t => if t ≤ g.t then [{ g with t := 1000000000 }] else g :: spanOf r (t - g.t)

/-- The quadratic through the latest three latched values, as a motion from the latest on (R330). -/
def quadThrough : List (Nat × Int) → Motion
  | (t2, v2) :: (t1, v1) :: (t0, v0) :: _ =>
    let p2 := ofQ v2
    let h1 := clkSec (t2 - t1)
    let h0 := clkSec (t1 - t0)
    if h1 = 0 ∨ h0 = 0 then { p := p2, clk := t2 }
    else
      let d1 := (p2 - ofQ v1) / h1
      let d0 := (ofQ v1 - ofQ v0) / h0
      let a := 2 * (d1 - d0) / (h1 + h0)
      { p := p2, v := d1 + a * h1 / 2, segs := [{ t := 1000000000, a := a, j := 0 }], clk := t2 }
  | (t1, v1) :: (t0, v0) :: _ =>
    { p := ofQ v1, v := if t1 = t0 then 0 else (ofQ v1 - ofQ v0) / clkSec (t1 - t0), clk := t1 }
  | (t0, v0) :: _ => { p := ofQ v0, clk := t0 }
  | [] => {}

/-- The motion of a commanded coordinate over the slow sample that begins now. -/
def State.planMotion (s : State) (n : Nat) : Motion :=
  if s.get (Reg.CLAVE_CFG_SRC n) = 0 then
    let m := (s.grpX n).amot
    { m with segs := spanOf m.segs s.slowSec }
  else
    let m := (s.axisX (s.get (Reg.CLAVE_CFG_IDX n))).motion
    { m with segs := spanOf m.segs s.slowSec }

/-- Whether the source of a group is latched at fast boundaries, and whether it is measured at all (Table CLV-1). -/
def State.measured (s : State) (n : Nat) : Bool := decide (2 ≤ s.get (Reg.CLAVE_CFG_SRC n)) && decide (s.get (Reg.CLAVE_CFG_SRC n) ≤ 4)
def State.fastLatched (s : State) (n : Nat) : Bool :=
  s.measured n && !(decide (s.get (Reg.CLAVE_CFG_SRC n) = 2) && isNet (s.get (Reg.CLAVE_CFG_IDX n)))

/-! ### Crossings (R328, R331) -/

/-- Whether x + y √d is not negative. -/
def surdNonneg (x y d : Rat) : Bool :=
  if 0 ≤ x then decide (0 ≤ y) || decide (y * y * d ≤ x * x) else decide (0 ≤ y) && decide (x * x ≤ y * y * d)

/-- Whether a cubic p + v t + a t²/2 + j t³/6 is at or above `c` at a turning point within 0 ≤ t ≤ `w`. At a turning point t it is
p - av/3j + (2v/3 - a²/3j) t. -/
def turnReaches (k : KSt) (j w c : Rat) : Bool :=
  if j = 0 then
    let t := -k.v / k.a
    decide (k.a ≠ 0) && decide (0 ≤ t) && decide (t ≤ w) && decide (c ≤ k.p + k.v * t / 2)
  else
    let d := k.a * k.a - 2 * j * k.v
    let r := 2 * k.v / 3 - k.a * k.a / (3 * j)
    decide (0 ≤ d) && [1, -1].any (fun (g : Rat) =>
      surdNonneg (-k.a / j) (g / j) d && surdNonneg (w + k.a / j) (-g / j) d
        && surdNonneg (k.p - k.a * k.v / (3 * j) - c - r * k.a / j) (r * g / j) d)

/-- Whether a list of pieces is at or above `c` somewhere from `t0` to `t1` seconds. -/
def climbsTo : List KSeg → Rat → Rat → Rat → Rat → Rat → Bool
  | [], p, v, t0, t1, c => decide (c ≤ p + v * t0) || decide (c ≤ p + v * t1)
  | g :: r, p, v, t0, t1, c =>
    let e := g.at_ p v g.t
    let k := g.at_ p v t0
    let w := min t1 g.t - t0
    (decide (t0 < g.t) && (decide (c ≤ k.p) || decide (c ≤ (g.at_ p v (t0 + w)).p) || turnReaches k g.j w c))
      || (decide (g.t < t1) && climbsTo r e.p e.v (max 0 (t0 - g.t)) (t1 - g.t) c)

/-- Whether a motion rises from below `c` at `t0` to it by `t1`. -/
def Motion.rises (m : Motion) (t0 t1 c : Rat) : Bool := decide ((m.at_ t0).p < c) && climbsTo m.segs m.p m.v t0 t1 c

/-- A motion seen in the mirror. -/
def Motion.flip (m : Motion) : Motion := { m with p := -m.p, v := -m.v, segs := flipSegs m.segs }

/-- Whether a motion makes a crossing of `c` that `dir` qualifies, from clock `x` to clock `y` (R328). -/
def Motion.passes (m : Motion) (dir : Nat) (c x y : Rat) : Bool :=
  let t0 := (x - m.clk) / 400000000
  let t1 := (y - m.clk) / 400000000
  (bit dir 0 && m.rises t0 t1 c) || (bit dir 1 && m.flip.rises t0 t1 (-c))

/-- Whether a coordinate that is latched at `a` and then at `b` has made the crossing that an entry waits for (R328). -/
def crosses (dir : Nat) (c a b : Rat) : Bool :=
  (bit dir 0 && decide (a < c) && decide (c ≤ b)) || (bit dir 1 && decide (c < a) && decide (b ≤ c))

/-- The instant in clocks at which an entry's crossing is predicted, when that is nearest to the present clock: after half a clock before
it and up to half a clock after it (R331). Instants are told apart to 2^-40 clock (log 216). -/
def State.placed (s : State) (n : Nat) (e : ClEntry) : Option Rat :=
  let m := (s.claveX n).motion
  let x : Rat := (s.clk : Rat) - 1 / 2
  let y : Rat := (s.clk : Rat) + 1 / 2
  if m.passes e.dir (ofQ e.coord) x y then some (bisect (fun z => !m.passes e.dir (ofQ e.coord) x z) 40 x y) else none

/-- An entry that the latest two latches show as already crossed is executed at `clk`; its instant lies between them by linear
interpolation (R333). -/
def lateMark (clk : Nat) : List (Nat × Int) → WEntry → WEntry
  | (t1, v1) :: (t0, v0) :: _, w =>
    if w.ready && w.at_.isNone && crosses w.e.dir (ofQ w.e.coord) (ofQ v0) (ofQ v1) then
      let x : Rat := t1 - mkRat ((v1 - w.e.coord) * ((t1 - t0 : Nat) : Int) * (v1 - v0).sign) (v1 - v0).natAbs
      { w with at_ := some x, late := (convRat ((clk : Rat) - x)).toNat }
    else w
  | _, w => w

/-- An entry that a change of plan carries past its coordinate at `clk` is executed there (R332). -/
def skipMark (clk : Nat) (a b : Rat) (w : WEntry) : WEntry :=
  if w.ready && w.at_.isNone && crosses w.e.dir (ofQ w.e.coord) a b then { w with at_ := some clk } else w

/-! ### What boundaries do -/

/-- Whether the source is valid at a boundary (R323). -/
def State.claveValid (s : State) (n : Nat) : State :=
  if s.sourceOk n then s.set (Reg.CLAVE_STAT_SRC_VALID n) 1 else s.sourceLoss n

/-- The boundary latches a measured coordinate: a new prediction is due. -/
def State.claveLatch (s : State) (n : Nat) : State :=
  let v := s.coordNow n
  s.modClave n (fun c =>
    let h := ((s.clk, v) :: c.hist).take 3
    { c with hist := h, newMot := quadThrough h, due := some s.clk })

/-- What a fast boundary does for a group's coordinate (Table CLV-4, R322): `len` is the number of clocks of the fast sample
that begins. -/
def State.claveFast (s : State) (n len : Nat) : State :=
  let s := s.claveValid n
  if s.get (Reg.CLAVE_CFG_SRC n) = 5 then
    let f := s.get Reg.SYS_TICK_CFG_FAST_CLK
    s.modClave n (fun c =>
      { c with motion := { p := c.time, v := mkRat (f * 1000) len, clk := s.clk }, oldMot := c.motion, swap := s.clk })
  else if s.fastLatched n && s.flag (Reg.CLAVE_STAT_SRC_VALID n) then s.claveLatch n
  else s

/-- What a slow boundary does for a group's coordinate once its set-points are produced. -/
def State.claveSlow (s : State) (n : Nat) : State :=
  let s := s.setI (Reg.CLAVE_COORD n) (s.coordNow n)
  let src := s.get (Reg.CLAVE_CFG_SRC n)
  if !s.flag (Reg.CLAVE_STAT_SRC_VALID n) then s
  else if src = 5 then s.modClave n (fun c => { c with due := some s.clk })
  else if src < 2 then s.modClave n (fun c => { c with newMot := s.planMotion n, due := some s.clk })
  else if s.measured n && !s.fastLatched n then s.claveLatch n
  else s

/-- CLAVE_PREDICTION (R330, R332, R333): 256 clocks after a boundary the predictions of its span are complete, and its motion takes over.
Entries found already crossed are to be executed now. -/
def execClavePrediction (n : Fin 16) (s : State) : Out :=
  let c := s.claveX n
  match c.due with
  | none => .next s
  | some b =>
    if !s.up || decide (s.clk < b + 256) then .next s
    else
      let exact := decide (s.get (Reg.CLAVE_CFG_SRC n) = 5)
      let m := if exact then c.motion else c.newMot
      let here := fun (x : Motion) => (x.at_ (((s.clk : Rat) - x.clk) / 400000000)).p
      let late := fun w => if s.measured n then lateMark s.clk c.hist w
        else if c.pred then skipMark s.clk (here c.motion) (here m) w else w
      let win := c.win.map (fun w => { late w with ready := true })
      .next (s.setClave n (if exact then { c with win := win, due := none, pred := true }
        else { c with win := win, due := none, pred := true, motion := m, oldMot := c.motion, swap := s.clk }))

/-! ### The window (R327, R329) -/

/-- PENDING and QUEUED as the lists stand. -/
def State.syncClave (s : State) (n : Nat) : State :=
  (s.set (Reg.CLAVE_PENDING n) (s.claveX n).win.length).set (Reg.CLAVE_QUEUED n) (s.claveX n).queue.length

/-- A block with room for a fire record (R343). -/
def State.fireRoom (s : State) (n : Nat) : State × Option Nat :=
  match (s.claveX n).recBlk with
  | some b => (s, some b)
  | none =>
    match s.poolAlloc n 1 5 with
    | (s, some (b :: _)) => (s.modClave n (fun c => { c with recBlk := some b, recN := 0 }), some b)
    | (s, _) => (s, none)

/-- The fire record of a retired entry (R343, R520): with RECORD it takes a place in a pool block and goes to subscribers; a
NOTIFY goes to its subscribers whatever RECORD holds. -/
def State.fireRecord (s : State) (n : Nat) (e : ClEntry) (outcome late : Nat) : State :=
  let rec_ := e.bytes ++ leBytes 8 s.ntime ++ leBytes 4 (s.claveX n).recSeq ++ u8s [outcome] ++ leBytes 3 (satN 0xFFFFFF late)
  let notify := decide (e.act = 0x60) && decide (outcome ≠ 6)
  let on := s.flag (Reg.CLAVE_CFG_RECORD n)
  let s := if on || notify then s.modClave n (fun c => { c with recSeq := (c.recSeq + 1) % 2 ^ 32 }) else s
  let s := if notify then s.offer n 9 { kind := 3, body := rec_ } else s
  if on then
    match s.fireRoom n with
    | (s, none) => s.inc (Reg.CLAVE_REC_LOST n)
    | (s, some b) =>
      let k := (s.claveX n).recN
      let s := s.poolPuts (b * 4096 + k * 32) rec_
      let s := s.offer n 8 { kind := 2, body := rec_ }
      if k + 1 < 128 then s.modClave n (fun c => { c with recN := k + 1 })
      else (s.modClave n (fun c => { c with recBlk := none, recN := 0 })).poolFree n b
  else s

/-- Whether an entry that enters the window lies behind the coordinate (R329). -/
def State.behind (s : State) (n : Nat) (e : ClEntry) : Bool :=
  let c := s.getI (Reg.CLAVE_COORD n)
  (decide (e.dir = 1) && decide (e.coord < c)) || (decide (e.dir = 2) && decide (c < e.coord))

/-- The oldest queued entries move into free places of the window, up to `fuel` (R327); a passed entry is retired (R329). -/
def State.refill (s : State) (n : Nat) : Nat → State
  | 0 => s
  | fuel + 1 =>
    let c := s.claveX n
    match c.queue with
    | [] => s
    | e :: r =>
      if 1024 ≤ c.win.length then s
      else
        let s := s.setClave n { c with queue := r }
        if s.flag (Reg.CLAVE_CFG_PASSED n) && s.behind n e then
          let s := (s.inc (Reg.CLAVE_PASSED n)).post
            { ntime := s.ntime, coord := e.coord, group := n, cls := clsWarn, code := 0x000B, count := 1, long := false,
              payload := leBytes 2 (e.act + e.dir * 1024) ++ leBytes 2 e.target }
          (s.fireRecord n e 6 0).refill n fuel
        else (s.modClave n (fun c => { c with win := c.win ++ [{ e := e }] })).refill n fuel

/-- Entries that the queue of a group can hold (R327). -/
def queueMax : Nat := 1048576

/-- Entries stored in a group's event queue, in the slots that follow the latest one (Table GRP-5). -/
def State.storeEntries (s : State) (n : Nat) : List ClEntry → State
  | [] => s
  | e :: l =>
    let k := (s.claveX n).recNo
    let a := 0xA0000000 + n * 0x1000000 + k % 1048576 * 16
    let s := ((s.eccHeal a (a + 16)).wrBytes a e.bytes).modClave n (fun c => { c with recNo := k + 1 })
    s.storeEntries n l

/-- The window at a slow boundary: engine appends are queued, then up to 256 entries move in (R327). -/
def State.claveRefill (s : State) (n : Nat) : State :=
  let l := (s.claveX n).goWait.filter (fun q => decide (q.1 < s.clk))
  let s := s.storeEntries n (l.map Prod.snd)
  let s := s.modClave n (fun c => { c with queue := c.queue ++ l.map Prod.snd, goWait := c.goWait.filter (fun q => decide (s.clk ≤ q.1)) })
  (s.refill n 256).syncClave n

/-! ### The order of a clock's actions (R334) -/

/-- The instant by which an entry is due in this clock: found late, moved into it, or predicted to cross in it. -/
def State.turnOf (s : State) (n : Nat) (w : WEntry) : Option Rat :=
  if !w.ready || decide (w.moved = some s.clk) then none
  else match w.at_ with
    | some t => some t
    | none => s.placed n w.e

/-- Whether the entry at place `i` is the next one of this clock: the earliest instant, ties in queue order. While the source is invalid
no entry is due (R323). -/
def State.isNext (s : State) (n i : Nat) : Bool :=
  let c := s.claveX n
  s.up && s.flag (Reg.CLAVE_STAT_SRC_VALID n) && c.pred &&
  match c.win[i]?.bind (s.turnOf n) with
  | none => false
  | some t => c.win.zipIdx.all (fun q => match s.turnOf n q.1 with
    | some u => decide (t < u) || (decide (t = u) && decide (i ≤ q.2))
    | none => true)

/-- Actions that the group has executed in this clock. -/
def ClaveX.acts (c : ClaveX) (clk : Nat) : Nat := if c.actClk = clk then c.actN else 0

/-- One more action of this clock. -/
def State.countAct (s : State) (n : Nat) : State :=
  s.modClave n (fun c => { c with actClk := s.clk, actN := c.acts s.clk + 1 })

/-- Entries of the window that lie in the places `l` move on to the next clock; together they count once, unless they moved before
(R334). -/
def State.moveOn (s : State) (n : Nat) (l : List Nat) : State :=
  let c := s.claveX n
  let win := c.win.mapIdx (fun i w => if l.contains i then { w with at_ := s.turnOf n w, moved := some s.clk } else w)
  let s1 := s.setClave n { c with win := win }
  if l.any (fun i => (c.win[i]?.bind (fun w => w.moved)).isNone) then s1.inc (Reg.CLAVE_DEFERRED n) else s1

/-- The entry at a place of the window is retired with an outcome of R343, counted and recorded (R333). -/
def State.retire (s : State) (n i : Nat) (w : WEntry) (out : Nat) : State :=
  let s := (s.modClave n (fun c => { c with win := c.win.eraseIdx i })).syncClave n
  let s := if out = 4 then s else s.set (Reg.CLAVE_EXECUTED n) (s.get (Reg.CLAVE_EXECUTED n) + 1)
  let s := if w.late ≠ 0 then
      ((s.inc (Reg.CLAVE_LATE n)).set (Reg.CLAVE_LAST_LATE n) (satN 0xFFFFFF w.late)).warn n 0x000C false
        (leBytes 4 w.late ++ leBytes 2 (w.e.act + w.e.dir * 1024) ++ leBytes 2 w.e.target)
    else s
  s.fireRecord n w.e (if out ≠ 0 then out else if w.late ≠ 0 then 5 else if w.moved.isSome then 8 else 0) w.late

/-- The place of the window holds an entry of action `act` that is the next one of this clock: `run` executes it and answers an
outcome of R343; a group's ninth action of a clock moves on (R334). -/
def State.fire (s : State) (n i act : Nat) (run : State → ClEntry → State × Nat) : State :=
  match (s.claveX n).win[i]? with
  | none => s
  | some w =>
    if decide (w.e.act ≠ act) || !s.isNext n i then s
    else if 8 ≤ (s.claveX n).acts s.clk then s.moveOn n [i]
    else
      let q := run (s.countAct n) w.e
      q.1.retire n i w q.2

/-! ### Fast outputs (R335-R340, R345) -/

/-- The modes of an output in which Clave does not act: FORCE_OFF and FORCE_ON; 3 is treated as 0 (R345). -/
def State.hoForced (s : State) (k : Nat) : Bool :=
  decide (s.get (Reg.FIELD_HO_CFG_MODE k) = 1) || decide (s.get (Reg.FIELD_HO_CFG_MODE k) = 2)

/-- An action that is not executed. -/
def State.blocked (s : State) (n : Nat) : State × Nat := (s.inc (Reg.CLAVE_BLOCKED n), 4)

/-- An action on a fast output in one clock. -/
structure HoAct where
  /-- Its predicted instant in clocks. -/
  t     : Rat
  on    : Bool
  /-- The place of its entry in the window; none for the OFF of a pulse and for a deferred OFF. -/
  place : Option Nat := none
  /-- The width of a pulse. -/
  width : Option Nat := none
  /-- Where the coordinate is when the output turns on, and the instant from which a pulse's width counts. -/
  coord : Int := 0
  from_ : Rat := 0
  deriving DecidableEq, Repr

/-- A list in order of instants, equal ones in their order. -/
def insertAct (a : HoAct) : List HoAct → List HoAct
  | [] => [a]
  | b :: r => if b.t ≤ a.t then b :: insertAct a r else a :: b :: r

/-- The action that an entry asks of a fast output: one that is late or was moved acts at the present clock and coordinate. -/
def State.entryAct (s : State) (n : Nat) (w : WEntry) (i : Nat) (t : Rat) : HoAct :=
  { t := t, on := decide (w.e.act ≠ 2), place := some i, width := if w.e.act = 3 then some w.e.param else none
    coord := if w.at_.isSome then s.coordAt n s.clk else w.e.coord, from_ := if w.at_.isSome then s.clk else t }

/-- The actions of this clock on output k, in order: a deferred OFF that falls now, the OFFs of pulses, and the entries that are due
(R336, R338). -/
def State.hoActions (s : State) (n k : Nat) : List HoAct :=
  let x := s.hoX k
  let off : List HoAct := match x.offAt with | some t => if t ≤ s.clk then [{ t := t - 1, on := false }] else [] | none => []
  let pul : List HoAct := (x.pulses.filter (fun p => decide (p.at_ ≤ (s.clk : Rat) + 1 / 2) && decide (p.moved ≠ some s.clk))).map
    (fun p => { t := p.at_, on := false })
  let ent : List HoAct := (s.claveX n).win.zipIdx.filterMap (fun q =>
    if (q.1.e.act = 1 ∨ q.1.e.act = 2 ∨ q.1.e.act = 3) ∧ q.1.e.target = k ∧ q.1.out = none then (s.turnOf n q.1).map (s.entryAct n q.1 q.2)
    else none)
  (off ++ pul ++ ent).foldl (fun l a => insertAct a l) []

/-- Whether an action on output k is not executed: any while the output is forced, an ON while it or the group's Clave is blocked
(R339, R340, R345). -/
def State.hoStops (s : State) (n k : Nat) (a : HoAct) : Bool :=
  s.hoForced k || (a.on && (s.flag (Reg.CLAVE_HO_STATE_BLOCKED n k) || s.onBlocked n))

/-- The gate rules for a clock's actions on output k, with the outcomes of its ONs and of its OFFs (R335-R338). An ON and an OFF in one clock
on an output that was OFF make one pulse in either order. -/
def State.hoGate (s : State) (n k : Nat) (seq : List HoAct) : State × Nat × Nat :=
  let x := s.hoX k
  let least := s.get (Reg.CLAVE_CFG_MIN_PULSE n)
  let sup := s.flag (Reg.CLAVE_CFG_SUPPRESS n)
  let offs := seq.any (fun a => !a.on)
  match seq.find? (fun a => a.on), s.hoOn k with
  | some a, false =>
    if !offs then (s.hoTurnOn k a.coord true, 0, 0)
    else if sup then (s.inc (Reg.CLAVE_SUPPRESSED n), 3, 3)
    else (((s.hoTurnOn k a.coord true).modHo k (fun x => { x with offAt := some (s.clk + least) })).inc (Reg.CLAVE_SHORT n), 0, 2)
  | none, false => if offs then (s.inc (Reg.CLAVE_ORPHAN_OFF n), 0, 1) else (s, 0, 0)
  | _, true =>
    if (seq.getLast?.map (fun a => a.on)).getD true then
      let s := s.setHo k { x with offAt := x.offAt.filter (fun t => decide (s.clk < t)) }
      (if offs then s.inc (Reg.CLAVE_GAP_MERGED n) else s, 0, 0)
    else if !sup && decide (s.clk < x.onClk + least) then
      ((s.setHo k { x with offAt := some (x.onClk + least) }).inc (Reg.CLAVE_SHORT n), 0, 2)
    else (s.hoTurnOff k, 0, 0)

/-- All actions of this clock on output k together (R338): what is blocked is counted, the rest goes through the gate rules; entries keep
their outcomes until they are retired, and pulses the clocks of their OFFs. -/
def State.hoRun (s : State) (n k : Nat) : State :=
  let l := s.hoActions n k
  let s := (l.filter (s.hoStops n k)).foldl (fun s _ => s.inc (Reg.CLAVE_BLOCKED n)) s
  let seq := l.filter (fun a => !s.hoStops n k a)
  let q := s.hoGate n k seq
  let out := fun (i : Nat) => (l.find? (fun a => decide (a.place = some i))).map (fun a =>
    if s.hoStops n k a then 4 else if a.on then q.2.1 else q.2.2)
  let new : List PulseEnd := seq.filterMap (fun a => a.width.map (fun w => { at_ := a.from_ + (w : Rat) }))
  let t := q.1.modClave n (fun c => { c with win := c.win.mapIdx (fun i w => { w with out := (out i).or w.out }) })
  t.modHo k (fun x => { x with pulses := x.pulses.filter (fun p => decide ((s.clk : Rat) + 1 / 2 < p.at_) || decide (p.moved = some s.clk)) ++ new })

/-- The place of the window holds an entry for a fast output that is the next one of this clock. The gate rules take every action of the
clock on that output as one (R334, R338). -/
def State.fireHo (s : State) (n i act : Nat) : State :=
  match (s.claveX n).win[i]? with
  | none => s
  | some w =>
    if decide (w.e.act ≠ act) || !s.isNext n i then s
    else match w.out with
      | some o => s.retire n i w o
      | none =>
        if 8 ≤ (s.claveX n).acts s.clk then s.moveOn n ((s.hoActions n w.e.target).filterMap (fun a => a.place))
        else
          let s := (s.countAct n).hoRun n w.e.target
          s.retire n i w (((s.claveX n).win[i]?.bind (fun w => w.out)).getD 0)

/-- CLAVE_HO_ON. -/
def execClaveHoOn (n : Fin 16) (i : Fin 1024) (s : State) : Out := .next (s.fireHo n i 0x001)

/-- CLAVE_HO_OFF. -/
def execClaveHoOff (n : Fin 16) (i : Fin 1024) (s : State) : Out := .next (s.fireHo n i 0x002)

/-- CLAVE_HO_PULSE. -/
def execClaveHoPulse (n : Fin 16) (i : Fin 1024) (s : State) : Out := .next (s.fireHo n i 0x003)

/-- CLAVE_DEFERRED_OFF (R336, R325): the deferred OFF of an output falls, or the OFF of a pulse, which is an action of its clock
(R334). -/
def execClaveDeferredOff (n : Fin 16) (k : Fin 8) (s : State) : Out :=
  if !s.up || decide (s.hoGroup k ≠ some n.val) then .next s
  else
    let l := (s.hoActions n k).filter (fun a => a.place.isNone)
    let x := s.hoX k
    if l.isEmpty then .next s
    else if x.offAt.any (fun t => decide (t ≤ s.clk)) then .next (s.hoRun n k)
    else if 8 ≤ (s.claveX n).acts s.clk then
      let s1 := s.setHo k { x with pulses := x.pulses.map (fun p => if p.at_ ≤ (s.clk : Rat) + 1 / 2 then { p with moved := some s.clk } else p) }
      .next (if x.pulses.any (fun p => decide (p.at_ ≤ (s.clk : Rat) + 1 / 2) && p.moved.isNone) then s1.inc (Reg.CLAVE_DEFERRED n) else s1)
    else .next ((s.countAct n).hoRun n k)

/-! ### The other actions (Table CLV-3) -/

/-- CLAVE_NOP. -/
def execClaveNop (n : Fin 16) (i : Fin 1024) (s : State) : Out := .next (s.fire n i 0x000 (fun s _ => (s, 0)))

/-- A Clave action on a DO set (R340, R341). -/
def State.doAct (s : State) (n b : Nat) (on : Bool) : State × Nat :=
  if on && s.onBlocked n then s.blocked n
  else
    (s.doSend b on (some n), if s.flag Reg.FIELD_LINK_STAT_UP then 0 else 7)

/-- CLAVE_DO_ON. -/
def execClaveDoOn (n : Fin 16) (i : Fin 1024) (s : State) : Out := .next (s.fire n i 0x010 (fun s e => s.doAct n e.target true))

/-- CLAVE_DO_OFF. -/
def execClaveDoOff (n : Fin 16) (i : Fin 1024) (s : State) : Out := .next (s.fire n i 0x011 (fun s e => s.doAct n e.target false))

/-- CLAVE_SNARE_ARM (R347). -/
def execClaveSnareArm (n : Fin 16) (i : Fin 1024) (s : State) : Out :=
  .next (s.fire n i 0x020 (fun s e => (s.armSnare e.target (decide (e.param = 1)), 0)))

/-- CLAVE_SNARE_DISARM (R347). -/
def execClaveSnareDisarm (n : Fin 16) (i : Fin 1024) (s : State) : Out :=
  .next (s.fire n i 0x021 (fun s e => (s.disarmSnare e.target, 0)))

/-- CLAVE_SNARE_TRIGGER (R346): an edge of KIND 2 for the unit, at the placed clock. -/
def execClaveSnareTrigger (n : Fin 16) (i : Fin 1024) (s : State) : Out :=
  .next (s.fire n i 0x022 (fun s e => (if s.get (Reg.SNARE_CFG_KIND e.target) = 2 then s.capture e.target s.clk false none else s, 0)))

/-- CLAVE_COEF_SWAP (R274, R276). -/
def execClaveCoefSwap (n : Fin 16) (i : Fin 1024) (s : State) : Out := .next (s.fire n i 0x030 (fun s _ => (s.claveSwap n, 0)))

/-- CLAVE_ENGINE_EVENT (Table ENG-3). -/
def execClaveEngineEvent (n : Fin 16) (i : Fin 1024) (s : State) : Out :=
  .next (s.fire n i 0x040 (fun s e => (s.raiseCause n e.param, 0)))

/-- CLAVE_MARK: a MARK record that carries the entry and its coordinate. -/
def execClaveMark (n : Fin 16) (i : Fin 1024) (s : State) : Out :=
  .next (s.fire n i 0x050 (fun s e =>
    (s.post { ntime := s.ntime, coord := e.coord, group := n, cls := clsMark, code := e.param % 65536, count := 1, long := true,
              payload := e.bytes }, 0)))

/-- CLAVE_NOTIFY: its value goes to subscribers with its fire record. -/
def execClaveNotify (n : Fin 16) (i : Fin 1024) (s : State) : Out := .next (s.fire n i 0x060 (fun s _ => (s, 0)))

/-! ### Limits and modes of the fast outputs -/

/-- A limit forces output k off and blocks it (R339). -/
def State.hoLimit (s : State) (n k cause code : Nat) : State :=
  let s := s.hoTurnOff k
  let s := (s.set (Reg.CLAVE_HO_STATE_BLOCKED n k) 1).set (Reg.CLAVE_HO_STATE_CAUSE n k) cause
  s.raiseGroup n code k 0

/-- Whether the coordinate has moved MAX_SPAN away from the value at which output k turned on, by the clock nearest to that
crossing (R339, R331). -/
def State.spanLeft (s : State) (n k : Nat) : Bool :=
  let m := (s.claveX n).motion
  let y : Rat := (s.clk : Rat) + 1 / 2
  let d := ofQ (s.get (Reg.CLAVE_HO_LIM_MAX_SPAN n k))
  let c := ofQ (s.hoX k).onCoord
  decide (d ≤ absQ ((m.at_ ((y - m.clk) / 400000000)).p - c)) || m.passes 1 (c + d) (y - 1) y || m.passes 2 (c - d) (y - 1) y

/-- HO_MAX_SPAN (R339): the coordinate has moved more than MAX_SPAN away from where Clave turned the output on. -/
def execHoMaxSpan (k : Fin 8) (s : State) : Out :=
  match s.hoGroup k with
  | none => .next s
  | some n =>
    let span := s.get (Reg.CLAVE_HO_LIM_MAX_SPAN n k)
    let x := s.hoX k
    if s.awake && s.live && s.hoOn k && x.byClave && decide (span ≠ 0) && s.spanLeft n k then .next (s.hoLimit n k 1 0x0D) else .next s

/-- HO_MAX_ON (R339): the output has been ON for MAX_ON clocks. -/
def execHoMaxOn (k : Fin 8) (s : State) : Out :=
  match s.hoGroup k with
  | none => .next s
  | some n =>
    let lim := s.get (Reg.CLAVE_HO_LIM_MAX_ON n k)
    if s.awake && s.live && s.hoOn k && decide (lim ≠ 0) && decide ((s.hoX k).onClk + lim ≤ s.clk) then .next (s.hoLimit n k 2 0x0E) else .next s

/-- A write of HO_CFG[k].MODE (R345): FORCE_OFF and FORCE_ON drive the output; a forced output that returns to CLAVE is off. -/
def State.hoMode (s : State) (k mode : Nat) : State :=
  let was := s.get (Reg.FIELD_HO_CFG_MODE k)
  let s := s.set (Reg.FIELD_HO_CFG_MODE k) mode
  match mode with
  | 1 => if s.hoOn k then s.hoTurnOff k else s
  | 2 => if s.hoOn k then s.modHo k (fun x => { x with byClave := false, offAt := none }) else s.hoTurnOn k 0 false
  | _ => if was = 2 ∧ s.hoOn k then s.hoTurnOff k else s

/-! ### Commands -/

/-- The checks of CLAVE_APPEND (R326, Table BXP-8). -/
def chkClaveAppend (m : Msg) (s : State) : Option Nat :=
  firstBad ([chk (decide (1 ≤ m.le 0 2) && decide (m.le 0 2 ≤ 87)) 0, zeroAt m.payload 2 2]
    ++ (List.range (m.le 0 2)).map (fun i => (s.entryBad m.ep (slice m.payload (4 + 16 * i) 16)).map (fun o => 4 + 16 * i + o)))

/-- CLAVE_APPEND at its boundary (R326, R327): all entries are queued, or none. -/
def effClaveAppend (m : Msg) (s : State) : Reply :=
  let n : Nat := m.ep
  let l := (List.range (m.le 0 2)).map (fun i => ClEntry.ofBytes (slice m.payload (4 + 16 * i) 16))
  let c := s.claveX n
  if queueMax < c.queue.length + c.goWait.length + l.length then s.nak stQueueFull
  else
    let s := ((s.setClave n { c with queue := c.queue ++ l }).storeEntries n l).syncClave n
    s.ok (s.effect ++ leBytes 4 (c.queue.length + l.length + c.win.length))

/-- The checks of CLAVE_FLUSH. -/
def chkClaveFlush (m : Msg) (_ : State) : Option Nat := firstBad [chk (m.u8 0 < 2) 0, zeroAt m.payload 1 3]

/-- CLAVE_FLUSH at its boundary (R342): every pending entry goes; outputs that Clave turned on go off unless kept; a pulse whose
OFF is pending completes. -/
def effClaveFlush (m : Msg) (s : State) : Reply :=
  let n : Nat := m.ep
  let c := s.claveX n
  let s := (s.setClave n { c with queue := [], win := [] }).syncClave n
  let s := if bit (m.u8 0) 0 then s else s.forAll (s.hosOf n) (fun s k =>
    if s.hoOn k && (s.hoX k).byClave && (s.hoX k).pulses.isEmpty then s.hoTurnOff k else s)
  s.ok (s.effect ++ leBytes 4 (c.queue.length + c.win.length))

end Sys2Proof.Machine
end

