-- ==== Sys2Proof/Machine/Field.lean ====
section
/-!
DEFINITION. Field.lean: the field link and the field block: inputs, outputs, safe states, analogue and pulse inputs
(R37, R384-R409).
-/
namespace Sys2Proof.Machine

/-! ### Output sets and safe states (R389-R393, R402) -/

/-- ANY_SAFE as the sets stand. -/
def State.syncSafe (s : State) : State :=
  s.put Reg.FIELD_LINK_STAT_ANY_SAFE ((List.range 16).any (fun j => s.flag (Reg.FIELD_DO_STAT_SAFE_ACTIVE j)))

/-- A set leaves its safe state and takes its commanded value, unless it is tripped (R390, R403). -/
def State.doRelease (s : State) (b : Nat) : State :=
  if s.flag (Reg.FIELD_DO_STAT_SAFE_ACTIVE b) then
    let s := s.set (Reg.FIELD_DO_STAT_SAFE_ACTIVE b) 0
    (if s.doFree b then s.doLevel b (s.flag (Reg.FIELD_DO_OUT b)) else s).syncSafe
  else s

/-- A set takes its safe state (R389); a tripped set stays off. -/
def State.doSafe (s : State) (b : Nat) : State :=
  let s := s.set (Reg.FIELD_DO_STAT_SAFE_ACTIVE b) 1
  if s.flag (Reg.FIELD_DO_STAT_TRIPPED b) then s
  else
    match s.get (Reg.FIELD_DO_CFG_SAFE b) with
    | 1 => s.doLevel b true
    | 2 => s
    | _ => s.doLevel b false

/-- FIELD_SILENCE_TIMEOUT (R389, R391): no valid controller frame for longer than SILENCE. -/
def execFieldSilenceTimeout (s : State) : Out :=
  if !s.field.powered || s.field.silent then .next s
  else
    let s := { s with field := { s.field with silent := true, fieldRun := 0 } }
    let s := (s.forAll s.doSets State.doSafe).syncSafe
    .next (s.inc Reg.FIELD_SAFE_COUNT)

/-- The sets that a FIELD_RESUME of endpoint `ep` may release: its own, or from the device endpoint every set (R392). -/
def State.resumeSets (s : State) (ep : Nat) : List Nat :=
  (if ep < 16 then s.dosOf ep else s.doSets).filter (fun b => s.flag (Reg.FIELD_DO_STAT_SAFE_ACTIVE b))

/-- FIELD_RESUME (R392): the sets are released at the first link cycle after execution. -/
def runFieldResume (m : Msg) (s : State) : Reply :=
  if !s.live then s.nak stWrongMode
  else if !s.flag Reg.FIELD_LINK_STAT_UP then s.nak stBusy
  else
    let l := s.resumeSets m.ep
    let s := { s with field := { s.field with release := s.field.release ++ l } }
    s.ok (leBytes 4 ((l.map (fun b => 2 ^ b)).sum))

/-- AUTO_RESUME (R393): valid frames for 10 ms after a silence. -/
def execAutoResume (s : State) : Out :=
  if s.field.powered && s.flag Reg.FIELD_SILENCE_AUTO_RESUME && decide (1000 ≤ s.field.fieldRun) then
    .next (s.forAll s.doSets State.doRelease)
  else .next s

/-- An output command that has missed its instant: one of Clave's is counted, and what Clave has turned on is as before it (R341). -/
def State.doLost (s : State) (c : DoCmd) : State :=
  match c.clave with
  | some n =>
    let later := s.field.cmds.any (fun d => decide (d.set_ = c.set_) && d.clave.isSome)
    (if later then s else s.setDoOn n c.set_ c.was).inc (Reg.CLAVE_DO_LOST n)
  | none => s

/-- Output commands that the link has not delivered by their instant are lost (R341). -/
def State.doExpire (s : State) : State :=
  let late := fun (c : DoCmd) => !c.sent && decide (c.at_ < s.ntime)
  (s.field.cmds.filter late).foldl State.doLost { s with field := { s.field with cmds := s.field.cmds.filter (fun c => !late c) } }

/-- A command of Clave arrives: it is the commanded value, unless a later command for the set has come already (R390, R401). -/
def State.doArrive (s : State) (c : DoCmd) : State :=
  if c.clave.isSome && !s.field.cmds.any (fun d => decide (d.set_ = c.set_) && decide (c.at_ < d.at_)) then s.put (Reg.FIELD_DO_OUT c.set_) c.on
  else s

/-- State of a pulse input. -/
def State.puX (s : State) (k : Nat) : PuX := SMap.get (fun _ => {}) s.field.pu k
def State.setPu (s : State) (k : Nat) (x : PuX) : State := { s with field := { s.field with pu := SMap.set (fun _ => {}) s.field.pu k x } }

/-- LINE_FAULT of a pulse input: a pair of a differential one is in its fail-safe condition (R409). -/
def State.syncPu (s : State) (k : Nat) : State :=
  s.put (Reg.FIELD_PU_STAT k) (s.live && s.flag (Reg.FIELD_PU_CFG_DIFF k) && decide ((s.puX k).fault ≠ 0))

/-- VFIELD_LOSS (R37, R409): the field block is unpowered and every DO is off. -/
def execVfieldLoss (s : State) : Out :=
  let lost := s.field.cmds.filter (fun c => !c.sent)
  let s := { s with field := { s.field with powered := false, fieldRun := 0, silent := false, release := [], cmds := [], edges := []
                                            trips := [], ai := none } }
  let s := s.forAll (List.range 16) (fun s j => (s.set (Reg.FIELD_DO_STAT_OUT j) 0).set (Reg.FIELD_DO_STAT_SAFE_ACTIVE j) 0)
  let s := lost.foldl State.doLost s.syncSafe
  -- the isolators of the pulse inputs are unsupplied: a differential pair reports its fail-safe condition
  let s := s.forAll (List.range 4) (fun s k => (s.setPu k { s.puX k with fault := 3 }).syncPu k)
  .next (if s.live && s.awake then s.sourceLossAll else s)

/-- VFIELD_RETURN (R384): the field block is supplied again and the link starts exchanging frames. -/
def execVfieldReturn (s : State) : Out := .next { s with field := { s.field with powered := true } }

/-- Index of the output command that is applied next: the earliest instant, then in the order of sending (R401). -/
def nextCmd (now : Nat) (l : List DoCmd) : Option Nat :=
  let key (i : Nat) : Nat := match l[i]? with | some c => c.at_ | none => 0
  let ok := (List.range l.length).filter (fun i => match l[i]? with | some c => c.sent && decide (c.at_ ≤ now) | none => false)
  ok.foldl (fun (m : Option Nat) i => match m with
    | none => some i
    | some j => if key i < key j then some i else some j) none

/-- DO_APPLY (R401): the field block applies a command at its instant, unless its set is safe, tripped or unsupplied. -/
def execDoApply (s : State) : Out :=
  match nextCmd s.ntime s.field.cmds with
  | none => .next s
  | some i =>
    match s.field.cmds[i]? with
    | none => .next s
    | some c =>
      let s := { s with field := { s.field with cmds := s.field.cmds.eraseIdx i } }
      .next (if s.doFree c.set_ then s.doLevel c.set_ c.on else s)

/-- DO_TRIP (R402): a member of a set trips and the whole set goes off; the next frame reports it. -/
def execDoTrip (j : Fin 16) (thermal : Bool) (s : State) : Out :=
  let b := s.doBase j
  if !s.field.powered || s.flag (Reg.FIELD_DO_STAT_TRIPPED b) then .next s
  else
    let s := ((s.doLevel b false).set (Reg.FIELD_DO_STAT_TRIPPED b) 1).set (Reg.FIELD_DO_STAT_CAUSE b) (if thermal then 2 else 1)
    .next { s with field := { s.field with trips := s.field.trips ++ [b], hot := if thermal then setBits s.field.hot j 1 1 else s.field.hot } }

/-! ### The link (R384-R386) -/

/-- The range in which VFIELD_OK holds, in mV: the supply range of Table PWR-1. -/
def vfieldLow : Nat := 19200
def vfieldHigh : Nat := 30000

/-- VFIELD_OK and its mirror (R37). -/
def State.syncVfield (s : State) : State :=
  let mv := s.get Reg.FIELD_VFIELD_MV
  let ok := s.flag Reg.FIELD_LINK_STAT_UP && decide (vfieldLow ≤ mv) && decide (mv ≤ vfieldHigh)
  (s.put Reg.SYS_SUPPLY_VFIELD_OK ok).put Reg.FIELD_LINK_STAT_VFIELD_OK ok

/-- A valid frame reaches the field block, with the output commands that wait, those of hosts first, and a release (R392, R401). -/
def State.toField (s : State) : State :=
  let new := s.field.cmds.filter (fun c => !c.sent)
  let l := new.filter (fun c => c.clave.isNone) ++ new.filter (fun c => c.clave.isSome)
  let rel := s.field.release
  let s := { s with field := { s.field with cmds := s.field.cmds.filter (fun c => c.sent) ++ l.map (fun c => { c with sent := true })
                                            release := [], fieldRun := s.field.fieldRun + 1, silent := false } }
  rel.foldl State.doRelease (l.foldl State.doArrive s)

/-- An edge of a frame: the input's level and the latch units that it serves, at its stamped instant (R346, R396). -/
def State.diDeliver (s : State) (e : Nat × Bool × Nat) : State := s.edgeTo 3 e.1 (s.clockOf e.2.2) e.2.1 none

/-- A valid frame reaches the controller: levels, edges, trips, status and an analogue sample (R386, R396, R402, R406). -/
def State.fromField (s : State) (f : FieldFrame) : State :=
  let x := s.field
  let s := { s with field := { x with missRun := 0, validRun := x.validRun + 1, edges := [], trips := [], ai := none, hot := f.hot.toNat } }
  let s := s.when (!s.flag Reg.FIELD_LINK_STAT_UP && decide (100 ≤ x.validRun + 1)) (fun s => s.set Reg.FIELD_LINK_STAT_UP 1)
  let s := s.set Reg.FIELD_VFIELD_MV f.vfieldMv.toNat
  let s := s.syncVfield
  let s := s.forAll (List.range 16) (fun s j => s.set (Reg.FIELD_DO_STAT_MA j) (f.ma.toList.getD j 0).toNat)
  let s := if s.flag Reg.FIELD_LINK_STAT_UP then
      let s := (s.set Reg.FIELD_DI_STATE x.di).set Reg.FIELD_DI_VALID 1
      let s := s.forAll (List.range 32) (fun s i => s.put (Reg.FIELD_DI_STAT_LEVEL i) (bit x.di i))
      match x.ai with
      | some (codes, ovr, t) => s.forAll (List.range 4) (fun s k =>
          if s.flag (Reg.FIELD_AI_CFG k) then
            let s := (s.set (Reg.FIELD_AI_VAL_CODE k) (codes.getD k 0)).put (Reg.FIELD_AI_VAL_OVR k) (bit ovr k)
            (s.set (Reg.FIELD_AI_STAMP k) t).set (Reg.FIELD_AI_VAL_VALID k) 1
          else s)
      | none => s
    else s
  let s := x.edges.foldl State.diDeliver s
  x.trips.foldl (fun s b => if s.live then s.raiseFor (s.doGroup b) 0x17 b (s.get (Reg.FIELD_DO_STAT_CAUSE b)) else s) s

/-- The link is down (R386): levels are held, DI_VALID and VALID of every AI channel are cleared, and FIELD_LINK is raised for
every group that owns a DI, DO or AI channel. -/
def State.linkDown (s : State) : State :=
  let s := (s.set Reg.FIELD_LINK_STAT_UP 0).set Reg.FIELD_DI_VALID 0
  let s := (s.forAll (List.range 4) (fun s k => s.set (Reg.FIELD_AI_VAL_VALID k) 0)).syncVfield
  if s.live then
    s.forAll ((List.range 16).filter (fun n => decide (s.get (Reg.GRP_OWN_DI n) ≠ 0) || decide (s.get (Reg.GRP_OWN_DO n) ≠ 0)
        || decide (s.get (Reg.GRP_OWN_IO_AI n) ≠ 0)))
      (fun s n => s.raiseGroup n 0x15 0xFF (s.get Reg.FIELD_LINK_ERR))
  else s

/-- A cycle without a valid frame at the controller (R386). -/
def State.linkMiss (s : State) : State :=
  let s := s.inc Reg.FIELD_LINK_ERR
  let s := { s with field := { s.field with missRun := s.field.missRun + 1, validRun := 0 } }
  if s.field.missRun = 3 ∧ s.flag Reg.FIELD_LINK_STAT_UP then s.linkDown else s

/-- FIELD_LINK_CYCLE (R384): one frame each way; `toField` says whether the controller's frame is valid at the field block, `f`
is the valid answer, if any. Without VFIELD the controller sees silence. -/
def execFieldLinkCycle (toField : Bool) (f : Option FieldFrame) (s : State) : Out :=
  if !s.awake then .next s
  else
    let s := s.doExpire
    let s := if !s.field.powered then s
      else if toField then s.toField
      else { s with field := { s.field with fieldRun := 0 } }
    .next (match f with
      | some q => if s.field.powered then s.fromField q else s.linkMiss
      | none => s.linkMiss)

/-! ### Digital inputs (R394-R397) -/

/-- The filtered level of an input changes at the sample of instant `t`: the edge is stamped LIMIT µs before it, and up to 8 edges of a
channel go in the next frame (R395). -/
def State.diEdge (s : State) (i t : Nat) (level : Bool) : State :=
  let x := s.field
  let f := { x with di := setBits x.di i 1 (b2n level) }
  if (x.edges.filter (fun e => decide (e.1 = i))).length < 8 then
    { s with field := { f with edges := x.edges ++ [(i, level, t - 1000 * s.get (Reg.FIELD_DI_CFG_LIMIT i))] } }
  else { s with field := f }.inc (Reg.FIELD_DI_STAT_MERGED i)

/-- One sample of an input, 1 µs after the one before: the integrator and the filtered level (R394). -/
def State.diSample (s : State) (i t : Nat) (high : Bool) : State :=
  let lim := s.get (Reg.FIELD_DI_CFG_LIMIT i)
  let v := s.get (Reg.FIELD_DI_STAT_INTEG i)
  let v := if high then min lim (v + 1) else v - 1
  let s := s.set (Reg.FIELD_DI_STAT_INTEG i) v
  let was := bit s.field.di i
  if v = lim ∧ ¬ was then s.diEdge i t true else if v = 0 ∧ was then s.diEdge i t false else s

/-- DI_EDGE (R394, R395): the samples of an input up to the one at instant `stamp`, 1 µs apart, oldest first. -/
def execDiEdge (i : Fin 32) (samples : List Bool) (stamp : BitVec 64) (s : State) : Out :=
  if !s.field.powered then .next s
  else .next ((samples.zipIdx.foldl (fun s q => s.diSample i (stamp.toNat - 1000 * (samples.length - 1 - q.2)) q.1) s))

/-- DI_BROKEN (R397): less than 0.2 mA for 100 ms. -/
def execDiBroken (i : Fin 32) (s : State) : Out :=
  if !s.field.powered || !s.flag (Reg.FIELD_DI_CFG_WB_EN i) || s.flag (Reg.FIELD_DI_STAT_BROKEN i) then .next s
  else
    let s := s.set (Reg.FIELD_DI_STAT_BROKEN i) 1
    .next (if s.live && s.awake then s.raiseFor (s.diGroup i) 0x16 i 0 else s)

/-- DI_BROKEN_CLEAR (R397): 0.4 mA or more for 100 ms. -/
def execDiBrokenClear (i : Fin 32) (s : State) : Out :=
  if s.flag (Reg.FIELD_DI_CFG_WB_EN i) then .next (s.set (Reg.FIELD_DI_STAT_BROKEN i) 0) else .next s

/-! ### Analogue inputs (R405, R406) -/

/-- The code of an input voltage in µV (R405). -/
def aiCode (v : Int) : Int := clampI (-32768) 32767 (convDiv (v * 32768) 10000000)

/-- AI_SAMPLE (R405): the four voltages of the grid instant in µV, for the next frame. -/
def execAiSample (v0 v1 v2 v3 : Int) (s : State) : Out :=
  if s.field.powered then
    let l := [v0, v1, v2, v3]
    let ovr := (l.zipIdx.map (fun q => if 10000000 < q.1.natAbs then 2 ^ q.2 else 0)).sum
    .next { s with field := { s.field with ai := some (l.map (fun v => ofInt 16 (aiCode v)), ovr, s.ntime / 20000 * 20000) } }
  else .next s

/-! ### Pulse inputs (R407-R409) -/

/-- Accepted levels of P (bit 0) and Q (bit 1) change (R407). -/
def State.puCount (s : State) (k new : Nat) : State :=
  let x := s.puX k
  let dir : Int := if s.flag (Reg.FIELD_PU_CFG_DIR k) then -1 else 1
  let s := s.setPu k { x with lines := new }
  match s.get (Reg.FIELD_PU_CFG_MODE k) with
  | 1 =>
    if bit new 0 && !bit x.lines 0 then s.setPu k { x with cnt := x.cnt + (if bit new 1 then -dir else dir), lines := new } else s
  | 2 =>
    match (quadPos (bits new 0 1 * 2 + bits new 1 1) + 4 - quadPos (bits x.lines 0 1 * 2 + bits x.lines 1 1)) % 4 with
    | 0 => s
    | 1 => s.setPu k { x with cnt := x.cnt + dir, lines := new }
    | 2 => s.inc (Reg.FIELD_PU_ILLEGAL k)
    | _ => s.setPu k { x with cnt := x.cnt - dir, lines := new }
  | _ => s

/-- PU_EDGE (R407, R409): levels of P and Q from this clock on, the clocks for which each then holds, and the pairs in their fail-safe
condition, whose edges are ignored. -/
def execPuEdge (k : Fin 4) (p q : Bool) (heldP heldQ : Nat) (faultP faultQ : Bool) (s : State) : Out :=
  if !s.field.powered then .next s
  else
    let diff := s.flag (Reg.FIELD_PU_CFG_DIFF k)
    let new := accepted (s.puX k).lines (b2n p + 2 * b2n q) (s.get (Reg.FIELD_PU_CFG_FILT k))
      [if diff && faultP then 0 else heldP, if diff && faultQ then 0 else heldQ]
    let s := (s.setPu k { s.puX k with fault := b2n faultP + 2 * b2n faultQ })
    if s.up then .next ((((s.syncPu k).puCount k new)).sourceLossAll)
    else .next (s.setPu k { s.puX k with lines := new })

/-- The counts latched at a fast boundary (R408). -/
def State.presentPu (s : State) : State := s.forAll (List.range 4) (fun s k => s.setI (Reg.FIELD_PU_COUNT k) (s.puX k).cnt)

end Sys2Proof.Machine
end

