-- ==== Sys2Proof/Machine/Eth.lean ====
section
/-!
DEFINITION. Eth.lean: the Ethernet switch, the IPv4 subset, Carillon, stream filters and meters, link changes, and 802.1AS time
(R411-R446). A port number here is 0 for ETH1 and 1 for ETH2.
-/
namespace Sys2Proof.Machine

def State.ethX (s : State) (p : Nat) : EthPortX := SMap.get (fun _ => {}) s.eth.ports p
def State.setEth (s : State) (p : Nat) (x : EthPortX) : State := { s with eth := { s.eth with ports := SMap.set (fun _ => {}) s.eth.ports p x } }
def State.modEth (s : State) (p : Nat) (f : EthPortX → EthPortX) : State := s.setEth p (f (s.ethX p))

/-! ### Addresses and bytes of frames -/

/-- Whether the Ethernet side of a port runs: both ports in STANDBY, OPERATE and SAFE_HOLD, ETH1 in FALLBACK (R108). -/
def State.ethRuns (s : State) (p : Nat) : Bool := s.awake && (s.live || (decide (s.mode = modeFallback) && decide (p = 0)))

/-- The module's MAC address as a number whose most significant byte is sent first (R117, Table IMG-9). -/
def State.ownMac (s : State) : Nat :=
  if s.mode = modeFallback then 0x020000000001
  else ofLE ((leBytes 4 (s.get Reg.ETH_MAC_LO) ++ leBytes 2 (s.get Reg.ETH_MAC_HI)).reverse)

/-- The module's IPv4 address, first octet in [31:24]. -/
def State.ownIp (s : State) : Nat := if s.mode = modeFallback then 0xA9FE4D01 else s.get Reg.ETH_IP

/-- `k` bytes of `n`, most significant first. -/
def beBytes (k n : Nat) : List Byte := (leBytes k n).reverse

/-- The number that `k` bytes at offset `i` spell, most significant first. -/
def beAt (l : List Byte) (i k : Nat) : Nat := ofLE (slice l i k).reverse

/-- The ones' complement sum of 16-bit words, most significant byte first. -/
def onesSum : List Byte → Nat
  | a :: b :: r => a.toNat * 256 + b.toNat + onesSum r
  | [a] => a.toNat * 256
  | [] => 0

/-- A sum folded to 16 bits. -/
def fold16 (n : Nat) : Nat := (n % 65536 + n / 65536) % 65536 + (n % 65536 + n / 65536) / 65536

/-- The Internet checksum. -/
def inetSum (l : List Byte) : Nat := 65535 - fold16 (onesSum l) % 65536

/-- The management tag of R420: none with MGMT_VID 0. -/
def State.mgmtTag (s : State) : List Byte :=
  let v := s.get Reg.ETH_VLAN_MGMT_VID
  if v = 0 then [] else beBytes 2 0x8100 ++ beBytes 2 (s.get Reg.ETH_VLAN_MGMT_PCP * 8192 + v)

/-- The traffic class of what the module itself sends to hosts. -/
def State.mgmtClass (s : State) : Nat := s.get Reg.ETH_VLAN_MGMT_PCP

/-- A frame of the module: addresses, tag, type, content; short ones are padded. -/
def State.frameOf (s : State) (dst : Nat) (tag : List Byte) (typ : Nat) (body : List Byte) : List Byte :=
  let l := beBytes 6 dst ++ beBytes 6 s.ownMac ++ tag ++ beBytes 2 typ ++ body
  if l.length < 60 then padTo 60 l else l

/-- An IPv4 datagram of protocol `proto` (R418): TTL 64, DF set, the next identification. -/
def State.ipOf (s : State) (dst proto : Nat) (body : List Byte) : List Byte :=
  let h := fun (c : Nat) => u8s [0x45, 0] ++ beBytes 2 (20 + body.length) ++ beBytes 2 s.eth.ipId ++ beBytes 2 0x4000 ++ u8s [64, proto]
    ++ beBytes 2 c ++ beBytes 4 s.ownIp ++ beBytes 4 dst
  h (inetSum (h 0)) ++ body

/-- A UDP datagram with its checksum (R418). -/
def State.udpOf (s : State) (dst sport dport : Nat) (body : List Byte) : List Byte :=
  let n := 8 + body.length
  let h := fun (c : Nat) => beBytes 2 sport ++ beBytes 2 dport ++ beBytes 2 n ++ beBytes 2 c ++ body
  let c := inetSum (beBytes 4 s.ownIp ++ beBytes 4 dst ++ u8s [0, 17] ++ beBytes 2 n ++ h 0)
  h (if c = 0 then 65535 else c)

/-- The identification counts on (R418). -/
def State.nextId (s : State) : State := { s with eth := { s.eth with ipId := (s.eth.ipId + 1) % 65536 } }

/-! ### Carillon (R431-R436) -/

/-- Start of the admin and oper lists of a port in shared SRAM (Table GRP-3). -/
def adminAt (p : Nat) : Nat := 0x20121000 + p * 0x800
def operAt (p : Nat) : Nat := 0x20121400 + p * 0x800

/-- Entry `i` of a gate list: its mask and its interval in half nanoseconds. -/
def State.gateEntry (s : State) (base i : Nat) : Nat × Nat := ((s.rdByte (base + 8 * i)).toNat, 2 * s.rdLE (base + 8 * i + 4) 4)

/-- The slow period in clocks. -/
def State.slowClk (s : State) : Nat := s.get Reg.SYS_TICK_CFG_FAST_CLK * s.get Reg.SYS_TICK_CFG_SLOW_DIV

/-- The vendor template: masks and lengths in half nanoseconds (R432). -/
def State.template (s : State) (p : Nat) : List (Nat × Nat) :=
  let o := if s.get Reg.SYS_TICK_CFG_SLOW_DIV = 1 then 0 else 5 * s.get Reg.SYS_TICK_CFG_FAST_CLK
  let w := 2 * s.get (Reg.ETH_GCL_DRV_WIN p)
  [(0x7F, o), (0x80, w), (0x7F, 5 * s.slowClk - o - w)].filter (fun e => decide (0 < e.2))

/-- The gate entries of a port with their lengths in half nanoseconds, and where in their cycle the present instant lies; none
where every gate stays open (R431-R433). -/
def State.gates (s : State) (p : Nat) : Option (List (Nat × Nat) × Nat) :=
  if !s.live then none
  else
    match s.get (Reg.ETH_GCL_CTL_MODE p) with
    | 1 =>
      let cyc := 5 * s.slowClk
      some (s.template p, if cyc = 0 then 0 else 5 * (s.clk - s.tick_.lastSlow) % cyc)
    | 2 =>
      let n := s.get (Reg.ETH_GCL_OPER_COUNT p)
      let cyc : Nat := 2 * s.get (Reg.ETH_GCL_OPER_CYCLE p)
      if n = 0 ∨ cyc = 0 then none
      else some ((List.range n).map (s.gateEntry (operAt p)), (((s.ntimeH : Int) - 2 * s.get (Reg.ETH_GCL_OPER_BASE p)) % (cyc : Int)).toNat)
    | _ => none

/-- The gate mask at an offset of the cycle; between the last entry and the cycle's end the last mask holds. -/
def maskAt : List (Nat × Nat) → Nat → Nat
  | [], _ => 0xFF
  | [(m, _)], _ => m
  | (m, d) :: e :: r, t => if t < d then m else maskAt (e :: r) (t - d)

/-- The gates that are open now. -/
def State.gateMask (s : State) (p : Nat) : Nat :=
  match s.gates p with
  | some (l, t) => maskAt l t
  | none => 0xFF

/-- How long class `c` stays open over a list of entries. -/
def openRun (c : Nat) : List (Nat × Nat) → Nat
  | [] => 0
  | (m, d) :: r => if bit m c then d + openRun c r else 0

/-- The entries from an offset of the cycle on, the first one cut. -/
def fromOffset : List (Nat × Nat) → Nat → List (Nat × Nat)
  | [], _ => []
  | (m, d) :: r, t => if t < d then (m, d - t) :: r else fromOffset r (t - d)

/-- How long, in half nanoseconds, class `c` of a port stays open from now, looking across entries and cycles; none when its gate
never closes (R434). -/
def State.openFor (s : State) (p c : Nat) : Option Nat :=
  match s.gates p with
  | none => none
  | some (l, t) => if l.all (fun e => bit e.1 c) then none else some (openRun c (fromOffset l t ++ l ++ l))

/-- The longest open stretch of a class (R434); none when its gate never closes. -/
def State.longestOpen (s : State) (p c : Nat) : Option Nat :=
  match s.gates p with
  | none => none
  | some (l, _) =>
    if l.all (fun e => bit e.1 c) then none
    else some (((List.range l.length).map (fun i => openRun c (l.drop i ++ l ++ l))).foldl max 0)

/-- The time on the wire of a frame, from preamble to the end of the gap, in half nanoseconds. -/
def State.wireTime (s : State) (p len : Nat) : Nat := (len + 20) * (if s.flag (Reg.ETH_PORT_STAT_G1000 p) then 16 else 160)

/-- GATES as the list stands (R433). -/
def State.syncGates (s : State) (p : Nat) : State := s.set (Reg.ETH_GCL_GATES p) (s.gateMask p)

/-! ### Egress (R420-R423, R434, R444, R445) -/

/-- A frame's bytes that occupy the on-chip buffer, of class 7 or of the others. -/
def bufUse (seven : Bool) (l : List TxFrame) : Nat :=
  ((l.filter (fun f => f.blk.isNone && (decide (f.cls = 7) == seven))).map TxFrame.len).sum

/-- Bytes reserved for class 7, and what is left to the other classes (R422, R423). -/
def txReserve : Nat := 16 * 1024
def txShared : Nat := 240 * 1024

/-- The receive buffer of a port (R422). -/
def rxBuffer : Nat := 256 * 1024

/-- A frame is queued in an egress port; its block, if it needs one, is charged to `h`. The second part says whether it was
queued. A port without link drops it. -/
def State.enqueue (s : State) (p h place cls : Nat) (bytes : List Byte) (follow : Option PtpFollow := none) : State × Bool :=
  let x := s.ethX p
  let len := bytes.length + 4
  let f : TxFrame := { cls := cls, len := len, bytes := bytes, blk := none, follow := follow }
  let drop := fun (s : State) => (s.inc (Reg.ETH_PORT_TX_DROP p), false)
  let put := fun (s : State) (f : TxFrame) =>
    let q := (s.ethX p).queue ++ [f]
    let s := s.modEth p (fun x => { x with queue := q })
    let kb := (bufUse true q + bufUse false q + 1023) / 1024
    (s.set (Reg.ETH_PORT_BUF_PEAK_TX p) (max kb (s.get (Reg.ETH_PORT_BUF_PEAK_TX p))), true)
  if !s.flag (Reg.ETH_PORT_STAT_LINK p) then drop s
  else if cls = 7 then (if bufUse true x.queue + len ≤ txReserve then put s f else drop s)
  else if bufUse false x.queue + len ≤ txShared then put s f
  else if !s.live then drop s
  else
    match s.poolAlloc h 1 place with
    | (s, some (b :: _)) => put (s.inc (Reg.ETH_PORT_SPILL_TX p)) { f with blk := some (h, b) }
    | (s, _) => drop s

/-- The frame's block goes back to the pool. -/
def State.freeFrame (s : State) (f : TxFrame) : State :=
  match f.blk with
  | some (h, b) => s.poolFree h b
  | none => s

/-- A queued frame is discarded: its block goes back, and an event frame counts as lost (R521). -/
def State.dropFrame (s : State) (f : TxFrame) : State :=
  let s := s.freeFrame f
  match f.event with
  | some ep => s.inc (Reg.SYS_BXP_EVT_LOST ep)
  | none => s

/-- Which ports lead to a MAC address: the one on which it was learned, or both (R412, R418). -/
def State.portsTo (s : State) (mac : Nat) : List Nat :=
  match s.eth.macs.find? (fun q => decide (q.1 = mac)) with
  | some q => [q.2.1]
  | none => if s.mode = modeFallback then [0] else [0, 1]

/-- A frame of the module is queued towards a MAC address; whether some port took it. -/
def State.sendTo (s : State) (mac h place cls : Nat) (bytes : List Byte) : State × Bool :=
  (s.portsTo mac).foldl (fun q p => let r := q.1.enqueue p h place cls bytes; (r.1, q.2 || r.2)) (s, false)

/-- A UDP datagram from port `sport` of the module to a host (R418); whether it was queued. -/
def State.sendUdp (s : State) (ip port mac sport h : Nat) (body : List Byte) : State × Bool :=
  let b := s.frameOf mac s.mgmtTag 0x0800 (s.ipOf ip 17 (s.udpOf ip sport port body))
  s.nextId.sendTo mac h 6 s.mgmtClass b

/-- TX_HELD ends at the first cycle boundary after link-up (R445). -/
def State.releaseHeld (s : State) (p : Nat) : State :=
  if s.flag (Reg.ETH_PORT_STAT_TX_HELD p) then
    let h := (s.ethX p).hold
    let free := match s.get (Reg.ETH_GCL_CTL_MODE p) with
      | 1 => decide (h ≤ s.tick_.lastSlow)
      | 2 => decide (h ≤ s.clk)
      | _ => true
    if free || !s.live then s.set (Reg.ETH_PORT_STAT_TX_HELD p) 0 else s
  else s

/-- Frames that no open stretch of their class can hold are dropped (R434). -/
def State.dropLong (s : State) (p : Nat) : State :=
  let x := s.ethX p
  let long := fun (f : TxFrame) => match s.longestOpen p f.cls with | some t => decide (t < s.wireTime p f.len) | none => false
  let gone := x.queue.filter long
  let s := (s.setEth p { x with queue := x.queue.filter (fun f => !long f) }).addSat (Reg.ETH_PORT_TX_DROP p) gone.length
  gone.foldl State.dropFrame s

/-- The first frame of class `c` in a queue. -/
def headOf (c : Nat) (l : List TxFrame) : Option TxFrame := l.find? (fun f => decide (f.cls = c))

/-- Whether a frame that starts now ends before its gate closes (R434). -/
def State.fits (s : State) (p : Nat) (f : TxFrame) : Bool :=
  match s.openFor p f.cls with
  | some t => decide (s.wireTime p f.len ≤ t)
  | none => true

/-- The queue without the first frame of class `c`. -/
def dropHead (c : Nat) : List TxFrame → List TxFrame
  | [] => []
  | f :: r => if f.cls = c then r else f :: dropHead c r

/-! ### What the time engine sends (R424-R426)

Messages are laid out as IEEE 802.1AS has them (PRESUMED, log 217). -/

/-- The clock identity and number of a port of the module. -/
def State.portIdentity (s : State) (p : Nat) : List Byte := beBytes 8 (s.get Reg.ETH_PTP_ID) ++ beBytes 2 (p + 1)

/-- An 802.1AS message: type, flags, correctionField, sequenceId, logMessageInterval, and what follows the header. -/
def State.ptpBytes (s : State) (p typ flags : Nat) (corr : Int) (seq log : Nat) (body : List Byte) : List Byte :=
  u8s [0x10 + typ, 0x12] ++ beBytes 2 (34 + body.length) ++ u8s [0, 0] ++ beBytes 2 flags ++ beBytes 8 (ofInt 64 corr) ++ beBytes 4 0
    ++ s.portIdentity p ++ beBytes 2 seq ++ u8s [0, log] ++ body

/-- A message is queued in class 6, with the one that follows it (R420). -/
def State.sendPtp (s : State) (p : Nat) (msg : List Byte) (follow : Option PtpFollow := none) : State :=
  (s.enqueue p 16 6 6 (s.frameOf 0x0180C200000E [] 0x88F7 msg) follow).1

/-- A time of day in the module's NTIME. -/
def ptpStamp (ns : Nat) : List Byte := beBytes 6 (ns / 1000000000) ++ beBytes 4 (ns % 1000000000)

/-- Sync; its Follow_Up leaves once the Sync has its time stamp. -/
def State.sendSync (s : State) (p : Nat) (up : Option PtpUp) : State :=
  let q := (s.ethX p).seqSync
  let s := s.modEth p (fun x => { x with seqSync := (q + 1) % 65536 })
  s.sendPtp p (s.ptpBytes p 0 0x0208 0 q (s.get Reg.ETH_PTP_INT_SYNC) (u8s (List.replicate 10 0))) (some (.followUp q up))

/-- The information TLV of a Follow_Up: the rate ratio to the grandmaster, and its time base. -/
def State.followTlv (s : State) (info : Nat) : List Byte :=
  beBytes 2 3 ++ beBytes 2 28 ++ u8s [0x00, 0x80, 0xC2, 0, 0, 1] ++ beBytes 4 (ofInt 32 (convDiv (s.getI Reg.ETH_PTP_RATE * 2 ^ 41) 1000000000))
    ++ beBytes 18 info

/-- What follows a two-step message that leaves now. A Sync passed on is corrected by the link delay and by its residence time. -/
def State.sendFollow (s : State) (p : Nat) : PtpFollow → State
  | .followUp q none => s.sendPtp p (s.ptpBytes p 8 0x0008 0 q (s.get Reg.ETH_PTP_INT_SYNC) (ptpStamp s.ntime ++ s.followTlv 0))
  | .followUp q (some u) =>
    let corr := u.corr + 65536 * (s.get (Reg.ETH_PTP_PDELAY (1 - p)) : Int) + 32768 * ((s.ntimeH : Int) - u.at_)
    s.sendPtp p (s.ptpBytes p 8 0x0008 corr q (s.get Reg.ETH_PTP_INT_SYNC) (beBytes 10 u.origin ++ s.followTlv u.info))
  | .response q peer => s.sendPtp p (s.ptpBytes p 10 0x0008 0 q 0x7F (ptpStamp s.ntime ++ beBytes 10 peer))

/-- Pdelay_Req. -/
def State.sendPdelayReq (s : State) (p : Nat) : State :=
  let q := (s.ethX p).seqPd
  let s := s.modEth p (fun x => { x with seqPd := (q + 1) % 65536 })
  s.sendPtp p (s.ptpBytes p 2 0x0008 0 q (s.get Reg.ETH_PTP_INT_PDELAY) (u8s (List.replicate 20 0)))

/-- Pdelay_Resp to the port `peer`, which asked with sequenceId `q`. -/
def State.sendPdelayResp (s : State) (p q peer : Nat) : State :=
  s.sendPtp p (s.ptpBytes p 3 0x0208 0 q 0x7F (ptpStamp s.ntime ++ beBytes 10 peer)) (some (.response q peer))

/-- The vector of the module itself: its accuracy and variance are those of an unknown clock. -/
def State.ownVector (s : State) : PtpBest :=
  { p1 := s.get Reg.ETH_PTP_CFG_PRIORITY1, cc := s.get Reg.ETH_PTP_CFG_CLOCK_CLASS, acc := 0xFE, var := 0x436A
    p2 := s.get Reg.ETH_PTP_CFG_PRIORITY2, gm := s.get Reg.ETH_PTP_ID, steps := 0, src := 0, port := 0
    utc := Config.freeNat s.drawn % 65536, tsrc := 0xA0, path := [] }

/-- Announce: the grandmaster's vector one step on, and the path to here. -/
def State.sendAnnounce (s : State) (p : Nat) : State :=
  let own := s.flag Reg.ETH_PTP_STAT_IS_GM
  let b := if own then s.ownVector else s.eth.best.getD s.ownVector
  let path := b.path ++ [s.get Reg.ETH_PTP_ID]
  let q := (s.ethX p).seqAnn
  let s := (if own then s.draw else s).modEth p (fun x => { x with seqAnn := (q + 1) % 65536 })
  s.sendPtp p (s.ptpBytes p 11 0x0008 0 q (s.get Reg.ETH_PTP_INT_ANNOUNCE)
    (u8s (List.replicate 10 0) ++ beBytes 2 b.utc ++ u8s [0, b.p1, b.cc, b.acc] ++ beBytes 2 b.var ++ u8s [b.p2] ++ beBytes 8 b.gm
      ++ beBytes 2 (if own then 0 else b.steps + 1) ++ u8s [b.tsrc] ++ beBytes 2 8 ++ beBytes 2 (8 * path.length)
      ++ (path.map (beBytes 8)).flatten))

/-- ETH_FRAME_TRANSMIT (R421, R434): the first frame of the highest class that is open and in which it fits starts. -/
def execEthFrameTransmit (port : Fin 2) (s : State) : Out :=
  let p : Nat := port
  if !(s.ethRuns p || s.draining) || !s.flag (Reg.ETH_PORT_STAT_LINK p) then .next s
  else
    let s := ((s.releaseHeld p).syncGates p).dropLong p
    if s.flag (Reg.ETH_PORT_STAT_TX_HELD p) || decide (s.clk < (s.ethX p).busy) then .next s
    else
      let q := (s.ethX p).queue
      match ([7, 6, 5, 4, 3, 2, 1, 0].filterMap (fun c => headOf c q)).find? (s.fits p) with
      | none => .next s
      | some f =>
        let s := s.modEth p (fun x => { x with queue := dropHead f.cls x.queue, busy := s.clk + (s.wireTime p f.len + 4) / 5 })
        let s := (s.inc (Reg.ETH_PORT_TX_FRAMES p)).freeFrame f
        .next (match f.follow with | some x => s.sendFollow p x | none => s)

/-- GATE_CHANGE (R433): the gate mask follows the list. -/
def execGateChange (port : Fin 2) (s : State) : Out :=
  if s.ethRuns port then .next ((s.releaseHeld port).syncGates port) else .next s

/-- Whether an admin list passes its check (R436). -/
def State.adminOk (s : State) (p : Nat) : Bool :=
  let n := s.get (Reg.ETH_GCL_ADMIN_COUNT p)
  let cyc := s.get (Reg.ETH_GCL_ADMIN_CYCLE p)
  let e := fun i => adminAt p + 8 * i
  decide (1 ≤ n) && decide (n ≤ 128) && decide (10000 ≤ cyc) && decide (cyc ≤ 1000000000)
    && (List.range n).all (fun i => decide (s.rdLE (e i + 4) 4 ≠ 0) && decide (s.rdLE (e i + 1) 3 = 0))
    && decide (((List.range n).map (fun i => s.rdLE (e i + 4) 4)).sum = cyc)

/-- The first instant BASE + N x CYCLE, N >= 0, at or after `t`. -/
def firstFrom (base cyc t : Nat) : Nat := if t ≤ base then base else if cyc = 0 then t else base + (t - base + cyc - 1) / cyc * cyc

/-- A write of 1 to GCL[k].CTL.CHANGE (R435, R436); without effect outside LIST mode. -/
def State.gclChange (s : State) (p : Nat) : State :=
  if s.get (Reg.ETH_GCL_CTL_MODE p) ≠ 2 then s
  else if s.adminOk p then
    let t := firstFrom (s.get (Reg.ETH_GCL_ADMIN_BASE p)) (s.get (Reg.ETH_GCL_ADMIN_CYCLE p)) (s.ntime + 100000)
    ((s.set (Reg.ETH_GCL_CTL_ERR p) 0).set (Reg.ETH_GCL_CTL_PENDING p) 1).modEth p (fun x => { x with change := some t })
  else s.set (Reg.ETH_GCL_CTL_ERR p) 1

/-- GCL_CHANGE_APPLY (R435): at the first oper cycle boundary at or after T, which `ntime` has reached, the admin list becomes the
oper list. -/
def execGclChangeApply (port : Fin 2) (s : State) : Out :=
  let p : Nat := port
  match (s.ethX p).change with
  | none => .next s
  | some t =>
    let b := firstFrom (s.get (Reg.ETH_GCL_OPER_BASE p)) (s.get (Reg.ETH_GCL_OPER_CYCLE p)) t
    if s.ethRuns p && decide (b ≤ s.ntime) then
      let s := s.wrBytes (operAt p) (s.rdBytes (adminAt p) 1024)
      let s := (s.set (Reg.ETH_GCL_OPER_COUNT p) (s.get (Reg.ETH_GCL_ADMIN_COUNT p))).set (Reg.ETH_GCL_OPER_CYCLE p) (s.get (Reg.ETH_GCL_ADMIN_CYCLE p))
      let s := (s.set (Reg.ETH_GCL_OPER_BASE p) b).set (Reg.ETH_GCL_CHANGE_TIME p) b
      .next (((s.set (Reg.ETH_GCL_CTL_PENDING p) 0).modEth p (fun x => { x with change := none })).syncGates p)
    else .next s

/-! ### Stream filters and meters (R439-R443) -/

/-- Start of a filter and of a meter in shared SRAM (Table GRP-3). -/
def filterAt (f : Nat) : Nat := 0x20122000 + 16 * f
def meterAt (m : Nat) : Nat := 0x20122800 + 16 * m

/-- The VID and the PCP of a frame; untagged frames have VID 0 and PCP 0 (R419). -/
def vidOf (l : List Byte) : Nat := if beAt l 12 2 = 0x8100 then beAt l 14 2 % 4096 else 0
def pcpOf (l : List Byte) : Nat := if beAt l 12 2 = 0x8100 then beAt l 14 2 / 8192 else 0

/-- Whether an enabled filter matches a frame (Table ETH-2). -/
def State.filterHit (s : State) (p f : Nat) (l : List Byte) : Bool :=
  let e := s.rdBytes (filterAt f) 16
  let w := leAt e 6 2
  bit (byteAt e 12) 0 && bit (byteAt e 8) p && decide (slice e 0 6 = slice l (if bit w 12 then 6 else 0) 6)
    && (bit w 13 || decide (w % 4096 = vidOf l)) && (!bit (byteAt e 13) 3 || decide (byteAt e 13 % 8 = pcpOf l))

/-- CBS of a meter: values below 1522 act as 1522 (Table ETH-3). -/
def State.cbs (s : State) (m : Nat) : Nat := max 1522 (s.rdLE (meterAt m + 4) 4)

/-- A bucket that nothing has used is full: 1522 bytes, the least CBS, at clock 0 (R442). -/
def bucketReset : Nat → Nat × Nat := fun _ => (1522 * 16000000000, 0)

/-- The bucket of a meter filled up to now: bytes in units of 1 / 16e9 (R442). -/
def State.bucket (s : State) (m : Nat) : Nat :=
  let q := SMap.get bucketReset s.eth.bucket m
  min (s.cbs m * 16000000000) (q.1 + s.rdLE (meterAt m) 4 * 5 * (s.clk - q.2))

/-- The bucket put to a level, and LEVEL. -/
def State.setBucket (s : State) (m v : Nat) : State :=
  { s with eth := { s.eth with bucket := SMap.set bucketReset s.eth.bucket m (v, s.clk) } }.set (Reg.ETH_MTR_LEVEL m) (v / 16000000000)

/-- The bucket of a meter as it stands now. -/
def State.settleMeter (s : State) (m : Nat) : State := s.setBucket m (s.bucket m)

/-- A frame of `n` bytes meets a meter; whether it passes (R442). -/
def State.meter (s : State) (m n : Nat) : State × Bool :=
  if !bit (s.rdByte (meterAt m + 8)).toNat 0 then (s, true)
  else
    let b := s.bucket m
    if n * 16000000000 ≤ b then ((s.setBucket m (b - n * 16000000000)).inc (Reg.ETH_MTR_GREEN m), true)
    else ((s.setBucket m b).inc (Reg.ETH_MTR_RED m), false)

/-- Policing of a received frame of `n` bytes (R439, R441): whether it goes on. -/
def State.police (s : State) (p : Nat) (l : List Byte) (n : Nat) : State × Bool :=
  if !s.flag Reg.ETH_POLICE then (s, true)
  else
    match (List.range 128).find? (fun f => s.filterHit p f l) with
    | none => (s, true)
    | some f =>
      let e := s.rdBytes (filterAt f) 16
      let s := s.inc (Reg.ETH_SF_MATCHED f)
      let sdu := leAt e 10 2
      let w := Reg.ETH_SF_BLOCKED (f / 32)
      let tooLong := decide (sdu ≠ 0) && decide (sdu < n)
      if bit (s.get w) (f % 32) || tooLong then
        let s := if tooLong && bit (byteAt e 12) 1 then s.set w (setBits (s.get w) (f % 32) 1 1) else s
        (s.inc (Reg.ETH_SF_SDU_DROP f), false)
      else
        let q := if byteAt e 9 < 64 then s.meter (byteAt e 9) n else (s, true)
        if q.2 then (q.1.inc (Reg.ETH_SF_PASSED f), true) else (q.1.inc (Reg.ETH_SF_RED_DROP f), false)

/-! ### Reception (R411-R419, R422, R437) -/

/-- A record at most once per 60 s. -/
def State.oncePerMin (s : State) (last : Option Nat) : Bool :=
  match last with
  | some t => decide (t + 60000000000 ≤ s.ntime)
  | none => true

/-- A source address is learned (R412); a full table learns no new one. -/
def State.learn (s : State) (p mac : Nat) : State :=
  let l := s.eth.macs
  if l.any (fun q => decide (q.1 = mac)) then
    { s with eth := { s.eth with macs := l.map (fun q => if q.1 = mac then (mac, p, s.clk) else q) } }
  else if l.length < 1024 then { s with eth := { s.eth with macs := l ++ [(mac, p, s.clk)] } }
  else s

/-- Where the content of a frame starts behind one C-tag, and its type. -/
def typeOf (l : List Byte) : Nat × Nat := if beAt l 12 2 = 0x8100 then (18, beAt l 16 2) else (14, beAt l 12 2)

/-- The network axis whose drive has an IPv4 and a MAC address (R437). -/
def State.driveOf (s : State) (ip : Nat) (mac : List Byte) : Option Nat :=
  (List.range 16).find? (fun i => decide (s.get (Reg.ETH_DRV_IP i) = ip) && decide (ip ≠ 0)
    && decide (leBytes 4 (s.get (Reg.ETH_DRV_MAC_LO i)) ++ leBytes 2 (s.get (Reg.ETH_DRV_MAC_HI_MAC i)) = mac))

/-- What a frame hands to port 0: nothing, an ARP packet (a request or not), an echo request, a Bexic datagram of an endpoint, or a drive-channel
datagram of network axis 16 + i. -/
inductive Deliver where
  | nothing
  | arp (req : Bool) (mac ip target : Nat)
  | echo (mac ip : Nat) (data : List Byte)
  | bexic (ep ip port mac : Nat) (body : List Byte)
  | drive (i : Nat) (body : List Byte)
  deriving DecidableEq, Repr

/-- An IPv4 datagram addressed to the module at port 0 (R415, R419, R437): counted when it is dropped, else what it carries. -/
def State.portZeroIp (s : State) (p : Nat) (l : List Byte) (o : Nat) : State × Deliver :=
  let hl := byteAt l o % 16 * 4
  let tot := beAt l (o + 2) 2
  let ipDrop := (s.inc (Reg.ETH_PORT_RX_DROP_IP p), Deliver.nothing)
  let vlan := fun (v : Nat) (d : Deliver) => if vidOf l = v then (s, d) else (s.inc (Reg.ETH_PORT_RX_DROP_VLAN p), Deliver.nothing)
  let mgmt := if s.mode = modeFallback then 0 else s.get Reg.ETH_VLAN_MGMT_VID
  let pseudo := slice l (o + 12) 8 ++ u8s [0, 17] ++ slice l (o + hl + 4) 2
  let udp := (l.drop (o + hl)).take (beAt l (o + hl + 4) 2)
  let ip := beAt l (o + 12) 4
  let mac := beAt l 6 6
  if beAt l (o + 16) 4 ≠ s.ownIp then (s, .nothing)
  else if byteAt l o / 16 ≠ 4 ∨ hl < 20 ∨ inetSum ((l.drop o).take hl) ≠ 0 then ipDrop
  else if beAt l (o + 6) 2 % 16384 ≠ 0 then ipDrop
  else if byteAt l (o + 9) = 1 then
    vlan mgmt (if beAt l (o + hl) 2 = 0x0800 then .echo mac ip ((l.take (o + tot)).drop (o + hl + 4)) else .nothing)
  else if byteAt l (o + 9) ≠ 17 then ipDrop
  else
    let dp := beAt l (o + hl + 2) 2
    if beAt l (o + hl + 6) 2 ≠ 0 ∧ inetSum (pseudo ++ udp) ≠ 0 ∨ tot < hl + 8 then ipDrop
    else if dp = 48700 then
      if vidOf l ≠ s.get Reg.ETH_VLAN_DRV_VID then (s.inc (Reg.ETH_PORT_RX_DROP_VLAN p), .nothing)
      else
        match s.driveOf ip (slice l 6 6) with
        | none => (s.inc Reg.ETH_DRV_FOREIGN, .nothing)
        | some i => (s, .drive i (udp.drop 8))
    else if 48650 ≤ dp ∧ dp ≤ 48666 then
      vlan mgmt (.bexic (if dp = 48650 then 16 else dp - 48651) ip (beAt l (o + hl) 2) mac (udp.drop 8))
    else ipDrop

/-- A frame that the switch delivers to port 0 (R414, R419). -/
def State.portZero (s : State) (p : Nat) (l : List Byte) : State × Deliver :=
  let (o, t) := typeOf l
  let mgmt := if s.mode = modeFallback then 0 else s.get Reg.ETH_VLAN_MGMT_VID
  if t = 0x0800 then s.portZeroIp p l o
  else if t = 0x0806 then
    if vidOf l = mgmt then (s, .arp (decide (beAt l (o + 6) 2 = 1)) (beAt l (o + 8) 6) (beAt l (o + 14) 4) (beAt l (o + 24) 4))
    else (if beAt l 0 6 = s.ownMac then s.inc (Reg.ETH_PORT_RX_DROP_VLAN p) else s, .nothing)
  else (s, .nothing)

/-- The switch forwards a frame to the other external port, whole (R412, R419, R420, R422). -/
def State.forward (s : State) (p : Nat) (l : List Byte) : State := (s.enqueue (1 - p) 16 (p + 1) (pcpOf l) l).1

/-- What the switch does with a frame that passed its checks (R412-R414). -/
def State.switch (s : State) (p : Nat) (l : List Byte) : State × Deliver :=
  let dst := beAt l 0 6
  let src := beAt l 6 6
  let own := s.ownMac
  let s := if bit (byteAt l 6) 0 then s else s.learn p src
  let fwd := fun (s : State) => if s.live then s.forward p l else s
  if dst = own then s.portZero p l
  else if dst = 0x0180C200000E then (s, .nothing)
  else if dst = 0xFFFFFFFFFFFF ∧ (typeOf l).2 = 0x0806 then
    let q := s.portZero p l
    (fwd q.1, q.2)
  else if bit (byteAt l 0) 0 then (fwd s, .nothing)
  else
    match s.eth.macs.find? (fun q => decide (q.1 = dst)) with
    | some q => (if q.2.1 = p then s else fwd s, .nothing)
    | none => (fwd s, .nothing)

/-- Whom a received frame is charged to: the group whose endpoint it addresses, else the device (R139, R501). -/
def State.rxHolder (s : State) (l : List Byte) : Nat :=
  let o := (typeOf l).1
  let port := beAt l (o + byteAt l o % 16 * 4 + 2) 2
  if beAt l 0 6 = s.ownMac ∧ (typeOf l).2 = 0x0800 ∧ byteAt l (o + 9) = 17 ∧ 48651 ≤ port ∧ port ≤ 48666 then port - 48651 else 16

/-- A frame of `n` bytes finds `backlog` bytes in the port's receive buffer: whether it is kept, and the pool block it takes when it does not
fit (R422). -/
def State.rxStore (s : State) (p : Nat) (l : List Byte) (n backlog : Nat) : State × Bool × Option (Nat × Nat) :=
  let peak := (min rxBuffer (backlog + n) + 1023) / 1024
  let s := s.set (Reg.ETH_PORT_BUF_PEAK_RX p) (max peak (s.get (Reg.ETH_PORT_BUF_PEAK_RX p)))
  if backlog + n ≤ rxBuffer then (s, true, none)
  else if !s.live then (s.inc (Reg.ETH_PORT_RX_DROP_POOL p), false, none)
  else
    let h := s.rxHolder l
    match s.poolAlloc h 1 (p + 1) with
    | (s, some (b :: _)) => (s.inc (Reg.ETH_PORT_SPILL_RX p), true, some (h, b))
    | (s, _) => (s.inc (Reg.ETH_PORT_RX_DROP_POOL p), false, none)

/-- A received frame (R411-R415, R419, R422, R439): `l` is the frame from DA up to the FCS. The third part is the pool block it occupies. -/
def State.ethReceive (s : State) (p : Nat) (l : List Byte) (fcsOk : Bool) (backlog : Nat) : State × Deliver × Option (Nat × Nat) :=
  if !s.ethRuns p || !s.flag (Reg.ETH_PORT_STAT_LINK p) then (s, .nothing, none)
  else
    let n := l.length + 4
    let s := s.inc (Reg.ETH_PORT_RX_FRAMES p)
    if !fcsOk || decide (n < 64) || decide (1522 < n) || decide (beAt l 12 2 = 0x8808) then (s.inc (Reg.ETH_PORT_RX_DROP_FCS p), .nothing, none)
    else
      let q := if s.live then s.police p l n else (s, true)
      let s := q.1
      if !q.2 then (s, .nothing, none)
      else if beAt l 6 6 = s.ownMac then
        let s := s.inc Reg.ETH_DUP_SELF_SRC
        (if s.oncePerMin s.eth.selfAt then
          { s with eth := { s.eth with selfAt := some s.ntime } }.warn 255 0x000F false (u8s [p + 1]) else s, .nothing, none)
      else match s.rxStore p l n backlog with
        | (s, false, _) => (s, .nothing, none)
        | (s, true, blk) => let r := s.switch p l; (r.1, r.2, blk)

/-- The ageing time of the switch: 300 s in clocks (R412). -/
def macAge : Nat := 120000000000

/-- MAC_AGEING (R412): an address not seen for 300 s is forgotten. -/
def execMacAgeing (mac : BitVec 48) (s : State) : Out :=
  .next { s with eth := { s.eth with macs := s.eth.macs.filter (fun q => decide (q.1 ≠ mac.toNat) || decide (s.clk < q.2.2 + macAge)) } }

/-! ### ARP and ICMP (R416, R417) -/

/-- The 28 bytes of an ARP packet of the module. -/
def State.arpOf (s : State) (op tmac tip : Nat) : List Byte :=
  beBytes 2 1 ++ beBytes 2 0x0800 ++ u8s [6, 4] ++ beBytes 2 op ++ beBytes 6 s.ownMac ++ beBytes 4 s.ownIp ++ beBytes 6 tmac ++ beBytes 4 tip

/-- An ARP packet (R416): a conflict is noticed, a request for the module's address is answered. -/
def State.arpAnswer (s : State) (p : Nat) (req : Bool) (senderMac senderIp targetIp : Nat) : State :=
  let s := if senderIp = s.ownIp ∧ senderMac ≠ s.ownMac then
      let s := s.set Reg.ETH_DUP_IP_CONFLICT 1
      if s.oncePerMin s.eth.dupAt then
        { s with eth := { s.eth with dupAt := some s.ntime } }.warn 255 0x0010 false (u8s [p + 1, 0] ++ beBytes 6 senderMac)
      else s
    else s
  if req ∧ targetIp = s.ownIp then (s.sendTo senderMac 16 6 s.mgmtClass (s.frameOf senderMac s.mgmtTag 0x0806 (s.arpOf 2 senderMac senderIp))).1 else s

/-- ARP_REQUEST (R416). -/
def execArpRequest (port : Fin 2) (senderMac : BitVec 48) (senderIp targetIp : BitVec 32) (s : State) : Out :=
  if !s.ethRuns port || !s.flag (Reg.ETH_PORT_STAT_LINK port) then .next s
  else .next (s.arpAnswer port true senderMac.toNat senderIp.toNat targetIp.toNat)

/-- An echo request for the module (R417): `data` is what follows the type, code and checksum words. -/
def State.echoAnswer (s : State) (p mac ip : Nat) (data : List Byte) : State :=
  let sec := s.ntime / 1000000000
  let k := if s.eth.echoS = sec then s.eth.echoN else 0
  if 1476 < data.length ∨ 100 ≤ k then s.inc (Reg.ETH_PORT_RX_DROP_IP p)
  else
    let s := { s with eth := { s.eth with echoS := sec, echoN := k + 1 } }
    let body := fun (c : Nat) => u8s [0, 0] ++ beBytes 2 c ++ data
    let b := s.frameOf mac s.mgmtTag 0x0800 (s.ipOf ip 1 (body (inetSum (body 0))))
    (s.nextId.sendTo mac 16 6 s.mgmtClass b).1

/-- ICMP_ECHO_REQUEST (R417): `data` is what follows the type, code and checksum words: identifier, sequence number and echo data. -/
def execIcmpEchoRequest (port : Fin 2) (srcMac : BitVec 48) (srcIp dstIp : BitVec 32) (data : List Byte) (s : State) : Out :=
  if !s.ethRuns port || !s.flag (Reg.ETH_PORT_STAT_LINK port) || decide (dstIp.toNat ≠ s.ownIp) then .next s
  else .next (s.echoAnswer port srcMac.toNat srcIp.toNat data)

/-! ### Time (R424-R429) -/

/-- SYNC, and the record of its change (R427); TIME_UNSYNC of every group follows. -/
def State.setSync (s : State) (b : Bool) (cause : Nat) : State :=
  if s.flag Reg.ETH_PTP_STAT_SYNC = b then s
  else
    let s := s.put Reg.ETH_PTP_STAT_SYNC b
    let s := s.forAll (List.range 16) (fun s n => s.put (Reg.CLAVE_STAT_TIME_UNSYNC n) (!b))
    if b then s.info 255 0x0008 false (u8s [s.get Reg.ETH_PTP_STAT_SLAVE_PORT]) else s.info 255 0x0009 false (u8s [cause])

/-- RATE_LIM in ppb (R428). -/
def State.rateLim (s : State) : Int := 900000000 / (s.get Reg.SYS_TICK_CFG_FAST_CLK : Int)

/-- NTIME steps by minus the offset (R428). -/
def State.stepTime (s : State) (ofs : Int) : State :=
  let old := s.ntime
  let s := { s with ntimeH := ((s.ntimeH : Int) - 2 * ofs).toNat }
  (s.inc Reg.ETH_PTP_STEPS).info 255 0x000A true (leBytes 8 old ++ leBytes 8 s.ntime)

/-- Whether a port takes part in 802.1AS, and a message of `source` is not the module's own, which is counted (R425, R426, R445). -/
def State.ptpTakes (s : State) (p : Nat) : Bool :=
  s.up && decide (s.get Reg.ETH_PTP_CFG_ROLE ≠ 0) && s.flag (Reg.ETH_PORT_STAT_LINK p)

/-- Whether a sourcePortIdentity carries the module's own clock identity (R426). -/
def State.ownSource (s : State) (source : BitVec 80) : Bool := decide (source.toNat / 65536 = s.get Reg.ETH_PTP_ID)

/-- SYNC_RECEIVED (R424, R426-R428): a Sync with its Follow_Up; offset and rate as the time engine measures them. The relay passes it on
to the other port. -/
def execSyncReceived (port : Fin 2) (sync : PtpSync) (s : State) : Out :=
  let p : Nat := port
  if !s.ptpTakes p then .next s
  else if s.ownSource sync.source then .next (s.inc Reg.ETH_PTP_STAT_SELF_ID)
  else if !s.flag (Reg.ETH_PORT_STAT_AS_CAPABLE p) || decide (s.get Reg.ETH_PTP_STAT_SLAVE_PORT ≠ p + 1) then .next s
  else
    let up : PtpUp := { origin := sync.origin.toNat, corr := sync.corr.toInt, info := sync.info.toNat, at_ := s.ntimeH }
    let ofs := sync.offset.toInt
    let rate := sync.rate.toInt
    let lim := s.rateLim
    let s := s.setI Reg.ETH_PTP_OFFSET (satI 32 ofs)
    let stepNs := s.get Reg.ETH_PTP_STEP_NS
    let step := decide (stepNs ≠ 0) && decide (stepNs < ofs.natAbs)
    let s := if step then s.stepTime ofs else s
    let up := if step then { up with at_ := ((up.at_ : Int) - 2 * ofs).toNat } else up
    let clamp := decide (lim < rate.natAbs)
    let s := (s.setI Reg.ETH_PTP_RATE (clampI (-lim) lim rate)).put Reg.ETH_PTP_STAT_RATE_CLAMP clamp
    let ok := decide (ofs.natAbs < 1000)
    let run := if ok then s.eth.okRun + 1 else 0
    let s := { s with eth := { s.eth with okRun := run } }
    let s := if clamp then s.setSync false 3
      else if !ok then s.setSync false 2
      else if 8 ≤ run then s.setSync true 0
      else s
    .next (if s.flag (Reg.ETH_PORT_STAT_AS_CAPABLE (1 - p)) then s.sendSync (1 - p) (some up) else s)

/-- PDELAY_REQ_RECEIVED (R424, R445): a request is answered; a completed measurement makes the port asCapable. -/
def execPdelayReqReceived (port : Fin 2) (pd : PtpPdelay) (s : State) : Out :=
  let p : Nat := port
  let source := match pd with | .request x _ => x | .measured x _ => x
  if !s.ptpTakes p then .next s
  else if s.ownSource source then .next (s.inc Reg.ETH_PTP_STAT_SELF_ID)
  else
    match pd with
    | .request x q => .next (s.sendPdelayResp p q.toNat x.toNat)
    | .measured _ ns => .next ((s.set (Reg.ETH_PTP_PDELAY p) ns.toNat).set (Reg.ETH_PORT_STAT_AS_CAPABLE p) 1)

/-- A priority vector as a list that compares in order: the lower is the better (IEEE 802.1AS). -/
def PtpBest.key (b : PtpBest) : List Nat := [b.p1, b.cc, b.acc, b.var, b.p2, b.gm, b.steps, b.src, b.port]

/-- Whether one vector is better than another. -/
def better : List Nat → List Nat → Bool
  | a :: r, b :: q => if a < b then true else if b < a then false else better r q
  | _, _ => false

/-- The module becomes grandmaster (R425, R427). -/
def State.becomeGm (s : State) : State :=
  let s := ((s.set Reg.ETH_PTP_STAT_IS_GM 1).set Reg.ETH_PTP_STAT_SLAVE_PORT 0).set Reg.ETH_PTP_GM_ID (s.get Reg.ETH_PTP_ID)
  s.setSync true 0

/-- The module follows a foreign grandmaster. -/
def State.becomeSlave (s : State) (b : PtpBest) : State :=
  if s.get Reg.ETH_PTP_STAT_SLAVE_PORT = b.port ∧ s.get Reg.ETH_PTP_GM_ID = b.gm then s
  else
    let s := if s.flag Reg.ETH_PTP_STAT_IS_GM then s.setSync false 1 else s
    let s := { s with eth := { s.eth with okRun := 0 } }
    ((s.set Reg.ETH_PTP_STAT_IS_GM 0).set Reg.ETH_PTP_STAT_SLAVE_PORT b.port).set Reg.ETH_PTP_GM_ID b.gm

/-- ANNOUNCE_RECEIVED (R425, R426). One that has come 255 steps or through the module itself is not qualified (IEEE 802.1AS). -/
def execAnnounceReceived (port : Fin 2) (a : PtpAnnounce) (s : State) : Out :=
  let role := s.get Reg.ETH_PTP_CFG_ROLE
  let id := s.get Reg.ETH_PTP_ID
  let b : PtpBest := { p1 := a.priority1.toNat, cc := a.clockClass.toNat, acc := a.accuracy.toNat, var := a.variance.toNat
                       p2 := a.priority2.toNat, gm := a.gm.toNat, steps := a.steps.toNat, src := a.source.toNat, port := port.val + 1
                       utc := a.utc.toNat, tsrc := a.timeSource.toNat, path := a.path.map BitVec.toNat }
  if !s.ptpTakes port then .next s
  else if s.ownSource a.source then .next (s.inc Reg.ETH_PTP_STAT_SELF_ID)
  else if !s.flag (Reg.ETH_PORT_STAT_AS_CAPABLE port) || decide (255 ≤ b.steps) || b.path.contains id || decide (b.gm = id) then .next s
  else if role = 2 then .next (if better b.key s.ownVector.key then s.inc Reg.ETH_PTP_STAT_FOREIGN_GM else s)
  else
    let best := match s.eth.best with
      | some q => if q.port = b.port ∨ better b.key q.key then b else q
      | none => b
    let s := { s with eth := { s.eth with best := some best } }
    .next (if role = 1 ∧ better s.ownVector.key best.key then s.becomeGm else s.becomeSlave best)

/-- A module that has heard of no grandmaster becomes one in role AUTO; one in role GM_ONLY always is (R425). -/
def State.claimGm (s : State) : State :=
  let role := s.get Reg.ETH_PTP_CFG_ROLE
  if (role = 2 ∨ (role = 1 ∧ s.eth.best = none)) ∧ ¬ s.flag Reg.ETH_PTP_STAT_IS_GM then s.becomeGm else s

/-- PTP_INTERVAL (R424, R425): the message of an interval is sent. -/
def execPtpInterval (port : Fin 2) (kind : PtpKind) (s : State) : Out :=
  let p : Nat := port
  if !s.ptpTakes p then .next s
  else
    let s := s.claimGm
    let can := s.flag (Reg.ETH_PORT_STAT_AS_CAPABLE p)
    let gm := s.flag Reg.ETH_PTP_STAT_IS_GM && can
    let relay := !s.flag Reg.ETH_PTP_STAT_IS_GM && decide (s.get Reg.ETH_PTP_STAT_SLAVE_PORT = 2 - p) && can
    match kind with
    | .sync => .next (if gm then s.sendSync p none else s)
    | .pdelay => .next (s.sendPdelayReq p)
    | .announce => .next (if gm || relay then s.sendAnnounce p else s)

/-- SYNC_TIMEOUT (R427): no Sync for 3 intervals. -/
def execSyncTimeout (s : State) : Out :=
  if !s.awake || !s.live || s.flag Reg.ETH_PTP_STAT_IS_GM then .next s
  else
    let s := s.setSync false 1
    .next ({ s with eth := { s.eth with okRun := 0, best := none } }.set Reg.ETH_PTP_STAT_SLAVE_PORT 0)

/-! ### Links (R444, R445) -/

/-- The link LED of a port (R584). -/
def State.linkLed (s : State) (p : Nat) : Bool := s.flag (Reg.ETH_PORT_STAT_LINK p)

/-- A port loses its link (R444). -/
def State.linkLost (s : State) (p : Nat) : State :=
  if !s.flag (Reg.ETH_PORT_STAT_LINK p) then s
  else
    let q := (s.ethX p).queue
    let s := (s.set (Reg.ETH_PORT_STAT_LINK p) 0).inc (Reg.ETH_PORT_LINK_DOWNS p)
    let s := ((s.set (Reg.ETH_PORT_STAT_TX_HELD p) 0).set (Reg.ETH_PORT_STAT_G1000 p) 0).set (Reg.ETH_PORT_STAT_AS_CAPABLE p) 0
    let s := (s.modEth p (fun x => { x with queue := [], busy := 0 })).addSat (Reg.ETH_PORT_TX_DROP p) q.length
    let s := q.foldl State.dropFrame s
    let s := { s with eth := { s.eth with macs := s.eth.macs.filter (fun m => decide (m.2.1 ≠ p)) } }
    if s.get Reg.ETH_PTP_STAT_SLAVE_PORT = p + 1 then
      let s := s.setSync false 4
      { s with eth := { s.eth with best := none, okRun := 0 } }.set Reg.ETH_PTP_STAT_SLAVE_PORT 0
    else s

/-- ETH_LINK_DOWN. -/
def execEthLinkDown (port : Fin 2) (s : State) : Out := if s.ethRuns port then .next (s.linkLost port) else .next s

/-- ETH_LINK_UP (R445, R416): reception at once, transmission from the next cycle boundary, one gratuitous ARP. A port whose EN is
0 stays down, as ETH2 does in FALLBACK. -/
def execEthLinkUp (port : Fin 2) (g1000 : Bool) (s : State) : Out :=
  let p : Nat := port
  if !s.ethRuns p || !s.flag (Reg.ETH_PORT_CTL_EN p) || s.flag (Reg.ETH_PORT_STAT_LINK p) then .next s
  else
    let s := (s.set (Reg.ETH_PORT_STAT_LINK p) 1).put (Reg.ETH_PORT_STAT_G1000 p) (g1000 && !s.flag (Reg.ETH_PORT_CTL_CAP100 p))
    let wait := match s.gates p with
      | some (l, t) => ((l.map Prod.snd).sum - t + 4) / 5
      | none => 0
    let s := (s.put (Reg.ETH_PORT_STAT_TX_HELD p) (s.gates p).isSome).modEth p (fun x =>
      { x with queue := [], busy := s.clk, hold := s.clk + (if s.get (Reg.ETH_GCL_CTL_MODE p) = 1 then 1 else wait) })
    .next (s.enqueue p 16 6 s.mgmtClass (s.frameOf 0xFFFFFFFFFFFF s.mgmtTag 0x0806 (s.arpOf 1 0 s.ownIp))).1

/-- A write of PORT[k].CTL.EN (R444): 0 holds the PHY down. -/
def State.portEnable (s : State) (p : Nat) (en : Bool) : State :=
  let s := s.put (Reg.ETH_PORT_CTL_EN p) en
  if en then s else s.linkLost p

/-- A write of 1 to bits of SF_BLOCKED unblocks their filters (R441). -/
def State.unblock (s : State) (w mask : Nat) : State :=
  s.set (Reg.ETH_SF_BLOCKED w) (s.get (Reg.ETH_SF_BLOCKED w) - (s.get (Reg.ETH_SF_BLOCKED w) &&& mask))

end Sys2Proof.Machine
end

