-- ==== Sys2Proof/Machine/Can.lean ====
section
/-!
DEFINITION. Can.lean: Bexic headers as bytes (R500) and the CAN FD channels below Bexic: filter list, receive FIFOs, mailboxes,
transmission, error confinement (R448-R475).
-/
namespace Sys2Proof.Machine

/-! ### Bexic headers (R500, Table BXP-2) -/

/-- Header bytes 0-11. -/
def headBytes (flags group op seq len tag : Nat) : List Byte :=
  u8s [1, flags, group, op] ++ leBytes 4 seq ++ leBytes 2 len ++ leBytes 2 tag

/-- A message or fragment: header with its CRC, then the payload. -/
def wireBytes (flags group op seq tag : Nat) (payload : List Byte) : List Byte :=
  let h := headBytes flags group op seq payload.length tag
  h ++ leBytes 4 (crc32c (h ++ [0, 0, 0, 0] ++ payload)) ++ payload

/-- A leaving message whole, with FRAG_FIRST and FRAG_LAST (R501, R502). -/
def outBytes (o : OutMsg) : List Byte := wireBytes 6 o.group o.opcode o.seq o.tag o.payload

/-! ### Registers and records of a channel -/

/-- Channel states (Table CAN-6). -/
def canDisabled : Nat := 0
def canListen : Nat := 1
def canActive : Nat := 2
def canPassive : Nat := 3
def canBusOff : Nat := 4
def canRecovering : Nat := 5

/-- A channel's side of the bus runs: both channels in STANDBY, OPERATE and SAFE_HOLD, CAN0 in FALLBACK (R108). -/
def State.canRuns (s : State) (c : Nat) : Bool := s.awake && (s.live || (decide (s.mode = modeFallback) && decide (c = 0)))

/-- The channel receives and sends FD frames: in FALLBACK CAN0 is classic-only (R449, R452). -/
def State.canFd (s : State) (c : Nat) : Bool := s.flag (Reg.CAN_FMT_FD c) && decide (s.mode ≠ modeFallback)

/-- The state of a channel. -/
def State.canState (s : State) (c : Nat) : Nat := s.get (Reg.CAN_STAT_STATE c)

/-- A frame record (Table CAN-5). -/
def canRecord (c elem : Nat) (f : CanFrame) : List Byte :=
  leBytes 4 (f.id.toNat + b2n f.xtd * 2 ^ 29 + b2n f.fd * 2 ^ 30 + b2n f.brs * 2 ^ 31)
    ++ u8s [f.data.length, b2n f.esi + 2 * c, elem, 0] ++ leBytes 8 f.sof.toNat ++ padTo 64 f.data

/-- The records of receive FIFO `k`. -/
def CanX.fifo (x : CanX) (k : Nat) : List (List Byte) := if k = 0 then x.rx0 else x.rx1
def CanX.setFifo (x : CanX) (k : Nat) (l : List (List Byte)) : CanX := if k = 0 then { x with rx0 := l } else { x with rx1 := l }

/-- LEVEL and HEAD as FIFO `k` stands (Table CAN-7). -/
def State.syncFifo (s : State) (c k : Nat) : State :=
  let l := (s.canX c).fifo k
  let s := s.set (Reg.CAN_RXF_STAT_LEVEL c k) l.length
  s.forAll (List.range 20) (fun s i => s.set (Reg.CAN_RXF_HEAD c k i) (leAt (l.headD []) (4 * i) 4))

/-- A record is appended to FIFO `k`; a full FIFO drops it (R462). -/
def State.canPush (s : State) (c k : Nat) (r : List Byte) : State :=
  let l := (s.canX c).fifo k
  if 64 ≤ l.length then s.inc (Reg.CAN_RXF_STAT_OVF c k)
  else (s.modCan c (fun x => x.setFifo k (l ++ [r]))).syncFifo c k

/-- CAN_FIFO_POP (R462): the oldest record is removed; a write from outside the window does nothing (R128). -/
def State.canPop (s : State) (c k : Nat) : State :=
  (s.modCan c (fun x => x.setFifo k (x.fifo k).tail)).syncFifo c k

/-- A record is delivered into mailbox slot `sl` of group `n` (R463): SEQ goes to the next odd value, the record is written, and
SEQ goes on to the even value after it; one step, so that no reader sees the odd value. -/
def State.canMail (s : State) (n sl : Nat) (r : List Byte) : State :=
  let a := 0x20130000 + n * 0x400 + 0x200 + sl * 0x80
  let q := s.rdLE a 4
  ((s.wrLE a 4 ((q + 2 + q % 2) % 2 ^ 32)).wrBytes (a + 4) (List.replicate 12 0)).wrBytes (a + 16) (r ++ List.replicate 32 0)

/-! ### Filter list (R457-R460) -/

/-- A filter element: type, XTD, ID1, ID2 and action (Table CAN-4). -/
structure CanElem where
  typ : Nat
  xtd : Bool
  id1 : Nat
  id2 : Nat
  act : Nat
  deriving DecidableEq, Repr

/-- An element from its 8 bytes. -/
def CanElem.ofBytes (l : List Byte) : CanElem :=
  let a := leAt l 0 4
  let b := leAt l 4 4
  { typ := bits a 30 2, xtd := bit a 29, id1 := bits a 0 29, id2 := bits b 0 29, act := bits b 29 3 }

/-- An element that never matches: reserved action, or identifier bits that a standard element does not have (R458). -/
def CanElem.bad (e : CanElem) : Bool :=
  decide (3 < e.act) || (!e.xtd && (decide (0x7FF < e.id1) || decide (0x7FF < e.id2)))

/-- Whether an element matches an identifier (R458). -/
def CanElem.hits (e : CanElem) (xtd : Bool) (id : Nat) : Bool :=
  !e.bad && (e.xtd == xtd) &&
    (match e.typ with
      | 1 => decide (e.id1 ≤ id) && decide (id ≤ e.id2)
      | 2 => decide (id = e.id1) || decide (id = e.id2)
      | 3 => decide (id &&& e.id2 = e.id1 &&& e.id2)
      | _ => false)

/-- The element `i` of a channel's list in shared SRAM. -/
def State.canElem (s : State) (c i : Nat) : CanElem := CanElem.ofBytes (s.rdBytes (0x20120000 + c * 0x400 + 8 * i) 8)

/-- The first element that matches (R458). -/
def State.canMatch (s : State) (c : Nat) (f : CanFrame) : Option Nat :=
  (List.range 128).find? (fun i => (s.canElem c i).hits f.xtd f.id.toNat)

/-- CAN_FILTER_MATCH: the action of the first matching element, or the channel's default action (R459). -/
def State.canFilter (s : State) (c : Nat) (f : CanFrame) : State :=
  let rej := fun (s : State) => s.inc (Reg.CAN_RX_REJECT c)
  match s.canMatch c f with
  | none =>
    match s.get (if f.xtd then Reg.CAN_DEFAULT_EXT c else Reg.CAN_DEFAULT_STD c) with
    | 1 => s.canPush c 0 (canRecord c 0xFF f)
    | 2 => s.canPush c 1 (canRecord c 0xFF f)
    | _ => rej s
  | some i =>
    match (s.canElem c i).act with
    | 1 => s.canPush c 0 (canRecord c i f)
    | 2 => s.canPush c 1 (canRecord c i f)
    | 3 =>
      if s.flag (Reg.CAN_MBX_MAP_VALID c i) then
        s.canMail (s.get (Reg.CAN_MBX_MAP_GROUP c i)) (s.get (Reg.CAN_MBX_MAP_SLOT c i)) (canRecord c i f)
      else rej s
    | _ => rej s

/-! ### Transmission (R465-R468, R472, R473, R519) -/

/-- Data lengths of FD frames (Table CAN-1). -/
def fdLens : List Nat := [0, 1, 2, 3, 4, 5, 6, 7, 8, 12, 16, 20, 24, 32, 48, 64]

/-- The bytes padded with zeros to the smallest FD length that holds them (R473). -/
def fdPad (l : List Byte) : List Byte := padTo ((fdLens.find? (fun n => decide (l.length ≤ n))).getD 64) l

/-- A payload in pieces of at most 48 bytes; an empty payload is one piece. -/
def cut48 : Nat → List Byte → List (List Byte)
  | 0, l => [l]
  | n + 1, l => if l.length ≤ 48 then [l] else l.take 48 :: cut48 n (l.drop 48)

/-- The fragments of a message (R473, R517): piece `i` of `pieces`, each with its own header. -/
def fragsOf (o : OutMsg) : List (List Byte) :=
  let p := cut48 30 o.payload
  p.mapIdx (fun i x => wireBytes ((if i = 0 then 2 else 0) + (if i + 1 = p.length then 4 else 0)) o.group o.opcode o.seq o.tag x)

/-- The classic segments of a message in FALLBACK, at most `n` of them (R519). -/
def segsOf : Nat → Nat → List Byte → List (List Byte)
  | 0, _, _ => []
  | n + 1, i, l =>
    let ctl := (if i = 0 then 0x80 else 0) + (if l.length ≤ 7 then 0x40 else 0) + i % 64
    (BitVec.ofNat 8 ctl :: l.take 7) :: (if l.length ≤ 7 then [] else segsOf n (i + 1) (l.drop 7))

/-- BASE + 2n or BASE + 32 of an endpoint (R472). -/
def State.canBase (s : State) (c ep : Nat) : Nat := s.get (Reg.CAN_BEXIC_BASE c) + 2 * ep

/-- A leaving message is queued on a channel as frames (R472, R473, R519); in BUS_OFF, RECOVERING and DISABLED it waits. -/
def State.canQueue (s : State) (c : Nat) (o : OutMsg) (blk : Option (Nat × Nat)) : State :=
  let fb := decide (s.mode = modeFallback)
  let fr := fun (d : List Byte) =>
    ({ xtd := !fb && s.flag (Reg.CAN_FMT_XTD_BASE c), fd := !fb, brs := !fb && s.flag (Reg.CAN_FMT_BRS c), rtr := false,
       esi := decide (s.canState c = canPassive), id := 0, sof := 0, data := d } : CanFrame)
  let id := if fb then 0x7F1 else s.canBase c o.ep + 1
  let l := if fb then segsOf 203 0 (outBytes o) else (fragsOf o).map fdPad
  let m : CanMsg := { xtd := !fb && s.flag (Reg.CAN_FMT_XTD_BASE c), id := id,
                      frames := l.map (fun d => { fr d with id := BitVec.ofNat 29 id }), blk := blk }
  s.modCan c (fun x => { x with tx := x.tx ++ [m] })

/-- The frame in TXB (R466). -/
def State.txbFrame (s : State) (c : Nat) : CanFrame :=
  let r := ((List.range 20).map (fun i => leBytes 4 (s.get (Reg.CAN_TXB c i)))).flatten
  let w := leAt r 0 4
  { xtd := bit w 29, fd := bit w 30, brs := bit w 31, rtr := false, esi := false, id := BitVec.ofNat 29 w, sof := 0,
    data := (r.drop 16).take (byteAt r 4) }

/-- The frame in TXB may be sent on this channel (R466). -/
def State.txbOk (s : State) (c : Nat) : Bool :=
  let w := s.get (Reg.CAN_TXB c 0)
  let len := s.get (Reg.CAN_TXB c 1) % 256
  if bit w 30 then s.canFd c && fdLens.contains len else decide (len ≤ 8)

/-- A write of 1 to SEND (R466): the frame is queued, or ERR is set. Without effect while BUSY. -/
def State.canSend (s : State) (c : Nat) : State :=
  if s.flag (Reg.CAN_TXCTL_BUSY c) then s
  else if s.txbOk c then (s.set (Reg.CAN_TXCTL_ERR c) 0).set (Reg.CAN_TXCTL_BUSY c) 1
  else s.set (Reg.CAN_TXCTL_ERR c) 1

/-- A write of 1 to ABORT (R466): a frame that has not won arbitration is withdrawn. -/
def State.canAbort (s : State) (c : Nat) : State := s.set (Reg.CAN_TXCTL_BUSY c) 0

/-- The order in which identifiers win arbitration: base bits, then standard before extended, then the extension. -/
def arbKey (xtd : Bool) (id : Nat) : Nat := if xtd then id / 2 ^ 18 * 2 ^ 19 + 2 ^ 18 + id % 2 ^ 18 else id % 2048 * 2 ^ 19

/-- The lowest of a list of keys. -/
def lowest : List Nat → Option Nat
  | [] => none
  | k :: r => some (match lowest r with | none => k | some m => min k m)

/-- The frame offered at the next arbitration (R465): a Bexic message's next fragment (true), or TXB (false), with its frame. -/
def State.canOffer (s : State) (c : Nat) : Option (Bool × CanFrame) :=
  let x := s.canX c
  let t := if s.flag (Reg.CAN_TXCTL_BUSY c) then some (s.txbFrame c) else none
  let k := lowest (x.tx.map (fun m => arbKey m.xtd m.id))
  let bex := fun (_ : Unit) =>
    match x.tx.find? (fun m => decide (some (arbKey m.xtd m.id) = k)) with
    | some m => m.frames.head?.map (fun f => (true, f))
    | none => none
  match t, k with
  | none, _ => bex ()
  | some f, none => some (false, f)
  | some f, some k => if arbKey f.xtd f.id.toNat < k then some (false, f) else bex ()

/-- The block of a message that is gone goes back (R147). -/
def State.freeBlk (s : State) : Option (Nat × Nat) → State
  | some (h, b) => s.poolFree h b
  | none => s

/-- A pending message is discarded (R468): its block goes back, and an event frame, which alone holds one, counts as lost (R521). -/
def State.dropCanMsg (s : State) (m : CanMsg) : State :=
  match m.blk with
  | some (ep, b) => (s.poolFree ep b).inc (Reg.SYS_BXP_EVT_LOST ep)
  | none => s

/-- The first message of the lowest identifier has sent a frame; with its last frame the message leaves. -/
def State.canSent (s : State) (c : Nat) : State :=
  let x := s.canX c
  let k := lowest (x.tx.map (fun m => arbKey m.xtd m.id))
  match x.tx.findIdx? (fun m => decide (some (arbKey m.xtd m.id) = k)) with
  | none => s
  | some i =>
    match x.tx[i]? with
    | none => s
    | some m =>
      if m.frames.length ≤ 1 then (s.setCan c { x with tx := x.tx.eraseIdx i }).freeBlk m.blk
      else s.setCan c { x with tx := x.tx.set i { m with frames := m.frames.tail } }

/-! ### Error confinement (R467-R471) -/

/-- The payload of CAN_ERROR_PASSIVE and CAN_BUS_OFF (Table LDG-5). -/
def State.canErrBody (s : State) (c : Nat) : List Byte :=
  u8s [c, s.get (Reg.CAN_LEC_NOMINAL c), s.get (Reg.CAN_LEC_DATA c), 0] ++ leBytes 2 (s.get (Reg.CAN_ERRCNT_TEC c))
    ++ leBytes 2 (s.get (Reg.CAN_ERRCNT_REC c))

/-- Entry to BUS_OFF (R468, R471): every pending transmission is discarded and counted; in FALLBACK recovery starts at once. -/
def State.canOff (s : State) (c : Nat) : State :=
  let x := s.canX c
  let n := x.tx.length + s.get (Reg.CAN_TXCTL_BUSY c)
  let s := x.tx.foldl State.dropCanMsg (s.modCan c (fun x => { x with tx := [] }))
  let s := (s.set (Reg.CAN_TXCTL_BUSY c) 0).addSat (Reg.CAN_TX_DROP c) n
  let s := (s.inc (Reg.CAN_BUSOFF_COUNT c)).warn 255 0x0012 false (s.canErrBody c)
  s.set (Reg.CAN_STAT_STATE c) (if s.mode = modeFallback then canRecovering else canBusOff)

/-- The state that TEC and REC call for (Table CAN-6), from ERROR_ACTIVE or ERROR_PASSIVE. -/
def State.canConfine (s : State) (c : Nat) : State :=
  let t := s.get (Reg.CAN_ERRCNT_TEC c)
  let r := s.get (Reg.CAN_ERRCNT_REC c)
  let st := s.canState c
  if st ≠ canActive ∧ st ≠ canPassive then s
  else if 255 < t then s.canOff c
  else if 127 < t ∨ 127 < r then
    if st = canPassive then s else (s.set (Reg.CAN_STAT_STATE c) canPassive).warn 255 0x0011 false (s.canErrBody c)
  else s.set (Reg.CAN_STAT_STATE c) canActive

/-- An error that a channel taking part in the bus detects (R467): the last error code, TEC or REC as ISO 11898-1 lays down, and
the state that follows. -/
def State.canFault (s : State) (n : Nat) (k : CanErr) : State :=
  let st := s.canState n
  let s := s.set (if k.dataPhase then Reg.CAN_LEC_DATA n else Reg.CAN_LEC_NOMINAL n) k.lec.toNat
  let s := if k.transmitter then (if st = canPassive ∧ k.lec = 3 then s else s.addSat (Reg.CAN_ERRCNT_TEC n) 8)
    else s.inc (Reg.CAN_ERRCNT_REC n)
  s.canConfine n

/-- CAN_ERROR (R467, R470): in LISTEN the integration restarts; else the error counts. -/
def execCanError (c : Fin 2) (k : CanErr) (s : State) : Out :=
  let n : Nat := c
  let st := s.canState n
  if !s.canRuns n || k.lec = 0 || k.lec = 7 then .next s
  else if st = canListen then .next (s.inc (Reg.CAN_LISTEN_ERR n))
  else if st = canActive ∨ st = canPassive then .next (s.canFault n k)
  else .next s

/-! ### Transmitter delay compensation (R453-R455) -/

/-- The compensation offset in minimum time quanta: the data sample point BRP × (1 + TSEG1), at most 127, in automatic mode
(R454); the image's TDCO unchanged in manual mode (R455). -/
def State.tdco (s : State) (n : Nat) : Nat :=
  if s.flag (Reg.CAN_TDC_MODE n) then s.get (Reg.CAN_TDC_TDCO n)
  else min 127 (s.get (Reg.CAN_DBT_BRP n) * (1 + s.get (Reg.CAN_DBT_TSEG1 n)))

/-- The channel compensates in a frame it transmits (R453): FD = 1, BRS = 1 and a data BRP of 1 or 2. -/
def State.tdcOn (s : State) (n : Nat) (f : CanFrame) : Bool :=
  f.fd && f.brs && s.canFd n && (decide (s.get (Reg.CAN_DBT_BRP n) = 1) || decide (s.get (Reg.CAN_DBT_BRP n) = 2))

/-- The secondary sample point: TDCV + TDCO minimum time quanta after the start of a data-phase bit as transmitted (R453). -/
def State.sspAt (s : State) (n : Nat) : Nat := s.get (Reg.CAN_TDC_TDCV n) + s.tdco n

/-- The loop delay of a frame is measured (R453): TDCV saturates at 127 with TDC_SAT; with a data BRP above 2 it reads 0. -/
def State.tdcMeasure (s : State) (n : Nat) (f : CanFrame) (loopDelay : Nat) : State :=
  if s.tdcOn n f then
    let s := s.set (Reg.CAN_TDC_TDCV n) (min 127 loopDelay)
    if 127 < loopDelay then s.set (Reg.CAN_STAT_TDC_SAT n) 1 else s
  else if 2 < s.get (Reg.CAN_DBT_BRP n) then s.set (Reg.CAN_TDC_TDCV n) 0
  else s

/-- CAN_FRAME_TRANSMIT (R465, R453): the offered frame wins and is transmitted, or is offered again. `loopDelay` is the delay
from the FDF to the res edge in minimum time quanta; bit `k` of `unlike` says that some data-phase bit, `k` minimum time quanta
after its start as transmitted, is received unlike it was sent, and `bit1` that the first such bit was sent recessive. A difference
at the secondary sample point is a bit error, and the frame is offered again. -/
def execCanFrameTransmit (c : Fin 2) (won : Bool) (loopDelay : BitVec 16) (unlike : BitVec 256) (bit1 : Bool) (s : State) : Out :=
  let n : Nat := c
  if !(s.canRuns n || s.draining) || !(decide (s.canState n = canActive) || decide (s.canState n = canPassive)) || !won then .next s
  else
    match s.canOffer n with
    | none => .next s
    | some (bex, f) =>
      let s := s.tdcMeasure n f loopDelay.toNat
      if s.tdcOn n f && unlike.getLsbD (s.sspAt n) then
        .next (s.canFault n { transmitter := true, lec := if bit1 then 4 else 5, dataPhase := true })
      else
      let s := (s.inc (Reg.CAN_TX_FRAMES n)).set (Reg.CAN_ERRCNT_TEC n) (s.get (Reg.CAN_ERRCNT_TEC n) - 1)
      let s := if bex then s.canSent n else s.set (Reg.CAN_TXCTL_BUSY n) 0
      .next (s.canConfine n)

/-- CAN_RECOVERY_DONE (R467): 128 occurrences of 11 recessive bits lead from RECOVERING to LISTEN. -/
def execCanRecoveryDone (c : Fin 2) (s : State) : Out :=
  let n : Nat := c
  if s.canRuns n && decide (s.canState n = canRecovering) then
    .next (((s.set (Reg.CAN_STAT_STATE n) canListen).set (Reg.CAN_ERRCNT_TEC n) 0).set (Reg.CAN_ERRCNT_REC n) 0)
  else .next s

/-- CAN_INTEGRATION_END (R470): the channel takes part in the bus. -/
def execCanIntegrationEnd (c : Fin 2) (s : State) : Out :=
  let n : Nat := c
  if s.canRuns n && decide (s.canState n = canListen) then .next ((s.set (Reg.CAN_STAT_STATE n) canActive).canConfine n) else .next s

/-- A write to CTL.EN (Table CAN-6): a channel that was bus-off when disabled returns to BUS_OFF (R468). -/
def State.canEnable (s : State) (c : Nat) (en : Bool) : State :=
  let st := s.canState c
  let s := s.put (Reg.CAN_CTL c) en
  if en then
    if st = canDisabled then s.set (Reg.CAN_STAT_STATE c) (if (s.canX c).wasOff then canBusOff else canListen) else s
  else if st = canDisabled then s
  else
    (s.modCan c (fun x => { x with wasOff := decide (st = canBusOff) || decide (st = canRecovering) })).set (Reg.CAN_STAT_STATE c) canDisabled

/-! ### CAN_RECOVER (R469) -/

/-- The checks of CAN_RECOVER. -/
def chkCanRecover (m : Msg) (_ : State) : Option Nat := firstBad [chk (decide (m.u8 0 ≤ 1)) 0, zeroAt m.payload 1 3]

/-- CAN_RECOVER (R469): a bus-off channel starts to recover. -/
def runCanRecover (m : Msg) (s : State) : Reply :=
  if s.canState (m.u8 0) = canBusOff then (s.set (Reg.CAN_STAT_STATE (m.u8 0)) canRecovering).ok [] else s.ok []

/-! ### Reception below Bexic (R449, R450, R456, R475) -/

/-- What a received frame is on a channel. -/
inductive CanRoute where
  | none
  | bexic (ep : Nat)
  | segment
  deriving DecidableEq, Repr

/-- A frame at a module-to-host identifier (R475): counted, recorded at most once per 60 s. -/
def State.canDup (s : State) (c id : Nat) : State :=
  let s := s.inc (Reg.CAN_STAT_DUP_ID c)
  if s.oncePerMin (s.canX c).dupAt then
    (s.modCan c (fun x => { x with dupAt := some s.ntime })).warn 255 0x0013 false (u8s [c, 0, 0, 0] ++ leBytes 4 id)
  else s

/-- A valid frame counts REC down (ISO 11898-1): above 127 it falls to a value from 119 to 127 that the standard leaves open. -/
def State.canGood (s : State) (c : Nat) : State :=
  let r := s.get (Reg.CAN_ERRCNT_REC c)
  if s.canState c ≠ canActive ∧ s.canState c ≠ canPassive then s
  else if 127 < r then ((s.set (Reg.CAN_ERRCNT_REC c) (119 + Config.freeNat s.drawn % 9)).draw).canConfine c
  else s.set (Reg.CAN_ERRCNT_REC c) (r - 1)

/-- The part of CAN_FRAME_RECEIVE that needs no Bexic message: the state, and whether the frame goes on to the command sequencer. -/
def State.canReceive (s : State) (c : Nat) (f : CanFrame) : State × CanRoute :=
  let st := s.canState c
  if !s.canRuns c || !(decide (st = canListen) || decide (st = canActive) || decide (st = canPassive)) then (s, .none)
  else if f.fd && !s.canFd c then
    -- protocol exception of a classic-only channel (R449); in FALLBACK an FD frame at a Bexic identifier is also counted (R519)
    let s := (s.inc (Reg.CAN_PXE c)).set (Reg.CAN_STAT_STATE c) canListen
    (if s.mode = modeFallback ∧ ¬ f.xtd ∧ (f.id = 0x7F0 ∨ f.id = 0x7F1) then s.inc Reg.SYS_FB_PROTO else s, .none)
  else
    let s := (s.inc (Reg.CAN_RX_FRAMES c)).canGood c
    if f.rtr then (s.inc (Reg.CAN_RX_REMOTE c), .none)
    else if s.mode = modeFallback then
      if !f.xtd && decide (f.id = 0x7F0) then (s, .segment)
      else if !f.xtd && decide (f.id = 0x7F1) then (s.canDup c 0x7F1, .none)
      else (s.canFilter c f, .none)
    else
      let b := s.get (Reg.CAN_BEXIC_BASE c)
      let d := f.id.toNat - b
      if s.flag (Reg.CAN_FMT_BEXIC_EN c) && (f.xtd == s.flag (Reg.CAN_FMT_XTD_BASE c)) && decide (b ≤ f.id.toNat) && decide (d ≤ 33) then
        if d % 2 = 0 then (s, .bexic (d / 2)) else (s.canDup c f.id.toNat, .none)
      else (s.canFilter c f, .none)

end Sys2Proof.Machine
end

