-- ==== Sys2Proof/Machine/I2c.lean ====
section
/-!
DEFINITION. I2c.lean: the I2C-S target and its pointer space, the dormant responder on the bus, and the I2C-P controller
(R58-R61, R477-R496).
-/
namespace Sys2Proof.Machine

/-! ### Backup values that both agents serve (Table IIC-1) -/

/-- `SYS.BKFIFO_LO` and `SYS.BKFIFO_HI` as words: the oldest entry (R54). While the FIFO is empty both read zero: the table fixes VALID
alone (DESIGN CHOICE, log 117). -/
def State.bkLo (s : State) : Nat := match s.bk.fifo with | [] => 0 | e :: _ => e.rtc % 2 ^ 32
def State.bkHi (s : State) : Nat :=
  match s.bk.fifo with
  | [] => 0
  | e :: _ => e.rtc / 2 ^ 32 % 65536 + e.src % 16 * 2 ^ 16 + b2n e.edge * 2 ^ 20 + 2 ^ 31

/-- The oldest entry leaves the backup FIFO (R54). -/
def State.bkPop (s : State) : State := { s with bk := { s.bk with fifo := s.bk.fifo.tail } }

/-- `SYS.BKFIFO_STAT` as a word. -/
def State.bkStat (s : State) : Nat := s.bk.fifo.length + s.get Reg.SYS_BKFIFO_STAT_OVF * 256

/-- `SYS.WAKE_CAUSE` as a word. -/
def State.wakeWord (s : State) : Nat :=
  s.get Reg.SYS_WAKE_CAUSE_CAUSE + s.get Reg.SYS_WAKE_CAUSE_INTERRUPTED * 256 + s.get Reg.SYS_WAKE_CAUSE_I2C_WOKEN * 512
    + s.get Reg.SYS_WAKE_CAUSE_CMP_EVENT * 1024

/-- The value of Table IIC-1 that holds pointer `p`: its lowest pointer and its length. -/
def i2cBase (p : Nat) : Option (Nat × Nat) :=
  if p < 4 then some (0, 4)
  else if 0x10 ≤ p ∧ p < 0x14 then some (0x10, 4)
  else if 0x20 ≤ p ∧ p < 0x28 then some (0x20, 8)
  else if 0x30 ≤ p ∧ p < 0x38 then some (0x30, 8)
  else if 0x38 ≤ p ∧ p < 0x3C then some (0x38, 4)
  else if 0x40 ≤ p ∧ p < 0x80 then some (0x40 + (p - 0x40) / 4 * 4, 4)
  else none

/-- Commands from I2C-S that are accepted and not yet answered (R484). -/
def State.i2cOpen (s : State) : Nat :=
  let from_ := fun (m : Msg) => decide (m.src = .i2cs)
  (s.awaiting.filter (fun w => from_ w.msg)).length + (s.i2c.jobs.filter (fun j => from_ j.msg)).length
    + (match s.i2c.run with | some j => b2n (from_ j.msg) | none => 0)
    + (match s.flash.eraser with | some m => b2n (from_ m) | none => 0)
    + (match s.flash.commit with | some (m, _) => b2n (from_ m) | none => 0)

/-- TX_ACCEPT (R484). -/
def State.txAccept (s : State) : Bool := decide (s.i2c.out.length + s.i2cOpen < 8)

/-- The bytes of a value of Table IIC-1 as they stand; `asic` says which agent serves. -/
def State.i2cLive (s : State) (asic : Bool) (base : Nat) : List Byte :=
  if base = 0 then
    (if asic then u8s [1 + 2 * b2n (decide (s.i2c.out ≠ [])) + 4 * b2n s.txAccept, s.i2c.out.length, s.mode, 0] else [0, 0, 0, 0])
  else if base = 0x10 then leBytes 4 s.wakeWord
  else if base = 0x20 then leBytes 6 s.bk.rtc ++ [0, 0]
  else if base = 0x30 then leBytes 4 s.bkLo ++ leBytes 4 s.bkHi
  else if base = 0x38 then leBytes 4 s.bkStat
  else leBytes 4 (s.get (Reg.SYS_BKREG ((base - 0x40) / 4)))

/-- The oldest outbound message with its length (R483). -/
def State.bxpRx (s : State) : List Byte :=
  match s.i2c.out with
  | [] => [0, 0]
  | m :: _ => leBytes 2 m.length ++ m

/-- One byte of a read transaction at pointer `p`: the state, the byte and how many bytes of BXP_RX have passed (R479, R480). A read
that has come into BXP_RX stays in it for its 1418 bytes, wherever it came in (R483). -/
def State.i2cByte (s : State) (asic : Bool) (p k : Nat) : State × Byte × Nat :=
  if asic && decide (0x2000 ≤ p) && (decide (p < 0x2000 + 1418) || (decide (0 < k) && decide (k < 1418))) then (s, s.bxpRx.getD k 0, k + 1)
  else
    match i2cBase p with
    | none => (s, 0, k)
    | some (b, _) =>
      let cap := if p = b then some (b, s.i2cLive asic b) else s.i2c.cap
      let l := match cap with
        | some (c, l) => if c = b then l else s.i2cLive asic b
        | none => s.i2cLive asic b
      let s := { s with i2c := { s.i2c with cap := cap } }
      let s := if p = 0x37 then s.bkPop else if p = 0x39 then s.set Reg.SYS_BKFIFO_STAT_OVF 0 else s
      (s, l.getD (p - b) 0, k)

/-- The bytes of a read transaction of `n` bytes from pointer `p`, appended to `acc`. -/
def State.i2cBytes (s : State) (asic : Bool) (p k : Nat) (acc : List Byte) : Nat → State × Nat × List Byte
  | 0 => (s, k, acc)
  | n + 1 =>
    let (s, b, k) := s.i2cByte asic p k
    s.i2cBytes asic ((p + 1) % 65536) k (acc ++ [b]) n

/-- What a read transaction hands out. -/
def State.handOut (s : State) (l : List Byte) : State := { s with readOut := l.map BitVec.toNat }

/-- A write of `data` from pointer `p` reaches BKREG14 and BKREG15, whole registers only (R480). -/
def State.i2cStore (s : State) (p : Nat) (data : List Byte) : State :=
  s.forAll [14, 15] (fun s i =>
    let b := 0x40 + 4 * i
    if p ≤ b ∧ b + 4 ≤ p + data.length then s.set (Reg.SYS_BKREG i) (leAt data (b - p) 4) else s)

/-! ### The dormant responder (R58-R61, R485, R486) -/

/-- The dormant responder owns I2C-S: from DORMANT through LOADING, until the handover (R60). After RESTART the ASIC's target keeps the
port while a response still waits in its outbound queue (Table PWR-6: LOADING follows the response). -/
def State.responderOwns (s : State) : Bool :=
  !s.flag Reg.I2C_S_STAT_OWNER || decide (s.mode = modeDormant)
    || (decide (s.mode = modeLoading) && !(s.draining && !s.i2c.out.isEmpty))

/-- The responder's address (R58). -/
def State.responderAddr (s : State) : Nat :=
  let r := s.get (Reg.SYS_BKREG 13)
  if bit r 7 then bits r 0 7 else 0x2C

/-- What the awake responder does with the bytes `write`, pointer first, and a read of `n` bytes after them (R479, R480). -/
def State.wakeServe (s : State) (write : List Byte) (n : Nat) : State :=
  let s := match write with
    | l :: h :: r =>
      let p := l.toNat + 256 * h.toNat
      let s := s.i2cStore p r
      { s with bk := { s.bk with ptr := (p + r.length) % 65536 } }
    | _ => s
  let p := s.bk.ptr
  let (s, _, l) := s.i2cBytes false p 0 [] n
  ({ s with bk := { s.bk with ptr := (p + n) % 65536 } }).handOut l

/-- The live line levels of a bus as its last event left them (Table IIC-3; log 213). -/
def State.i2cLines (s : State) (bus : Nat) (scl sda : Bool) : State :=
  if bus = 0 then (s.put Reg.I2C_S_STAT_SCL_LOW scl).put Reg.I2C_S_STAT_SDA_LOW sda
  else (s.put Reg.I2C_P_STAT_SCL_LOW scl).put Reg.I2C_P_STAT_SDA_LOW sda

/-- DORMANT_RESPONDER_TRANSACTION (R59, R479, R485): `write` is what the master writes after the address, pointer first; `readLen`
bytes are read. Before the oscillator runs the address is NACKed and the oscillator starts. -/
def execDormantResponderTransaction (addr : BitVec 7) (write : List Byte) (readLen : BitVec 8) (s : State) : Out :=
  if !s.responderOwns || decide (addr.toNat ≠ s.responderAddr) then .next s
  else if !s.bk.awake then
    let s := if s.mode = modeDormant then s.set Reg.SYS_WAKE_CAUSE_I2C_WOKEN 1 else s
    .next (({ s with bk := { s.bk with awake := true, ptr := 0 } }).handOut [])
  else .next (s.wakeServe write readLen.toNat)

/-- DORMANT_RESPONDER_SLEEP (R59, R60): 50 ms after the last STOP, with VMAIN absent. -/
def execDormantResponderSleep (s : State) : Out :=
  if s.bk.onVbak then .next { s with bk := { s.bk with awake := false } } else .next s

/-- I2C_S_HANDOVER (R60): the first bus-idle after LOADING has ended in STANDBY or FALLBACK. -/
def execI2cSHandover (s : State) : Out :=
  if s.awake && decide (2 ≤ s.mode) && s.responderOwns then
    let s := (s.i2cLines 0 false false).set Reg.I2C_S_STAT_OWNER 1
    .next { s with i2c := { s.i2c with ptr := 0, cap := none } }
  else .next s

/-! ### The ASIC's target (R479-R484) -/

/-- The ASIC's target answers. -/
def State.targetRuns (s : State) : Bool := s.awake && (decide (2 ≤ s.mode) || s.draining) && !s.responderOwns

/-- OUTQ as the queue stands. -/
def State.syncOutq (s : State) : State := s.set Reg.I2C_S_STAT_OUTQ s.i2c.out.length

/-- A message is held for the host (R483). -/
def State.i2cHold (s : State) (l : List Byte) : State :=
  State.syncOutq { s with i2c := { s.i2c with out := s.i2c.out ++ [l] } }

/-- The endpoint that I2C-S serves: 16 stands for the device (R481). -/
def State.i2cEndpoint (s : State) : Nat :=
  let e := s.get Reg.I2C_S_CFG_ENDPOINT
  if s.mode = modeFallback then 16 else if e < 16 then e else 16

/-- The address that the target answers (R477): the image's, 0x2C in FALLBACK; no other, and not the general call. -/
def State.targetAddr (s : State) : Nat := if s.mode = modeFallback then 0x2C else s.get Reg.I2C_S_CFG_ADDR

/-- The target reads `n` bytes out from its pointer: the state, how many bytes of BXP_RX passed, and the bytes. -/
def State.i2cOut (s : State) (n : Nat) : State × Nat × List Byte :=
  let p := s.i2c.ptr
  let (s, k, l) := s.i2cBytes true p 0 [] n
  ({ s with i2c := { s.i2c with ptr := (p + n) % 65536 } }, k, l)

/-- I2C_S_READ (R479, R483): one read transaction of `n` bytes. -/
def execI2cSRead (addr : BitVec 7) (n : BitVec 16) (s : State) : Out :=
  if !s.targetRuns || decide (addr.toNat ≠ s.targetAddr) then .next s
  else
    let (s, k, l) := (s.i2cLines 0 false false).i2cOut n.toNat
    let s := if s.i2c.out ≠ [] ∧ s.bxpRx.length ≤ k then State.syncOutq { s with i2c := { s.i2c with out := s.i2c.out.tail } } else s
    .next (s.handOut l)

/-- The target takes written bytes in, pointer first (R479, R480, R484): the state, and the message bytes that reached BXP_TX with
whether they fitted. -/
def State.i2cIn (s : State) : List Byte → State × Option (List Byte × Bool)
  | l :: h :: r =>
    let p := l.toNat + 256 * h.toNat
    if p = 0x1000 ∧ ¬ s.txAccept then (s.inc Reg.I2C_S_NACKED, none)
    else
      let s := { s.i2cStore p r with i2c := { s.i2c with ptr := (p + r.length) % 65536 } }
      if p = 0x1000 ∧ r ≠ [] then (s, some (r.take 1416, decide (r.length ≤ 1416))) else (s, none)
  | _ => (s, none)

/-- What an I2C-S write transaction at an address leads to. -/
def State.i2cWrite (s : State) (addr : Nat) (data : List Byte) : State × Option (List Byte × Bool) :=
  if !s.targetRuns || decide (addr ≠ s.targetAddr) then (s, none) else (s.i2cLines 0 false false).i2cIn data

/-! ### Timeouts (R487, R488) -/

/-- A sticky flag of a bus sets, with one I2C_STUCK record (Table LDG-5). -/
def State.i2cStuck (s : State) (bus flag : Nat) (f : Fld) : State :=
  if s.flag f then s else (s.set f 1).warn 255 0x0014 false (u8s [bus, flag])

/-- The controller side of a bus runs: I2C-S once the target has it, I2C-P while enabled (R489). -/
def State.i2cRuns (s : State) (bus : Nat) : Bool :=
  if bus = 0 then s.targetRuns else s.awake && s.live && s.flag Reg.I2C_P_CFG_EN

/-- A transaction that an SCL-low timeout cuts off at the target (R488): what was ACKed so far stands, a message partly written is
discarded and a read of BXP_RX leaves its entry. -/
def State.targetCut (s : State) : I2cPart → State
  | .idle => s
  | .write d => (s.i2cIn d).1
  | .read n => let (s, _, l) := s.i2cOut n.toNat; s.handOut l

/-- The same at the dormant responder. -/
def State.responderCut (s : State) : I2cPart → State
  | .idle => s
  | .write d => s.wakeServe d 0
  | .read n => s.wakeServe [] n.toNat

/-- SCL_LOW_TIMEOUT (R487, R488): bus 0 is I2C-S, bus 1 is I2C-P. The dormant responder releases the bus with no flag and no record. -/
def execSclLowTimeout (bus : Fin 2) (part : I2cPart) (sdaLow : Bool) (s : State) : Out :=
  let b : Nat := bus
  if b = 0 ∧ s.responderOwns ∧ s.bk.awake then .next (s.responderCut part)
  else if !s.i2cRuns b then .next s
  else if b = 0 then .next (((s.targetCut part).i2cLines 0 true sdaLow).i2cStuck 0 0 Reg.I2C_S_STAT_SCL_STUCK)
  else .next ((s.i2cLines 1 true sdaLow).i2cStuck 1 0 Reg.I2C_P_STAT_SCL_STUCK)

/-- SDA_LOW_TIMEOUT (R487). -/
def execSdaLowTimeout (bus : Fin 2) (s : State) : Out :=
  let b : Nat := bus
  if !s.i2cRuns b then .next s
  else if b = 0 then .next ((s.i2cLines 0 false true).i2cStuck 0 1 Reg.I2C_S_STAT_SDA_STUCK)
  else .next ((s.i2cLines 1 false true).i2cStuck 1 1 Reg.I2C_P_STAT_SDA_STUCK)

/-! ### The I2C-P controller (R489-R495) -/

/-- QUEUED and BUSY as the transfers stand. -/
def State.syncXfer (s : State) : State :=
  (s.set Reg.I2C_P_STAT_QUEUED s.i2c.jobs.length).put Reg.I2C_P_STAT_BUSY s.i2c.run.isSome

/-- The checks of I2C_XFER (Table BXP-6). -/
def chkI2cXfer (m : Msg) (_ : State) : Option Nat := firstBad [chk (decide (m.u8 0 < 128)) 0, chk (decide (m.u8 1 < 2)) 1]

/-- Whether the transfer is ruled out for its sender (R493, R495): an address that the group does not own, a recovery that the
image does not permit. -/
def State.xferDenied (s : State) (m : Msg) : Bool :=
  if bit (m.u8 1) 0 then !s.flag Reg.I2C_P_CFG_RECOVERY_EN
  else if m.ep.val = 16 then false
  else
    let n : Nat := m.ep
    !(s.flag (Reg.I2C_P_OWN_VALID n) && decide (s.get (Reg.I2C_P_OWN_LO n) ≤ m.u8 0) && decide (m.u8 0 ≤ s.get (Reg.I2C_P_OWN_HI n)))

/-- Why a permitted transfer is refused at acceptance, if it is (R493, R494). -/
def State.xferRefused (s : State) : Option Nat :=
  if !s.live || !s.flag Reg.I2C_P_CFG_EN then some stWrongMode
  else if 8 ≤ s.i2c.jobs.length then some stBusy
  else none

/-- An accepted transfer waits (R494). -/
def State.xferQueue (s : State) (m : Msg) : State :=
  State.syncXfer { s with i2c := { s.i2c with jobs := s.i2c.jobs ++ [{ msg := m, clk := s.clk }] } }

/-- A slow boundary passes for accepted transfers: it is their EFFECT (R494, R513). -/
def State.xferBoundary (s : State) : State :=
  { s with i2c := { s.i2c with jobs := s.i2c.jobs.map (fun j => if j.effect.isNone && decide (j.clk < s.clk) then { j with effect := some s.ntime } else j) } }

/-- I2C_TRANSFER_START (R494): the next transfer's turn has come. -/
def execI2cTransferStart (s : State) : Out :=
  match s.i2c.run, s.i2c.jobs with
  | none, j :: r =>
    if s.i2cRuns 1 && j.effect.isSome then
      .next (State.syncXfer { s.i2cLines 1 false false with i2c := { s.i2c with jobs := r, run := some j } })
    else .next s
  | _, _ => .next s

/-- The transfer that a result ends: the running one, or the one whose turn has come while the bus was never free (BUS_BUSY); with
the state without it. A recovery ends RECOVERED or NOT_RECOVERED and a transfer in none of the two. -/
def State.xferTaken (s : State) (result : Nat) : Option (I2cJob × State) :=
  let fit := fun (j : I2cJob) => bit (j.msg.u8 1) 0 == (decide (result = 6) || decide (result = 7))
  match s.i2c.run, s.i2c.jobs with
  | some j, _ => if fit j && decide (result ≤ 7) then some (j, { s with i2c := { s.i2c with run := none } }) else none
  | none, j :: r => if fit j && j.effect.isSome && decide (result = 5) then some (j, { s with i2c := { s.i2c with jobs := r } }) else none
  | none, [] => none

/-- The lines of I2C-P as a result leaves them: a STOP leaves both high; SCL stays low after TIMEOUT, and the line that stopped a
recovery stays low after NOT_RECOVERED: SDA after 9 clocks, else SCL. -/
def State.xferLines (s : State) (result count : Nat) : State :=
  match result with
  | 3 | 5 => s
  | 4 => s.set Reg.I2C_P_STAT_SCL_LOW 1
  | 7 => s.i2cLines 1 (decide (count ≠ 9)) (decide (count = 9))
  | _ => s.i2cLines 1 false false

/-- A transfer or recovery ends (R490-R495, Table IIC-2): the state, its request and the response from byte 4. `losses` is how often
it lost arbitration. -/
def State.xferEnd (s : State) (result index count losses : Nat) (data : List Byte) : State × Option (Msg × List Byte) :=
  match s.xferTaken result with
  | none => (s, none)
  | some (j, s) =>
    let rec_ := bit (j.msg.u8 1) 0
    let retry := s.get Reg.I2C_P_CFG_ARB_RETRY
    let s := s.syncXfer.xferLines result count
    let s := if rec_ then s.inc Reg.I2C_P_RECOVERIES
      else s.addSat Reg.I2C_P_ARB_LOST (if result = 3 then retry + 1 else min losses retry)
    let s := if result = 1 ∨ result = 2 then s.inc Reg.I2C_P_NACKS else s
    let n := if rec_ then 0 else if result = 0 then j.msg.u8 3 else min data.length (j.msg.u8 3)
    (s, some (j.msg, leBytes 8 (j.effect.getD 0) ++ u8s [result, index, count, n] ++ padTo n data))

end Sys2Proof.Machine
end

