-- ==== Sys2Proof/Machine/ImgTable.lean ====
section
/-!
DEFINITION. ImgTable.lean: the fields that a register-list record of an image may set, with the range that each field's table or
chapter states (R92, R93, R544): those whose access is RW or whose reset column reads "image", without the derived fields of R15.
-/
namespace Sys2Proof.Machine

/-- A field that a record may set: base address, index strides, lowest bit, width, least and greatest value. -/
structure ImgRow where
  base : Nat
  dims : List (Nat × Nat)
  lo   : Nat
  width : Nat
  min  : Nat
  max  : Nat
  deriving DecidableEq, Repr

/-- Settable fields of block SYS. -/
def imgSYS : List ImgRow := [
  ⟨4, [], 4, 1, 0, 1⟩,
  ⟨0x28, [], 0, 32, 0, 0xffffffff⟩,
  ⟨0x2c, [], 0, 16, 0, 0xffff⟩,
  ⟨0x30, [], 1, 1, 0, 1⟩,
  ⟨0x40, [(4, 4)], 0, 6, 0, 0x3f⟩,
  ⟨0x40, [(4, 4)], 8, 2, 0, 3⟩,
  ⟨0x50, [], 0, 3, 0, 6⟩,
  ⟨0xb8, [(4, 2)], 0, 32, 0, 0xffffffff⟩,
  ⟨0x160, [(4, 8)], 0, 32, 0, 0xffffffff⟩,
  ⟨0x180, [], 16, 16, 0, 0xffff⟩,
  ⟨0x300, [], 0, 15, 0x7d0, 0x61a8⟩,
  ⟨0x300, [], 16, 5, 1, 0x10⟩,
  ⟨0x304, [], 0, 16, 0, 0xffff⟩]

/-- Settable fields of block GRP. -/
def imgGRP : List ImgRow := [
  ⟨0x10000, [(0x1000, 16)], 0, 32, 0, 0xffffffff⟩,
  ⟨0x10004, [(0x1000, 16)], 0, 32, 0, 0xffffffff⟩,
  ⟨0x10008, [(0x1000, 16)], 0, 16, 0, 0xffff⟩,
  ⟨0x1000c, [(0x1000, 16)], 0, 32, 0, 0xffffffff⟩,
  ⟨0x10010, [(0x1000, 16)], 0, 16, 0, 0xffff⟩,
  ⟨0x10014, [(0x1000, 16)], 0, 8, 0, 0xff⟩,
  ⟨0x10014, [(0x1000, 16)], 8, 8, 0, 0xff⟩,
  ⟨0x10014, [(0x1000, 16)], 16, 4, 0, 0xf⟩,
  ⟨0x10014, [(0x1000, 16)], 20, 4, 0, 0xf⟩,
  ⟨0x10020, [(0x1000, 16)], 0, 1, 0, 1⟩,
  ⟨0x10040, [(0x1000, 16)], 0, 1, 0, 1⟩,
  ⟨0x10104, [(0x1000, 16)], 0, 11, 0, 0x7d0⟩,
  ⟨0x10108, [(0x1000, 16)], 0, 32, 0, 0xffffffff⟩,
  ⟨0x10110, [(0x1000, 16)], 0, 32, 0, 0xffffffff⟩,
  ⟨0x10114, [(0x1000, 16)], 0, 32, 0, 0xffffffff⟩,
  ⟨0x10118, [(0x1000, 16)], 0, 32, 0, 0xffffffff⟩,
  ⟨0x1011c, [(0x1000, 16)], 0, 32, 0, 0xffffffff⟩,
  ⟨0x10150, [(0x1000, 16)], 0, 32, 0, 0xffffffff⟩,
  ⟨0x10154, [(0x1000, 16)], 0, 32, 0, 0xffffffff⟩]

/-- Settable fields of block POOL. -/
def imgPOOL : List ImgRow := [
  ⟨0xb0014, [], 0, 17, 0, 0x1ffff⟩,
  ⟨0xb0100, [(0x10, 16)], 0, 16, 0, 0xffff⟩]

/-- Settable fields of block CUR. -/
def imgCUR : List ImgRow := [
  ⟨0xe0000, [(0x200, 16)], 0, 2, 0, 2⟩,
  ⟨0xe0000, [(0x200, 16)], 2, 1, 0, 1⟩,
  ⟨0xe0000, [(0x200, 16)], 3, 1, 0, 1⟩,
  ⟨0xe0000, [(0x200, 16)], 4, 1, 0, 1⟩,
  ⟨0xe0000, [(0x200, 16)], 5, 2, 0, 2⟩,
  ⟨0xe0000, [(0x200, 16)], 8, 4, 0, 0xf⟩,
  ⟨0xe0000, [(0x200, 16)], 16, 7, 1, 0x40⟩,
  ⟨0xe0004, [(0x200, 16)], 0, 11, 0x14, 0x7d0⟩,
  ⟨0xe0004, [(0x200, 16)], 16, 13, 0x14, 0x1f40⟩,
  ⟨0xe0040, [(0x200, 16)], 0, 32, 0, 0xffffffff⟩,
  ⟨0xe0044, [(0x200, 16)], 0, 32, 0, 0xffffffff⟩,
  ⟨0xe0050, [(0x200, 16)], 0, 32, 0, 0xffffffff⟩,
  ⟨0xe0054, [(0x200, 16)], 0, 8, 1, 0xff⟩,
  ⟨0xe0058, [(0x200, 16)], 0, 32, 0, 0xffffffff⟩,
  ⟨0xe0060, [(0x200, 16)], 0, 20, 0, 0xf4240⟩,
  ⟨0xe0064, [(0x200, 16)], 0, 20, 0, 0xf4240⟩,
  ⟨0xe0068, [(0x200, 16)], 0, 20, 0, 0xf4240⟩,
  ⟨0xe0080, [(0x200, 16), (4, 7)], 0, 32, 0, 0xffffffff⟩,
  ⟨0xe009c, [(0x200, 16)], 0, 32, 0, 0x40000000⟩,
  ⟨0xe00a0, [(0x200, 16), (4, 3)], 0, 32, 0, 0xffffffff⟩,
  ⟨0xe00c0, [(0x200, 16), (4, 7)], 0, 32, 0, 0xffffffff⟩,
  ⟨0xe00dc, [(0x200, 16)], 0, 32, 0, 0x40000000⟩,
  ⟨0xe00e0, [(0x200, 16), (4, 3)], 0, 32, 0, 0xffffffff⟩,
  ⟨0xe0100, [(0x200, 16)], 0, 32, 0, 0xffffffff⟩,
  ⟨0xe0104, [(0x200, 16)], 0, 32, 0, 0xffffffff⟩,
  ⟨0xe0108, [(0x200, 16)], 0, 32, 0, 0xffffffff⟩,
  ⟨0xe010c, [(0x200, 16)], 0, 32, 0, 0xffffffff⟩,
  ⟨0xe0110, [(0x200, 16)], 0, 32, 0, 0xffffffff⟩,
  ⟨0xe0114, [(0x200, 16)], 0, 32, 0, 0xffffffff⟩,
  ⟨0xe0118, [(0x200, 16)], 0, 32, 0, 0xffffffff⟩,
  ⟨0xe011c, [(0x200, 16)], 0, 24, 0, 0xffffff⟩]

/-- Settable fields of block AXIS. -/
def imgAXIS : List ImgRow := [
  ⟨0x20100, [(0x400, 32)], 16, 16, 0, 0xffff⟩,
  ⟨0x20128, [(0x400, 32)], 0, 3, 1, 4⟩,
  ⟨0x20128, [(0x400, 32)], 8, 4, 1, 0xf⟩,
  ⟨0x20128, [(0x400, 32)], 16, 8, 4, 0x40⟩,
  ⟨0x2012c, [(0x400, 32)], 0, 16, 0, 0xffff⟩,
  ⟨0x20200, [(0x400, 32), (4, 32)], 0, 32, 0, 0xffffffff⟩,
  ⟨0x20280, [(0x400, 32), (4, 32)], 0, 32, 0, 0xffffffff⟩,
  ⟨0x20030, [(0x400, 32)], 0, 32, 0, 0xffffffff⟩,
  ⟨0x20034, [(0x400, 32)], 0, 32, 0, 0xffffffff⟩,
  ⟨0x20038, [(0x400, 32)], 0, 32, 0, 0xffffffff⟩,
  ⟨0x2003c, [(0x400, 32)], 0, 32, 0, 0xffffffff⟩,
  ⟨0x20040, [(0x400, 32)], 0, 1, 0, 1⟩,
  ⟨0x20040, [(0x400, 32)], 1, 1, 0, 1⟩,
  ⟨0x20048, [(0x400, 32)], 0, 32, 0, 0xffffffff⟩,
  ⟨0x2004c, [(0x400, 32)], 0, 32, 0, 0xffffffff⟩,
  ⟨0x20050, [(0x400, 32)], 0, 32, 0, 0xffffffff⟩,
  ⟨0x20054, [(0x400, 32)], 0, 32, 0, 0xffffffff⟩,
  ⟨0x20058, [(0x400, 32)], 0, 32, 0, 0xffffffff⟩,
  ⟨0x2005c, [(0x400, 32)], 0, 32, 0, 0xffffffff⟩,
  ⟨0x20060, [(0x400, 32)], 0, 32, 0, 0xffffffff⟩,
  ⟨0x20064, [(0x400, 32)], 0, 32, 0, 0xffffffff⟩,
  ⟨0x20068, [(0x400, 32)], 0, 32, 0, 0xffffffff⟩,
  ⟨0x2006c, [(0x400, 32)], 0, 32, 0, 0xffffffff⟩,
  ⟨0x20070, [(0x400, 32)], 0, 32, 0, 0xffffffff⟩,
  ⟨0x20074, [(0x400, 32)], 0, 32, 0, 0xffffffff⟩]

/-- Settable fields of block CLAVE. -/
def imgCLAVE : List ImgRow := [
  ⟨0x40000, [(0x400, 16)], 0, 3, 0, 5⟩,
  ⟨0x40000, [(0x400, 16)], 8, 5, 0, 0x1f⟩,
  ⟨0x40000, [(0x400, 16)], 16, 1, 0, 1⟩,
  ⟨0x40000, [(0x400, 16)], 17, 1, 0, 1⟩,
  ⟨0x40000, [(0x400, 16)], 18, 1, 0, 1⟩,
  ⟨0x40000, [(0x400, 16)], 24, 8, 1, 0xff⟩,
  ⟨0x40100, [(0x400, 16), (0x10, 8)], 0, 32, 0, 0xffffffff⟩,
  ⟨0x40104, [(0x400, 16), (0x10, 8)], 0, 32, 0, 0xffffffff⟩,
  ⟨0x40108, [(0x400, 16), (0x10, 8)], 0, 32, 0, 0xffffffff⟩]

/-- Settable fields of block SNARE. -/
def imgSNARE : List ImgRow := [
  ⟨0x50000, [(0x80, 32)], 0, 2, 0, 3⟩,
  ⟨0x50000, [(0x80, 32)], 4, 5, 0, 0x1f⟩,
  ⟨0x50000, [(0x80, 32)], 12, 2, 1, 3⟩,
  ⟨0x50004, [(0x80, 32)], 0, 16, 0, 0xffff⟩,
  ⟨0x50008, [(0x80, 32)], 0, 13, 1, 0x1000⟩]

/-- Settable fields of block FIELD. -/
def imgFIELD : List ImgRow := [
  ⟨0x78000, [(4, 8)], 0, 8, 0, 0xff⟩,
  ⟨0x78000, [(4, 8)], 8, 1, 0, 1⟩,
  ⟨0x78040, [(4, 8)], 0, 1, 0, 1⟩,
  ⟨0x78040, [(4, 8)], 1, 2, 0, 3⟩,
  ⟨0x70008, [], 0, 10, 1, 0x3e8⟩,
  ⟨0x70008, [], 16, 1, 0, 1⟩,
  ⟨0x7000c, [], 0, 8, 0, 0xff⟩,
  ⟨0x7000c, [], 8, 4, 0, 0xf⟩,
  ⟨0x70200, [(4, 32)], 0, 12, 1, 0xfff⟩,
  ⟨0x70200, [(4, 32)], 12, 1, 0, 1⟩,
  ⟨0x70400, [(4, 16)], 0, 1, 0, 1⟩,
  ⟨0x70440, [(4, 16)], 0, 2, 0, 2⟩,
  ⟨0x70440, [(4, 16)], 4, 2, 0, 2⟩,
  ⟨0x70440, [(4, 16)], 12, 17, 0x14, 0x186a0⟩,
  ⟨0x70600, [(0x10, 4)], 0, 1, 0, 1⟩,
  ⟨0x70700, [(0x20, 4)], 0, 2, 0, 2⟩,
  ⟨0x70700, [(0x20, 4)], 2, 1, 0, 1⟩,
  ⟨0x70700, [(0x20, 4)], 3, 1, 0, 1⟩,
  ⟨0x70700, [(0x20, 4)], 8, 3, 0, 7⟩]

/-- Settable fields of block FB. -/
def imgFB : List ImgRow := [
  ⟨0x60000, [(0x200, 16)], 0, 3, 0, 5⟩,
  ⟨0x60000, [(0x200, 16)], 3, 1, 0, 1⟩,
  ⟨0x60000, [(0x200, 16)], 4, 3, 0, 4⟩,
  ⟨0x60000, [(0x200, 16)], 8, 5, 0, 0x1f⟩,
  ⟨0x60000, [(0x200, 16)], 13, 1, 0, 1⟩,
  ⟨0x60000, [(0x200, 16)], 16, 5, 0, 0x18⟩,
  ⟨0x60004, [(0x200, 16)], 0, 3, 0, 7⟩,
  ⟨0x60004, [(0x200, 16)], 8, 8, 1, 0xff⟩,
  ⟨0x60004, [(0x200, 16)], 16, 8, 1, 0xff⟩,
  ⟨0x60004, [(0x200, 16)], 24, 4, 1, 0xf⟩,
  ⟨0x60020, [(0x200, 16)], 0, 32, 0, 0xffffffff⟩,
  ⟨0x60024, [(0x200, 16)], 0, 32, 1, 0xffffffff⟩,
  ⟨0x60028, [(0x200, 16)], 0, 32, 0, 0xffffffff⟩,
  ⟨0x6002c, [(0x200, 16)], 0, 32, 0, 0xffffffff⟩,
  ⟨0x60030, [(0x200, 16)], 0, 32, 1, 0xffffffff⟩,
  ⟨0x60080, [(0x200, 16)], 0, 16, 0, 0xffff⟩,
  ⟨0x60084, [(0x200, 16)], 0, 4, 2, 0xc⟩,
  ⟨0x60088, [(0x200, 16)], 0, 16, 0, 0xffff⟩,
  ⟨0x60088, [(0x200, 16)], 16, 16, 0, 0xffff⟩,
  ⟨0x6008c, [(0x200, 16)], 0, 32, 0, 0xffffffff⟩,
  ⟨0x60090, [(0x200, 16)], 0, 32, 0, 0xffffffff⟩,
  ⟨0x60094, [(0x200, 16)], 0, 32, 0, 0xffffffff⟩,
  ⟨0x60098, [(0x200, 16)], 0, 32, 0, 0xffffffff⟩,
  ⟨0x6009c, [(0x200, 16)], 0, 32, 0, 0xffffffff⟩,
  ⟨0x60100, [(0x200, 16)], 0, 7, 1, 0x40⟩,
  ⟨0x60100, [(0x200, 16)], 8, 7, 1, 0x40⟩,
  ⟨0x60100, [(0x200, 16)], 16, 6, 0, 0x3f⟩,
  ⟨0x60100, [(0x200, 16)], 24, 1, 0, 1⟩,
  ⟨0x60100, [(0x200, 16)], 25, 1, 0, 1⟩,
  ⟨0x60100, [(0x200, 16)], 26, 5, 0, 0x10⟩,
  ⟨0x60104, [(0x200, 16)], 0, 8, 0, 0xff⟩,
  ⟨0x60104, [(0x200, 16)], 8, 8, 0, 0xff⟩,
  ⟨0x60104, [(0x200, 16)], 16, 8, 0, 0xff⟩,
  ⟨0x60108, [(0x200, 16)], 0, 16, 0, 0xffff⟩,
  ⟨0x6010c, [(0x200, 16)], 0, 12, 0x14, 0x9c4⟩,
  ⟨0x6010c, [(0x200, 16)], 16, 4, 0, 0xf⟩,
  ⟨0x60110, [(0x200, 16)], 0, 16, 0, 0xffff⟩,
  ⟨0x60114, [(0x200, 16)], 0, 16, 0, 0xffff⟩,
  ⟨0x60118, [(0x200, 16)], 0, 32, 0, 0xffffffff⟩]

/-- Settable fields of block ECHO. -/
def imgECHO : List ImgRow := [
  ⟨0x68000, [(4, 4)], 0, 4, 0, 0xf⟩,
  ⟨0x68000, [(4, 4)], 4, 1, 0, 1⟩,
  ⟨0x68020, [(0x10, 4)], 0, 32, 0, 0xffffffff⟩,
  ⟨0x68024, [(0x10, 4)], 0, 32, 1, 0xffffffff⟩,
  ⟨0x68028, [(0x10, 4)], 0, 32, 0, 0xffffffff⟩]

/-- Settable fields of block ETH. -/
def imgETH : List ImgRow := [
  ⟨0x80000, [], 0, 32, 0, 0xffffffff⟩,
  ⟨0x80004, [], 0, 16, 0, 0xffff⟩,
  ⟨0x80008, [], 0, 32, 0, 0xffffffff⟩,
  ⟨0x8000c, [], 0, 12, 0, 0xfff⟩,
  ⟨0x8000c, [], 12, 3, 0, 7⟩,
  ⟨0x8000c, [], 16, 12, 0, 0xfff⟩,
  ⟨0x80014, [], 0, 1, 0, 1⟩,
  ⟨0x80100, [(0x40, 2)], 0, 1, 0, 1⟩,
  ⟨0x80100, [(0x40, 2)], 1, 1, 0, 1⟩,
  ⟨0x80200, [], 0, 2, 0, 3⟩,
  ⟨0x80200, [], 8, 8, 0, 0xff⟩,
  ⟨0x80200, [], 16, 8, 0, 0xff⟩,
  ⟨0x80200, [], 24, 8, 0, 0xff⟩,
  ⟨0x80204, [], 0, 8, 0, 0xff⟩,
  ⟨0x80204, [], 8, 8, 0, 0xff⟩,
  ⟨0x80204, [], 16, 8, 0, 0xff⟩,
  ⟨0x80208, [], 0, 32, 0, 0xffffffff⟩,
  ⟨0x8020c, [], 0, 32, 0, 0xffffffff⟩,
  ⟨0x80224, [], 0, 32, 0, 0xffffffff⟩,
  ⟨0x80300, [(0x40, 2)], 0, 2, 0, 2⟩,
  ⟨0x80304, [(0x40, 2)], 0, 8, 0, 0xff⟩,
  ⟨0x80308, [(0x40, 2)], 0, 32, 0, 0xffffffff⟩,
  ⟨0x8030c, [(0x40, 2)], 0, 32, 0, 0xffffffff⟩,
  ⟨0x80310, [(0x40, 2)], 0, 32, 0, 0xffffffff⟩,
  ⟨0x8032c, [(0x40, 2)], 0, 16, 0x3e8, 0xffff⟩,
  ⟨0x81400, [(0x10, 16)], 0, 32, 0, 0xffffffff⟩,
  ⟨0x81404, [(0x10, 16)], 0, 16, 0, 0xffff⟩,
  ⟨0x81404, [(0x10, 16)], 16, 2, 1, 2⟩,
  ⟨0x81408, [(0x10, 16)], 0, 32, 0, 0xffffffff⟩,
  ⟨0x80020, [(8, 4)], 0, 32, 0, 0xffffffff⟩,
  ⟨0x80024, [(8, 4)], 0, 2, 0, 3⟩]

/-- Settable fields of block CAN. -/
def imgCAN : List ImgRow := [
  ⟨0x90000, [(0x1000, 2)], 0, 1, 0, 1⟩,
  ⟨0x90004, [(0x1000, 2)], 0, 6, 1, 0x20⟩,
  ⟨0x90004, [(0x1000, 2)], 8, 9, 2, 0x100⟩,
  ⟨0x90004, [(0x1000, 2)], 24, 8, 1, 0x80⟩,
  ⟨0x90008, [(0x1000, 2)], 0, 6, 1, 0x20⟩,
  ⟨0x90008, [(0x1000, 2)], 8, 6, 1, 0x20⟩,
  ⟨0x90008, [(0x1000, 2)], 16, 5, 1, 0x10⟩,
  ⟨0x9000c, [(0x1000, 2)], 0, 8, 1, 0x80⟩,
  ⟨0x9000c, [(0x1000, 2)], 16, 5, 1, 0x10⟩,
  ⟨0x90010, [(0x1000, 2)], 0, 1, 0, 1⟩,
  ⟨0x90010, [(0x1000, 2)], 8, 7, 0, 0x7f⟩,
  ⟨0x90014, [(0x1000, 2)], 0, 1, 0, 1⟩,
  ⟨0x90014, [(0x1000, 2)], 1, 1, 0, 1⟩,
  ⟨0x90014, [(0x1000, 2)], 2, 1, 0, 1⟩,
  ⟨0x90014, [(0x1000, 2)], 3, 1, 0, 1⟩,
  ⟨0x90018, [(0x1000, 2)], 0, 29, 0, 0x1fffffff⟩,
  ⟨0x9001c, [(0x1000, 2)], 0, 2, 0, 2⟩,
  ⟨0x9001c, [(0x1000, 2)], 4, 2, 0, 2⟩,
  ⟨0x90300, [(0x1000, 2), (4, 20)], 0, 32, 0, 0xffffffff⟩,
  ⟨0x90400, [(0x1000, 2), (4, 32)], 0, 4, 0, 0xf⟩,
  ⟨0x90400, [(0x1000, 2), (4, 32)], 4, 2, 0, 3⟩,
  ⟨0x90400, [(0x1000, 2), (4, 32)], 7, 1, 0, 1⟩,
  ⟨0x90400, [(0x1000, 2), (4, 32)], 8, 4, 0, 0xf⟩,
  ⟨0x90400, [(0x1000, 2), (4, 32)], 12, 2, 0, 3⟩,
  ⟨0x90400, [(0x1000, 2), (4, 32)], 15, 1, 0, 1⟩,
  ⟨0x90400, [(0x1000, 2), (4, 32)], 16, 4, 0, 0xf⟩,
  ⟨0x90400, [(0x1000, 2), (4, 32)], 20, 2, 0, 3⟩,
  ⟨0x90400, [(0x1000, 2), (4, 32)], 23, 1, 0, 1⟩,
  ⟨0x90400, [(0x1000, 2), (4, 32)], 24, 4, 0, 0xf⟩,
  ⟨0x90400, [(0x1000, 2), (4, 32)], 28, 2, 0, 3⟩,
  ⟨0x90400, [(0x1000, 2), (4, 32)], 31, 1, 0, 1⟩]

/-- Settable fields of block I2C. -/
def imgI2C : List ImgRow := [
  ⟨0xa0000, [], 0, 7, 8, 0x77⟩,
  ⟨0xa0000, [], 8, 2, 0, 2⟩,
  ⟨0xa0000, [], 16, 8, 0, 0xff⟩,
  ⟨0xa0008, [], 0, 7, 1, 0x64⟩,
  ⟨0xa0008, [], 8, 7, 1, 0x64⟩,
  ⟨0xa0100, [], 0, 1, 0, 1⟩,
  ⟨0xa0100, [], 1, 2, 0, 2⟩,
  ⟨0xa0100, [], 4, 1, 0, 1⟩,
  ⟨0xa0100, [], 8, 3, 0, 7⟩,
  ⟨0xa0108, [], 0, 7, 1, 0x64⟩,
  ⟨0xa0108, [], 8, 7, 1, 0x64⟩,
  ⟨0xa0140, [(4, 16)], 0, 7, 0, 0x7f⟩,
  ⟨0xa0140, [(4, 16)], 8, 7, 0, 0x7f⟩,
  ⟨0xa0140, [(4, 16)], 15, 1, 0, 1⟩]

/-- Settable fields of block FAULT. -/
def imgFAULT : List ImgRow := [
  ⟨0xd0020, [], 0, 10, 0, 0x3e8⟩,
  ⟨0xd011c, [(0x40, 16)], 0, 16, 1, 0xea60⟩,
  ⟨0xd0124, [(0x40, 16)], 0, 4, 0, 4⟩,
  ⟨0xd0128, [(0x40, 16)], 0, 4, 3, 4⟩,
  ⟨0xd012c, [(0x40, 16)], 0, 4, 2, 4⟩,
  ⟨0xd0124, [(0x40, 16)], 4, 4, 0, 4⟩,
  ⟨0xd0128, [(0x40, 16)], 4, 4, 3, 4⟩,
  ⟨0xd012c, [(0x40, 16)], 4, 4, 1, 4⟩,
  ⟨0xd0120, [(0x40, 16)], 8, 4, 1, 4⟩,
  ⟨0xd0124, [(0x40, 16)], 8, 4, 0, 4⟩,
  ⟨0xd0128, [(0x40, 16)], 8, 4, 3, 4⟩,
  ⟨0xd012c, [(0x40, 16)], 8, 4, 3, 4⟩,
  ⟨0xd0120, [(0x40, 16)], 12, 4, 1, 4⟩,
  ⟨0xd0124, [(0x40, 16)], 12, 4, 2, 4⟩,
  ⟨0xd0128, [(0x40, 16)], 12, 4, 3, 4⟩,
  ⟨0xd0120, [(0x40, 16)], 16, 4, 1, 4⟩,
  ⟨0xd0124, [(0x40, 16)], 16, 4, 1, 4⟩,
  ⟨0xd0128, [(0x40, 16)], 16, 4, 3, 4⟩,
  ⟨0xd0120, [(0x40, 16)], 20, 4, 1, 4⟩,
  ⟨0xd0124, [(0x40, 16)], 20, 4, 1, 4⟩,
  ⟨0xd0128, [(0x40, 16)], 20, 4, 1, 4⟩,
  ⟨0xd0120, [(0x40, 16)], 24, 4, 1, 4⟩,
  ⟨0xd0124, [(0x40, 16)], 24, 4, 1, 4⟩,
  ⟨0xd0128, [(0x40, 16)], 24, 4, 0, 4⟩,
  ⟨0xd0120, [(0x40, 16)], 28, 4, 2, 4⟩,
  ⟨0xd0124, [(0x40, 16)], 28, 4, 3, 4⟩,
  ⟨0xd0128, [(0x40, 16)], 28, 4, 0, 4⟩,
  ⟨0xd0130, [(0x40, 16)], 4, 4, 2, 4⟩,
  ⟨0xd0130, [(0x40, 16)], 8, 4, 2, 4⟩,
  ⟨0xd0130, [(0x40, 16)], 12, 4, 2, 4⟩,
  ⟨0xd0130, [(0x40, 16)], 16, 4, 2, 4⟩,
  ⟨0xd0130, [(0x40, 16)], 20, 4, 2, 4⟩,
  ⟨0xd0800, [(8, 16)], 0, 2, 0, 2⟩,
  ⟨0xd0804, [(8, 16)], 0, 20, 0, 0xfffff⟩]

/-- Every settable field. -/
def imgRows : List ImgRow := imgSYS ++ imgGRP ++ imgPOOL ++ imgCUR ++ imgAXIS ++ imgCLAVE ++ imgSNARE ++ imgFIELD ++ imgFB ++ imgECHO ++ imgETH ++ imgCAN ++ imgI2C ++ imgFAULT

end Sys2Proof.Machine
end

