-- ==== Sys2Proof/Machine/RegWord.lean ====
section
/-!
DEFINITION. RegWord.lean: register words as the bus sees them: which fields a word address holds, and a word put together from
fields or set field by field (R8, R122, R123).
-/
namespace Sys2Proof.Machine

/-- What a register row has at word address `a`: nothing, its fields or the low word of its pair (false), the high word of its
pair (true). -/
def RegRow.at (r : RegRow) (a : Nat) : Option Bool :=
  if inDims r.dims r.base a then some false
  else if r.width = 64 && decide (4 ≤ a) && inDims r.dims r.base (a - 4) then some true
  else none

/-- The field of a row that word address `a` holds, and whether it is the high word of the pair. -/
def RegRow.fld (r : RegRow) (a : Nat) : Option (Fld × Bool) :=
  match r.at a with
  | none => none
  | some false => some (⟨a, r.lo, r.width⟩, false)
  | some true => some (⟨a - 4, 0, 64⟩, true)

/-- The fields that word address `a` holds, with their access types. -/
def fldsAt (a : Nat) : List (Fld × Bool × Access) :=
  (regRows a).filterMap (fun r => (r.fld a).map (fun q => (q.1, q.2, r.acc)))

/-- What a field contributes to its word. -/
def State.part (s : State) (f : Fld) (hi : Bool) : Nat :=
  if hi then s.get f / 2 ^ 32 else s.get f % 2 ^ 32 * 2 ^ f.lo

/-- The word at `a` as the fields stand. -/
def State.peekWord (s : State) (a : Nat) : Nat := ((fldsAt a).map (fun q => s.part q.1 q.2.1)).sum

/-- One field set from a word written at its address. -/
def State.pokeFld (s : State) (f : Fld) (hi : Bool) (v : Nat) : State :=
  if hi then s.set f (s.get f % 2 ^ 32 + v % 2 ^ 32 * 2 ^ 32)
  else if f.width = 64 then s.set f (s.get f / 2 ^ 32 * 2 ^ 32 + v % 2 ^ 32)
  else s.set f (v / 2 ^ f.lo)

/-- Every field of the word at `a` set, whatever its access type. -/
def State.pokeWord (s : State) (a v : Nat) : State := (fldsAt a).foldl (fun s q => s.pokeFld q.1 q.2.1 v) s

end Sys2Proof.Machine
end

