-- ==== Sys2Proof/Machine/Image.lean ====
section
/-!
DEFINITION. Image.lean: the Parruong image: header, section table, verification in the order of Table IMG-4, and the
content rules of every section kind (R86-R103, R106).
-/
namespace Sys2Proof.Machine

/-! ### Header and section table (R86, R89, Tables IMG-3 to IMG-5) -/

/-- A rejection: REJECT code, index of the failing section-table entry or 0xFF, and its TYPE (R106). -/
structure Rej where
  code : Nat
  idx  : Nat := 0xFF
  typ  : Nat := 0
  deriving DecidableEq, Repr

/-- A slot's detail word (R106). -/
def Rej.word (r : Rej) : Nat := r.code + r.idx * 256 + r.typ * 65536

/-- REJECT codes that are no rejection (Table IMG-4). -/
def rejAccepted : Rej := { code := 0 }
def rejNotExamined : Rej := { code := 1 }

/-- KEYHASH as bytes (R104). -/
def State.keyHash (s : State) : List Byte := ((List.range 8).map (fun i => leBytes 4 (s.get (Reg.SYS_KEYHASH i)))).flatten

/-- The image is SIGNED. -/
def imgSigned (l : List Byte) : Bool := bit (leAt l 26 2) 0

/-- The header checks of Table IMG-4, in order. -/
def State.headReject (s : State) (h : List Byte) : Option Rej :=
  if leAt h 0 4 ≠ 0x4D495653 then some { code := 0x02 }
  else if leAt h 4 2 ≠ 1 ∨ leAt h 6 2 ≠ 256 ∨ leAt h 12 4 = 0 ∨ leAt h 12 4 = 0xFFFFFFFF ∨ leAt h 24 2 = 0 ∨ 64 < leAt h 24 2
      ∨ 1 < leAt h 26 2 ∨ leAt h 28 4 ≠ 256 ∨ leAt h 100 156 ≠ 0 then some { code := 0x03 }
  else if leAt h 8 4 % 4 ≠ 0 ∨ leAt h 8 4 < 292 ∨ 16777216 < leAt h 8 4 then some { code := 0x04 }
  else if s.flag Reg.SYS_KEYHASH_STAT_PROGRAMMED && !imgSigned h then some { code := 0x08 }
  else none

/-- A section-table entry (Table IMG-5). -/
structure Sect where
  typ   : Nat
  flags : Nat
  off   : Nat
  size  : Nat
  crc   : Nat
  ver   : Nat
  res   : Nat
  deriving DecidableEq, Repr

/-- The entries of an image. -/
def sectsOf (l : List Byte) : List Sect :=
  (List.range (leAt l 24 2)).map (fun i =>
    let e := slice l (256 + 32 * i) 32
    { typ := leAt e 0 2, flags := leAt e 2 2, off := leAt e 4 4, size := leAt e 8 4, crc := leAt e 12 4, ver := leAt e 16 2, res := leAt e 18 14 })

/-- The data of a section. -/
def sectData (l : List Byte) (e : Sect) : List Byte := (l.drop e.off).take e.size

/-- SIG. -/
def typSig : Nat := 0xF0

/-- Types that Table IMG-6 lists. -/
def knownType (t : Nat) : Bool :=
  [0x01, 0x02, 0x03, 0x04, 0x20, 0x30, 0x40, 0x50, 0x60, 0x70, 0x80, 0x90, 0xF0].contains t || (decide (0x10 ≤ t) && decide (t ≤ 0x1F))

/-- A rejection by entry `i`. -/
def rejAt (code i : Nat) (e : Sect) : Rej := { code := code, idx := i, typ := e.typ }

/-- The first entry that fails a check; the check sees the entry's index and the end of the section before it. -/
def firstSect (f : Nat → Nat → Sect → Bool) (code : Nat) : Nat → Nat → List Sect → Option Rej
  | _, _, [] => none
  | i, e, s :: r => if f i e s then firstSect f code (i + 1) (s.off + s.size) r else some (rejAt code i s)

/-- The section-table check of Table IMG-4. A section of SIZE 0 and the next one may share an OFFSET: whether offsets that ascend must
differ the spec does not say (DESIGN CHOICE, log 114). -/
def tableReject (l : List Byte) (t : List Sect) : Option Rej :=
  let n := t.length
  let ok := fun (i e : Nat) (s : Sect) =>
    decide (256 + 32 * n ≤ s.off) && decide (e ≤ s.off) && decide (s.off + s.size + 4 ≤ l.length) && decide (s.off % 16 = 0)
      && decide (s.res = 0) && decide (s.flags ≤ 1)
      && (if s.typ = typSig then imgSigned l && decide (i + 1 = n) && decide (s.size = 96) && decide (s.crc = 0) else true)
  match firstSect ok 0x05 0 0 t with
  | some r => some r
  | none => if imgSigned l && !t.any (fun s => decide (s.typ = typSig)) then some { code := 0x05 } else none

/-- The index of the first entry whose type an earlier entry has. -/
def dupSect (t : List Sect) : Option Nat :=
  (List.range t.length).find? (fun i => match t[i]? with
    | some e => (t.take i).any (fun f => decide (f.typ = e.typ))
    | none => false)

/-- The body checks of Table IMG-4 before the content rules, in order. KEY_MISMATCH and BAD_SIGNATURE name the SIG entry: whether they
concern a single entry the spec does not say (DESIGN CHOICE, log 114). -/
def State.bodyReject (s : State) (l : List Byte) : Option Rej :=
  let t := sectsOf l
  let prog := s.flag Reg.SYS_KEYHASH_STAT_PROGRAMMED
  let sig := (t.find? (fun e => decide (e.typ = typSig))).getD ⟨0, 0, 0, 0, 0, 0, 0⟩
  let key := (sectData l sig).take 32
  let first := fun (code : Nat) (f : Sect → Bool) => firstSect (fun _ _ e => f e) code 0 0 t
  let sigRej := fun (code : Nat) => some (rejAt code (t.length - 1) sig)
  match tableReject l t with
  | some r => some r
  | none =>
  match first 0x0F (fun e => !knownType e.typ || decide (e.ver = 1)) with
  | some r => some r
  | none =>
  match first 0x06 (fun e => decide (e.typ = typSig) || decide (crc32c (sectData l e) = e.crc)) with
  | some r => some r
  | none =>
  if crc32c (l.take (l.length - 4)) ≠ leAt l (l.length - 4) 4 then some { code := 0x07 }
  else if prog && decide (sha256 key ≠ s.keyHash) then sigRej 0x09
  else if prog && !ed25519Valid key ((sectData l sig).drop 32) (l.take sig.off) then sigRej 0x0A
  else if !(t.any (fun e => decide (e.typ = 0x01)) && t.any (fun e => decide (e.typ = 0x20))) then some { code := 0x0B }
  else
    match dupSect t with
    | some i => some (rejAt 0x0C i (t.getD i sig))
    | none => first 0x0D (fun e => knownType e.typ || !bit e.flags 0)

/-! ### Register-list sections (R91-R95) -/

/-- The records of a register list: address and value. -/
def recordsOf : Nat → List Byte → List (Nat × Nat)
  | 0, _ => []
  | n + 1, l => if l.length < 8 then [] else (leAt l 0 4, leAt l 4 4) :: recordsOf n (l.drop 8)

/-- Whether a section is a register list. -/
def isList (t : Nat) : Bool := knownType t && !([0x20, 0x40, 0x50, 0x60, 0xF0] : List Nat).contains t

/-- `lo ≤ a < hi`. -/
def within (a lo hi : Nat) : Bool := decide (lo ≤ a) && decide (a < hi)

/-- The coefficient windows of AXIS[x] and CUR[x]: the write window and the active view (Tables LOP-6, LOP-7). -/
def isCoef (a : Nat) : Bool :=
  (within a 0x20000 0x28000 && decide (0x200 ≤ a % 0x400) && decide (a % 0x400 < 0x300))
    || (within a 0xE0000 0xE2000 && decide (0x80 ≤ a % 0x200) && decide (a % 0x200 < 0x100))

/-- Whether a section of type `t` may set a register at `a` (Table IMG-6). A SYS section may set every RW field of SYS, those that the
table's list does not name included (KEYHASH_STAGE, KEYHASH_CMD, RTC_SET, BKREG14 and 15): the spec leaves it open (DESIGN CHOICE, log
114). Units of a GROUP section are those it has assigned so
far (R94). -/
def State.maySet (s : State) (t a : Nat) : Bool :=
  let n := t - 0x10
  if t = 0x01 then within a 0 0x1000 || decide (a = 0xB0014) || decide (a = 0xD0020)
  else if t = 0x02 then within a 0x80000 0x90000
  else if t = 0x03 then within a 0x90000 0x92000
  else if t = 0x04 then within a 0xA0000 0xA1000
  else if t = 0x30 then isCoef a
  else if t = 0x70 then within a 0x70000 0x80000
  else if t = 0x80 then within a 0x60000 0x62000 || within a 0x68000 0x68100
  else if t = 0x90 then within a 0x40000 0x44000
  else
    within a (0x10000 + 0x1000 * n) (0x11000 + 0x1000 * n) || decide (a = 0xB0100 + 0x10 * n)
      || within a (0xD0100 + 0x40 * n) (0xD0140 + 0x40 * n)
      || (within a 0x20000 0x28000 && bit (s.get (Reg.GRP_OWN_AXES n)) ((a - 0x20000) / 0x400))
      || (within a 0xE0000 0xE2000 && bit (s.get (Reg.GRP_OWN_AXES n)) ((a - 0xE0000) / 0x200))
      || (within a 0xD0800 0xD0880 && bit (s.get (Reg.GRP_OWN_AXES n)) ((a - 0xD0800) / 8))
      || (within a 0x50000 0x51000 && bit (s.get (Reg.GRP_OWN_SNARE n)) ((a - 0x50000) / 0x80))

/-- The settable fields at address `a`. -/
def imgAt (a : Nat) : List ImgRow := imgRows.filter (fun r => inDims r.dims r.base a)

/-- Whether a value fits the settable fields of its address (R93). -/
def fitsImg (a v : Nat) : Bool :=
  let l := imgAt a
  let left := l.foldl (fun v r => setBits v r.lo r.width 0) v
  decide (a % 4 = 0) && !l.isEmpty && decide (left = 0)
    && l.all (fun r => decide (r.min ≤ bits v r.lo r.width) && decide (bits v r.lo r.width ≤ r.max))

/-- Ownership fields of GRP[n] (Table GRP-7). -/
def ownFlds (n : Nat) : List Fld :=
  [Reg.GRP_OWN_AXES n, Reg.GRP_OWN_SNARE n, Reg.GRP_OWN_FB n, Reg.GRP_OWN_DI n, Reg.GRP_OWN_DO n, Reg.GRP_OWN_IO_HI n, Reg.GRP_OWN_IO_HO n,
   Reg.GRP_OWN_IO_AI n, Reg.GRP_OWN_IO_PU n]

/-- How many of the low `k` bits of `n` are set. -/
def onesIn : Nat → Nat → Nat
  | 0, _ => 0
  | k + 1, n => n % 2 + onesIn k (n / 2)

/-- No unit of group `n` is one that another section has assigned already (R21, R94), and the group has at most 8 axes (R20). Groups
whose sections come later have nothing assigned yet. -/
def State.ownOk (s : State) (n : Nat) : Bool :=
  decide (onesIn 32 (s.get (Reg.GRP_OWN_AXES n)) ≤ 8) &&
  (List.range 16).all (fun m => decide (m = n) || (List.zip (ownFlds n) (ownFlds m)).all (fun p => decide (s.get p.1 &&& s.get p.2 = 0)))

/-- A record applied; a coefficient goes into the write window and the active view alike (R95). -/
def State.putRecord (s : State) (a v : Nat) : State :=
  let s := s.pokeWord a v
  if isCoef a then
    if within a 0x20000 0x28000 then (s.pokeWord (a - a % 0x100 + a % 0x80) v).pokeWord (a - a % 0x100 + a % 0x80 + 0x80) v
    else s.pokeWord (if a % 0x80 < 0x40 then a + 0x40 else a - 0x40) v
  else s

/-- The records of one section checked and applied in order (R92, R93); none where one of them breaks a rule. -/
def State.applyList (s : State) (t : Nat) : List (Nat × Nat) → Option State
  | [] => some s
  | (a, v) :: r =>
    if s.maySet t a && fitsImg a v then
      let s := s.putRecord a v
      if within t 0x10 0x20 && within (a % 0x1000) 0 0x18 && within a 0x10000 0x20000 && !s.ownOk (t - 0x10) then none
      else s.applyList t r
    else none

/-! ### LECODE, CAM, GATE and FILT (R96-R100) -/

/-- A group block of LECODE (Table IMG-7). -/
structure LeBlk where
  group  : Nat
  fast   : Nat
  slow   : Nat
  event  : Nat
  base   : Nat
  len    : Nat
  margin : Nat
  pm     : List Byte
  dm     : List Byte
  deriving DecidableEq, Repr

/-- The group blocks, `n` of them; none where one breaks a rule or they do not fill the section. -/
def leBlks : Nat → List Byte → Option (List LeBlk)
  | 0, l => if l = [] then some [] else none
  | n + 1, l =>
    let pl := leAt l 4 4
    let dl := leAt l 8 4
    let entry := fun (v : Nat) => decide (v ≤ 8191) || decide (v = 0xFFFF)
    if 32 ≤ l.length ∧ byteAt l 0 ≤ 15 ∧ byteAt l 1 ≤ 1 ∧ leAt l 2 2 = 0 ∧ leAt l 24 8 = 0 ∧ pl % 4 = 0 ∧ 4 ≤ pl ∧ pl ≤ 32768
        ∧ dl % 4 = 0 ∧ dl ≤ 32768 ∧ 32 + pl + dl ≤ l.length ∧ entry (leAt l 12 2) ∧ leAt l 14 2 ≤ 8191 ∧ entry (leAt l 16 2)
        ∧ leAt l 18 2 % 4 = 0 ∧ leAt l 20 2 % 4 = 0 ∧ leAt l 20 2 ≤ 2048 ∧ leAt l 18 2 + leAt l 20 2 ≤ 0x8000 then
      (leBlks n (l.drop (32 + pl + dl))).map (fun r =>
        { group := byteAt l 0, fast := leAt l 12 2, slow := leAt l 14 2, event := leAt l 16 2, base := leAt l 18 2, len := leAt l 20 2,
          margin := leAt l 22 2, pm := (l.drop 32).take pl, dm := (l.drop (32 + pl)).take dl } :: r)
    else none

/-- Whether some entry of a list stands twice. -/
def twice : List Nat → Bool
  | [] => false
  | a :: r => r.contains a || twice r

/-- LECODE: fetch modes of LE0-LE16 and the group blocks. -/
def leCode (l : List Byte) : Option (List Nat × List LeBlk) :=
  let modes := (List.range 17).map (fun i => byteAt l i)
  if 20 ≤ l.length ∧ modes.all (fun m => decide (m ≤ 1)) ∧ byteAt l 17 ≤ 16 ∧ leAt l 18 2 = 0 then
    match leBlks (byteAt l 17) (l.drop 20) with
    | some b => if twice (b.map LeBlk.group) then none else some (modes, b)
    | none => none
  else none

/-- CAM blocks: offset into the area and bytes (R98). -/
def camBlks : Nat → List Byte → Option (List (Nat × List Byte))
  | 0, _ => none
  | n + 1, l =>
    if l = [] then some []
    else
      let o := leAt l 0 4
      let k := leAt l 4 4
      if 8 + k ≤ l.length ∧ o % 64 = 0 ∧ k % 4 = 0 ∧ o + k ≤ 0x6000000 then
        (camBlks n (l.drop (8 + k))).map (fun r => (o, (l.drop 8).take k) :: r)
      else none

/-- A GATE block (R99). -/
structure GateBlk where
  port  : Nat
  count : Nat
  cycle : Nat
  base  : Nat
  list  : List Byte
  deriving DecidableEq, Repr

/-- GATE blocks (R99). -/
def gateBlks : Nat → List Byte → Option (List GateBlk)
  | 0, _ => none
  | n + 1, l =>
    if l = [] then some []
    else
      let c := byteAt l 1
      let e := (l.drop 16).take (8 * c)
      let iv := (List.range c).map (fun i => leAt e (8 * i + 4) 4)
      if 16 + 8 * c ≤ l.length ∧ (byteAt l 0 = 1 ∨ byteAt l 0 = 2) ∧ 1 ≤ c ∧ c ≤ 128 ∧ leAt l 2 2 = 0 ∧ 10000 ≤ leAt l 4 4
          ∧ leAt l 4 4 ≤ 1000000000 ∧ (List.range c).all (fun i => decide (leAt e (8 * i + 1) 3 = 0)) ∧ iv.all (fun v => decide (1 ≤ v))
          ∧ iv.sum = leAt l 4 4 then
        match gateBlks n (l.drop (16 + 8 * c)) with
        | some r => if r.any (fun g => decide (g.port + 1 = byteAt l 0)) then none
                    else some ({ port := byteAt l 0 - 1, count := c, cycle := leAt l 4 4, base := leAt l 8 8, list := e } :: r)
        | none => none
      else none

/-- FILT blocks: where their elements go in shared SRAM, and the elements (R100, R458). Elements of stream filters and meters are taken
unchecked: whether their reserved bytes or values reject the slot the spec does not say (DESIGN CHOICE, log 114). -/
def filtBlks : Nat → List Byte → Option (List (Nat × List Byte))
  | 0, _ => none
  | n + 1, l =>
    if l = [] then some []
    else
      let k := byteAt l 0
      let i := byteAt l 1
      let c := leAt l 2 2
      let w := if k = 1 then 8 else 16
      let e := (l.drop 8).take (w * c)
      let dst := if k = 1 then 0x20120000 + i * 0x400 else if k = 2 then 0x20122000 else 0x20122800
      if 8 + w * c ≤ l.length ∧ 1 ≤ k ∧ k ≤ 3 ∧ i ≤ (if k = 1 then 1 else 0) ∧ c ≤ (if k = 3 then 64 else 128) ∧ leAt l 4 4 = 0
          ∧ (k ≠ 1 ∨ (List.range c).all (fun j => !(CanElem.ofBytes (slice e (8 * j) 8)).bad)) then
        (filtBlks n (l.drop (8 + w * c))).map (fun r => (dst, e) :: r)
      else none

/-- What the sections of an image say, once each has passed its own rules. -/
structure Content where
  s     : State
  modes : List Nat := []
  code  : List LeBlk := []
  cam   : List (Nat × List Byte) := []
  gate  : List GateBlk := []
  filt  : List (Nat × List Byte) := []

/-- One section's own content rules; none where one is broken. -/
def Content.section_ (c : Content) (l : List Byte) (e : Sect) : Option Content :=
  let d := sectData l e
  if isList e.typ then
    if d.length % 8 = 0 then (c.s.applyList e.typ (recordsOf (d.length / 8) d)).map (fun s => { c with s := s }) else none
  else if e.typ = 0x20 then (leCode d).map (fun q => { c with modes := q.1, code := q.2 })
  else if e.typ = 0x40 then (camBlks (d.length + 1) d).map (fun q => { c with cam := q })
  else if e.typ = 0x50 then (gateBlks (d.length + 1) d).map (fun q => { c with gate := q })
  else if e.typ = 0x60 then (filtBlks (d.length + 1) d).map (fun q => { c with filt := q })
  else some c

/-- The sections in ascending index; the first that breaks a rule. -/
def Content.sections (c : Content) (l : List Byte) : Nat → List Sect → Content ⊕ Rej
  | _, [] => .inl c
  | i, e :: r =>
    match c.section_ l e with
    | some c => c.sections l (i + 1) r
    | none => .inr (rejAt 0x0E i e)

/-! ### Rules over several sections (R106) -/

/-- A rule that joins values of several sections, for each of `units` units: broken for a unit when `bad` says so; it takes into account
the registers of `reg` and the sections of types `typs` (R106). -/
structure JointRule where
  units : Nat
  bad   : Content → Nat → Bool
  reg   : Content → Nat → Nat → Bool
  typs  : List Nat := []

/-- Word `o` of block `GRP[n]`, of `CUR[x]`, of `FB[p]`, of `CLAVE[n]`, of `SNARE[u]`; the tick rates. -/
def grpWord (n o : Nat) : Nat := 0x10000 + 0x1000 * n + o
def curWord (x o : Nat) : Nat := 0xE0000 + 0x200 * x + o
def fbWord (p o : Nat) : Nat := 0x60000 + 0x200 * p + o
def claveWord (n o : Nat) : Nat := 0x40000 + 0x400 * n + o
def snareWord (u o : Nat) : Nat := 0x50000 + 0x80 * u + o
def tickCfg : Nat := 0x300

/-- The ownership words of a group (Table GRP-7): axes, latch units, ports, DI, DO, and the four kinds of IO. -/
def ownAxesAt (n : Nat) : Nat := grpWord n 0
def ownFbAt (n : Nat) : Nat := grpWord n 8
def ownDiAt (n : Nat) : Nat := grpWord n 0xC
def ownIoAt (n : Nat) : Nat := grpWord n 0x14

/-- The bit rate is `80e6 / (brp * tq)`; whether it lies between two rates (Table CAN-1). -/
def rateIn (brp tq lo hi : Nat) : Bool := decide (lo * (brp * tq) ≤ 80000000) && decide (80000000 ≤ hi * (brp * tq))

/-- The bit timing of a channel is broken (R451); a channel that is not enabled and has no timing set is not judged. -/
def State.canTimingBad (s : State) (c : Nat) : Bool :=
  let nb := s.get (Reg.CAN_NBT_BRP c)
  let nq := 1 + s.get (Reg.CAN_NBT_TSEG1 c) + s.get (Reg.CAN_NBT_TSEG2 c)
  let db := s.get (Reg.CAN_DBT_BRP c)
  let dq := 1 + s.get (Reg.CAN_DBT_TSEG1 c) + s.get (Reg.CAN_DBT_TSEG2 c)
  let nom := s.flag (Reg.CAN_CTL c) || decide (nb ≠ 0)
  let dat := (s.flag (Reg.CAN_CTL c) && s.flag (Reg.CAN_FMT_FD c)) || decide (db ≠ 0)
  (nom && (!rateIn nb nq 125000 1000000 || decide (s.get (Reg.CAN_NBT_TSEG2 c) < s.get (Reg.CAN_SJW_NSJW c)) || decide (s.get (Reg.CAN_SJW_NSJW c) = 0)))
    || (dat && (!rateIn db dq 500000 8000000 || decide (nb * nq < db * dq) || decide (s.get (Reg.CAN_DBT_TSEG2 c) < s.get (Reg.CAN_SJW_DSJW c))
      || decide (s.get (Reg.CAN_SJW_DSJW c) = 0)))

/-- A commutation source that R253 forbids. -/
def State.angleBad (s : State) (x n : Nat) : Bool :=
  let p := s.get (Reg.CUR_CFG_ANG_FB x)
  let t := s.get (Reg.FB_CFG_TYPE p)
  match s.get (Reg.CUR_CFG_ANG_SRC x) with
  | 0 => decide (s.fbGroup p ≠ some n) || decide (t = 0) || decide (t = 3)
  | 1 => decide (s.fbGroup p ≠ some n) || decide (t ≠ 3)
  | _ => false

/-- A Clave source outside its group's window (R321). -/
def State.claveSrcBad (s : State) (n : Nat) : Bool :=
  let i := s.get (Reg.CLAVE_CFG_IDX n)
  match s.get (Reg.CLAVE_CFG_SRC n) with
  | 1 => decide (s.axisGroup i ≠ some n)
  | 2 => decide (s.axisGroup i ≠ some n)
  | 3 => decide (15 < i) || decide (s.fbGroup i ≠ some n)
  | 4 => decide (3 < i) || decide (s.puGroup i ≠ some n)
  | _ => false

/-- A latch source outside the unit's group window (R346). -/
def State.snareSrcBad (s : State) (u : Nat) : Bool :=
  match s.snareGroup u with
  | none => false
  | some n =>
    let i := s.get (Reg.SNARE_CFG_SEL u)
    match s.get (Reg.SNARE_CFG_KIND u) with
    | 0 => decide (7 < i) || decide (s.hiGroup i ≠ some n)
    | 1 => decide (15 < i) || decide (s.fbGroup i ≠ some n)
    | 2 => decide (i ≠ 0)
    | _ => decide (s.diGroup i ≠ some n)

/-- A port's service of an axis that R362 forbids. -/
def State.portAxisBad (s : State) (p : Nat) : Bool :=
  s.flag (Reg.FB_CFG_POS_EN p) &&
    (decide (s.fbGroup p ≠ s.axisGroup (s.get (Reg.FB_CFG_POS_AXIS p)))
      || (List.range p).any (fun q => s.flag (Reg.FB_CFG_POS_EN q) && decide (s.get (Reg.FB_CFG_POS_AXIS q) = s.get (Reg.FB_CFG_POS_AXIS p))))

/-- The local axis `x`, with its group, for which a rule about its cell is judged: an inert axis is not. -/
def State.withGroup (s : State) (x : Nat) (f : Nat → Bool) : Bool := match s.axisGroup x with | some n => f n | none => false

/-- The ownership word of a group, if there is one, is `a`. -/
def ownWordIs (g : Option Nat) (f : Nat → Nat) (a : Nat) : Bool := match g with | some n => decide (a = f n) | none => false

/-- Path axes that R299 forbids: more than six, or one that the group does not own. -/
def State.pathAxesBad (s : State) (n : Nat) : Bool :=
  let m := s.get (Reg.GRP_PATH_AXES n)
  decide (6 < onesIn 32 m) || decide (m &&& s.get (Reg.GRP_OWN_AXES n) ≠ m)

/-- The joint rules, in the order of their rule numbers. -/
def jointRules : List JointRule := [
  -- R140: the floors sum to at most 32768
  { units := 1, bad := fun c _ => decide (32768 < ((List.range 16).map (fun n => c.s.get (Reg.POOL_GRP_FLOOR n))).sum)
    reg := fun _ _ a => within a 0xB0100 0xB0200 },
  -- R152: ranges that fix each other
  { units := 1, bad := fun c _ =>
      let f := c.s.get Reg.SYS_TICK_CFG_FAST_CLK
      let p := c.s.get Reg.SYS_TICK_PHASE
      decide (f % 2 ≠ 0) || decide (p % 5 ≠ 0) || decide (5 * f < 2 * p + 10)
    reg := fun _ _ a => decide (a = tickCfg) || decide (a = tickCfg + 4) },
  -- R97: a group with axes has code
  { units := 16, bad := fun c n => decide (c.s.get (Reg.GRP_OWN_AXES n) ≠ 0) && !c.code.any (fun b => decide (b.group = n))
    reg := fun _ n a => decide (a = ownAxesAt n), typs := [0x20] },
  -- R158: a deadline leaves 512 clocks
  { units := 1, bad := fun c _ => c.code.any (fun b => decide (c.s.get Reg.SYS_TICK_CFG_FAST_CLK < 576 + b.margin))
    reg := fun _ _ a => decide (a = tickCfg), typs := [0x20] },
  -- R178: takeover needs 2400 clocks
  { units := 16, bad := fun c n => c.s.flag (Reg.GRP_ENG_CFG_TAKEOVER n) && decide (c.s.slowClk < 2400)
    reg := fun _ n a => decide (a = tickCfg) || decide (a = grpWord n 0x20) }] ++ [
  -- R249: the centred window ends in time
  { units := 16, bad := fun c x => c.s.withGroup x (fun _ => decide (c.s.get (Reg.CUR_CFG_MEAS_ALIGN x) = 0)
      && decide (c.s.get Reg.SYS_TICK_CFG_FAST_CLK < 30 * (64 * 2 ^ c.s.get (Reg.CUR_CFG_OSR x)) + 224))
    reg := fun c x a => decide (a = tickCfg) || decide (a = curWord x 0) || ownWordIs (c.s.axisGroup x) ownAxesAt a },
  -- R253: commutation sources
  { units := 16, bad := fun c x => c.s.withGroup x (c.s.angleBad x)
    reg := fun c x a => decide (a = curWord x 0) || decide (a = fbWord (c.s.get (Reg.CUR_CFG_ANG_FB x)) 0)
      || ownWordIs (c.s.axisGroup x) ownAxesAt a || ownWordIs (c.s.axisGroup x) ownFbAt a },
  -- DMIN lies between DT and 4 DT (Table LOP-6)
  { units := 16, bad := fun c x =>
      decide (c.s.get (Reg.CUR_DEADTIME_DMIN x) < c.s.get (Reg.CUR_DEADTIME_DT x)) || decide (4 * c.s.get (Reg.CUR_DEADTIME_DT x) < c.s.get (Reg.CUR_DEADTIME_DMIN x))
    reg := fun _ x a => decide (a = curWord x 4) },
  -- Hall sectors (Table LOP-6)
  { units := 16, bad := fun c x => (List.range 6).any (fun i => decide (5 < bits (c.s.get (Reg.CUR_HALL_MAP x)) (3 * (i + 1)) 3))
    reg := fun _ x a => decide (a = curWord x 0x11C) },
  -- R299: at most six path axes, all of the group
  { units := 16, bad := fun c n => c.s.pathAxesBad n
    reg := fun _ n a => decide (a = grpWord n 0x108) || decide (a = ownAxesAt n) },
  -- R321, R346
  { units := 16, bad := fun c n => c.s.claveSrcBad n
    reg := fun c n a => decide (a = claveWord n 0) || (match c.s.get (Reg.CLAVE_CFG_SRC n) with
      | 1 => decide (a = ownAxesAt n)
      | 2 => decide (a = ownAxesAt n)
      | 3 => decide (a = ownFbAt n)
      | 4 => decide (a = ownIoAt n)
      | _ => false) },
  { units := 32, bad := fun c u => c.s.snareSrcBad u
    reg := fun c u a => decide (a = snareWord u 0) || ownWordIs (c.s.snareGroup u) (fun n => match c.s.get (Reg.SNARE_CFG_KIND u) with
      | 0 => ownIoAt n
      | 1 => ownFbAt n
      | 2 => grpWord n 4
      | _ => ownDiAt n) a }] ++ [
  -- Table FBK-2: SSI has 8-32 data bits
  { units := 16, bad := fun c p => decide (c.s.get (Reg.FB_CFG_TYPE p) = 5)
      && (decide (c.s.get (Reg.FB_SER_CFG_DATA_BITS p) < 8) || decide (32 < c.s.get (Reg.FB_SER_CFG_DATA_BITS p)))
    reg := fun _ p a => decide (a = fbWord p 0) || decide (a = fbWord p 0x100) },
  -- R362
  { units := 16, bad := fun c p => c.s.portAxisBad p
    reg := fun c p a => decide (a = fbWord p 0) || ownWordIs (c.s.fbGroup p) ownFbAt a
      || ownWordIs (c.s.axisGroup (c.s.get (Reg.FB_CFG_POS_AXIS p))) ownAxesAt a
      || (List.range p).any (fun q => decide (c.s.get (Reg.FB_CFG_POS_AXIS q) = c.s.get (Reg.FB_CFG_POS_AXIS p))
        && c.s.flag (Reg.FB_CFG_POS_EN q) && decide (a = fbWord q 0)) },
  -- R372
  { units := 16, bad := fun c p => decide (c.s.get Reg.SYS_TICK_CFG_FAST_CLK * c.s.readDiv p
      < c.s.get (Reg.FB_LEAD p) + c.s.get (Reg.FB_RECOVERY p))
    reg := fun _ p a => decide (a = tickCfg) || (decide (fbWord p 0x10C ≤ a) && decide (a < fbWord p 0x118)) },
  -- R399: a quad excludes its pairs
  { units := 4, bad := fun c k => bit (c.s.get Reg.FIELD_PAR_QUAD) k
      && (bit (c.s.get Reg.FIELD_PAR_PAIR) (2 * k) || bit (c.s.get Reg.FIELD_PAR_PAIR) (2 * k + 1)), reg := fun _ _ a => decide (a = 0x7000C) },
  -- R432: the template's window fits the slow period
  { units := 2, bad := fun c k => decide (c.s.get (Reg.ETH_GCL_CTL_MODE k) = 1)
      && decide (5 * c.s.slowClk < (if c.s.get Reg.SYS_TICK_CFG_SLOW_DIV = 1 then 0 else 5 * c.s.get Reg.SYS_TICK_CFG_FAST_CLK) + 2 * c.s.get (Reg.ETH_GCL_DRV_WIN k))
    reg := fun _ k a => decide (a = tickCfg) || decide (a = 0x80300 + 0x40 * k) || decide (a = 0x8032C + 0x40 * k) },
  -- R451, R472
  { units := 2, bad := fun c k => c.s.canTimingBad k, reg := fun _ k a => within a (0x90000 + 0x1000 * k) (0x90018 + 0x1000 * k) },
  { units := 2, bad := fun c k => decide ((if c.s.flag (Reg.CAN_FMT_XTD_BASE k) then 0x1FFFFFFF else 0x7FF) < c.s.get (Reg.CAN_BEXIC_BASE k) + 33)
    reg := fun _ k a => within a (0x90014 + 0x1000 * k) (0x9001C + 0x1000 * k) },
  -- R481
  { units := 1, bad := fun c _ => decide (15 < c.s.get Reg.I2C_S_CFG_ENDPOINT) && decide (c.s.get Reg.I2C_S_CFG_ENDPOINT ≠ 0xFF)
    reg := fun _ _ a => decide (a = 0xA0000) }]

/-- The last section that set a value which a rule takes into account for a unit (R106). -/
def lastUse (l : List Byte) (t : List Sect) (typs : List Nat) (reg : Nat → Bool) : Option (Nat × Sect) :=
  ((List.range t.length).zip t).reverse.find? (fun q =>
    typs.contains q.2.typ || (isList q.2.typ && (recordsOf (q.2.size / 8) (sectData l q.2)).any (fun w => reg w.1)))

/-- A rule broken for one of its units: the first such unit. -/
def JointRule.broken (r : JointRule) (c : Content) : Option Nat := (List.range r.units).find? (r.bad c)

/-- A joint rule that the image breaks. -/
def Content.jointReject (c : Content) (l : List Byte) (t : List Sect) : Option Rej :=
  jointRules.findSome? (fun r => (r.broken c).map (fun u =>
    match lastUse l t r.typs (r.reg c u) with
    | some q => rejAt 0x0E q.1 q.2
    | none => { code := 0x0E }))

/-- A CLAVE section that addresses the HO_LIM entry of an output that its group does not own (R93). -/
def Content.hoLimReject (c : Content) (l : List Byte) (t : List Sect) : Option Rej :=
  ((List.range t.length).zip t).findSome? (fun q =>
    if q.2.typ = 0x90 ∧ (recordsOf (q.2.size / 8) (sectData l q.2)).any (fun w =>
        within (w.1 % 0x400) 0x100 0x180 && decide (c.s.hoGroup ((w.1 % 0x400 - 0x100) / 0x10) ≠ some ((w.1 - 0x40000) / 0x400)))
    then some (rejAt 0x0E q.1 q.2) else none)

/-- An image whose header has passed, verified to the end (Table IMG-4): what it says over the registers of `base`, or why it is
rejected. -/
def State.verifyBody (s base : State) (l : List Byte) : Content ⊕ Rej :=
  match s.bodyReject l with
  | some r => .inr r
  | none =>
    match ({ s := base } : Content).sections l 0 (sectsOf l) with
    | .inr r => .inr r
    | .inl c =>
      match c.hoLimReject l (sectsOf l) with
      | some r => .inr r
      | none =>
        match c.jointReject l (sectsOf l) with
        | some r => .inr r
        | none => .inl c

end Sys2Proof.Machine
end

