-- ==== Sys2Proof/Machine/Power.lean ====
section
/-!
DEFINITION. Power.lean: supplies, DORMANT, the backup domain, clock and temperature monitors, DRIVE_ENABLE and STO
(spec/02, spec/18).
-/
namespace Sys2Proof.Machine

/-! ### Outputs of a stopped main domain -/

/-- Power stages, brakes and fast outputs idle (R42, Table PWR-5). -/
def State.outputsOff (s : State) : State :=
  let s := s.forAll (List.range 16) (fun s x =>
    let s := (s.set (Reg.CUR_STAT_ENABLE_OUT x) 0).set (Reg.CUR_STAT_BRAKE_OUT x) 0
    let s := s.modCur x (fun c => { c with pwm := 0 })
    s.modAxis x (fun a => { a with phase := 0 }))
  s.forAll (List.range 8) (fun s k => (s.hoPut k false).setHo k {})

/-- Outside STANDBY, OPERATE and SAFE_HOLD every engine is OFF (R168). -/
def State.enginesOff (s : State) : State :=
  s.forAll (List.range 17) (fun s e => (s.set (Reg.ENG_STATE_STATE e) 0).modEng e (fun x => { x with running := false }))

/-! ### Backup event FIFO (R52, R53) -/

/-- An entry of the backup FIFO; a full FIFO discards it and counts OVF. -/
def State.bkPush (s : State) (src : Nat) (edge : Bool) : State :=
  if s.bk.fifo.length < 8 then
    { s with bk := { s.bk with fifo := s.bk.fifo ++ [{ rtc := s.bk.rtc, src := src, edge := edge }] } }
  else s.inc Reg.SYS_BKFIFO_STAT_OVF

/-- The DORMANT flags of the wake cause end when LOADING is left (R76). -/
def State.wakeEnd (s : State) : State := (s.set Reg.SYS_WAKE_CAUSE_I2C_WOKEN 0).set Reg.SYS_WAKE_CAUSE_CMP_EVENT 0

/-! ### Supplies -/

/-- SUPPLY_LOW (R38): the condition sets; the fault is raised only when it was not set. -/
def execSupplyLow (mv : BitVec 16) (s : State) : Out :=
  if s.flt.supplyLow || decide (s.mode = modeDormant) then .next s
  else
    let s := { s with flt := { s.flt with supplyLow := true, below19 := true } }
    .next ((s.set Reg.SYS_SUPPLY_VMAIN_WARN 1).raiseDevice 0x101 mv.toNat)

/-- SUPPLY_LOW_END (R38): VMAIN above 19.0 V ends the condition, not the latched fault. -/
def execSupplyLowEnd (mv : BitVec 16) (s : State) : Out :=
  if 19000 < mv.toNat then
    .next ({ s with flt := { s.flt with supplyLow := false, below19 := false } }.set Reg.SYS_SUPPLY_VMAIN_WARN 0)
  else .next s

/-- VMAIN_SAMPLE (R38): the 1 ms reading of VMAIN; VMAIN_WARN shows the 18.0 V comparator, and the 19.0 V comparator follows (R67). -/
def execVmainSample (mv : BitVec 16) (s : State) : Out :=
  if s.awake then
    let s := { s with flt := { s.flt with below19 := decide (mv.toNat < 19000) } }
    .next ((s.set Reg.SYS_VMAIN_MV mv.toNat).put Reg.SYS_SUPPLY_VMAIN_WARN (decide (mv.toNat < 18000)))
  else .next s

/-- RAIL_FALL (R40-R42, R56): everything outside the backup domain stops, the backup domain runs from VBAK, an open start
attempt is cleared and will be reported. The main clock and its monitor stop with the main domain, so a clock that was lost before
is judged afresh at the next start (R36, R64); the dormant responder stays awake until its own 50 ms have passed (R59, R61). -/
def execRailFall (s : State) : Out :=
  if s.bk.onVbak then .next s
  else
    let s := if s.mode = modeLoading then s.wakeEnd else s
    let s := s.outputsOff.enginesOff
    let s := s.set Reg.SYS_MODE_CODE modeDormant
    let b0 := s.get (Reg.SYS_BKREG 0)
    let s := s.set (Reg.SYS_BKREG 0) (setBits b0 8 1 0)
    let s := { s with bk := { s.bk with onVbak := true, interrupted := s.bk.interrupted || bit b0 8 }
                      flt := { s.flt with clockLost := false, clockRec := none }, start := {} }
    .next (s.bkPush 4 false)

/-- RAIL_RETURN (R40, R52): the backup domain runs from the main rail again. -/
def execRailReturn (s : State) : Out :=
  if s.bk.onVbak then .next ({ s with bk := { s.bk with onVbak := false, awake := true } }.bkPush 5 true) else .next s

/-- What a measurement of VBAK shows (R46). -/
def State.vbakShow (s : State) (mv : Nat) : State :=
  ((s.set Reg.SYS_VBAK_MV mv).put Reg.SYS_SUPPLY_VBAK_LOW (decide (mv < 2200))).put Reg.SYS_SUPPLY_VBAK_PRESENT
    (decide (2000 ≤ mv))

/-- VBAK_MEASURE (R46): in STANDBY and OPERATE; a low reading writes VBAK_LOW. -/
def execVbakMeasure (mv : BitVec 16) (s : State) : Out :=
  if s.awake && (decide (s.mode = modeStandby) || decide (s.mode = modeOperate)) then
    let s := s.vbakShow mv.toNat
    .next (if mv.toNat < 2200 then s.warn 255 0x0002 false (leBytes 2 mv.toNat) else s)
  else .next s

/-- BD_POWER_ON (R597): the backup domain, below its retention level on VBAK, is reset together. -/
def execBdPowerOn (s : State) : Out :=
  if s.bk.onVbak then
    let s := { s with bk := { onVbak := true, lost := true, awake := false } }
    let s := s.forAll (List.range 16) (fun s i => s.setBk i 0)
    let s := s.forAll (List.range 4) (fun s k =>
      ((s.set (Reg.SYS_CMP_CFG_THRESH k) 0).set (Reg.SYS_CMP_CFG_EDGE k) 0).set (Reg.SYS_CMP_CFG_STATE k) 0)
    let s := (s.set Reg.SYS_CMP_STROBE 3).set Reg.SYS_BKFIFO_STAT_OVF 0
    let s := (s.set Reg.SYS_WAKE_CAUSE_CAUSE 0).set Reg.SYS_WAKE_CAUSE_INTERRUPTED 0
    .next ((s.set Reg.SYS_WAKE_CAUSE_I2C_WOKEN 0).set Reg.SYS_WAKE_CAUSE_CMP_EVENT 0)
  else .next s

/-! ### RTC (R47-R50) -/

/-- RTC_LOAD_TICK (R49): at its next tick the RTC takes RTC_SET. -/
def execRtcLoadTick (s : State) : Out :=
  if s.awake && s.flag Reg.SYS_RTC_CTL_LOAD then
    let v := s.get Reg.SYS_RTC_SET_LO + s.get Reg.SYS_RTC_SET_HI * 2 ^ 32
    .next ({ s with bk := { s.bk with rtc := v, sub := 0 } }.set Reg.SYS_RTC_CTL_LOAD 0)
  else .next s

/-- RTC_SYNC (R50): once per second, with SYNC set and 802.1AS synchronised. The value is taken at once and the part of the tick that has
passed restarts: what becomes of the tick's phase the spec does not say (DESIGN CHOICE, log 117). -/
def execRtcSync (s : State) : Out :=
  if s.awake && s.flag Reg.SYS_RTC_CTL_SYNC && s.flag Reg.ETH_PTP_STAT_SYNC then
    .next { s with bk := { s.bk with rtc := s.ntime * 32768 / 1000000000 % 2 ^ 48, sub := 0 } }
  else .next s

/-! ### Comparators (R51) -/

/-- One strobe of comparator `k`: two consecutive strobes that agree confirm a crossing; a comparator that is off samples nothing, so
it starts afresh when it is enabled. CMP_EVENT says that an entry was logged in DORMANT; a full FIFO logs none. -/
def State.strobe (s : State) (k : Nat) (l : Bool) : State :=
  let e := s.get (Reg.SYS_CMP_CFG_EDGE k)
  let f := Reg.SYS_CMP_CFG_STATE k
  let cand := fun (c : Option Bool) => { s with bk := { s.bk with cand := s.bk.cand.set k c } }
  if e = 0 then cand none
  else if s.flag f = l then cand none
  else if s.bk.cand.getD k none = some l then
    let s := (cand none).put f l
    if (l && bit e 0) || (!l && bit e 1) then
      let logged := decide (s.bk.fifo.length < 8)
      let s := s.bkPush k l
      if logged && decide (s.mode = modeDormant) then s.set Reg.SYS_WAKE_CAUSE_CMP_EVENT 1 else s
    else s
  else cand (some l)

/-- COMPARATOR_STROBE (R51): every enabled comparator samples its input, in every device mode. -/
def execComparatorStrobe (levels : BitVec 4) (s : State) : Out :=
  .next (s.forAll (List.range 4) (fun s k => s.strobe k (levels.getLsbD k)))

/-! ### Clock, temperature and watchdog -/

/-- CLOCK_LOSS (R556, R598): BRAKE_OUT on every powered local axis, the fault latched and written to the history, SAFE_HOLD;
during LOADING the attempt is held. -/
def execClockLoss (s : State) : Out :=
  if !s.awake then .next s
  else if s.mode = modeLoading then
    .next { s.history 0x104 with flt := { s.flt with clockLost := true }, start := { s.start with clockHeld := true } }
  else
    let s0 := s
    let s := s.forAll (List.range 16) (fun s x => if (s.axisX x).phase = 0 then s else s.guardLocal x 2)
    let s := (s.inc Reg.FAULT_GONG_COUNT).firstDevice 0x104
    let s := s.set Reg.FAULT_DEV_LATCH (s.get Reg.FAULT_DEV_LATCH ||| 2 ^ 3)
    let s := s.history 0x104
    let s := if s0.live then s.safeHold 0x104 else s
    .next { s with flt := { s.flt with clockLost := true, clockRec := if s0.live then some (4, s0.mode) else none } }

/-- CLOCK_RETURN (R556): the stopped parts run again and the fault reaches the ledger. -/
def execClockReturn (s : State) : Out :=
  if s.flt.clockLost && decide (s.mode ≠ modeLoading) && decide (s.mode ≠ modeDormant) then
    let r := s.flt.clockRec
    let s := { s with flt := { s.flt with clockLost := false, clockRec := none } }
    .next (match r with
      | some (react, mode) => s.event 255 clsDeviceFault 0x104 false (u8s [0xFF, react, mode, 0] ++ leBytes 4 0)
      | none => s)
  else .next s

/-- OVER_TEMP (R590, Table FLT-2): a temperature reading; the fault is raised when it passes 100 C, the condition ends at
90 C. -/
def execOverTemp (dc : BitVec 16) (s : State) : Out :=
  if !s.awake then .next s
  else
    let t := dc.toInt
    let was := s.flt.overTemp
    let s := (s.set Reg.FAULT_TEMP_DC dc.toNat).put Reg.FAULT_TEMP_HOT (decide (900 < t))
    let s := { s with flt := { s.flt with overTemp := decide (1000 < t) || (was && decide (900 < t)) } }
    .next (if 1000 < t ∧ ¬ was then s.raiseDevice 0x102 (ofInt 32 t) else s)

/-- SEQ_WATCHDOG (R64, Table FLT-2): history, and LOADING at once with cause 4, from every mode but DORMANT as Table PWR-6 has it. R111
names only RESTART and loss of VMAIN as ways out of FALLBACK; the model follows the table (DESIGN CHOICE, log 112). -/
def execSeqWatchdog (s : State) : Out :=
  if !s.awake then .next s
  else
    let s := (s.inc Reg.FAULT_GONG_COUNT).history 0x107
    let s := s.outputsOff.enginesOff.set Reg.SYS_MODE_CODE modeLoading
    .next { s with start := { s.start with entry := some 4 } }

/-! ### DRIVE_ENABLE and STO (R559-R561) -/

/-- The filtered DRIVE_ENABLE level, in both registers that show it. -/
def State.setDe (s : State) (b : Bool) : State := (s.put Reg.SYS_MODE_DRIVE_ENABLE b).put Reg.FAULT_DE_LEVEL b

/-- The hardware cut: every enable output inactive, every PWM line off (R560). -/
def State.hwCut (s : State) : State :=
  let s := s.set Reg.FAULT_DE_HW_CUT 1
  s.forAll (List.range 16) (fun s x => (s.setEnable x false).setPwm x 0)

/-- The cut ends: enable outputs and PWM lines follow the cells again. -/
def State.hwCutEnd (s : State) : State :=
  let s := s.set Reg.FAULT_DE_HW_CUT 0
  s.forAll (List.range 16) (fun s x =>
    let c := s.get (Reg.CUR_STAT_STATE x)
    let short := decide ((s.axisX x).phase = 5) && decide (s.get (Reg.FAULT_AXG_CFG x) = 1) && decide (c ≠ cellTripped)
    let s := s.setEnable x (decide (c = cellEnabling) || decide (c = cellRun) || short)
    s.setPwm x (if c = cellRun then 1 else if short then 2 else 0))

/-- DRIVE_ENABLE_LOST (R559): the low level has passed the filter; in OPERATE it raises the device fault. -/
def execDriveEnableLost (s : State) : Out :=
  if !s.awake || !s.flag Reg.FAULT_DE_LEVEL then .next s
  else
    let op := decide (s.mode = modeOperate)
    let s := s.setDe false
    let s := if op then s.raiseDevice 0x105 0 else s
    .next (if s.get Reg.FAULT_DE_CFG = 0 then s.hwCut else s)

/-- DRIVE_ENABLE_RISE (R559, R560): the high level has passed the filter; a hardware cut ends. -/
def execDriveEnableRise (s : State) : Out :=
  if !s.awake then .next s
  else
    let s := s.setDe true
    .next (if s.flag Reg.FAULT_DE_HW_CUT then s.hwCutEnd else s)

/-- DRIVE_ENABLE_HW_CUT (R560): HW_DELAY has passed with the filtered level low. -/
def execDriveEnableHwCut (s : State) : Out :=
  if !s.awake || s.flag Reg.FAULT_DE_LEVEL then .next s else .next s.hwCut

/-- What the monitor of an STO line at `mv` millivolts reports (R575): asserted below 5 V, released above 15 V, undefined between. -/
def State.stoLevel (s : State) (mv : Nat) : State × Bool :=
  if mv < 5000 then (s, true)
  else if 15000 < mv then (s, false)
  else (s.draw, bit (Config.freeNat s.drawn) 0)

/-- STO_ACTIVE (R561, R552, R575): the level of an STO line after its filter; an assertion on a powered axis guards it and raises the
fault. -/
def execStoActive (x : Fin 16) (mv : BitVec 16) (s : State) : Out :=
  if !s.awake then .next s
  else
    let (s, asserted) := s.stoLevel mv.toNat
    let v := s.get Reg.FAULT_STO_STAT
    let s := s.set Reg.FAULT_STO_STAT (setBits v x 1 (b2n asserted))
    if asserted && s.flag (Reg.AXIS_SRC_POWERED x) then
      let s := s.guardAxis x
      .next (s.raiseFor (s.axisGroup x) 0x1A x 0)
    else .next s

end Sys2Proof.Machine
end

