-- ==== Sys2Proof/Machine/Start.lean ====
section
/-!
DEFINITION. Start.lean: the start attempt from LOADING to STANDBY or FALLBACK, image writes, KEYHASH programming, RESTART and
CLEAR_START_COUNT (spec/03).
-/
namespace Sys2Proof.Machine

/-! ### Flash (R78) -/

/-- Where slot `k` begins. -/
def slotBase (k : Nat) : Nat := k * 0x1000000

/-- `n` bytes of flash from address `a`, from listed bytes that begin no earlier than `a`; an erased byte is 0xFF. -/
def flashRun : SMap Nat → Nat → Nat → List Byte
  | _, _, 0 => []
  | [], a, n + 1 => 0xFF :: flashRun [] (a + 1) n
  | (j, v) :: r, a, n + 1 =>
    if j = a then BitVec.ofNat 8 v :: flashRun r (a + 1) n else 0xFF :: flashRun ((j, v) :: r) (a + 1) n

/-- `n` bytes of flash from address `a`. -/
def State.flashBytes (s : State) (a n : Nat) : List Byte := flashRun (s.flash.cells.filter (fun c => decide (a ≤ c.1))) a n

/-- The listed bytes of a run of bytes from address `a`: those that are not erased. -/
def flashCells (a : Nat) : List Byte → SMap Nat
  | [] => []
  | b :: r => if b = 0xFF then flashCells (a + 1) r else (a, b.toNat) :: flashCells (a + 1) r

/-- Flash from `a` to before `b` takes the bytes `l`, and is erased beyond them. -/
def State.flashPut (s : State) (a b : Nat) (l : List Byte) : State :=
  { s with flash := { s.flash with
      cells := s.flash.cells.filter (fun c => decide (c.1 < a)) ++ flashCells a l ++
        s.flash.cells.filter (fun c => decide (max b (a + l.length) ≤ c.1)) } }

/-! ### Memory in runs of bytes -/

/-- The listed cells of a run of bytes from address `a`: those that are not zero. -/
def memCells (a : Nat) : List Byte → List Host.Cell
  | [] => []
  | b :: r => if b = 0 then memCells (a + 1) r else (a, b) :: memCells (a + 1) r

/-- Memory from `a` on takes the bytes `l`, as storing them one by one does. -/
def State.memPut (s : State) (a : Nat) (l : List Byte) : State :=
  { s with mem := s.mem.filter (fun c => decide (c.1 < a)) ++ memCells a l ++ s.mem.filter (fun c => decide (a + l.length ≤ c.1)) }

/-- `n` bytes of memory copied from `a` to `b`. -/
def State.memCopy (s : State) (a b n : Nat) : State :=
  let moved := (s.mem.filter (fun c => decide (a ≤ c.1) && decide (c.1 < a + n))).map (fun c => (c.1 - a + b, c.2))
  { s with mem := s.mem.filter (fun c => decide (c.1 < b)) ++ moved ++ s.mem.filter (fun c => decide (b + n ≤ c.1)) }

/-- `n` bytes of memory from address `a`, from listed cells that begin no earlier than `a`. -/
def memRun : List Host.Cell → Nat → Nat → List Byte
  | _, _, 0 => []
  | [], a, n + 1 => 0 :: memRun [] (a + 1) n
  | (j, v) :: r, a, n + 1 => if j = a then v :: memRun r (a + 1) n else 0 :: memRun ((j, v) :: r) (a + 1) n

/-- `n` bytes of memory from address `a`, read in one run. -/
def State.memGet (s : State) (a n : Nat) : List Byte := memRun (s.mem.filter (fun c => decide (a ≤ c.1))) a n

/-! ### Entry to LOADING (R73, R74) -/

/-- What outlives an entry to LOADING: backup registers, comparators, wake cause, fuses (R74); and readings and input levels that
show what is present now. -/
def keptFlds : List Fld :=
  (List.range 16).map Reg.SYS_BKREG ++ [Reg.SYS_FB_REASON, Reg.SYS_FB_DETAIL_A, Reg.SYS_FB_DETAIL_B] ++
  (List.range 4).map Reg.SYS_CMP_CFG_THRESH ++ (List.range 4).map Reg.SYS_CMP_CFG_EDGE ++ (List.range 4).map Reg.SYS_CMP_CFG_STATE ++
  [Reg.SYS_CMP_STROBE, Reg.SYS_BKFIFO_STAT_OVF, Reg.SYS_WAKE_CAUSE_CAUSE, Reg.SYS_WAKE_CAUSE_INTERRUPTED,
   Reg.SYS_WAKE_CAUSE_I2C_WOKEN, Reg.SYS_WAKE_CAUSE_CMP_EVENT] ++
  (List.range 8).map Reg.SYS_KEYHASH ++ [Reg.SYS_KEYHASH_STAT_PROGRAMMED] ++
  [Reg.SYS_SUPPLY_VMAIN_WARN, Reg.SYS_SUPPLY_VBAK_PRESENT, Reg.SYS_SUPPLY_VBAK_LOW, Reg.SYS_VMAIN_MV, Reg.SYS_VBAK_MV,
   Reg.FIELD_HI_STAT_LINE_FAULT, Reg.FAULT_TEMP_DC, Reg.FAULT_TEMP_HOT, Reg.SYS_MODE_DRIVE_ENABLE, Reg.FAULT_DE_LEVEL, Reg.FAULT_STO_STAT]

/-- The fuse words read whatever an interrupted or failed programming left (free values). -/
def State.freeFuses (s : State) : State :=
  let s := s.forAll (List.range 8) (fun s i => (s.set (Reg.SYS_KEYHASH i) (Config.freeNat s.drawn)).draw)
  s.put Reg.SYS_KEYHASH_STAT_PROGRAMMED (s.keyHash.any (fun b => decide (b ≠ 0)))

/-- Everything but the backup domain, flash and fuses returns to its reset state, in LOADING (R73, R74); NTIME starts from the RTC
(R48). -/
def State.cleared (s : State) : State :=
  let t : State := { State.reset with
    pending := s.pending, bk := s.bk, flash := { cells := s.flash.cells }, clk := s.clk, drawn := s.drawn, outbox := s.outbox
    readOut := s.readOut, ntimeH := 2 * (s.bk.rtc * 1000000000 / 32768)
    flt := { supplyLow := s.flt.supplyLow, below19 := s.flt.below19, overTemp := s.flt.overTemp }
    field := { powered := s.field.powered, pu := s.field.pu } }
  let t := t.forAll (List.range 4) (fun t k => t.setPu k { t.puX k with cnt := 0 })
  let t := t.forAll (List.range 16) (fun t p => t.setFb p { rx := (s.fbX p).rx, outside := (s.fbX p).outside })
  let t := keptFlds.foldl (fun t f => t.set f (s.get f)) t
  let t := ((t.set Reg.FIELD_HI_STAT_LEVEL s.hiFlip).set Reg.SYS_MODE_CODE modeLoading).set Reg.LEDGER_STAT_RUN 0
  let t := t.enginesOff.set Reg.I2C_S_STAT_OWNER 0
  if s.flash.keyJob.isSome then t.freeFuses else t

/-! ### Counting (R79-R83, R106) -/

def failSlots : Nat := 1
def failSelfTest : Nat := 2
def failTimeout : Nat := 3
def failRestart : Nat := 4
def failWatchdog : Nat := 5

/-- FAIL_COUNT. -/
def State.failCount (s : State) : Nat := bits (s.get (Reg.SYS_BKREG 0)) 0 4

/-- ATTEMPT_OPEN set or cleared. -/
def State.attempt (s : State) (b : Bool) : State := s.setBk 0 (setBits (s.get (Reg.SYS_BKREG 0)) 8 1 (b2n b))

/-- A failure counted and recorded (R82, R106). -/
def State.recordFailure (s : State) (code cause : Nat) : State :=
  let fc := min (s.failCount + 1) 3
  (s.setBk 0 (setBits (s.get (Reg.SYS_BKREG 0)) 0 4 fc)).setBk 1 (code + fc * 256 + cause * 4096)

/-- FALLBACK (R107, R108): ETH1, CAN0 and I2C-S with fixed settings; ETH2 and CAN1 off. -/
def State.enterFallback (s : State) : State :=
  let s := s.wakeEnd.set Reg.SYS_MODE_CODE modeFallback
  let s := { s with start := {} }
  let s := (s.set (Reg.CAN_CTL 0) 1).set (Reg.CAN_STAT_STATE 0) canListen
  let s := (s.set (Reg.CAN_CTL 1) 0).set (Reg.CAN_STAT_STATE 1) canDisabled
  (s.set (Reg.ETH_PORT_CTL_EN 0) 1).set (Reg.ETH_PORT_CTL_EN 1) 0

/-- The attempt concludes as a failure (R82): FALLBACK at the third, else another LOADING entry. -/
def State.concludeFail (s : State) (code : Nat) : State :=
  let s := (s.recordFailure code (s.get Reg.SYS_WAKE_CAUSE_CAUSE)).attempt false
  if s.failCount = 3 then s.enterFallback else { s with start := { s.start with entry := some 3, accepted := none } }

/-- Step 1 of LOADING: wake cause and counting (R56, R76, R82). -/
def State.countEntry (s : State) (cause : Nat) : State :=
  let p := s.get Reg.SYS_WAKE_CAUSE_CAUSE
  let s := (s.set Reg.SYS_WAKE_CAUSE_CAUSE cause).put Reg.SYS_WAKE_CAUSE_INTERRUPTED s.bk.interrupted
  let s := { s with bk := { s.bk with interrupted := false, lost := false } }
  let s : State := if bit (s.get (Reg.SYS_BKREG 0)) 8 then
      let s := if cause = 2 then s.recordFailure failRestart p else if cause = 4 then s.recordFailure failWatchdog p else s
      s.attempt false
    else s
  if s.failCount < 3 then s.attempt true else s

/-! ### Slot selection (R86, R87) -/

/-- A slot's header, and the whole image that its header claims. -/
def State.slotHead (s : State) (k : Nat) : List Byte := s.flashBytes (slotBase k) 256
def State.slotImage (s : State) (k : Nat) : List Byte := s.flashBytes (slotBase k) (leAt (s.slotHead k) 8 4)

/-- Where a candidate is staged: the system reserve of external memory (R84, Table GRP-5). -/
def stagingAt : Nat := 0xBE000000

/-- The image that stands in the system reserve. -/
def State.stagedImage (s : State) : List Byte := s.memGet stagingAt (leAt (s.memGet stagingAt 256) 8 4)

/-- The registers that an image finds: comparators and RTC following at their hardware defaults (R91, Table PWR-10). -/
def State.imageBase (s : State) : State :=
  let s := s.forAll (List.range 4) (fun s k => (s.set (Reg.SYS_CMP_CFG_THRESH k) 0).set (Reg.SYS_CMP_CFG_EDGE k) 0)
  s.set Reg.SYS_CMP_STROBE 3

/-- Candidates tried in order until one is accepted: what each slot's detail word says, and the slot accepted. -/
def State.trySlots (s : State) : List Nat → List (Nat × Rej) × Option Nat
  | [] => ([], none)
  | k :: r =>
    match s.verifyBody s.imageBase (s.slotImage k) with
    | .inl _ => ((k, rejAccepted) :: r.map (fun j => (j, rejNotExamined)), some k)
    | .inr j =>
      let q := s.trySlots r
      ((k, j) :: q.1, q.2)

/-- Step 5 to 7 of LOADING: headers, order and verification (R86). Each candidate that is verified is copied into the system reserve
of external memory (R84). -/
def State.examine (s : State) : State :=
  let gen := fun (k : Nat) => if (s.headReject (s.slotHead k)).isNone then leAt (s.slotHead k) 12 4 else 0
  let order := if gen 0 < gen 1 then [1, 0] else [0, 1]
  let q := s.trySlots (order.filter (fun k => (s.headReject (s.slotHead k)).isNone))
  let word := fun (k : Nat) =>
    match s.headReject (s.slotHead k) with
    | some r => r.word
    | none => match q.1.find? (fun e => decide (e.1 = k)) with
      | some e => e.2.word
      | none => 0
  let s := (s.setBk 2 (word 0)).setBk 3 (word 1)
  let s := (s.set Reg.SYS_SLOT_GEN_A (gen 0)).set Reg.SYS_SLOT_GEN_B (gen 1)
  let s := q.1.foldl (fun s e => if e.2 = rejNotExamined then s else s.memPut stagingAt (s.slotImage e.1)) s
  match q.2 with
  | some k => { s with start := { s.start with accepted := some k, detailA := word 0, detailB := word 1 } }
  | none => s.concludeFail failSlots

/-- Why LOADING is to be entered now (Table PWR-8): a pending entry, or the rail stable after DORMANT. -/
def State.entryCause (s : State) : Option Nat :=
  if s.flt.clockLost then none
  else if s.mode = modeDormant then (if s.bk.onVbak then none else some (if s.bk.lost then 0 else 1))
  else if s.mode = modeLoading then s.start.entry
  else none

/-- LOADING_ENTRY (R82): the self-tests that fail, VBAK at the entry (R46), and retries of memory training. A main clock lost before
counts as a failed clock check (R598). -/
def execLoadingEntry (selfTest : BitVec 4) (vbakMv : BitVec 16) (retries : BitVec 8) (s : State) : Out :=
  match s.entryCause with
  | none => .next s
  | some cause =>
    let fails := if s.start.clockHeld then setBits selfTest.toNat 3 1 1 else selfTest.toNat
    let s := (s.countEntry cause).cleared
    let s := s.vbakShow vbakMv.toNat
    let s := { s with start := { began := s.clk, vbakLow := decide (vbakMv.toNat < 2200) } }
    let s := (s.set Reg.SYS_START_STAT_SELFTEST_FAIL fails).set Reg.SYS_XMEM_TRAIN_RETRIES retries.toNat
    .next (if s.failCount = 3 then s.enterFallback
      else if fails ≠ 0 then s.concludeFail failSelfTest
      else s.examine)

/-- LOAD_TIMEOUT (R80, R82): 8 s of running main clock without STANDBY. -/
def execLoadTimeout (s : State) : Out :=
  if s.awake && decide (s.mode = modeLoading) && s.start.entry.isNone then .next (s.concludeFail failTimeout) else .next s

/-- LOADING_CLOCK_RETURN (R598): the main clock returns after a loss during LOADING; the attempt has failed its clock check. -/
def execLoadingClockReturn (s : State) : Out :=
  if s.flt.clockLost && decide (s.mode = modeLoading) then
    let s := { s with flt := { s.flt with clockLost := false } }
    if s.start.entry.isSome then .next s
    else
      let s := s.set Reg.SYS_START_STAT_SELFTEST_FAIL (setBits (s.get Reg.SYS_START_STAT_SELFTEST_FAIL) 3 1 1)
      .next (State.concludeFail { s with start := { s.start with clockHeld := false } } failSelfTest)
  else .next s

/-! ### An accepted image applied (R91-R101) -/

/-- Whether some record of an image addresses word `a`. -/
def setsWord (l : List Byte) (a : Nat) : Bool :=
  (sectsOf l).any (fun e => isList e.typ && (recordsOf (e.size / 8) (sectData l e)).any (fun w => decide (w.1 = a)))

/-- Where the PM and DM of engine `e`, and the copies of group `n`, lie (Tables GRP-1 and GRP-3). -/
def pmAt (e : Nat) : Nat := 0x10000000 + e * 0x100000
def dmAt (e : Nat) : Nat := pmAt e + 0x8000
def copyAt (n : Nat) : Nat := 0x20000000 + n * 0x10000

/-- LECODE: fetch modes, the copies of each group, and the memories of the engine that serves it (R96, R174). -/
def State.putCode (s : State) (modes : List Nat) (blks : List LeBlk) : State :=
  let s := s.forAll (List.range 17) (fun s e => s.set (Reg.ENG_STATE_FETCH e) (modes.getD e 0))
  let s := s.forAll (List.range 16) (fun s n => s.set (Reg.GRP_ENG_CFG_CODE_MODE n) (modes.getD n 0))
  blks.foldl (fun s b =>
    let s := ((s.memPut (copyAt b.group) b.pm).memPut (copyAt b.group + 0x8000) b.dm)
    let s := (s.memPut (pmAt b.group) b.pm).memPut (dmAt b.group) b.dm
    s.modGrp b.group (fun x => { x with hasCode := true, entryFast := b.fast, entrySlow := b.slow, entryEvent := b.event,
                                        snapBase := b.base, snapLen := b.len, margin := b.margin })) s

/-- GATE: a port's list becomes its admin and its oper list (R99). -/
def State.putGate (s : State) (g : GateBlk) : State :=
  let s := (s.memPut (adminAt g.port) g.list).memPut (operAt g.port) g.list
  let s := ((s.set (Reg.ETH_GCL_ADMIN_COUNT g.port) g.count).set (Reg.ETH_GCL_ADMIN_CYCLE g.port) g.cycle).set (Reg.ETH_GCL_ADMIN_BASE g.port) g.base
  ((s.set (Reg.ETH_GCL_OPER_COUNT g.port) g.count).set (Reg.ETH_GCL_OPER_CYCLE g.port) g.cycle).set (Reg.ETH_GCL_OPER_BASE g.port) g.base

/-- What follows from the fields that an image has set: paralleled outputs, CAN states, the phase advance of TRAILING cells,
template cycles, floors. -/
def State.derive (s : State) (l : List Byte) : State :=
  let s := s.forAll (List.range 16) (fun s j => s.set (Reg.FIELD_DO_CFG_WIDTH j)
    (if bit (s.get Reg.FIELD_PAR_QUAD) (j / 4) then 2 else if bit (s.get Reg.FIELD_PAR_PAIR) (j / 2) then 1 else 0))
  let s := s.set Reg.FIELD_HI_STAT_LEVEL s.hiFlip
  let s := s.forAll (List.range 2) (fun s c => s.set (Reg.CAN_STAT_STATE c) (if s.flag (Reg.CAN_CTL c) then canListen else canDisabled))
  let s := s.forAll (List.range 16) (fun s x =>
    let w := 0xE0000 + 0x200 * x
    if s.flag (Reg.CUR_CFG_MEAS_ALIGN x) && !setsWord l (w + 0xA0) && !setsWord l (w + 0xE0) then
      (s.set (Reg.CUR_COEF_W x 8) 0x40000000).set (Reg.CUR_COEF_A x 8) 0x40000000
    else s)
  let s := s.forAll (List.range 16) (fun s x => s.modCur x (fun c => { c with coef := s.curCoefs x }))
  let s := s.forAll (List.range 2) (fun s p =>
    if s.get (Reg.ETH_GCL_CTL_MODE p) = 1 then (s.set (Reg.ETH_GCL_OPER_COUNT p) (s.template p).length).set (Reg.ETH_GCL_OPER_CYCLE p) (s.slowClk * 5 / 2)
    else s)
  let s := s.set Reg.POOL_FLOOR_SUM ((List.range 16).map (fun n => s.get (Reg.POOL_GRP_FLOOR n))).sum
  s.forAll (List.range 64) (fun s m => s.setBucket m (s.cbs m * 16000000000))

/-- An accepted image applied over cleared registers (step 8 of Table IMG-2). -/
def State.applyImage (c : Content) (l : List Byte) : State :=
  let s := c.s.putCode c.modes c.code
  let s := c.cam.foldl (fun s b => s.memPut (0xB8000000 + b.1) b.2) s
  let s := c.gate.foldl State.putGate s
  let s := c.filt.foldl (fun s b => s.memPut b.1 b.2) s
  let s := s.derive l
  let s := (s.set Reg.SYS_IMG_GEN (leAt l 12 4)).set Reg.SYS_IMG_STAMP_LO (leAt l 16 4)
  let s := (s.set Reg.SYS_IMG_STAMP_HI (leAt l 20 4)).put Reg.SYS_IMG_FLAGS_SIGNED (imgSigned l)
  let s := s.set Reg.SYS_IMG_FLAGS_SIG_VERIFIED (s.get Reg.SYS_KEYHASH_STAT_PROGRAMMED)
  s.set Reg.LEDGER_STAMP (leAt l 16 2)

/-- Whether a detail word tells of a rejection other than NO_IMAGE (R85). -/
def rejected (w : Nat) : Bool := decide (2 < w % 256)

/-- STANDBY begins: engines ACTIVE and SPARE, every network axis of a group ABSENT (Table LOP-4), ticks from now on (R72, R155). -/
def State.standbyUnits (s : State) : State :=
  let s := s.wakeEnd.set Reg.SYS_MODE_CODE modeStandby
  let s := s.forAll (List.range 17) (fun s e => s.set (Reg.ENG_STATE_STATE e) (if e < 16 then 1 else 2))
  let s := s.forAll (List.range 16) (fun s p => (s.fbBegin p).syncValid p)
  let s := s.forAll (List.range 4) State.syncPu
  let s := s.forAll (List.range 32) (fun s x => if isNet x && (s.axisGroup x).isSome then s.set (Reg.AXIS_NET_STAT_DSTATE x) 0 else s)
  { s with tick_ := { lastFast := s.clk, lastSlow := s.clk } }

/-- What the registers show of a LOADING that took `ms` and accepted slot `k` (R85, R87). -/
def State.standbyShow (s : State) (k ms : Nat) : State :=
  let s := (s.set Reg.SYS_LOAD_TIME ms).set Reg.LEDGER_STAT_RUN 1
  let s := (s.set Reg.SYS_START_STAT_SLOT k).put Reg.SYS_START_STAT_OTHER_REJECTED
    (rejected (if k = 0 then s.start.detailB else s.start.detailA))
  s.setBk 13 (s.get Reg.I2C_S_CFG_ADDR + 0x80)

/-- The payload of the START record (Table LDG-5). -/
def State.startBody (s : State) (k ms : Nat) : List Byte :=
  u8s [k, s.get Reg.SYS_WAKE_CAUSE_CAUSE] ++ leBytes 2 ms ++ leBytes 4 (s.get Reg.SYS_IMG_GEN)
    ++ leBytes 4 (s.get Reg.SYS_IMG_STAMP_LO) ++ leBytes 4 (s.get Reg.SYS_IMG_STAMP_HI)

/-- The records of a LOADING that ends in STANDBY: START, and what was rejected or low (R85, R46); a module in role GM_ONLY is grandmaster
from here on (R425). -/
def State.standbyTell (s : State) (k ms : Nat) : State :=
  let a := s.start.detailA
  let b := s.start.detailB
  let s := (s.info 255 0x0001 true (s.startBody k ms)).sealEvq
  let s := if rejected a then s.warn 255 0x0001 false (leBytes 4 a ++ [0]) else s
  let s := if rejected b then s.warn 255 0x0001 false (leBytes 4 b ++ [1]) else s
  let s := if s.start.vbakLow then s.warn 255 0x0002 false (leBytes 2 (s.get Reg.SYS_VBAK_MV)) else s
  if s.get Reg.ETH_PTP_CFG_ROLE = 2 then s.claimGm else s

/-- STANDBY is entered from LOADING with slot `k` (R72, R85, step 9 of Table IMG-2). -/
def State.enterStandby (s : State) (k : Nat) : State :=
  let s := s.standbyUnits
  let ms := (s.clk - s.start.began + 399999) / 400000
  let s := (s.standbyShow k ms).standbyTell k ms
  let s := { s with start := { began := s.start.began, accepted := some k } }
  let s := s.set Reg.POOL_MIN_SHARED s.freeShared
  s.syncPool

/-- START_SEQUENCE_COMPLETE (R84, R85): the accepted image is applied from the system reserve and STANDBY entered. -/
def execStartSequenceComplete (s : State) : Out :=
  if s.awake && decide (s.mode = modeLoading) && s.start.entry.isNone then
    match s.start.accepted with
    | none => .next s
    | some k =>
      match s.verifyBody s.imageBase s.stagedImage with
      | .inr _ => .next s
      | .inl c => .next ((State.applyImage c s.stagedImage).enterStandby k)
  else .next s

/-- The attempt concludes as a success: FAIL_COUNT and ATTEMPT_OPEN 0 in one write (R79, R82). -/
def State.concludeOk (s : State) : State :=
  (s.setBk 0 (setBits (setBits (s.get (Reg.SYS_BKREG 0)) 0 4 0) 8 1 0)).set Reg.SYS_START_STAT_CONCLUDED 1

/-- START_SUCCESS (R79): 30 s of STANDBY and OPERATE. -/
def execStartSuccess (s : State) : Out :=
  if s.awake && (decide (s.mode = modeStandby) || decide (s.mode = modeOperate)) && !s.flag Reg.SYS_START_STAT_CONCLUDED then
    .next (s.concludeOk.set Reg.SYS_START_STAT_HELD_S 30)
  else .next s

/-! ### CLEAR_START_COUNT and RESTART (R69, R115, R116) -/

/-- CLEAR_START_COUNT (R116). -/
def runClearStartCount (_ : Msg) (s : State) : Reply :=
  if s.mode = modeStandby then s.concludeOk.ok []
  else if s.mode = modeFallback then
    (s.setBk 0 (setBits (setBits (s.get (Reg.SYS_BKREG 0)) 0 4 0) 8 1 0)).ok []
  else s.nak stWrongMode

/-- RESTART (R64, R69, R115): an open image write closes; LOADING follows the response. -/
def runRestart (_ : Msg) (s : State) : Reply :=
  if s.mode = modeOperate ∨ s.mode = modeLoading then s.nak stWrongMode
  else
    let s := { s with flash := { cells := s.flash.cells, keyJob := s.flash.keyJob } }
    { (s.set Reg.SYS_IMG_WR_STAT_STATE 0).ok [] with restart := true }

/-- LOADING is entered after the response to RESTART (Table PWR-6). -/
def State.goLoading (s : State) : State :=
  let s := s.outputsOff.enginesOff.set Reg.SYS_MODE_CODE modeLoading
  { s with start := { s.start with entry := some 2 } }

/-! ### Writing an image (R112-R115, Table IMG-10) -/

/-- STATE of the image write. -/
def wrIdle : Nat := 0
def wrErasing : Nat := 1
def wrOpen : Nat := 2
def wrCommitting : Nat := 3

/-- The checks of IMAGE_WRITE (Tables BXP-6 and IMG-10): phase, slot, reserved bytes, and the length that BEGIN may give. -/
def chkImageWrite (m : Msg) (_ : State) : Option Nat :=
  let len := m.le 4 4
  firstBad [chk (decide (m.u8 0 ≤ 4)) 0, chk (decide (m.u8 1 ≤ 1)) 1, zeroAt m.payload 2 2,
    if m.u8 0 = 1 then chk (decide (len % 4 = 0) && decide (292 ≤ len) && decide (len ≤ 16777216)) 4
    else if m.u8 0 = 2 then none
    else zeroAt m.payload 4 4]

/-- The response of IMAGE_WRITE from byte 4. -/
def State.wrBody (s : State) : List Byte :=
  u8s [s.get Reg.SYS_IMG_WR_STAT_STATE, s.get Reg.SYS_IMG_WR_STAT_LAST_REJECT, 0, 0] ++ leBytes 4 (s.get Reg.SYS_IMG_WR_NEXT)

/-- The mode and slot rules of R112: why no phase is executed, if so. -/
def State.wrDenied (s : State) (slot : Nat) : Option Nat :=
  if s.mode = modeFallback then none
  else if s.mode ≠ modeStandby then some stWrongMode
  else if slot = s.get Reg.SYS_START_STAT_SLOT then some stBusy
  else none

/-- ERASE: the 64 KiB sector of the header is erased; answered when done. -/
def runErase (m : Msg) (s : State) : Reply :=
  let k := m.u8 1
  match s.wrDenied k with
  | some st => s.nak st
  | none =>
    if s.flash.job ≠ .idle ∨ (s.flash.openW.map Prod.fst) = some k then s.nak stBusy
    else
      let s := s.flashPut (slotBase k) (slotBase k + 0x10000) []
      { ({ s with flash := { s.flash with job := .erase k, eraser := some m } } : State).ok [] with later := true }

/-- BEGIN: a write opens and the sectors that its length spans are erased. -/
def runBegin (m : Msg) (s : State) : Reply :=
  let k := m.u8 1
  let len := m.le 4 4
  match s.wrDenied k with
  | some st => s.nak st
  | none =>
    if s.flash.job ≠ .idle ∨ s.flash.openW.isSome then s.nak stBusy
    else
      let s := s.flashPut (slotBase k) (slotBase k + (len + 0xFFFF) / 0x10000 * 0x10000) []
      let s := { s with flash := { s.flash with job := .begin_ k, openW := some (k, len), held := [] } }
      let s := ((s.set Reg.SYS_IMG_WR_STAT_STATE wrErasing).set Reg.SYS_IMG_WR_STAT_SLOT k).set Reg.SYS_IMG_WR_NEXT 0
      s.ok s.wrBody

/-- Image bytes `l` written at offset `o`: bytes 0-255 are held, later ones programmed. -/
def State.wrData (s : State) (k o : Nat) (l : List Byte) : State :=
  let h := l.take (256 - o)
  let r := l.drop (256 - o)
  let s := { s with flash := { s.flash with held := s.flash.held ++ h } }
  let a := slotBase k + max o 256
  let s := if r = [] then s else s.flashPut a (a + r.length) r
  s.set Reg.SYS_IMG_WR_NEXT (o + l.length)

/-- DATA. -/
def runData (m : Msg) (s : State) : Reply :=
  let k := m.u8 1
  let o := m.le 4 4
  let l := m.payload.drop 8
  match s.wrDenied k with
  | some st => s.nak st
  | none =>
    match s.flash.openW with
    | none => s.nak stWrongMode
    | some (j, len) =>
      let next := s.get Reg.SYS_IMG_WR_NEXT
      if j ≠ k ∨ s.get Reg.SYS_IMG_WR_STAT_STATE ≠ wrOpen then s.nak stBusy
      else if o + l.length ≤ next then s.ok s.wrBody
      else if o ≠ next then s.limit 4
      else if len < o + l.length then s.limit (8 + (len - o))
      else
        let s := s.wrData k o l
        s.ok s.wrBody

/-- COMMIT: verification starts; answered when it ends. -/
def runCommit (m : Msg) (s : State) : Reply :=
  let k := m.u8 1
  match s.wrDenied k with
  | some st => s.nak st
  | none =>
    match s.flash.openW with
    | none => s.nak stWrongMode
    | some (j, len) =>
      if j ≠ k ∨ s.flash.commit.isSome then s.nak stBusy
      else if s.get Reg.SYS_IMG_WR_NEXT ≠ len then s.limit 0
      else
        let s := { s with flash := { s.flash with commit := some (m, false) } }
        { (s.set Reg.SYS_IMG_WR_STAT_STATE wrCommitting).ok [] with later := true }

/-- The open write closes. -/
def State.wrClose (s : State) : State :=
  { s with flash := { s.flash with openW := none, held := [] } }.set Reg.SYS_IMG_WR_STAT_STATE wrIdle

/-- ABORT: the write closes and its slot stays invalid. -/
def runAbort (m : Msg) (s : State) : Reply :=
  let k := m.u8 1
  match s.wrDenied k with
  | some st => s.nak st
  | none =>
    match s.flash.openW with
    | none => s.ok s.wrBody
    | some (j, _) =>
      if j ≠ k then s.nak stBusy
      else
        let s := s.wrClose
        let s : State := { s with flash := { s.flash with
          job := if s.flash.job = FlashJob.begin_ k then FlashJob.erase k else s.flash.job
          commit := s.flash.commit.map (fun c => (c.1, true)) } }
        s.ok s.wrBody

/-- IMAGE_WRITE by phase (Table IMG-10). -/
def runImageWrite (m : Msg) (s : State) : Reply :=
  match m.u8 0 with
  | 0 => runErase m s
  | 1 => runBegin m s
  | 2 => runData m s
  | 3 => runCommit m s
  | _ => runAbort m s

/-- An erase ends (R113): the state, and the ERASE that is answered. -/
def State.eraseEnd (s : State) : State × Option (Msg × Reply) :=
  match s.flash.job with
  | .idle => (s, none)
  | .begin_ _ => ({ s with flash := { s.flash with job := .idle } }.set Reg.SYS_IMG_WR_STAT_STATE wrOpen, none)
  | .erase _ =>
    let w := s.flash.eraser
    let s := { s with flash := { s.flash with job := .idle, eraser := none } }
    (s, w.map (fun m => (m, s.ok s.wrBody)))

/-- The image of the open write as COMMIT verifies it: the held header and what has been programmed. -/
def State.written (s : State) (k : Nat) : List Byte :=
  s.flash.held ++ s.flashBytes (slotBase k + 256) (leAt s.flash.held 8 4 - 256)

/-- Verification of the open write ends (R113): the state, and the COMMIT that is answered. -/
def State.commitEnd (s : State) : State × Option (Msg × Reply) :=
  match s.flash.commit with
  | none => (s, none)
  | some (m, aborted) =>
    let s := { s with flash := { s.flash with commit := none } }
    if aborted then (s, some (m, s.nak stWrongMode))
    else
      let k := m.u8 1
      let l := s.written k
      let h := s.flash.held
      let rej := match s.headReject h with
        | some r => some r
        | none => match s.verifyBody State.reset l with
          | .inr r => some r
          | .inl _ => none
      let s := s.wrClose
      match rej with
      | some r =>
        let s := s.set Reg.SYS_IMG_WR_STAT_LAST_REJECT r.code
        (s, some (m, { s.limit 0 with detail := r.code }))
      | none =>
        let s := (s.flashPut (slotBase k) (slotBase k + 256) h).set Reg.SYS_IMG_WR_STAT_LAST_REJECT 0
        (s, some (m, s.ok s.wrBody))

/-! ### KEYHASH (R102-R105) -/

/-- A write of GO = 1 with CONFIRM `confirm` (R105). Where several conditions fail, KEYHASH_REFUSED names the first in the order of the
rule's list: which one it names the spec does not say (DESIGN CHOICE, log 116). -/
def State.keyGo (s : State) (confirm : Nat) : State :=
  let stage := (List.range 8).map (fun i => s.get (Reg.SYS_KEYHASH_STAGE i))
  let refuse := fun (r : Nat) => (s.set Reg.SYS_KEYHASH_STAT_REFUSED 1).warn 255 0x0015 false (u8s [r])
  if confirm ≠ 0x4B48 then refuse 1
  else if s.mode ≠ modeStandby then refuse 2
  else if s.flash.keyJob.isSome then refuse 3
  else if s.flag Reg.SYS_KEYHASH_STAT_PROGRAMMED then refuse 4
  else if stage.all (fun w => decide (w = 0)) then refuse 5
  else
    let s := (s.set Reg.SYS_KEYHASH_STAT_REFUSED 0).set Reg.SYS_KEYHASH_CMD_GO 1
    { s with flash := { s.flash with keyJob := some stage } }

/-- KEYHASH_PROGRAM_DONE (R104): programming ends; the fuses are read back. -/
def execKeyhashProgramDone (readBackOk : Bool) (s : State) : Out :=
  match s.flash.keyJob with
  | none => .next s
  | some ws =>
    if !s.awake then .next s
    else
      let s := { s with flash := { s.flash with keyJob := none } }.set Reg.SYS_KEYHASH_CMD_GO 0
      let s := s.put Reg.SYS_KEYHASH_STAT_FAILED (!readBackOk)
      .next (if readBackOk then
          (s.forAll (List.range 8) (fun s i => s.set (Reg.SYS_KEYHASH i) (ws.getD i 0))).set Reg.SYS_KEYHASH_STAT_PROGRAMMED 1
        else s.freeFuses)

end Sys2Proof.Machine
end

