-- ==== Sys2Proof/Machine/Bus.lean ====
section
/-!
DEFINITION. Bus.lean: register and memory accesses of the agents: ownership windows (R124-R136, Table GRP-2), 64-bit pairs (R123),
fields whose read or write has an effect of its own, and the alias windows of shared SRAM (R134).
-/
namespace Sys2Proof.Machine

/-! ### Windows (R125, Table GRP-2) -/

/-- What an agent may do at an address. -/
inductive Win where
  | none_
  | ro
  | rw
  deriving DecidableEq, Repr

/-- The group that an engine serves or shadows: ACTIVE or SHADOW with a valid GROUP (R126, Table ENG-5). -/
def State.engGroup (s : State) (e : Nat) : Option Nat :=
  if s.flag (Reg.ENG_STATE_GVALID e) && (decide (s.get (Reg.ENG_STATE_STATE e) = 1) || decide (s.get (Reg.ENG_STATE_STATE e) = 4)) then
    some (s.get (Reg.ENG_STATE_GROUP e))
  else none

/-- The group of an agent; the device endpoint has none. -/
def State.agGroup (s : State) : Agent → Option Nat
  | .device => none
  | .group n => some n
  | .engine e => s.engGroup e

/-- The number of an agent's read capture and write hold (R123). -/
def accessor : Agent → Nat
  | .device => 16
  | .group n => n
  | .engine e => 17 + e

/-- One row of Table GRP-2: the device's, the group endpoint's and the engine's window. -/
def pick (d g e : Win) : Agent → Win
  | .device => d
  | .group _ => g
  | .engine _ => e

/-- A row of Table GRP-2 whose second and third columns hold only where the unit belongs to the agent's group. -/
def State.pickOwn (s : State) (owner : Option Nat) (g e : Win) (ag : Agent) : Win :=
  match ag with
  | .device => .rw
  | _ => if owner.isSome && decide (s.agGroup ag = owner) then pick .rw g e ag else .none_

/-- The channel registers of FIELD: the group that owns the channel of offset `o`; none for a block-wide register. -/
def State.fieldOwner (s : State) (o : Nat) : Option (Option Nat) :=
  if 0x200 ≤ o ∧ o < 0x280 then some (s.diGroup ((o - 0x200) / 4))
  else if 0x280 ≤ o ∧ o < 0x300 then some (s.diGroup ((o - 0x280) / 4))
  else if 0x400 ≤ o ∧ o < 0x4C0 then some (s.doGroup (s.doBase ((o - 0x400) % 64 / 4)))
  else if 0x600 ≤ o ∧ o < 0x640 then some (s.aiGroup ((o - 0x600) / 16))
  else if 0x700 ≤ o ∧ o < 0x780 then some (s.puGroup ((o - 0x700) / 32))
  else if 0x8000 ≤ o ∧ o < 0x8020 then some (s.hiGroup ((o - 0x8000) / 4))
  else if 0x8040 ≤ o ∧ o < 0x8060 then some (s.hoGroup ((o - 0x8040) / 4))
  else none

/-- The window of CLAVE[n] at offset `o`: entries of fast outputs that the group does not own are reserved. -/
def State.claveWin (s : State) (n o : Nat) (ag : Agent) : Win :=
  let k := if 0x100 ≤ o ∧ o < 0x180 then some ((o - 0x100) / 16) else if 0x180 ≤ o ∧ o < 0x1A0 then some ((o - 0x180) / 4) else none
  match k with
  | some k => if s.hoGroup k = some n then s.pickOwn (some n) .rw .ro ag else .none_
  | none => s.pickOwn (some n) .rw .ro ag

/-- The window of POOL at offset `o` for an agent (Table GRP-2). -/
def poolWin (o : Nat) (ag : Agent) : Win :=
  match ag with
  | .device => .rw
  | .group n => if o < 0x100 ∨ o = 0x200 ∨ (0x100 + 0x10 * n.val ≤ o ∧ o < 0x110 + 0x10 * n.val) then .ro else .none_
  | .engine _ => .none_

/-- The window of ENG[e]: a group endpoint reads its serving engine, an engine its own block. -/
def State.engWin (s : State) (e : Nat) (ag : Agent) : Win :=
  match ag with
  | .device => .rw
  | .group n => if s.engOf n = e then .ro else .none_
  | .engine k => if k.val = e then .ro else .none_

/-- The window of a register address. -/
def State.regWin (s : State) (a : Nat) (ag : Agent) : Win :=
  if a < 0x1000 then pick .rw .ro .none_ ag
  else if 0x10000 ≤ a ∧ a < 0x20000 then s.pickOwn (some ((a - 0x10000) / 0x1000)) .rw .ro ag
  else if 0x20000 ≤ a ∧ a < 0x28000 then s.pickOwn (s.axisGroup ((a - 0x20000) / 0x400)) .rw .rw ag
  else if 0x30000 ≤ a ∧ a < 0x32200 then s.engWin ((a - 0x30000) / 0x200) ag
  else if 0x40000 ≤ a ∧ a < 0x44000 then s.claveWin ((a - 0x40000) / 0x400) ((a - 0x40000) % 0x400) ag
  else if 0x50000 ≤ a ∧ a < 0x51000 then s.pickOwn (s.snareGroup ((a - 0x50000) / 0x80)) .rw .none_ ag
  else if 0x60000 ≤ a ∧ a < 0x62000 then s.pickOwn (s.fbGroup ((a - 0x60000) / 0x200)) .rw .ro ag
  else if 0x68000 ≤ a ∧ a < 0x68100 then pick .rw .ro .none_ ag
  else if 0x70000 ≤ a ∧ a < 0x80000 then
    match s.fieldOwner (a - 0x70000) with
    | some o => s.pickOwn o .rw .none_ ag
    | none => pick .rw .ro .none_ ag
  else if 0x80000 ≤ a ∧ a < 0x92000 then pick .rw .ro .none_ ag
  else if 0xA0000 ≤ a ∧ a < 0xA1000 then pick .rw .ro .none_ ag
  else if 0xB0000 ≤ a ∧ a < 0xB1000 then poolWin (a - 0xB0000) ag
  else if 0xC0000 ≤ a ∧ a < 0xC1000 then pick .rw .ro .none_ ag
  else if 0xD0000 ≤ a ∧ a < 0xD1000 then pick .rw .ro .none_ ag
  else if 0xE0000 ≤ a ∧ a < 0xE2000 then s.pickOwn (s.axisGroup ((a - 0xE0000) / 0x200)) .rw .rw ag
  else .none_

/-- A row of Table GRP-2 that the device only reads, the group endpoint reads for its own and the engine does not reach. -/
def readOwn (n : Nat) (ag : Agent) : Win :=
  match ag with
  | .device => .ro
  | .group k => if k.val = n then .ro else .none_
  | .engine _ => .none_

/-- The window of a shared-SRAM offset (Table GRP-3). -/
def State.sramWin (s : State) (o : Nat) (ag : Agent) : Win :=
  if o < 0x100000 then readOwn (o / 0x10000) ag
  else if o < 0x110000 then readOwn ((o - 0x100000) / 0x1000) ag
  else if o < 0x112000 then pick .ro .none_ .none_ ag
  else if o < 0x118000 then .none_
  else if o < 0x120000 then pick .ro .none_ .none_ ag
  else if o < 0x120800 then pick .rw .none_ .none_ ag
  else if o < 0x121000 then .none_
  else if o < 0x122C00 then pick .rw .none_ .none_ ag
  else if o < 0x130000 then .none_
  else if o < 0x134000 then s.pickOwn (some ((o - 0x130000) / 0x400)) .rw .rw ag
  else if o < 0x140000 then .none_
  else if o < 0x200000 then pick .ro .none_ .none_ ag
  else .none_

/-- The window of a pool block: its holder decides. -/
def State.blockWin (s : State) (b : Nat) (ag : Agent) : Win :=
  let h := s.owner b
  if h < 16 then s.pickOwn (some h) .rw .rw ag
  else if h = holderDevice then pick .rw .none_ .none_ ag
  else pick .ro .none_ .none_ ag

/-- The window of an external-memory offset (Table GRP-5). -/
def State.xmemWin (s : State) (o : Nat) (ag : Agent) : Win :=
  if o < 0x10000000 then s.blockWin (o / 4096) ag
  else if o < 0x20000000 then readOwn ((o - 0x10000000) / 0x1000000) ag
  else if o < 0x30000000 then readOwn ((o - 0x20000000) / 0x1000000) ag
  else if o < 0x38000000 then pick .ro .none_ .none_ ag
  else if o < 0x3E000000 then pick .rw .ro .ro ag
  else .none_

/-- The window of PM and DM of the engines. -/
def State.engMemWin (s : State) (e o : Nat) (ag : Agent) : Win :=
  if 17 ≤ e then .none_
  else if o < 0x8000 then pick .ro .none_ .none_ ag
  else if o < 0x10000 then
    match ag with
    | .device => .ro
    | .group n => if s.engOf n = e then .ro else .none_
    | .engine k => if k.val = e then .rw else .none_
  else .none_

/-- The shared-SRAM word that an alias address names, and whether the alias sets bits (R134). -/
def aliasOf (a : Nat) : Option (Nat × Bool) :=
  if 0x22000000 ≤ a ∧ a < 0x22200000 then some (a - 0x2000000, true)
  else if 0x24000000 ≤ a ∧ a < 0x24200000 then some (a - 0x4000000, false)
  else none

/-- The window of a word address, alias addresses put down to their word (R136). Before STANDBY nothing is reached, but for SYS by the
device endpoint in FALLBACK (R109); there the device's window on SYS is RW as everywhere (Table GRP-2). -/
def State.window (s : State) (a : Nat) (ag : Agent) : Win :=
  if !s.awake then .none_
  else if s.mode = modeFallback then (if a < 0x1000 then pick .rw .none_ .none_ ag else .none_)
  else if !s.live then .none_
  else if a < 0x10000000 then s.regWin a ag
  else if a < 0x20000000 then s.engMemWin ((a - 0x10000000) / 0x100000) ((a - 0x10000000) % 0x100000) ag
  else if a < 0x20200000 then s.sramWin (a - 0x20000000) ag
  else if 0x80000000 ≤ a ∧ a < 0xC0000000 then s.xmemWin (a - 0x80000000) ag
  else .none_

/-! ### Register words -/

/-- A state whose stored fields at word address `a` hold what a read finds now, for the fields that show a live condition. -/
def State.refresh (s : State) (a : Nat) : State :=
  if a = 0x20 then s.set Reg.SYS_RTC_LO s.bk.rtc
  else if a = 0x60 then s.set Reg.SYS_BKFIFO_LO s.bkLo
  else if a = 0x64 then s.pokeWord 0x64 s.bkHi
  else if a = 0x68 then s.set Reg.SYS_BKFIFO_STAT_LEVEL s.bk.fifo.length
  else if 0x20000 ≤ a ∧ a < 0x28000 then
    let x := (a - 0x20000) / 0x400
    if a = (Reg.AXIS_NET_STAT_DSTATE x).addr then s.set (Reg.AXIS_NET_STAT_DSTATE x) (s.dstate x) else s
  else if a = 0x68010 then
    s.set Reg.ECHO_STAT (((List.range 4).map (fun k => if s.echoDefault k then 2 ^ k else 0)).sum)
  else if a = 0x80230 ∨ a = 0x80234 then s.set Reg.ETH_NTIME s.ntime
  else if a = 0x80330 ∨ a = 0x80370 then
    let p := (a - 0x80330) / 64
    s.set (Reg.ETH_GCL_GATES p) (s.gateMask p)
  else if 0x81200 ≤ a ∧ a < 0x81300 then
    let m := (a - 0x81200) / 4
    s.set (Reg.ETH_MTR_LEVEL m) (s.bucket m / 16000000000)
  else if a = 0xC0028 then s.set Reg.LEDGER_RATE s.rateNow
  else if a = 0xD0004 then s.set Reg.FAULT_DEV_LIVE s.devLive
  else if 0xD0100 ≤ a ∧ a < 0xD0500 then
    let n := (a - 0xD0100) / 64
    if a % 64 = 4 then s.set (Reg.FAULT_GRP_LIVE n) (s.liveCodes n) else s
  else s

/-- The word that a read of register address `a` finds. -/
def State.wordNow (s : State) (a : Nat) : Nat := (s.refresh a).peekWord a

/-- The low address of the 64-bit pair that word address `a` belongs to, and whether `a` is its high word (R123). -/
def pairOf (a : Nat) : Option (Nat × Bool) :=
  match (fldsAt a).find? (fun q => q.1.width = 64) with
  | some (f, hi, _) => some (f.addr, hi)
  | none => none

/-! ### Reads -/

/-- What reading a word does beside returning it: RC fields are cleared for an agent with RW (R125), RTC_LO captures the upper
bits of the RTC (R77), BKFIFO_HI removes the oldest entry (R54). -/
def State.readEffect (s : State) (w : Win) (a : Nat) : State :=
  let s := if w = .rw then (fldsAt a).foldl (fun s q => if q.2.2 = .rc then s.set q.1 0 else s) s else s
  if a = 0x20 then s.set Reg.SYS_RTC_HI (s.bk.rtc / 2 ^ 32)
  else if a = 0x64 then s.bkPop
  else s

/-- A read of a register word by accessor `k` in window `w` (R14, R123). -/
def State.regRead (s : State) (k : Nat) (w : Win) (a : Nat) : State × Nat :=
  match pairOf a with
  | some (lo, false) => (s.setHold k { s.holdX k with rdPair := some lo, rdHigh := s.wordNow (lo + 4) }, s.wordNow a)
  | some (lo, true) => (s, if (s.holdX k).rdPair = some lo then (s.holdX k).rdHigh else s.wordNow a)
  | none => (s.readEffect w a, s.wordNow a)

/-- Word `w` of the pool's free bitmap (R131). -/
def State.bitmapWord (s : State) (w : Nat) : Nat :=
  ((List.range 32).map (fun b => if s.owner (32 * w + b) = holderFree then 2 ^ b else 0)).sum

/-- A word of addressed memory. The system area and what the spec leaves to the implementation read as free values. -/
def State.memRead (s : State) (a : Nat) : State × Nat :=
  if 0x20110000 ≤ a ∧ a < 0x20112000 then (s, s.bitmapWord ((a - 0x20110000) / 4))
  else if 0x20118000 ≤ a ∧ a < 0x20120000 then (s, s.evqWord (a - 0x20118000))
  else if 0x20140000 ≤ a ∧ a < 0x20150000 then (s, ofLE ((List.range 4).map (fun i => BitVec.ofNat 8 (s.owner (a - 0x20140000 + i)))))
  else if 0x20150000 ≤ a ∧ a < 0x20200000 then (s.draw, Config.freeNat s.drawn % 2 ^ 32)
  else if 0x80000000 ≤ a ∧ a < 0x90000000 then (s, ofLE (s.poolGets (a - 0x80000000) 4))
  else if 0xB0000000 ≤ a ∧ a < 0xB8000000 then s.ringWord (a - 0xB0000000)
  else (s, s.rdLE a 4)

/-- A word of addressed memory replaced; what a meter has gathered by now stays as its old element had it, up to its new CBS (R443). -/
def State.memWrite (s : State) (a v : Nat) : State :=
  if 0x80000000 ≤ a ∧ a < 0x90000000 then s.poolPuts (a - 0x80000000) (leBytes 4 v)
  else if 0x20122800 ≤ a ∧ a < 0x20122C00 then ((s.settleMeter ((a - 0x20122800) / 16)).wrLE a 4 v).settleMeter ((a - 0x20122800) / 16)
  else s.wrLE a 4 v

/-! ### Uncorrectable errors (R133, R138, R595) -/

/-- The group whose copies, snapshots or mailbox hold the shared-SRAM word at offset `o` (Table GRP-5). -/
def sramUeGroup (o : Nat) : Option Nat :=
  if o < 0x100000 then some (o / 0x10000)
  else if o < 0x110000 then some ((o - 0x100000) / 0x1000)
  else if 0x130000 ≤ o ∧ o < 0x134000 then some ((o - 0x130000) / 0x400)
  else none

/-- What follows from an uncorrectable word at offset `o`: a fault of its group, or a watchdog reset where it belongs to none (R133). -/
def State.sramUeFor (s : State) (o : Nat) : Option Nat → State
  | some n => ((s.set Reg.SYS_SRAM_ECC_UE 1).modGrp n (fun g => { g with memUe := true })).raiseGroup n 2 0xFF o
  | none =>
    let s := ((s.history 0x106).outputsOff.enginesOff).set Reg.SYS_MODE_CODE modeLoading
    { s with start := { s.start with entry := some 4 } }

/-- An uncorrectable shared-SRAM error at offset `o` (R133): the word reads zero from now on (R595). -/
def State.sramUe (s : State) (o : Nat) : State :=
  let o := o / 4 * 4
  ((s.wrLE (0x20000000 + o) 4 0).set Reg.SYS_SRAM_UE_ADDR o).sramUeFor o (sramUeGroup o)

/-- What the units that keep structures in external memory see of a 64-bit word that has become zero (R595): a record of the ring has
zeros there, and so has an entry that waits in a Clave queue. -/
def State.zeroShown (s : State) (o : Nat) : State :=
  if 0x30000000 ≤ o ∧ o < 0x38000000 then { s with led := { s.led with bad := (o - 0x30000000) :: s.led.bad } }
  else if 0x20000000 ≤ o ∧ o < 0x30000000 then
    s.modClave ((o - 0x20000000) / 0x1000000) (fun c => { c with queue := c.queue.mapIdx (fun j e =>
      if (c.recNo - c.queue.length + j) % 1048576 ≠ o % 0x1000000 / 16 then e
      else if o % 16 = 0 then { e with coord := 0 }
      else { e with act := 0, dir := 0, target := 0, param := 0 }) })
  else s

/-- An uncorrectable external-memory error at offset `o` (R138, R68): the 64-bit word reads zero from now on (R595). -/
def State.xmemUe (s : State) (o : Nat) : State :=
  let o := o / 8 * 8
  let s := ((s.memWrite (0x80000000 + o) 0).memWrite (0x80000000 + o + 4) 0).zeroShown o
  let s := (s.set Reg.SYS_XMEM_ECC_UE 1).set Reg.SYS_XMEM_UE_ADDR o
  { s with flt := { s.flt with xmemUe := true } }.raiseDevice 0x103 o

/-- The address of the word with check bits that holds byte address `a`: 64 bits in external memory, 32 bits elsewhere. -/
def eccWord (a : Nat) : Nat := if 0x80000000 ≤ a then a / 8 * 8 else a / 4 * 4

/-- An access to address `a` meets what is wrong with its word: an uncorrectable error that nothing has found yet is reported, once, and
the word is zero from then on (R595). -/
def State.eccTouch (s : State) (a : Nat) : State :=
  let w := eccWord a
  if decide (0x20000000 ≤ w) && s.flt.latent.contains w then
    let s := { s with flt := { s.flt with latent := s.flt.latent.filter (fun v => decide (v ≠ w)) } }
    if 0x80000000 ≤ w then s.xmemUe (w - 0x80000000) else s.sramUe (w - 0x20000000)
  else s

/-- A pass of the scrubber over the words from `lo` to before `hi` finds every error that no access has found. -/
def State.eccPass (s : State) (lo hi : Nat) : State :=
  s.flt.latent.foldl (fun s w => if lo ≤ w ∧ w < hi then s.eccTouch w else s) s

/-- A unit reads words of external memory: every error in one of them is found (R138). -/
def State.eccFetch (s : State) (read : Nat → Bool) : State :=
  s.flt.latent.foldl (fun s w => if read w then s.eccTouch w else s) s

/-- Whether the word at `w` lies in one of `n` slots of `size` bytes, `total` in all from `base` on, that follow slot `first`. -/
def inSlots (base size total first n w : Nat) : Bool :=
  decide (base ≤ w) && decide (w < base + size * total) && decide (((w - base) / size + total - first % total) % total < n)

/-- The entries that move into a Clave's window at a slow boundary are read from its queue (R327). -/
def State.claveFetch (s : State) (n : Nat) : State :=
  let c := s.claveX n
  s.eccFetch (inSlots (0xA0000000 + n * 0x1000000) 16 1048576 (c.recNo - c.queue.length) (min 256 (min c.queue.length (1024 - c.win.length))))

/-- The segments that a path holds are read from its queue (R300). -/
def State.pathFetch (s : State) (n : Nat) : State :=
  let g := s.grpX n
  let k := (g.queued.map PathSeg.records).sum
  s.eccFetch (inSlots (0x90000000 + n * 0x1000000) 64 262144 (g.recNo - k) k)

/-- The records that a LEDGER_READ returns are read from the ring (R537). -/
def State.ringFetch (s : State) (m : Msg) : State :=
  let start := max (m.le 0 8) (s.get Reg.LEDGER_OLDEST_SEQ)
  s.eccFetch (inSlots 0xB0000000 64 ringSlots (start + ringSlots - 1) (min (m.u8 8) (s.get Reg.LEDGER_WR_SEQ - start)))

/-- A word goes bad behind the scrubber: nobody has read it since. -/
def State.eccSpoil (s : State) (a : Option Nat) : State :=
  match a with
  | none => s
  | some a => if s.flt.latent.contains (eccWord a) then s else { s with flt := { s.flt with latent := eccWord a :: s.flt.latent } }

/-- A read of one word by an agent (R122, R125, R128): outside its window it reads zero and has no effect. -/
def State.busRead (s : State) (ag : Agent) (addr : Nat) : State × Nat :=
  let a := addr / 4 * 4
  let a := match aliasOf a with | some (u, _) => u | none => a
  match s.window a ag with
  | .none_ => (s, 0)
  | w => if a < 0x10000000 then s.regRead (accessor ag) w a else (s.eccTouch a).memRead a

/-! ### Writes -/

/-- The mask of a whole word. -/
def fullMask : Nat := 0xFFFFFFFF

/-- A word with the bits of `mask` taken from `v` (R516). -/
def merge (old v mask : Nat) : Nat := (old ^^^ (old &&& mask)) ||| (v &&& mask)

/-- A field of access type RW or W1C written under a mask; fields of the other types keep their value (R14). -/
def State.writeFld (s : State) (f : Fld) (acc : Access) (v mask : Nat) : State :=
  let v := bits v f.lo f.width
  let m := bits mask f.lo f.width
  match acc with
  | .rw => s.set f (merge (s.get f) v m)
  | .w1c => s.set f (s.get f ^^^ (s.get f &&& (v &&& m)))
  | _ => s

/-- Every field of the word at `a` written under a mask. -/
def State.writeFlds (s : State) (a v mask : Nat) : State :=
  (fldsAt a).foldl (fun s q => s.writeFld q.1 q.2.2 v mask) s

/-- A write of SYS registers with behaviour of their own: `new` is the merged word, `hot` holds the bits written as 1. -/
def State.sysWrite (s : State) (a v mask : Nat) : State :=
  let hot := v &&& mask
  if a = 0x30 then
    let s := s.writeFlds a v mask
    if bit hot 0 then s.set Reg.SYS_RTC_CTL_LOAD 1 else s
  else if a = 0x50 then
    if merge (s.get Reg.SYS_CMP_STROBE) v mask % 8 = 7 then s else s.writeFlds a v mask
  else if a = 0x180 then
    let s := if bit hot 0 then s.keyGo (hot / 65536 % 65536) else s
    s.set Reg.SYS_KEYHASH_CMD_CONFIRM 0
  else s.writeFlds a v mask

/-- A write of GRP[n] registers: DOORBELL (R162), COEF_CTL (R274), FEED_OVR (R307), whose reserved bits are ignored (R16). -/
def State.grpWrite (s : State) (a v mask : Nat) : State :=
  let n := (a - 0x10000) / 0x1000
  let o := a % 0x1000
  let hot := v &&& mask
  if o = 0x2C then (if bit hot 0 then s.raiseCause n 17 else s)
  else if o = 0x44 then (if bit hot 0 then s.set (Reg.GRP_COEF_CTL n) 1 else s)
  else if o = 0x104 then s.set (Reg.GRP_FEED_OVR n) (min 2000 (merge (s.get (Reg.GRP_FEED_OVR n)) (v % 2048) (mask % 2048)))
  else s.writeFlds a v mask

/-- A write of AXIS[x] registers: LOOP_FLT (R266) and the coefficient window (R277). -/
def State.axisWrite (s : State) (a v mask : Nat) : State :=
  let x := (a - 0x20000) / 0x400
  let o := a % 0x400
  if o = 0x100 then
    let detail := merge (s.get (Reg.AXIS_LOOP_FLT_DETAIL x)) (v / 65536) (mask / 65536) % 65536
    s.loopFlt x ((v &&& mask) % 8 + detail * 65536)
  else if 0x200 ≤ o ∧ o < 0x280 then
    let k := (o - 0x200) / 4
    s.putAxisCoef x k (merge (s.get (Reg.AXIS_COEF_W x k)) v mask)
  else s.writeFlds a v mask

/-- A write of CUR[x] registers: the coefficient window (R273). -/
def State.curWrite (s : State) (a v mask : Nat) : State :=
  let x := (a - 0xE0000) / 0x200
  let o := a % 0x200
  if 0x80 ≤ o ∧ o < 0xC0 then
    let k := (o - 0x80) / 4
    s.putCurCoef x k (merge (s.get (Reg.CUR_COEF_W x k)) v mask)
  else s.writeFlds a v mask

/-- A write of FB[p] registers: CTL.REF_ACK (R379), R2_CTL.RESET (R383). -/
def State.fbWrite (s : State) (a v mask : Nat) : State :=
  let p := (a - 0x60000) / 0x200
  let o := a % 0x200
  let hot := v &&& mask
  if o = 0x38 then (if bit hot 0 then s.set (Reg.FB_STAT_REF_LOST p) 0 else s)
  else if o = 0xAC then (if bit hot 0 then (s.set (Reg.FB_R2_MIN p) 0xFFFFFFFF).set (Reg.FB_R2_MAX p) 0 else s)
  else s.writeFlds a v mask

/-- A write of FIELD registers: DO_OUT of a set's lowest member (R400, R401), HO_CFG.MODE (R345). -/
def State.fieldWrite (s : State) (a v mask : Nat) : State :=
  let o := a - 0x70000
  if 0x400 ≤ o ∧ o < 0x440 then
    let j := (o - 0x400) / 4
    if s.doBase j = j ∧ bit mask 0 then s.doSend j (bit v 0) none else s
  else if 0x8040 ≤ o ∧ o < 0x8060 then
    let k := (o - 0x8040) / 4
    if bits mask 1 2 = 0 then s else s.hoMode k (merge (s.get (Reg.FIELD_HO_CFG_MODE k)) (bits v 1 2) (bits mask 1 2))
  else s.writeFlds a v mask

/-- A write of ETH registers: PORT.CTL.EN (R444), GCL.CTL.CHANGE (R435), SF_BLOCKED (R441). -/
def State.ethWrite (s : State) (a v mask : Nat) : State :=
  let hot := v &&& mask
  if a = 0x80100 ∨ a = 0x80140 then
    if bit mask 0 then s.portEnable ((a - 0x80100) / 64) (bit v 0) else s
  else if a = 0x80300 ∨ a = 0x80340 then
    let s := s.writeFlds a v mask
    if bit hot 8 then s.gclChange ((a - 0x80300) / 64) else s
  else if 0x80410 ≤ a ∧ a < 0x80420 then s.unblock ((a - 0x80410) / 4) hot
  else s.writeFlds a v mask

/-- A write of CAN[c] registers: CTL.EN (Table CAN-6), RXF.POP (R462), TXB and TXCTL (R466). -/
def State.canWrite (s : State) (a v mask : Nat) : State :=
  let c := (a - 0x90000) / 0x1000
  let o := a % 0x1000
  let hot := v &&& mask
  if o = 0 then (if bit mask 0 then s.canEnable c (bit v 0) else s)
  else if o = 0x104 ∨ o = 0x184 then (if bit hot 0 then s.canPop c ((o - 0x104) / 0x80) else s)
  else if 0x300 ≤ o ∧ o < 0x350 then (if s.flag (Reg.CAN_TXCTL_BUSY c) then s else s.writeFlds a v mask)
  else if o = 0x350 then
    let s := if bit hot 0 then s.canSend c else s
    if bit hot 1 then s.canAbort c else s
  else s.writeFlds a v mask

/-- A write of POOL registers: CTL.MIN_RESET (R151), WARN_LEVEL (R148). -/
def State.poolWrite (s : State) (a v mask : Nat) : State :=
  let hot := v &&& mask
  if a = 0xB0010 then (if bit hot 0 then s.set Reg.POOL_MIN_SHARED s.freeShared else s)
  else if a = 0xB0014 then (s.writeFlds a v mask).syncPool
  else s.writeFlds a v mask

/-- A write of a register word that belongs to no pair. -/
def State.plainWrite (s : State) (a v mask : Nat) : State :=
  let hot := v &&& mask
  if a < 0x10000 then s.sysWrite a v mask
  else if a < 0x20000 then s.grpWrite a v mask
  else if a < 0x30000 then s.axisWrite a v mask
  else if a < 0x40000 then (if a % 0x200 = 0x20 ∧ bit hot 0 then s.set (Reg.ENG_RUN_MAX ((a - 0x30000) / 0x200)) 0 else s)
  else if a < 0x60000 then s.writeFlds a v mask
  else if a < 0x68000 then s.fbWrite a v mask
  else if a < 0x70000 then s.writeFlds a v mask
  else if a < 0x80000 then s.fieldWrite a v mask
  else if a < 0x90000 then s.ethWrite a v mask
  else if a < 0xA0000 then s.canWrite a v mask
  else if a < 0xB0000 then s.writeFlds a v mask
  else if a < 0xC0000 then s.poolWrite a v mask
  else if a < 0xD0000 then
    if a = 0xC001C ∧ bit hot 0 then s.set Reg.LEDGER_EVQ_LEVEL_PEAK (s.get Reg.LEDGER_EVQ_LEVEL_LEVEL) else s.writeFlds a v mask
  else if 0xE0000 ≤ a then s.curWrite a v mask
  else s.writeFlds a v mask

/-- A 64-bit register set whole, when its access type lets it be written (R14): OFFSET of a port waits (R363). -/
def State.putPair (s : State) (lo v : Nat) : State :=
  if 0x60000 ≤ lo ∧ lo < 0x62000 ∧ lo % 0x200 = 0x28 then s.askOffset ((lo - 0x60000) / 0x200) v
  else s.set ⟨lo, 0, 64⟩ v

/-- Whether the pair at `lo` may be written. -/
def pairRw (lo : Nat) : Bool := (fldsAt lo).any (fun q => q.2.2 = .rw)

/-- A write of a register word by accessor `k` with RW (R14, R123). -/
def State.regWrite (s : State) (k : Nat) (a v mask : Nat) : State :=
  match pairOf a with
  | none => s.plainWrite a v mask
  | some (lo, true) =>
    if pairRw lo then s.setHold k { s.holdX k with wrPair := some lo, wrHigh := merge (s.wordNow a) v mask } else s
  | some (lo, false) =>
    if pairRw lo then
      let h := s.holdX k
      let low := merge (s.wordNow a) v mask
      if h.wrPair = some lo then (s.setHold k { h with wrPair := none, wrHigh := 0 }).putPair lo (low + h.wrHigh * 2 ^ 32)
      else s.putPair lo (low + s.wordNow (lo + 4) * 2 ^ 32)
    else s

/-- A committed write of engine `e` applied (R159): its window was checked as it was staged, and what became of the engine since does
not matter. -/
def State.engPut (s : State) (e a v : Nat) : State := s.regWrite (accessor (.engine ⟨e % 17, Nat.mod_lt _ (by decide)⟩)) a v fullMask

/-- A word of memory under a mask. -/
def State.memMerge (s : State) (a v mask : Nat) : State := (s.memRead a).1.memWrite a (merge (s.memRead a).2 v mask)

/-- A write through an alias: every bit that is 1 in `v` is set, or cleared (R134, R135). -/
def State.aliasPut (s : State) (a v : Nat) (up : Bool) : State :=
  let old := (s.memRead a).2
  s.memWrite a (if up then old ||| v else old ^^^ (old &&& v))

/-- What a write under a mask meets in its word: a whole word of shared SRAM is replaced with its check bits, anything less is read
first. -/
def State.eccWrite (s : State) (a mask : Nat) : State :=
  if a < 0x80000000 ∧ mask = fullMask then { s with flt := { s.flt with latent := s.flt.latent.filter (fun w => decide (w ≠ eccWord a)) } }
  else s.eccTouch a

/-- A write of one word under a mask by an agent (R122, R125, R128, R134): outside its window nothing happens. -/
def State.busWrite (s : State) (ag : Agent) (addr v mask : Nat) : State :=
  let a := addr / 4 * 4
  match aliasOf a with
  | some (u, up) => if s.window u ag = .rw then (s.eccTouch u).aliasPut u (v &&& mask) up else s
  | none =>
    if s.window a ag = .rw then
      if a < 0x10000000 then s.regWrite (accessor ag) a v mask else (s.eccWrite a mask).memMerge a v mask
    else s

/-- A read whose value is handed to its reader (the model's own `readOut`). -/
def State.readTo (s : State) (ag : Agent) (addr : Nat) : State :=
  { (s.busRead ag addr).1 with readOut := [(s.busRead ag addr).2] }

/-! ### Commands that are register accesses -/

/-- RTC_LOAD (R49): a write of 1 to RTC_CTL.LOAD. -/
def execRtcLoad (ag : Agent) (s : State) : Out := .next (s.busWrite ag 0x30 1 1)

/-- RTC_LO_READ (R77). -/
def execRtcLoRead (ag : Agent) (s : State) : Out := .next (s.readTo ag 0x20)

/-- BKFIFO_HI_READ (R54). -/
def execBkfifoHiRead (ag : Agent) (s : State) : Out := .next (s.readTo ag 0x64)

/-- RC_FIELD_READ (R14, R125). -/
def execRcFieldRead (ag : Agent) (addr : BitVec 32) (s : State) : Out := .next (s.readTo ag addr.toNat)

/-- KEYHASH_PROGRAM (R105): GO and CONFIRM written in one access. -/
def execKeyhashProgram (ag : Agent) (confirm : BitVec 16) (s : State) : Out :=
  .next (s.busWrite ag 0x180 (1 + confirm.toNat * 65536) 0xFFFF0001)

/-- MIN_RESET (R151). -/
def execMinReset (ag : Agent) (s : State) : Out := .next (s.busWrite ag 0xB0010 1 1)

/-- ALIAS_WRITE (R134): a write to either alias window; another address is no alias and belongs to REGISTER_WRITE. -/
def execAliasWrite (ag : Agent) (addr value : BitVec 32) (s : State) : Out :=
  match aliasOf (addr.toNat / 4 * 4) with
  | some _ => .next (s.busWrite ag addr.toNat value.toNat fullMask)
  | none => .next s

/-- PAIR_LOW_READ (R123). -/
def execPairLowRead (ag : Agent) (addr : BitVec 32) (s : State) : Out := .next (s.readTo ag addr.toNat)

/-- PAIR_HIGH_READ (R123). -/
def execPairHighRead (ag : Agent) (addr : BitVec 32) (s : State) : Out := .next (s.readTo ag addr.toNat)

/-- PAIR_HIGH_WRITE (R123). -/
def execPairHighWrite (ag : Agent) (addr value : BitVec 32) (s : State) : Out :=
  .next (s.busWrite ag addr.toNat value.toNat fullMask)

/-- PAIR_LOW_WRITE (R123). -/
def execPairLowWrite (ag : Agent) (addr value : BitVec 32) (s : State) : Out :=
  .next (s.busWrite ag addr.toNat value.toNat fullMask)

/-- REGISTER_WRITE (R14, R516). -/
def execRegisterWrite (ag : Agent) (addr value mask : BitVec 32) (s : State) : Out :=
  .next (s.busWrite ag addr.toNat value.toNat mask.toNat)

/-- DOORBELL (R162). -/
def execDoorbell (ag : Agent) (n : Fin 16) (s : State) : Out := .next (s.busWrite ag (0x1002C + 0x1000 * n.val) 1 1)

/-- RUN_MAX_RESET (R190). -/
def execRunMaxReset (ag : Agent) (e : Fin 17) (s : State) : Out := .next (s.busWrite ag (0x30020 + 0x200 * e.val) 1 1)

/-- LOOP_FLT_WRITE (R266). -/
def execLoopFltWrite (ag : Agent) (x : Fin 32) (value : BitVec 32) (s : State) : Out :=
  .next (s.busWrite ag (0x20100 + 0x400 * x.val) value.toNat fullMask)

/-- COEF_ARM (R274). -/
def execCoefArm (ag : Agent) (n : Fin 16) (s : State) : Out := .next (s.busWrite ag (0x10044 + 0x1000 * n.val) 1 1)

/-- FEED_OVR_WRITE (R307). -/
def execFeedOvrWrite (ag : Agent) (n : Fin 16) (value : BitVec 32) (s : State) : Out :=
  .next (s.busWrite ag (0x10104 + 0x1000 * n.val) value.toNat fullMask)

/-- HO_MODE_WRITE (R345). -/
def execHoModeWrite (ag : Agent) (k : Fin 8) (mode : BitVec 2) (s : State) : Out :=
  .next (s.busWrite ag (0x78040 + 4 * k.val) (mode.toNat * 2) 6)

/-- FB_OFFSET_WRITE (R363): both words of the pair, high word first (R123). -/
def execFbOffsetWrite (ag : Agent) (p : Fin 16) (value : BitVec 64) (s : State) : Out :=
  let a := 0x60028 + 0x200 * p.val
  .next ((s.busWrite ag (a + 4) (value.toNat / 2 ^ 32) fullMask).busWrite ag a (value.toNat % 2 ^ 32) fullMask)

/-- REF_ACK (R379). -/
def execRefAck (ag : Agent) (p : Fin 16) (s : State) : Out := .next (s.busWrite ag (0x60038 + 0x200 * p.val) 1 1)

/-- AMP_TRACK_RESET (R383). -/
def execAmpTrackReset (ag : Agent) (p : Fin 16) (s : State) : Out := .next (s.busWrite ag (0x600AC + 0x200 * p.val) 1 1)

/-- DO_OUT_WRITE (R401). -/
def execDoOutWrite (ag : Agent) (j : Fin 16) (value : BitVec 32) (s : State) : Out :=
  .next (s.busWrite ag (0x70400 + 4 * j.val) value.toNat fullMask)

/-- GCL_CHANGE (R435). -/
def execGclChange (ag : Agent) (port : Fin 2) (s : State) : Out := .next (s.busWrite ag (0x80300 + 64 * port.val) 0x100 0x100)

/-- ETH_PORT_ENABLE_WRITE (R444). -/
def execEthPortEnableWrite (ag : Agent) (port : Fin 2) (en : Bool) (s : State) : Out :=
  .next (s.busWrite ag (0x80100 + 64 * port.val) (b2n en) 1)

/-- SF_BLOCKED_CLEAR (R441). -/
def execSfBlockedClear (ag : Agent) (w : Fin 4) (mask : BitVec 32) (s : State) : Out :=
  .next (s.busWrite ag (0x80410 + 4 * w.val) mask.toNat fullMask)

/-- CAN_TX_SEND (R466). -/
def execCanTxSend (ag : Agent) (c : Fin 2) (s : State) : Out := .next (s.busWrite ag (0x90350 + 0x1000 * c.val) 1 1)

/-- CAN_TX_ABORT (R466). -/
def execCanTxAbort (ag : Agent) (c : Fin 2) (s : State) : Out := .next (s.busWrite ag (0x90350 + 0x1000 * c.val) 2 2)

/-- CAN_ENABLE_WRITE (Table CAN-6). -/
def execCanEnableWrite (ag : Agent) (c : Fin 2) (en : Bool) (s : State) : Out :=
  .next (s.busWrite ag (0x90000 + 0x1000 * c.val) (b2n en) 1)

/-- CAN_FIFO_POP (R462). -/
def execCanFifoPop (ag : Agent) (c k : Fin 2) (s : State) : Out :=
  .next (s.busWrite ag (0x90104 + 0x1000 * c.val + 0x80 * k.val) 1 1)

/-- PEAK_RESET (R542). -/
def execPeakReset (ag : Agent) (s : State) : Out := .next (s.busWrite ag 0xC001C 1 1)

/-! ### Scrubbing (R132, R133, R138, R595) -/

/-- SRAM_SCRUB (R132, R133): one pass with its corrected errors and the uncorrectable one it found; `spoilt` is a word that goes bad
behind the scrubber, for a later access or pass to find. -/
def execSramScrub (corrected : BitVec 16) (ue spoilt : Option (BitVec 21)) (s : State) : Out :=
  if s.live && s.awake then
    let s := (s.addSat Reg.SYS_SRAM_ECC_CE_COUNT corrected.toNat).eccPass 0x20000000 0x20200000
    let s := match ue with | none => s | some o => s.sramUe o.toNat
    .next (s.eccSpoil (spoilt.map (fun o => 0x20000000 + o.toNat)))
  else .next s

/-- XMEM_SCRUB (R138): one pass, with the same operands. -/
def execXmemScrub (corrected : BitVec 16) (ue spoilt : Option (BitVec 30)) (s : State) : Out :=
  if s.live && s.awake then
    let s := s.set Reg.SYS_XMEM_SCRUB (s.get Reg.SYS_XMEM_SCRUB + 1)
    let s := (s.addSat Reg.SYS_XMEM_ECC_CE_COUNT corrected.toNat).eccPass 0x80000000 0xC0000000
    let s := match ue with | none => s | some o => s.xmemUe o.toNat
    .next (s.eccSpoil (spoilt.map (fun o => 0x80000000 + o.toNat)))
  else .next s

end Sys2Proof.Machine
end

