-- ==== Sys2Proof/Machine/Engine.lean ====
section
/-!
DEFINITION. Engine.lean: loop engines as units (R156-R190): runs and deadlines, failure, spare takeover, ENGINE_TEST and
shadow-verified migration.
-/
namespace Sys2Proof.Machine

/-! ### Where an engine stands -/

/-- The group that engine `e` names. -/
def State.grpOf (s : State) (e : Nat) : Nat := s.get (Reg.ENG_STATE_GROUP e)

/-- The engine is in a state. -/
def State.engIn (s : State) (e st : Nat) : Bool := decide (s.get (Reg.ENG_STATE_STATE e) = st)

/-- The engine state becomes `st`, for group `g` if one is named (Table ENG-9). -/
def State.setEngState (s : State) (e st : Nat) (g : Option Nat) : State :=
  let s := s.set (Reg.ENG_STATE_STATE e) st
  match g with
  | some n => (s.set (Reg.ENG_STATE_GROUP e) n).set (Reg.ENG_STATE_GVALID e) 1
  | none => (s.set (Reg.ENG_STATE_GROUP e) 0).set (Reg.ENG_STATE_GVALID e) 0

/-- The engine executes code: in ACTIVE or SHADOW, in a mode and a clock in which engines run (R168, R41, R556). -/
def State.engRuns (s : State) (e : Nat) : Bool := s.awake && s.live && (s.engIn e esActive || s.engIn e esShadow)

/-- Absent entry points of LECODE (R157). -/
def noEntry : Nat := 0xFFFF

/-- The run of an engine is not complete: code runs or is still to start. -/
def EngX.unfinished (x : EngX) : Bool := x.running || x.slowDue || !x.fastDone

/-- The engine is halted: its staged outputs are lost and nothing is left to start (R160, R166). -/
def EngX.halt (x : EngX) : EngX := { x with running := false, staged := [], fastDone := true, slowDue := false, roll := [] }

/-- Code starts at PM address `pc`: every register zero, Roll empty (R192). -/
def EngX.begin_ (x : EngX) (kind pc : Nat) : EngX :=
  { x with d := Vector.replicate 8 0, a := Vector.replicate 2 0, p := Vector.replicate 8 0, m := Vector.replicate 4 0,
           l := Vector.replicate 4 0, sr := 0, roll := [], lastAcc := none, pc := pc, running := true, kind := kind }

/-! ### Snapshots (R170, R171) -/

/-- Snapshot buffer `b` of group `n` (Table GRP-3). -/
def snapAt (n b : Nat) : Nat := 0x20100000 + n * 0x1000 + b * 0x800

/-- Snapshot buffer `b` of group `n` laid over the declared region of engine `e`, with what the read of it meets (R177, R133). -/
def State.snapLoad (s : State) (n e b : Nat) : State :=
  let g := s.grpX n
  (s.eccPass (snapAt n b) (snapAt n b + g.snapLen)).memCopy (snapAt n b) (dmAt e + g.snapBase) g.snapLen

/-- The copy ends: complete or not, the next one starts afresh. A spare that loads for the group takes the snapshot that has become
the last completed one (R171, R177). -/
def State.snapEnd (s : State) (n : Nat) : State :=
  let g := s.grpX n
  if g.snapRun then
    if g.snapOk then
      let s := s.setGrp n { g with snapRun := false, snapDone := some g.snapNext, snapNext := 1 - g.snapNext }
      if g.take.phase = 1 ∧ ¬ g.take.cold then s.snapLoad n g.take.spare g.snapNext else s
    else s.setGrp n { g with snapRun := false }
  else s

/-- The copy of a slow boundary: the declared region of the serving engine into the inactive buffer. An empty one is complete at
once. -/
def State.snapStart (s : State) (n : Nat) : State :=
  if s.flag (Reg.GRP_ENG_CFG_SERVED n) && (s.grpX n).hasCode then
    let e := s.engOf n
    let s := s.snapEnd n
    let g := s.grpX n
    let s := s.memCopy (dmAt e + g.snapBase) (snapAt n g.snapNext) g.snapLen
    let s := s.setGrp n { g with snapRun := true, snapOk := (s.engX e).lastOk }
    if g.snapLen = 0 then s.snapEnd n else s
  else s.snapEnd n

/-- SNAPSHOT_COMPLETE (R171). -/
def execSnapshotComplete (n : Fin 16) (s : State) : Out := if s.up then .next (s.snapEnd n) else .next s

/-- The group's PM and DM copies loaded into an engine, with what the read of them meets (R176, R177, R185, R133). -/
def State.loadCopies (s : State) (n e : Nat) : State :=
  (s.eccPass (copyAt n) (copyAt n + 0x10000)).memCopy (copyAt n) (pmAt e) 0x10000

/-! ### Runs (R156-R163) -/

/-- A run begins at a boundary: what the run before it leaves behind, and nothing staged (R161, R192). -/
def State.runBegin (s : State) (e n : Nat) : State :=
  let x := s.engX e
  let s := (s.put (Reg.ENG_STAT_MISSED e) x.missed).set (Reg.ENG_STAT_NOBUF e) 0
  s.setEng e { x with misses := if x.missed then x.misses else 0, missed := false, lastOk := !x.missed && !x.unfinished,
                      staged := [], clk := 0, fastDone := true, slowDue := false, running := false,
                      bCoord := s.coordNow n, bNtime := s.ntime }

/-- The code of a fast boundary starts, when the group has any (R156). -/
def State.fastStart (s : State) (e n : Nat) : State :=
  let g := s.grpX n
  let s := (s.set (Reg.ENG_STAT_TAKEOVER e) 0).set (Reg.ENG_STAT_LOST e) 0
  if g.hasCode then
    if g.entryFast = noEntry then s.modEng e (fun x => { x with bCoord := s.coordNow n, bNtime := s.ntime })
    else (s.runBegin e n).modEng e (fun x => { x.begin_ 0 g.entryFast with fastDone := false })
  else s

/-- ENTRY_SLOW becomes due at a slow boundary (R156). -/
def State.slowStart (s : State) (e n : Nat) : State :=
  let g := s.grpX n
  if g.hasCode then
    let s := if g.entryFast = noEntry then s.runBegin e n else s
    s.modEng e (fun x => { x with slowDue := true })
  else s

/-- Every axis of a group shows the set-points of its slow sample to engine code (R215). -/
def State.showSetpoints (s : State) (n : Nat) : State :=
  s.forAll (s.axesOf n) (fun s x => s.modAxis x (fun a =>
    { a with posV := s.get (Reg.AXIS_POS_CMD x), velV := s.get (Reg.AXIS_VEL_CMD x), accV := s.get (Reg.AXIS_ACC_CMD x) }))

/-- ENTRY_SLOW_START (R156, R215): after the fast code, no earlier than clock 128. -/
def execEntrySlowStart (e : Fin 17) (s : State) : Out :=
  let x := s.engX e
  if s.engRuns e && x.slowDue && x.fastDone && !x.running then
    let n := s.grpOf e
    let s := if s.engIn e esActive then s.showSetpoints n else s
    .next (s.modEng e (fun x => { x.begin_ 1 (s.grpX n).entrySlow with slowDue := false, clk := max 128 x.clk }))
  else .next s

/-- ENTRY_EVENT_START (R162, R163): an engine that is idle after the DONE of its run, with a cause. -/
def execEntryEventStart (e : Fin 17) (s : State) : Out :=
  let x := s.engX e
  let g := s.grpX (s.grpOf e)
  if s.engRuns e && g.hasCode && !x.unfinished && !x.missed && s.tick_.begun && decide (s.get (Reg.ENG_EVT_CAUSE e) ≠ 0)
      && decide (g.entryEvent ≠ noEntry) then
    .next (s.setEng e (x.begin_ 2 g.entryEvent))
  else .next s

/-! ### Migration ended without handover (R187, R189) -/

/-- Reasons of Table ENG-10. -/
def rsOutput : Nat := 1
def rsSideEffect : Nat := 2
def rsState : Nat := 3
def rsTargetMiss : Nat := 4
def rsTargetFail : Nat := 5
def rsPreempted : Nat := 6

/-- The migration of group `n` is aborted: shown at the target, recorded, and no longer open. What becomes of the target is the
caller's concern. The sample of the abort is numbered from 0 at the shadow start: the spec does not say from where (DESIGN CHOICE,
log 49). -/
def State.migAbort (s : State) (n reason index : Nat) : State :=
  let g := (s.grpX n).mig
  if g.phase = 0 then s
  else
    let t := g.target
    let s := (s.set (Reg.ENG_SHADOW_SAMPLE t) g.matched).set (Reg.ENG_SHADOW_REASON t) reason
    let s := (s.set (Reg.ENG_MISMATCH t) index).set (Reg.GRP_MIGRATE_OPEN n) 0
    let s := s.modGrp n (fun x => { x with mig := {} })
    s.warn n 0x0008 false (u8s [t, reason, g.matched, 0] ++ leBytes 4 index)

/-- A target gives up its shadow and becomes SPARE again. -/
def State.toSpare (s : State) (e : Nat) : State := (s.setEngState e esSpare none).setEng e {}

/-- The group whose migration has engine `e` as its target. -/
def State.migOf (s : State) (e : Nat) : Option Nat :=
  (List.range 16).find? (fun n => decide ((s.grpX n).mig.phase ≠ 0) && decide ((s.grpX n).mig.target = e))

/-- A migration of group `n` is pre-empted: its target is SPARE. -/
def State.preempt (s : State) (n : Nat) : State :=
  let g := (s.grpX n).mig
  if g.phase = 0 then s else (s.migAbort n rsPreempted 0).toSpare g.target

/-! ### Spares (R174, R189) -/

/-- The highest-numbered engine in a state whose fetch mode is that of the group's code. -/
def State.highest (s : State) (n st : Nat) : Option Nat :=
  (List.range 17).reverse.find? (fun e => s.engIn e st && decide (s.get (Reg.ENG_STATE_FETCH e) = s.get (Reg.GRP_ENG_CFG_CODE_MODE n)))

/-- A matching spare: one in SPARE, else a target released from its shadow. -/
def State.matching (s : State) (n : Nat) : Option Nat :=
  match s.highest n esSpare with
  | some e => some e
  | none => s.highest n esShadow

/-- The spare `e` is taken for group `n` and loads its copies, and in a takeover the last completed snapshot over them (R176,
R177). -/
def State.assign (s : State) (n e failed : Nat) (cold : Bool) : State :=
  let s := match s.migOf e with
    | some k => s.preempt k
    | none => s
  let s := (s.setEng e {}).setEngState e esTakeover (some n)
  let s := (s.loadCopies n e).modGrp n (fun g => { g with take :=
    { phase := 1, spare := e, failed := failed, cold := cold, since := s.clk, stopping := decide (s.gstate n = gsStopping) } })
  match (s.grpX n).snapDone with
  | some b => if cold then s else s.snapLoad n e b
  | none => s

/-! ### Failure (R164-R167, R173) -/

/-- The address that FAIL.PC shows: one beyond PM cannot be shown, and the spec names no value for it. -/
def State.failPc (s : State) (e : Nat) : State × Nat :=
  let pc := (s.engX e).pc
  if pc < 8192 then (s, pc) else (s.draw, Config.freeNat s.drawn % 8192)

/-- FAIL records cause, PM word address and NTIME; the engine is halted (R166). -/
def State.failMark (s : State) (e cause : Nat) : State :=
  let q := s.failPc e
  let s := (q.1.set (Reg.ENG_FAIL_CAUSE e) cause).set (Reg.ENG_FAIL_PC e) q.2
  (s.set (Reg.ENG_FAIL_NTIME e) s.ntime).modEng e EngX.halt

/-- Whether a group qualifies for spare takeover (R173). -/
def State.qualifies (s : State) (n : Nat) : Bool :=
  s.flag (Reg.GRP_ENG_CFG_TAKEOVER n) && !(s.grpX n).memUe && (s.matching n).isSome

/-- A group whose engine has failed is taken over, or guarded (R173, R177, R180, R182). -/
def State.takeOrGuard (s : State) (n failed : Nat) : State :=
  let cause := s.get (Reg.ENG_EVT_CAUSE failed)
  let s := s.set (Reg.ENG_EVT_CAUSE failed) 0
  match s.matching n with
  | some e =>
    if s.qualifies n then
      let s := (s.assign n e failed false).set (Reg.ENG_EVT_CAUSE e) cause
      if s.mode = modeOperate ∧ reacts (s.gstate n) then s.setGState n gsTakeover else s
    else s.react n 4
  | none => s.react n 4

/-- An engine that serves a group fails (R166, R173). -/
def State.failServing (s : State) (e n cause : Nat) : State :=
  let s := (s.failMark e cause).setEngState e esQuarantine none
  let s := if cause = 3 then s.modGrp n (fun g => { g with snapOk := false }) else s
  let s := (s.preempt n).set (Reg.GRP_ENG_CFG_SERVED n) 0
  let s := s.modGrp n (fun g => { g with take := {} })
  (s.recordGroup n 0x01 e cause 5).takeOrGuard n e

/-- An engine that serves no group goes into QUARANTINE, or OFF for TEST_FAIL; a shadow's migration ends with it (R167, R187).
`record`: it is a failure of Table ENG-4, with its SPARE_FAIL record; a single missed deadline of a target is none. -/
def State.failIdle (s : State) (e cause reason index : Nat) (record : Bool) : State :=
  let s := s.failMark e cause
  let s := if record then s.warn 255 0x0007 false (u8s [e, cause]) else s
  let s := match s.migOf e with
    | some n => s.migAbort n reason index
    | none => s
  s.setEngState e (if cause = 7 then esOff else esQuarantine) none

/-- An engine fails with a cause of Table ENG-4; one that is OFF, in QUARANTINE or in TAKEOVER runs nothing that could fail (Tables
ENG-5, ENG-6). -/
def State.engFail (s : State) (e cause : Nat) : State :=
  let st := s.get (Reg.ENG_STATE_STATE e)
  if st = esActive then s.failServing e (s.grpOf e) cause
  else if st = esSpare ∨ st = esTesting then s.failIdle e cause 0 0 true
  else if st = esShadow then s.failIdle e cause rsTargetFail 0 true
  else s

/-- ENG_FAIL (R164, R166, R595): the PM word of a failed fetch, or the DM word `word` of a failed access, reads zero from now on. A
cause outside Table ENG-4 is none. -/
def execEngFail (e : Fin 17) (cause : BitVec 4) (word : BitVec 13) (s : State) : Out :=
  let c := cause.toNat
  if s.up && decide (1 ≤ c) && decide (c ≤ 8) then
    let s := if c = 2 then s.wrLE (pmAt e + 4 * (s.engX e).pc) 4 0 else if c = 3 then s.wrLE (dmAt e + 4 * word.toNat) 4 0 else s
    .next (s.engFail e c)
  else .next s

/-- ILLEGAL_INSTRUCTION (R245, R246): a running engine executes an illegal form. -/
def execIllegalInstruction (e : Fin 17) (s : State) : Out :=
  if s.engRuns e && (s.engX e).running then .next (s.engFail e 4) else .next s

/-- The deadline of a run finds it without DONE (R160, R161, R181, R187, Table ENG-4). -/
def State.missDeadline (s : State) (e : Nat) : State :=
  let x := s.engX e
  let n := s.grpOf e
  let kind := if x.running then x.kind else 1
  let s := s.setEng e { x.halt with missed := true, misses := x.misses + 1 }
  let s := (s.inc (Reg.ENG_MISS_COUNT e)).warn n 0x0005 false (u8s [e, kind])
  if s.engIn e esShadow then s.failIdle e 1 rsTargetMiss 0 false
  else
    let t := (s.grpX n).take
    if 2 ≤ x.misses + 1 ∨ (t.phase = 2 ∧ t.spare = e) then s.engFail e 1 else s

/-- DEADLINE (R160). -/
def execDeadline (e : Fin 17) (s : State) : Out :=
  if s.engRuns e && (s.engX e).unfinished then .next (s.missDeadline e) else .next s

/-- SELF_CHECK_PASS (R165): the end of a pass of an engine in ACTIVE, SPARE or SHADOW. CHECK_LATE, once set, stays set until LOADING:
the spec names nothing that clears it (DESIGN CHOICE, log 49). -/
def execSelfCheckPass (e : Fin 17) (late mismatch : Bool) (s : State) : Out :=
  if s.up && (s.engIn e esActive || s.engIn e esSpare || s.engIn e esShadow) then
    let s := if late then (s.set (Reg.ENG_STAT_CHECK_LATE e) 1).warn 255 0x0006 false (u8s [e]) else s
    .next (if mismatch then s.engFail e 6 else s)
  else .next s

/-! ### Takeover (R176-R182) -/

/-- The spare of a group serves it from now on and its first run begins (R126, R177, R179). -/
def State.firstRun (s : State) (e n : Nat) : State :=
  let g := s.grpX n
  let t := g.take
  let s := (s.setEngState e esActive (some n)).set (Reg.GRP_ENGINE n) e
  let s := (s.set (Reg.GRP_ENG_CFG_SERVED n) 1).inc (Reg.GRP_ENG_COUNT_TAKEOVERS n)
  let lost := if t.cold then 0 else g.unapp - 1
  let s := s.addSat (Reg.GRP_LOST n) lost
  let s := if t.cold then s else s.info n 0x0002 false (u8s [t.failed, e, satN 255 lost])
  let s := s.runBegin e n
  let s := (s.set (Reg.ENG_STAT_TAKEOVER e) 1).set (Reg.ENG_STAT_LOST e) (satN 255 lost)
  let s := s.modEng e (fun x => { x with slowDue := g.hasCode })
  s.modGrp n (fun g => { g with take := { t with phase := if g.hasCode then 2 else 3 } })

/-- TAKEOVER_FIRST_RUN (R176, R177): at a slow boundary at least 2400 clocks after the spare was chosen. -/
def execTakeoverFirstRun (e : Fin 17) (s : State) : Out :=
  let n := s.grpOf e
  let t := (s.grpX n).take
  if s.up && s.engIn e esTakeover && decide (t.phase = 1) && decide (t.spare = e.val) && s.tick_.slow
      && decide (t.since + 2400 ≤ s.tick_.lastSlow) then .next (s.firstRun e n)
  else .next s

/-- The first outputs of a spare are applied: a group that is still in TAKEOVER takes the state that its set-point units indicate
(R182). -/
def State.takeEnd (s : State) (n : Nat) : State :=
  let t := (s.grpX n).take
  if t.phase = 3 then
    let s := s.modGrp n (fun g => { g with take := {} })
    if s.gstate n = gsTakeover then
      s.setGState n (if t.stopping then gsStopping else if (s.grpX n).hold then gsHeld else if s.anyMotion n then gsMoving else gsEnabled)
    else s
  else s

/-- The cold takeover of an unserved DISABLED group at a slow boundary (R176). -/
def State.coldTake (s : State) (n : Nat) : State :=
  let g := s.grpX n
  if !s.flag (Reg.GRP_ENG_CFG_SERVED n) && decide (g.take.phase = 0) && decide (s.gstate n = gsDisabled) then
    match s.matching n with
    | some e => (s.assign n e 0 true).info n 0x0003 false (u8s [e])
    | none => s
  else s

/-! ### ENGINE_TEST (R183) -/

/-- The checks of ENGINE_TEST. -/
def chkEngineTest (m : Msg) (_ : State) : Option Nat := firstBad [chk (decide (m.u8 0 ≤ 16)) 0, zeroAt m.payload 1 3]

/-- ENGINE_TEST at its boundary: TESTING, with PM and DM cleared. TEST.COUNT counts the test as it starts: the spec does not say whether
a test counts at its start or its end (DESIGN CHOICE, log 49). -/
def effEngineTest (m : Msg) (s : State) : Reply :=
  let e := m.u8 0
  if s.engIn e esSpare || s.engIn e esQuarantine || s.engIn e esOff then
    let s := (s.setEngState e esTesting none).clearRange (pmAt e) (pmAt e + 0x10000)
    let s := (s.setEng e {}).set (Reg.ENG_EVT_CAUSE e) 0
    let s := (s.set (Reg.ENG_TEST_RESULT e) 3).inc (Reg.ENG_TEST_COUNT e)
    s.ok s.effect
  else s.nak stBusy

/-- ENGINE_TEST_DONE (R183): SPARE on a pass, OFF with cause TEST_FAIL on a failure. -/
def execEngineTestDone (e : Fin 17) (pass : Bool) (s : State) : Out :=
  if s.up && s.engIn e esTesting then
    let r := if pass then 1 else 2
    let s := (s.set (Reg.ENG_TEST_RESULT e) r).info 255 0x0004 false (u8s [e, r])
    .next (if pass then s.setEngState e esSpare none else s.engFail e 7)
  else .next s

/-! ### ENGINE_MIGRATE (R184-R188) -/

/-- The checks of ENGINE_MIGRATE: group and engine in range, a group endpoint naming its own group, reserved bytes. -/
def chkEngineMigrate (m : Msg) (_ : State) : Option Nat :=
  firstBad [chk (decide (m.u8 0 < 16) && (decide (m.ep = 16) || decide (m.ep.val = m.u8 0))) 0, chk (decide (m.u8 1 ≤ 16)) 1,
    zeroAt m.payload 2 6]

/-- How many slow boundaries after the present one the handover falls: H rounded up to a slow boundary, or the earliest one (R184,
R185). -/
def State.handoverIn (s : State) (h : Nat) : Nat :=
  if h = 0 then (2400 + s.slowClk - 1) / s.slowClk + 8
  else (2 * h - s.ntimeH + 5 * s.slowClk - 1) / (5 * s.slowClk)

/-- ENGINE_MIGRATE at its boundary C (Table ENG-8): the target enters SHADOW and loads the group's copies. -/
def effEngineMigrate (m : Msg) (s : State) : Reply :=
  let n := m.u8 0
  let t := m.u8 1
  let h := m.le 8 8
  if !s.flag (Reg.GRP_ENG_CFG_TAKEOVER n) then s.nak stWrongMode
  else if !s.flag (Reg.GRP_ENG_CFG_SERVED n) || decide (s.gstate n = gsTakeover) || decide ((s.grpX n).take.phase ≠ 0)
      || decide ((s.grpX n).mig.phase ≠ 0) then s.nak stBusy
  else if !s.engIn t esSpare then s.nak stBusy
  else if s.get (Reg.ENG_STATE_FETCH t) ≠ s.get (Reg.GRP_ENG_CFG_CODE_MODE n) then s.limit 1
  else if h ≠ 0 ∧ 2 * h < s.ntimeH + 5 * (2400 + 8 * s.slowClk) then s.limit 8
  else
    let k := s.handoverIn h
    let hand := (s.ntimeH + 5 * k * s.slowClk) / 2
    let s := ((s.setEng t {}).setEngState t esShadow (some n)).loadCopies n t
    let s := ((s.set (Reg.ENG_SHADOW_MATCHED t) 0).set (Reg.ENG_SHADOW_SAMPLE t) 0).set (Reg.ENG_SHADOW_REASON t) 0
    let s := ((s.set (Reg.ENG_MISMATCH t) 0).set (Reg.GRP_MIGRATE_TARGET n) t).set (Reg.GRP_MIGRATE_OPEN n) 1
    let s := s.set (Reg.GRP_MIGRATE_H n) hand
    let s := s.modGrp n (fun g => { g with mig := { phase := 1, target := t, start := s.get Reg.SYS_SLOW_COUNT + (k - 8), matched := 0 } })
    s.ok (s.effect ++ leBytes 8 hand)

/-- What a sample leaves for comparison is forgotten (R186). -/
def EngX.freshSample (x : EngX) : EngX := { x with outs := [], effects := [], reads := [], grants := [] }

/-- SHADOW_START (R185): at S the snapshot is also written into the target, which starts 520 clocks later and sees the source's
event causes. -/
def execShadowStart (n : Fin 16) (s : State) : Out :=
  let g := s.grpX n
  let t := g.mig.target
  if s.up && decide (g.mig.phase = 1) && decide (g.mig.start ≤ s.get Reg.SYS_SLOW_COUNT) && s.tick_.begun then
    let b := if g.snapRun ∨ ¬ g.snapOk then g.snapNext else g.snapDone.getD 0
    let s := s.memCopy (snapAt n b) (dmAt t + g.snapBase) g.snapLen
    let s := s.set (Reg.ENG_EVT_CAUSE t) (s.get (Reg.ENG_EVT_CAUSE (s.engOf n)))
    let s := s.modGrp n (fun g => { g with mig := { g.mig with phase := 2, matched := 0 } })
    .next (((s.fastStart t n).slowStart t n).modEng t (fun x => { x with clk := 520 }))
  else .next s

/-- The first place at which two lists differ. -/
def firstDiff {α : Type} [DecidableEq α] : List α → List α → Option Nat
  | [], [] => none
  | a :: r, b :: t => if a = b then (firstDiff r t).map (· + 1) else some 0
  | _, _ => some 0

/-- The first DM byte offset, by words, at which the declared regions of two engines differ. -/
def State.regionDiff (s : State) (n e t : Nat) : Option Nat :=
  let g := s.grpX n
  (firstDiff (s.rdBytes (dmAt e + g.snapBase) g.snapLen) (s.rdBytes (dmAt t + g.snapBase) g.snapLen)).map
    (fun i => g.snapBase + i / 4 * 4)

/-- What a sample of source and target differs in: reason and item (R186, R187). The first differing item is looked for among the outputs,
then the side effects, then the declared region, each numbered from 0: the spec names no order (DESIGN CHOICE, log 49). -/
def State.shadowDiff (s : State) (n e t : Nat) : Option (Nat × Nat) :=
  match firstDiff (s.engX e).outs (s.engX t).outs with
  | some i => some (rsOutput, i)
  | none =>
    match firstDiff (s.engX e).effects (s.engX t).effects with
    | some i => some (rsSideEffect, i)
    | none => (s.regionDiff n e t).map (fun i => (rsState, i))

/-- The comparison of a shadow run at the slow boundary that ends a sample (R186-R188). -/
def State.shadowCompare (s : State) (n : Nat) : State :=
  let g := s.grpX n
  let t := g.mig.target
  let e := s.engOf n
  if g.mig.phase = 2 then
    match s.shadowDiff n e t with
    | some (r, i) => s.failIdle t 8 r i true
    | none =>
      let k := g.mig.matched + 1
      let s := (s.set (Reg.ENG_SHADOW_MATCHED t) k).modEng t EngX.freshSample
      s.setGrp n { g with mig := { g.mig with matched := k, phase := if 8 ≤ k then 3 else 2 } }
  else s

/-- MIGRATION_HANDOVER (R188): at H the target becomes ACTIVE and the source SPARE. -/
def execMigrationHandover (n : Fin 16) (s : State) : Out :=
  let g := s.grpX n
  let t := g.mig.target
  let e := s.engOf n
  if s.up && decide (g.mig.phase = 3) then
    let s := (s.setEngState t esActive (some n)).set (Reg.GRP_ENGINE n) t
    let s := (s.toSpare e).set (Reg.ENG_EVT_CAUSE e) 0
    let s := (s.inc (Reg.GRP_ENG_COUNT_MIGRATIONS n)).set (Reg.GRP_MIGRATE_OPEN n) 0
    let s := s.modGrp n (fun g => { g with mig := {} })
    .next (s.info n 0x0005 false (u8s [e, t]))
  else .next s

end Sys2Proof.Machine
end

