-- ==== Sys2Proof/Machine/Operands.lean ====
section
/-!
DEFINITION. Operands.lean: the operand forms of Aingoca: registers and their conversions (R228, R232), pointers, circular
addressing (R201-R203), memory operands (R229) and the local word a pointer reaches (R194-R196).
-/
namespace Sys2Proof.Machine

/-- A value as a 32-bit register or immediate supplies it, put into a register (R232). -/
def EngX.wrReg (x : EngX) (r : RegW) (v : BitVec 32) : EngX :=
  match r with
  | .d i => { x with d := x.d.set i v }
  | .p i => { x with p := x.p.set i (v.setWidth 16) }
  | .m i => { x with m := x.m.set i (v.setWidth 16) }
  | .l i =>
    let w : BitVec 14 := v.setWidth 14
    { x with l := x.l.set i (if 8192 < w.toNat then 8192 else w) }

/-- LCNT: remaining iterations of the innermost Roll level, 0 when the stack is empty (Table DSP-1). -/
def EngX.lcnt (x : EngX) : Nat :=
  match x.roll with
  | [] => 0
  | r :: _ => r.count

/-- A register read into a 32-bit destination: zero-extended, M registers sign-extended (R232). -/
def EngX.rdReg (x : EngX) (r : RegR) : BitVec 32 :=
  match r with
  | .w (.d i) => x.d[i]
  | .w (.p i) => x.p[i].setWidth 32
  | .w (.m i) => x.m[i].signExtend 32
  | .w (.l i) => x.l[i].setWidth 32
  | .sr => x.sr.setWidth 32
  | .lcnt => BitVec.ofNat 32 x.lcnt

/-- The index j = k mod 4 of the modifier and length that belong to pointer k. -/
def mod4 (k : Fin 8) : Fin 4 := ⟨k.val % 4, Nat.mod_lt _ (by decide)⟩

/-- The smallest power of two not less than `l`, for 1 <= l <= 8192 (R202). -/
def circBlock (l : Nat) : Nat := go 14 1
where
  go : Nat → Nat → Nat
    | 0, b => b
    | n + 1, b => if l ≤ b then b else go n (2 * b)

/-- The pointer after a post-modification by `m` under circular length `l` (R202). -/
def postMod (p : BitVec 16) (l : Nat) (m : Int) : BitVec 16 :=
  if l = 0 then BitVec.ofInt 16 ((p.toNat : Int) + m)
  else
    let b := circBlock l
    let base := p.toNat - p.toNat % b
    let off := p.toNat % b
    BitVec.ofNat 16 (base + (((off : Int) + m) % (l : Int)).toNat)

/-- The change that a mode makes to its pointer: none, or the modifier (Table DSP-3). -/
def modeDelta (mode : MemMode) (x : EngX) : Option Int :=
  match mode with
  | .plain => none
  | .inc => some 1
  | .dec => some (-1)
  | .addM j => some x.m[j].toInt
  | .off _ => none

/-- Pointer `k` post-modified by `d`, with the length L(k mod 4) that `x0` holds: the instruction's start (R243). -/
def EngX.bump (x x0 : EngX) (k : Fin 8) (d : Option Int) : EngX :=
  match d with
  | none => x
  | some m => { x with p := x.p.set k (postMod x.p[k] x0.l[mod4 k].toNat m) }

/-- The word address that a long operand uses (Table DSP-3). -/
def memAddr (o : MemOp) (x : EngX) : Nat :=
  match o.mode with
  | .off imm => (x.p[o.p] + imm.signExtend 16).toNat
  | _ => x.p[o.p].toNat

/-- The engine after the post-modification of a long operand. -/
def memPost (o : MemOp) (x x0 : EngX) : EngX := x.bump x0 o.p (modeDelta o.mode x0)

/-- A short operand as the long operand it means (R229). -/
def shortLong (o : ShortOp) : MemOp :=
  { p := o.p, mode := match o.mode with
    | .plain => .plain
    | .inc => .inc
    | .dec => .dec
    | .addM => .addM (mod4 o.p) }

/-- STEP's operand as a long operand. -/
def stepLong (o : StepOp) : MemOp :=
  { p := o.p, mode := match o.mode with
    | .inc => .inc
    | .dec => .dec
    | .addM j => .addM j }

/-- Operand B of an ALU operation; `sx` says whether an immediate is sign-extended (R233). -/
def aluVal (b : AluB) (sx : Bool) (x : EngX) : BitVec 32 :=
  match b with
  | .reg i => x.d[i]
  | .imm v => if sx then v.signExtend 32 else v.setWidth 32

/-- The shift amount, 0-63 in the register form (R233). -/
def shiftAmt (b : ShiftB) (x : EngX) : Nat :=
  match b with
  | .reg i => (x.d[i]).toNat % 64
  | .imm v => v.toNat

/-- The even D pair D(2i), D(2i+1) as one 64-bit value (R238). -/
def EngX.rdPair (x : EngX) (i : Fin 4) : BitVec 64 :=
  (x.d[2 * i.val + 1]'(by omega)) ++ (x.d[2 * i.val]'(by omega))

/-- A 64-bit value written to the even D pair D(2i), D(2i+1). -/
def EngX.wrPair (x : EngX) (i : Fin 4) (v : BitVec 64) : EngX :=
  { x with d := (x.d.set (2 * i.val) (v.setWidth 32) (by omega)).set (2 * i.val + 1) ((v >>> 32).setWidth 32) (by omega) }

/-- Whether pointer `k` names the upper half (YM) in SPLIT mode (R195). -/
def upperHalf (k : Fin 8) : Bool := decide (4 ≤ k.val)

/-- The bus address of the DM word that local word address `w`, reached through pointer `k`, names (R195, R196). -/
def dmAddr (e : Nat) (unified : Bool) (k : Fin 8) (w : Nat) : Nat :=
  let base := 0x10000000 + e * 0x100000
  if unified then base + 0x8000 + 4 * (w % 8192)
  else if upperHalf k then base + 0xC000 + 4 * (w % 4096)
  else base + 0x8000 + 4 * (w % 4096)

end Sys2Proof.Machine
end

