-- ==== Sys2Proof/Machine/Flags.lean ====
section
/-!
DEFINITION. Flags.lean: the status flags of SR (Table DSP-5, R209, R231), condition codes (Table ISA-6), and the results
and flags of the ALU (Table ISA-5), of the accumulators (R204) and of accumulator stores (R206, R207).
-/
namespace Sys2Proof.Machine

/-- Flag bits of SR (Table DSP-5). -/
def fZ : Nat := 0
def fN : Nat := 1
def fC : Nat := 2
def fV : Nat := 3
def fSV : Nat := 4
def fAE : Nat := 5
def fAO : Nat := 6
def fPN : Nat := 7

/-- SR with one flag set to a truth value. -/
def setFlag (sr : BitVec 16) (i : Nat) (b : Bool) : BitVec 16 :=
  if b then sr ||| (1#16 <<< i) else sr &&& ~~~(1#16 <<< i)

/-- SR with one flag changed when a value is given. -/
def optFlag (sr : BitVec 16) (i : Nat) : Option Bool → BitVec 16
  | none => sr
  | some b => setFlag sr i b

/-- V set to `b`; a set V also sets SV (R231). -/
def setV (sr : BitVec 16) (b : Bool) : BitVec 16 :=
  let sr := setFlag sr fV b
  if b then setFlag sr fSV true else sr

/-- Z and N of a 32-bit result. -/
def setZN (sr : BitVec 16) (r : BitVec 32) : BitVec 16 := setFlag (setFlag sr fZ (r == 0)) fN r.msb

/-- SR after an ALU operation: Z and N always; C and V where Table ISA-5 sets them. -/
def aluFlags (sr : BitVec 16) (r : BitVec 32) (c v : Option Bool) : BitVec 16 :=
  let sr := optFlag (setZN sr r) fC c
  match v with
  | none => sr
  | some b => setV sr b

/-- Condition codes (Table ISA-6). -/
def condHolds (c : BitVec 4) (sr : BitVec 16) : Bool :=
  let f := fun i => sr.getLsbD i
  match c.toNat with
  | 0 => true
  | 1 => f fZ
  | 2 => !f fZ
  | 3 => f fN
  | 4 => !f fN
  | 5 => f fN != f fV
  | 6 => f fN == f fV
  | 7 => !f fZ && (f fN == f fV)
  | 8 => f fZ || (f fN != f fV)
  | 9 => f fC
  | 10 => !f fC
  | 11 => f fV
  | 12 => !f fV
  | 13 => f fSV
  | 14 => f fAE
  | _ => f fPN

/-- Carry out of a 32-bit addition. -/
def addC (a b : BitVec 32) : Bool := decide (2 ^ 32 ≤ a.toNat + b.toNat)
/-- Borrow into a 32-bit subtraction. -/
def subC (a b : BitVec 32) : Bool := decide (a.toNat < b.toNat)
/-- Signed overflow of a 32-bit addition. -/
def addV (a b : BitVec 32) : Bool := decide (a.toInt + b.toInt ≠ (a + b).toInt)
/-- Signed overflow of a 32-bit subtraction. -/
def subV (a b : BitVec 32) : Bool := decide (a.toInt - b.toInt ≠ (a - b).toInt)

/-- Arithmetic right shift by 0-63: 32 or more gives copies of the sign. -/
def asr32 (a : BitVec 32) (n : Nat) : BitVec 32 := a.sshiftRight n
/-- The last bit shifted out by ASR; none leaves C unchanged; beyond 32 it is the sign (R233). -/
def asrC (a : BitVec 32) (n : Nat) : Option Bool :=
  if n = 0 then none else if 32 < n then some a.msb else some (a.getLsbD (n - 1))
/-- The last bit shifted out by LSR; 0 beyond 32. -/
def lsrC (a : BitVec 32) (n : Nat) : Option Bool :=
  if n = 0 then none else if 32 < n then some false else some (a.getLsbD (n - 1))
/-- The last bit shifted out by LSL; 0 beyond 32. -/
def lslC (a : BitVec 32) (n : Nat) : Option Bool :=
  if n = 0 then none else if 32 < n then some false else some (a.getLsbD (32 - n))

/-- The exact product of two 32-bit operands, each signed or unsigned; doubled in fractional mode (R204). -/
def product (frac ux uy : Bool) (x y : BitVec 32) : Int :=
  let a : Int := if ux then x.toNat else x.toInt
  let b : Int := if uy then y.toNat else y.toInt
  if frac then 2 * (a * b) else a * b

/-- Whether an exact value does not fit a signed number of `w` bits. -/
def outOf (w : Nat) (i : Int) : Bool := decide (i < -(2 ^ (w - 1) : Int)) || decide ((2 ^ (w - 1) : Int) ≤ i)

/-- SR after an accumulator operation whose exact result is `i`: Z and N of the new accumulator (R231; DEDUCED, log 21),
AE from the value held, AO sticky when it wrapped modulo 2^72 (Table DSP-5). -/
def accFlags (sr : BitVec 16) (i : Int) : BitVec 16 :=
  let v : BitVec 72 := BitVec.ofInt 72 i
  let sr := setFlag (setFlag sr fZ (v == 0)) fN v.msb
  let sr := setFlag sr fAE (outOf 64 v.toInt)
  if outOf 72 i then setFlag sr fAO true else sr

/-- The rounded value of a store, whether it is in range, and what is stored (R206, R207). -/
def storeVal (w : Nat) (sat : Bool) (q : Nat) (a : BitVec 72) : Int × Bool :=
  let r := convShift a.toInt q
  let o := outOf w r
  (if o && sat then (if 0 < r then (2 ^ (w - 1) : Int) - 1 else -(2 ^ (w - 1) : Int)) else r, o)

/-- SR after an accumulator store of value `v` (as stored, `w` bits) with overflow `o`. -/
def storeFlags (sr : BitVec 16) (z n o : Bool) : BitVec 16 :=
  setV (setFlag (setFlag sr fZ z) fN n) o

end Sys2Proof.Machine
end

