-- ==== Sys2Proof/Machine/View.lean ====
section
/-!
DEFINITION. View.lean: what engine code reaches: the local data space (R194-R200), the axis and group views (R214-R220), the mailbox,
system accesses (R223-R226), the clocks of accesses (Tables DSP-8 and ISA-7), and what a shadow run sees and suppresses (R186, R222).
-/
namespace Sys2Proof.Machine

/-! ### Clocks of a run -/

/-- `k` more clocks of the run of engine `e` have passed. -/
def State.spend (s : State) (e k : Nat) : State := s.modEng e (fun x => { x with clk := x.clk + k })

/-- The run of engine `e` waits for a clock after its boundary. -/
def State.waitTo (s : State) (e k : Nat) : State := s.modEng e (fun x => { x with clk := max k x.clk })

/-! ### Shadow runs (R186, R222) -/

/-- A shadow run is compared for the group of engine `e`. -/
def State.compared (s : State) (e : Nat) : Bool := (s.shadowOf (s.grpOf e)).isSome

/-- What engine `e` reads from outside its DM where `v` stands now. The target of a migration reads what its source read at the
same place of the sample, and the source keeps what it read. -/
def State.seen (s : State) (e v : Nat) : State × Nat :=
  if s.compared e then
    let x := s.engX e
    let v := if s.engIn e esShadow then (s.engX (s.engOf (s.grpOf e))).reads.getD x.reads.length v else v
    (s.setEng e { x with reads := x.reads ++ [v] }, v)
  else (s, v)

/-- A side-effect request of engine `e`: noted while a shadow run is compared, and carried out unless the engine is the shadow. -/
def State.sideEffect (s : State) (e : Nat) (r : SideEff) (f : State → State) : State :=
  let s := if s.compared e then s.modEng e (fun x => { x with effects := x.effects ++ [r] }) else s
  if s.engIn e esShadow then s else f s

/-! ### Regions of the local data space (Table DSP-2) -/

/-- The regions of Table DSP-2. -/
inductive Region where
  | dm
  | axisView
  | groupView
  | mailbox
  | bitSet
  | bitClear
  | reserved
  deriving DecidableEq, Repr

/-- The region of a local word address. -/
def regionOf (w : Nat) : Region :=
  if w < 0x2000 then .dm
  else if w < 0x2800 then .axisView
  else if w < 0x2900 then .groupView
  else if w < 0x2C00 then .reserved
  else if w < 0x2D00 then .mailbox
  else if w < 0x2E00 then .bitSet
  else if w < 0x2F00 then .bitClear
  else .reserved

/-- Clocks that an access adds (Table ISA-7). -/
def accessWait (w : Nat) : Nat :=
  match regionOf w with
  | .axisView => 1
  | .groupView => 1
  | .mailbox => 7
  | .bitSet => 7
  | .bitClear => 7
  | .dm => 0
  | .reserved => 0

/-- The engine's agent on the bus. -/
def engAgent (e : Nat) : Agent := .engine ⟨e % 17, Nat.mod_lt _ (by decide)⟩

/-- The mailbox word of the group of engine `e`, through the region it was addressed in. -/
def State.mailAt (s : State) (e w : Nat) : Nat :=
  let base := match regionOf w with
    | .bitSet => 0x22130000
    | .bitClear => 0x24130000
    | _ => 0x20130000
  base + s.grpOf e * 0x400 + 4 * (w % 0x100)

/-! ### The axis view (Table DSP-6) -/

/-- The axis in a slot of the view of group `n` (R214). -/
def State.slotAxis (s : State) (n k : Nat) : Option Nat := (s.axesOf n)[k]?

/-- The last committed value of what `pick` selects, or else `v` (R216). -/
def lastOf (pick : StagedW → Option Nat) (v : Nat) (l : List StagedW) : Nat := (l.filterMap pick).getLast?.getD v

/-- The last committed q set-point of an axis. -/
def State.iqNow (s : State) (e x : Nat) : Nat :=
  let old := if isNet x then (s.axisX x).iqOut else (s.curX x).iqNext.getD (s.get (Reg.CUR_IQ_SET x))
  lastOf (fun w => match w with | .iq y v => if y = x then some v else none | _ => none) old (s.engX e).committed

/-- The last committed d set-point of an axis. -/
def State.idNow (s : State) (e x : Nat) : Nat :=
  let old := if isNet x then 0 else (s.curX x).idNext.getD (s.get (Reg.CUR_ID_SET x))
  lastOf (fun w => match w with | .id y v => if y = x then some v else none | _ => none) old (s.engX e).committed

/-- Feedback of an axis is valid: its port, or its drive in READY (R272, R377). -/
def State.axisValid (s : State) (x : Nat) : Bool :=
  if isNet x then decide (s.get (Reg.AXIS_NET_STAT_DSTATE x) = 2)
  else match s.portOf x with
    | some p => s.flag (Reg.FB_STAT_VALID p)
    | none => false

/-- An axis is faulted: its cell TRIPPED or its drive LOST. -/
def State.axisFaulted (s : State) (x : Nat) : Bool :=
  if isNet x then decide (s.get (Reg.AXIS_NET_STAT_DSTATE x) = 3) else decide (s.get (Reg.CUR_STAT_STATE x) = cellTripped)

/-- AX_STAT. -/
def State.axStat (s : State) (x : Nat) : Nat :=
  b2n (s.axisValid x) + 2 * s.get (Reg.AXIS_SRC_ACTIVE x) + 4 * s.get (Reg.AXIS_SRC_HELD x) + 8 * b2n (s.axisFaulted x)
    + 16 * s.get (Reg.AXIS_SRC_SOURCE x)

/-- Half `h` of a 64-bit value. -/
def half (v h : Nat) : Nat := v / 2 ^ (32 * h) % 2 ^ 32

/-- A word of an axis's view. -/
def State.axisWord (s : State) (e x o : Nat) : Nat :=
  let a := s.axisX x
  match o with
  | 0x00 => half (s.get (Reg.AXIS_POS_ACT x)) 0
  | 0x01 => half (s.get (Reg.AXIS_POS_ACT x)) 1
  | 0x02 => half a.posV 0
  | 0x03 => half a.posV 1
  | 0x04 => half a.velV 0
  | 0x05 => half a.velV 1
  | 0x06 => half a.accV 0
  | 0x07 => half a.accV 1
  | 0x08 => s.axStat x
  | 0x09 => x
  | 0x0A => if isNet x then 0 else a.idV
  | 0x0B => a.iqV
  | 0x0C => if isNet x then 0 else a.angV
  | 0x10 => s.iqNow e x
  | 0x11 => s.idNow e x
  | _ => 0

/-- Offsets of POS_ACT and of ANGLE: their values reach the view 16 clocks after the boundary (R366). -/
def latched (o : Nat) : Bool := decide (o < 2) || decide (o = 0x0C)

/-- A read of the axis view: slots without an axis read zero. -/
def State.readAxisView (s : State) (e w : Nat) : State × Nat :=
  let o := w % 0x100
  match s.slotAxis (s.grpOf e) ((w - 0x2000) / 0x100) with
  | some x => (if latched o then s.waitTo e 16 else s, s.axisWord e x o)
  | none => (s, 0)

/-- A write of the axis view: IQ_SET and ID_SET are staged, the rest is read-only (R214, R216). -/
def State.writeAxisView (s : State) (e w v : Nat) : State :=
  match s.slotAxis (s.grpOf e) ((w - 0x2000) / 0x100) with
  | some x =>
    if w % 0x100 = 0x10 then s.modEng e (fun g => { g with staged := g.staged ++ [.iq x v] })
    else if w % 0x100 = 0x11 ∧ ¬ isNet x then s.modEng e (fun g => { g with staged := g.staged ++ [.id x v] })
    else s
  | none => s

/-! ### The pool through the group view (R143, R219) -/

/-- The pool unit answers a request: the answer sets out for its engine, and is kept for a shadow. -/
def State.poolAnswer (s : State) (a : PoolAsk) (b : Option Nat) : State :=
  { s.modEng a.engine (fun x => { x with grants := x.grants ++ [b] }) with
    pool := { s.pool with answers := s.pool.answers ++ [{ engine := a.engine, block := b, clk := a.clk }] } }

/-- The pool unit evaluates a request of an engine (Table GRP-4, R141, R219). A shadow is answered what its source was answered at the
same place of the sample; one that has asked more often is refused (R222). -/
def State.poolTake (s : State) (a : PoolAsk) : State :=
  if s.engIn a.engine esShadow then
    s.poolAnswer a ((s.engX (s.engOf (s.grpOf a.engine))).grants.getD (s.engX a.engine).grants.length none)
  else
    match s.poolAlloc a.group 1 (7 + a.engine) with
    | (s, some (b :: _)) => s.poolAnswer a (some b)
    | (s, _) => s.poolAnswer a none

/-- Everything that is on its way to the pool unit reaches it: frees first, then the requests of engines by number, with those of shadows
after those of their sources (R142). -/
def State.poolEval (s : State) : State :=
  let l := (List.range 17).flatMap (fun e => s.pool.asks.filter (fun a => decide (a.engine = e)))
  let s := s.poolSettle
  let s := { s with pool := { s.pool with asks := [] } }
  let s := (l.filter (fun a => !s.engIn a.engine esShadow)).foldl State.poolTake s
  (l.filter (fun a => s.engIn a.engine esShadow)).foldl State.poolTake s

/-- 2.5 ns pass with nothing commanded: what was issued to the pool unit reaches it (R142), and the checks of sin/cos conversions end
(R370). -/
def State.idle (s : State) : State := if s.awake then s.tick.poolEval.fbChecks else s.tick

/-- The answer to the oldest open request of engine `e` arrives; a refusal is flagged. -/
def State.poolArrive (s : State) (e : Nat) (b : Option Nat) : State :=
  match b with
  | some _ => s.modEng e (fun x => { x with gnt := some b })
  | none =>
    let s := s.set (Reg.ENG_STAT_NOBUF e) 1
    s.modEng e (fun x => { x with gnt := some none, sr := setFlag x.sr fPN true })

/-- The answers that are on their way without the first one for engine `e`, and that one. -/
def takeAns (e : Nat) : List PoolAns → List PoolAns × Option PoolAns
  | [] => ([], none)
  | a :: r => if a.engine = e then (r, some a) else
    let q := takeAns e r
    (a :: q.1, q.2)

/-- A read of POOL_GNT before the answer waits for it: until 4 clocks after its request. -/
def State.poolWait (s : State) (e : Nat) : State :=
  let s := if (takeAns e s.pool.answers).2.isNone && s.pool.asks.any (fun a => decide (a.engine = e)) then s.poolEval else s
  match takeAns e s.pool.answers with
  | (l, some a) =>
    let s := { s with pool := { s.pool with answers := l } }
    (s.waitTo e (a.clk + 4)).poolArrive e a.block
  | (_, none) => s

/-- POOL_GNT. -/
def gntWord : Option (Option Nat) → Nat
  | none => 0
  | some none => 2 ^ 30
  | some (some b) => b % 65536 + 2 ^ 31

/-- An engine's request of one block charged to its group (R141, R219): it reaches the pool unit in the clock after. -/
def State.engPoolReq (s : State) (e : Nat) : State :=
  let s := if s.compared e then s.modEng e (fun x => { x with effects := x.effects ++ [.poolReq] }) else s
  { s with pool := { s.pool with asks := s.pool.asks ++ [{ engine := e, group := s.grpOf e, clk := (s.engX e).clk }] } }

/-- POOL_GRANT (R143): the oldest answer reaches its engine; requests that no clock has brought to the pool unit yet are evaluated for it. -/
def execPoolGrant (s : State) : Out :=
  if s.up then
    let s := if s.pool.answers.isEmpty then s.poolEval else s
    match s.pool.answers with
    | a :: r => .next (({ s with pool := { s.pool with answers := r } } : State).poolArrive a.engine a.block)
    | [] => .next s
  else .next s

/-! ### The group view (Table DSP-7) -/

/-- The cause word as the engine sees it, and the bits that it returned cleared (R218). -/
def State.causeTake (s : State) (e : Nat) : State × Nat :=
  let q := s.seen e (s.get (Reg.ENG_EVT_CAUSE e))
  let f := Reg.ENG_EVT_CAUSE e
  (q.1.set f (q.1.get f ^^^ (q.1.get f &&& q.2)), q.2)

/-- The coordinate of the next pending event; with none pending the spec names no value. -/
def State.nextCoord (s : State) (n : Nat) : State × Nat :=
  match (s.claveX n).win with
  | w :: _ => (s, ofInt 64 w.e.coord)
  | [] => (s.draw, Config.freeNat s.drawn % 2 ^ 64)

/-- CLAVE_STAT. -/
def EngX.claveStat (x : EngX) : Nat := b2n x.claveOk + 2 * b2n x.claveFull

/-- Word `o` of the group view as it is read. -/
def State.groupViewAt (s : State) (e o : Nat) : State × Nat :=
  let x := s.engX e
  let n := s.grpOf e
  match o with
  | 0x00 => (s, half (ofInt 64 x.bCoord) 0)
  | 0x01 => (s, half (ofInt 64 x.bCoord) 1)
  | 0x02 => (s, half x.bNtime 0)
  | 0x03 => (s, half x.bNtime 1)
  | 0x04 => s.seen e (s.get Reg.SYS_SLOW_COUNT % 2 ^ 32)
  | 0x05 => (s, x.kind)
  | 0x06 => s.seen e (s.peekWord (Reg.ENG_STAT_TAKEOVER e).addr)
  | 0x07 => s.seen e (s.gstate n)
  | 0x08 => s.seen e (s.get (Reg.ENG_EVT_CAUSE e))
  | 0x09 => s.causeTake e
  | 0x0A => s.seen e (s.claveX n).win.length
  | 0x0B => let q := s.nextCoord n; q.1.seen e (half q.2 0)
  | 0x0C => let q := s.nextCoord n; q.1.seen e (half q.2 1)
  | 0x11 => let s := s.poolWait e; (s, gntWord (s.engX e).gnt)
  | 0x25 => s.seen e x.claveStat
  | o =>
    if 0x14 ≤ o ∧ o < 0x1C then (s, leAt x.markData (4 * (o - 0x14)) 4)
    else if 0x20 ≤ o ∧ o < 0x24 then (s, leAt x.entry (4 * (o - 0x20)) 4)
    else (s, 0)

/-- A read of DM word `w` of the group view. -/
def State.readGroupView (s : State) (e w : Nat) : State × Nat := s.groupViewAt e (w - 0x2800)

/-- Bytes of a list replaced by a word at word `i`. -/
def putWord (l : List Byte) (i v : Nat) : List Byte := l.take (4 * i) ++ leBytes 4 v ++ l.drop (4 * i + 4)

/-- MARK: a MARK record with the code and MARK_DATA (R220). -/
def State.engMark (s : State) (e code : Nat) : State :=
  s.sideEffect e (.mark (code % 65536) (s.engX e).markData) (fun s => s.event (s.grpOf e) clsMark (code % 65536) true (s.engX e).markData)

/-- POOL_FREE: a block that the group holds goes back (R128, R219). -/
def State.engPoolFree (s : State) (e b : Nat) : State :=
  s.sideEffect e (.poolFree (b % 65536)) (fun s => s.poolFree (s.grpOf e) (b % 65536))

/-- CLAVE_GO (R220, R326, R327): the entry is checked and joins the queue at the next slow boundary. -/
def State.engClaveGo (s : State) (e : Nat) : State :=
  s.sideEffect e (.clave (s.engX e).entry) (fun s =>
    let n := s.grpOf e
    let c := s.claveX n
    let l := (s.engX e).entry
    if (s.entryBad n l).isSome then
      (s.inc (Reg.CLAVE_REJECTED n)).modEng e (fun x => { x with claveOk := false, claveFull := false })
    else if queueMax ≤ c.queue.length + c.goWait.length then s.modEng e (fun x => { x with claveOk := false, claveFull := true })
    else
      (s.setClave n { c with goWait := c.goWait ++ [(s.clk, ClEntry.ofBytes l)] }).modEng e (fun x => { x with claveOk := true, claveFull := false }))

/-- A write of the group view. -/
def State.writeGroupView (s : State) (e w v : Nat) : State :=
  let o := w - 0x2800
  if o = 0x10 then s.engPoolReq e
  else if o = 0x12 then s.engPoolFree e v
  else if o = 0x13 then s.engMark e v
  else if 0x14 ≤ o ∧ o < 0x1C then s.modEng e (fun x => { x with markData := putWord x.markData (o - 0x14) v })
  else if 0x20 ≤ o ∧ o < 0x24 then s.modEng e (fun x => { x with entry := putWord x.entry (o - 0x20) v })
  else if o = 0x24 then s.engClaveGo e
  else s

/-! ### Words of the local data space -/

/-- Operand fetch in UNIFIED mode (R196). -/
def State.unified (s : State) (e : Nat) : Bool := s.flag (Reg.ENG_STATE_FETCH e)

/-- The word at local address `w`, reached through pointer `k`. -/
def State.readWord (s : State) (e : Nat) (k : Fin 8) (w : Nat) : State × Nat :=
  match regionOf w with
  | .dm => (s, s.rdLE (dmAddr e (s.unified e) k w) 4)
  | .axisView => let q := s.readAxisView e w; q.1.seen e q.2
  | .groupView => s.readGroupView e w
  | .mailbox => let q := s.busRead (engAgent e) (s.mailAt e w); q.1.seen e q.2
  | .bitSet => let q := s.busRead (engAgent e) (s.mailAt e w); q.1.seen e q.2
  | .bitClear => let q := s.busRead (engAgent e) (s.mailAt e w); q.1.seen e q.2
  | .reserved => (s, 0)

/-- A declared word that the snapshot copy has not reached stalls its writer (R170). -/
def State.copyStall (s : State) (e a : Nat) : State :=
  let g := s.grpX (s.grpOf e)
  let lo := dmAt e + g.snapBase
  if s.engIn e esActive && g.snapRun && decide (lo ≤ a) && decide (a < lo + g.snapLen) then s.waitTo e ((a - lo) / 4 + 1) else s

/-- A mailbox word written, or its bits set or cleared, by engine `e` (R194, R221). -/
def State.writeMail (s : State) (e w v : Nat) : State :=
  let a := s.mailAt e w
  s.sideEffect e (.mbox a v) (fun s => s.busWrite (engAgent e) a v fullMask)

/-- The word at local address `w`, reached through pointer `k`, written. -/
def State.writeWord (s : State) (e : Nat) (k : Fin 8) (w v : Nat) : State :=
  match regionOf w with
  | .dm =>
    let a := dmAddr e (s.unified e) k w
    (s.copyStall e a).wrLE a 4 v
  | .axisView => s.writeAxisView e w v
  | .groupView => s.writeGroupView e w v
  | .mailbox => s.writeMail e w v
  | .bitSet => s.writeMail e w v
  | .bitClear => s.writeMail e w v
  | .reserved => s

/-! ### Memory operands -/

/-- A 32-bit memory operand read: address, wait clocks, value. -/
def State.readOp (s : State) (e : Nat) (o : MemOp) (x : EngX) : State × BitVec 32 :=
  let w := memAddr o x
  let q := s.readWord e o.p w
  (q.1.spend e (accessWait w), BitVec.ofNat 32 q.2)

/-- A 64-bit memory operand read (R199): words 2i and 2i + 1. -/
def State.readOp64 (s : State) (e : Nat) (o : MemOp) (x : EngX) : State × BitVec 64 :=
  let w := memAddr o x / 2 * 2
  let q := s.readWord e o.p w
  let r := q.1.readWord e o.p (w + 1)
  (r.1.spend e (accessWait w), BitVec.ofNat 64 (q.2 % 2 ^ 32 + r.2 * 2 ^ 32))

/-- A 32-bit memory operand written. -/
def State.writeOp (s : State) (e : Nat) (o : MemOp) (x : EngX) (v : BitVec 32) : State :=
  let w := memAddr o x
  (s.writeWord e o.p w v.toNat).spend e (accessWait w)

/-- A 64-bit memory operand written (R199). -/
def State.writeOp64 (s : State) (e : Nat) (o : MemOp) (x : EngX) (v : BitVec 64) : State :=
  let w := memAddr o x / 2 * 2
  ((s.writeWord e o.p w (v.toNat % 2 ^ 32)).writeWord e o.p (w + 1) (v.toNat / 2 ^ 32)).spend e (accessWait w)

/-! ### System accesses (R216, R223, R224, Table DSP-8) -/

/-- A register of AXIS[x] or CUR[x]: engine writes of it are staged (R216). -/
def stagedAddr (a : Nat) : Bool :=
  (decide (0x20000 ≤ a) && decide (a < 0x28000)) || (decide (0xE0000 ≤ a) && decide (a < 0xE2000))

/-- The clocks of a system read: those of external memory are open up to 400. -/
def State.ldsClocks (s : State) (a : Nat) : State × Nat :=
  if a < 0x10000000 then (s, 12)
  else if a < 0x20000000 then (s, 1)
  else if a < 0x80000000 then (s, 8)
  else (s.draw, Config.freeNat s.drawn % 400 + 1)

/-- The registers as they will stand once every write that engine `e` has committed is applied. -/
def State.committedView (s : State) (e : Nat) : State :=
  let s := (s.tick_.regsNext.filter (fun q => decide (q.1 = e))).foldl (fun s q => s.engPut e q.2.1 q.2.2) s
  (s.engX e).committed.foldl (fun s w => match w with | .reg a v => s.engPut e a v | _ => s) s

/-- LDS: the word at a system address; of a staged register, the last committed value (R216), which only its own window shows (R223).
Its own DM too is an input that the target of a migration sees as its source sees it (R186). -/
def State.engLoad (s : State) (e addr : Nat) : State × Nat :=
  let a := addr / 4 * 4
  let q := s.ldsClocks a
  let s := q.1.spend e q.2
  let r := s.busRead (engAgent e) a
  r.1.seen e (if stagedAddr a then ((s.committedView e).busRead (engAgent e) a).2 else r.2)

/-- STS: a staged register that lies in the engine's window, or a posted write, its own DM included (R216, R221, R223). -/
def State.engStore (s : State) (e addr v : Nat) : State :=
  let a := addr / 4 * 4
  if stagedAddr a then
    if s.window a (engAgent e) = .rw then s.modEng e (fun x => { x with staged := x.staged ++ [.reg a v] }) else s
  else s.sideEffect e (.sts a v) (fun s => (s.copyStall e a).busWrite (engAgent e) a v fullMask)

/-! ### DONE, and the transfer of outputs (R159) -/

/-- LOOP_FLT of an axis: its bits raise their faults when DONE commits them (R266). -/
def isLoopFlt (a : Nat) : Bool := decide (0x20000 ≤ a) && decide (a < 0x28000) && decide (a % 0x400 = 0x100)

/-- One staged write committed. -/
def State.commitOne (s : State) (e : Nat) (w : StagedW) : State :=
  let s := if s.compared e then s.modEng e (fun x => { x with outs := x.outs ++ [w] }) else s
  match w with
  | .reg a v =>
    if isLoopFlt a then (if s.engIn e esShadow then s else s.busWrite (engAgent e) a v fullMask)
    else s.modEng e (fun x => { x with committed := x.committed ++ [w] })
  | _ => s.modEng e (fun x => { x with committed := x.committed ++ [w] })

/-- The run of engine `e` ends with DONE (R156, R159, R190, R213). -/
def State.runDone (s : State) (e : Nat) : State :=
  let x := s.engX e
  let s := s.setEng e { x with running := false, staged := [], roll := [], fastDone := true }
  let s := x.staged.foldl (fun s w => s.commitOne e w) s
  if x.kind = 1 then
    let k := x.clk % 65536
    let s := (s.set (Reg.ENG_RUN_LAST e) k).set (Reg.ENG_RUN_MAX e) (max k (s.get (Reg.ENG_RUN_MAX e)))
    if s.engIn e esActive then s.modGrp (s.grpOf e) (fun g => { g with unapp := 0 }) else s
  else s

/-- One committed output handed over, to be applied at the next fast boundary. -/
def State.transferOne (s : State) (e : Nat) (w : StagedW) : State :=
  match w with
  | .iq x v => if isNet x then s.modAxis x (fun a => { a with iqOut := v }) else s.modCur x (fun c => { c with iqNext := some v })
  | .id x v => s.modCur x (fun c => { c with idNext := some v })
  | .reg a v => { s with tick_ := { s.tick_ with regsNext := s.tick_.regsNext ++ [(e, a, v)] } }

/-- The committed outputs of one engine transferred; those of a shadow are dropped. -/
def State.transferEng (s : State) (e : Nat) : State :=
  let l := (s.engX e).committed
  let s := s.modEng e (fun x => { x with committed := [] })
  if s.engIn e esShadow then s else l.foldl (fun s w => s.transferOne e w) s

/-- Payload of a set-point frame (Table BXP-10): SP_VALID only in READY while the axis is powered (R271). -/
def State.drivePayload (s : State) (x : Nat) : List Byte :=
  let ds := s.get (Reg.AXIS_NET_STAT_DSTATE x)
  let ready := decide (ds = 2)
  let valid := ready && s.flag (Reg.AXIS_SRC_POWERED x)
  let b := s.get Reg.SYS_SLOW_NTIME
  let apply := b + s.get (Reg.AXIS_NET_CFG_APPLY_DELAY x) * s.slowClk * 5 / 2
  u8s [b2n valid + 2 * b2n (!ready), ds, s.get (Reg.AXIS_NET_STAT_EPOCH x), 0] ++ leBytes 4 (s.axisX x).iqOut ++ leBytes 8 apply
    ++ leBytes 8 b

/-- The set-point frame of a drive queued in class 7 of its port, with the VLAN of the drive channel (R267, R437, R438, R522). -/
def State.driveSend (s : State) (x : Nat) : State :=
  let i := x - 16
  let port := s.get (Reg.ETH_DRV_MAC_HI_PORT i)
  if port = 0 ∨ 2 < port then s
  else
    let msg := wireBytes 6 x 0xA0 (s.get Reg.SYS_SLOW_COUNT % 2 ^ 32) 0 (s.drivePayload x)
    let ip := s.get (Reg.ETH_DRV_IP i)
    let mac := leBytes 4 (s.get (Reg.ETH_DRV_MAC_LO i)) ++ leBytes 2 (s.get (Reg.ETH_DRV_MAC_HI_MAC i))
    let tag := beBytes 2 0x8100 ++ beBytes 2 (7 * 8192 + s.get Reg.ETH_VLAN_DRV_VID)
    let frame := s.frameOf (ofLE mac.reverse) tag 0x0800 (s.ipOf ip 17 (s.udpOf ip 48700 48700 msg))
    (s.nextId.enqueue (port - 1) ((s.axisGroup x).getD 16) 6 7 frame).1

/-- OUTPUT_TRANSFER (R159, R182, R267, R438): committed values at F - 64; after a slow boundary the drive frames are queued. -/
def execOutputTransfer (s : State) : Out :=
  if !s.up || !s.tick_.begun then .next s
  else
    let s := s.forAll (List.range 17) State.transferEng
    let s := s.forAll (List.range 16) (fun s n =>
      let t := (s.grpX n).take
      if t.phase = 2 ∧ ¬ (s.engX t.spare).unfinished then s.modGrp n (fun g => { g with take := { t with phase := 3 } }) else s)
    .next (if s.tick_.inSlow = 0 then s.forAll ((List.range 32).filter (fun x => s.hasDrive x)) State.driveSend else s)

end Sys2Proof.Machine
end

