-- ==== Sys2Proof/Machine/Aingoca.lean ====
section
/-!
DEFINITION. Aingoca.lean: the instructions of the loop engines (R227-R246). A command names the engine and the word that it fetches;
it executes while that engine runs code, and does nothing otherwise (log 40).
-/
namespace Sys2Proof.Machine

/-! ### Fetch, Roll and the next word (R210-R213, R245, R246) -/

/-- Engine `e` executes code now. -/
def State.executes (s : State) (e : Nat) : Bool := s.engRuns e && (s.engX e).running

/-- Roll after the instruction at `pc`: the levels left, and the next address (R211). -/
def rollNext (pc : Nat) : List RollLvl → List RollLvl × Nat
  | [] => ([], pc + 1)
  | l :: r =>
    if l.stop = pc then (if 1 < l.count then ({ l with count := l.count - 1 } :: r, l.start) else rollNext pc r)
    else (l :: r, pc + 1)

/-- Whether a level's block holds an address. -/
def RollLvl.has (l : RollLvl) (t : Nat) : Bool := decide (l.start ≤ t) && decide (t ≤ l.stop)

/-- The levels that a taken jump to `t` leaves: one whose block it leaves goes, with every level inside it (R213). -/
def rollJump (t : Nat) : List RollLvl → List RollLvl
  | [] => []
  | l :: r =>
    let q := rollJump t r
    if q.length = r.length ∧ l.has t then l :: q else q

/-- The instruction at the present address is the end of an active level. -/
def EngX.atEnd (x : EngX) : Bool := x.roll.any (fun l => decide (l.stop = x.pc))

/-- The next word is fetched; one beyond PM is an illegal form (R246). -/
def State.advance (s : State) (e : Nat) : State :=
  let x := s.engX e
  let q := rollNext x.pc x.roll
  let s := s.setEng e { x with roll := q.1, pc := q.2 }
  if 8192 ≤ q.2 then s.engFail e 4 else s

/-- Clocks that reading accumulators `l` waits; a multiply-accumulate into the accumulator just written does not wait (R205). -/
def EngX.accWait (x : EngX) (l : List (Fin 2)) (into : Option (Fin 2)) : Nat :=
  match x.lastAcc with
  | none => 0
  | some k => if l.contains k ∧ into ≠ some k then 1 else 0

/-- An instruction that goes on to the next word: `base` clocks and the wait for the accumulators `rd` that it reads; `wr` is the
accumulator that it writes; `f` has the engine as it stands at the instruction's start (R243, R244). -/
def State.plain (s : State) (e base : Nat) (rd : List (Fin 2)) (into wr : Option (Fin 2)) (f : EngX → State → State) : State :=
  let x := s.engX e
  let s := f x (s.spend e (base + x.accWait rd into))
  (s.modEng e (fun y => { y with lastAcc := wr })).advance e

/-- An instruction without accumulators. -/
def State.simple (s : State) (e : Nat) (f : EngX → State → State) : State := s.plain e 1 [] none none f

/-- A result of registers alone. -/
def State.regOp (s : State) (e : Nat) (f : EngX → EngX) : State := s.simple e (fun x s => s.modEng e (fun _ => { f x with clk := (s.engX e).clk }))

/-- The outcome of an instruction word of engine `e`. -/
def State.run (s : State) (e : Nat) (f : State → State) : Out := if s.executes e then .next (f s) else .next s

/-- A control instruction: as the end of an active level it is an illegal form (Table ISA-8). -/
def State.control (s : State) (e clocks : Nat) (f : EngX → State → State) : State :=
  let x := s.engX e
  if x.atEnd then s.engFail e 4 else f x ((s.spend e clocks).modEng e (fun y => { y with lastAcc := none }))

/-- A taken jump (R213, R234). -/
def State.jump (s : State) (e t : Nat) : State := s.modEng e (fun y => { y with pc := t, roll := rollJump t y.roll })

/-! ### Control -/

/-- NOP. -/
def execNop (e : Fin 17) (s : State) : Out := s.run e (fun s => s.simple e (fun _ s => s))

/-- DONE (R159, R213). -/
def execDone (e : Fin 17) (s : State) : Out := s.run e (fun s => s.control e 1 (fun _ s => s.runDone e))

/-- JMP (R234, Table ISA-6): two clocks when taken. -/
def execJmp (e : Fin 17) (cond : BitVec 4) (target : BitVec 13) (s : State) : Out :=
  s.run e (fun s =>
    let t := condHolds cond (s.engX e).sr
    s.control e (1 + b2n t) (fun _ s => if t then s.jump e target.toNat else s.advance e))

/-- CALL (R235): P7 takes the address of the next word. -/
def execCall (e : Fin 17) (target : BitVec 13) (s : State) : Out :=
  s.run e (fun s => s.control e 2 (fun x s =>
    (s.modEng e (fun y => { y with p := y.p.set 7 (BitVec.ofNat 16 (x.pc + 1)) })).jump e target.toNat))

/-- RET (R230): to P7[12:0]. -/
def execRet (e : Fin 17) (s : State) : Out :=
  s.run e (fun s => s.control e 2 (fun x s => s.jump e (x.p[7].toNat % 8192)))

/-- CLRSR (R209). -/
def execClrsr (e : Fin 17) (s : State) : Out := s.run e (fun s => s.regOp e (fun x => { x with sr := 0 }))

/-- A level pushed (R210, R212, R236): an end beyond PM is illegal, a full stack is REPEAT_OVF; count 0 means 65536. -/
def State.push (s : State) (e endOff count : Nat) : State :=
  s.control e 1 (fun x s =>
    let stop := x.pc + endOff + 1
    if 8191 < stop then s.engFail e 4
    else if 4 ≤ x.roll.length then s.engFail e 5
    else
      let l : RollLvl := { start := x.pc + 1, stop := stop, count := if count = 0 then 65536 else count }
      s.modEng e (fun y => { y with roll := l :: y.roll, pc := x.pc + 1 }))

/-- REP (R210, R236). -/
def execRep (e : Fin 17) (count : BitVec 16) (endOff : BitVec 12) (s : State) : Out :=
  s.run e (fun s => s.push e endOff.toNat count.toNat)

/-- REP with a register count (R210, R236): bits [15:0]. -/
def execRepReg (e : Fin 17) (dc : Fin 8) (endOff : BitVec 12) (s : State) : Out :=
  s.run e (fun s => s.push e endOff.toNat ((s.engX e).d[dc].toNat % 65536))

/-! ### Immediate loads and moves (R232) -/

/-- LDI: sign-extended. -/
def execLdi (e : Fin 17) (r : RegW) (imm : BitVec 16) (s : State) : Out :=
  s.run e (fun s => s.regOp e (fun x => x.wrReg r (imm.signExtend 32)))

/-- LDIU: zero-extended. -/
def execLdiu (e : Fin 17) (r : RegW) (imm : BitVec 16) (s : State) : Out :=
  s.run e (fun s => s.regOp e (fun x => x.wrReg r (imm.setWidth 32)))

/-- LDIH: the upper half of a D register. -/
def execLdih (e : Fin 17) (d : Fin 8) (imm : BitVec 16) (s : State) : Out :=
  s.run e (fun s => s.regOp e (fun x => { x with d := x.d.set d (imm ++ (x.d[d]).setWidth 16) }))

/-- MOV (R232). -/
def execMov (e : Fin 17) (rd : RegW) (rs : RegR) (s : State) : Out :=
  s.run e (fun s => s.regOp e (fun x => x.wrReg rd (x.rdReg rs)))

/-- STEP (R242): the post-modification without an access. -/
def execStepPtr (e : Fin 17) (m : StepOp) (s : State) : Out :=
  s.run e (fun s => s.regOp e (fun x => memPost (stepLong m) x x))

/-! ### ALU operations (R233, Table ISA-5) -/

/-- A result of class 0x2 with its flags. -/
def EngX.alu (x : EngX) (d : Fin 8) (r : BitVec 32) (c v : Option Bool) : EngX :=
  { x with d := x.d.set d r, sr := aluFlags x.sr r c v }

/-- ADD. -/
def execAdd (e : Fin 17) (d a : Fin 8) (b : AluB) (s : State) : Out :=
  s.run e (fun s => s.regOp e (fun x =>
    let u := x.d[a]
    let v := aluVal b true x
    x.alu d (u + v) (some (addC u v)) (some (addV u v))))

/-- SUB: C is the borrow. -/
def execSub (e : Fin 17) (d a : Fin 8) (b : AluB) (s : State) : Out :=
  s.run e (fun s => s.regOp e (fun x =>
    let u := x.d[a]
    let v := aluVal b true x
    x.alu d (u - v) (some (subC u v)) (some (subV u v))))

/-- AND. -/
def execAnd (e : Fin 17) (d a : Fin 8) (b : AluB) (s : State) : Out :=
  s.run e (fun s => s.regOp e (fun x =>
    let u := x.d[a]
    let v := aluVal b false x
    x.alu d (u &&& v) (some false) (some false)))

/-- OR. -/
def execOr (e : Fin 17) (d a : Fin 8) (b : AluB) (s : State) : Out :=
  s.run e (fun s => s.regOp e (fun x =>
    let u := x.d[a]
    let v := aluVal b false x
    x.alu d (u ||| v) (some false) (some false)))

/-- XOR. -/
def execXor (e : Fin 17) (d a : Fin 8) (b : AluB) (s : State) : Out :=
  s.run e (fun s => s.regOp e (fun x =>
    let u := x.d[a]
    let v := aluVal b false x
    x.alu d (u ^^^ v) (some false) (some false)))

/-- NOT. -/
def execNot (e : Fin 17) (d a : Fin 8) (s : State) : Out :=
  s.run e (fun s => s.regOp e (fun x => x.alu d (~~~x.d[a]) (some false) (some false)))

/-- The most negative 32-bit number. -/
def minWord : BitVec 32 := 0x80000000

/-- NEG. -/
def execNeg (e : Fin 17) (d a : Fin 8) (s : State) : Out :=
  s.run e (fun s => s.regOp e (fun x => let u := x.d[a]; x.alu d (-u) (some (u != 0)) (some (u == minWord))))

/-- ABS: C is unchanged. -/
def execAbs (e : Fin 17) (d a : Fin 8) (s : State) : Out :=
  s.run e (fun s => s.regOp e (fun x => let u := x.d[a]; x.alu d (if u.msb then -u else u) none (some (u == minWord))))

/-- MIN: the signed minimum; C and V are unchanged. -/
def execMin (e : Fin 17) (d a : Fin 8) (b : AluB) (s : State) : Out :=
  s.run e (fun s => s.regOp e (fun x =>
    let u := x.d[a]
    let v := aluVal b true x
    x.alu d (if v.toInt < u.toInt then v else u) none none))

/-- MAX: the signed maximum; C and V are unchanged. -/
def execMax (e : Fin 17) (d a : Fin 8) (b : AluB) (s : State) : Out :=
  s.run e (fun s => s.regOp e (fun x =>
    let u := x.d[a]
    let v := aluVal b true x
    x.alu d (if u.toInt < v.toInt then v else u) none none))

/-- ASR: V is 0. -/
def execAsr (e : Fin 17) (d a : Fin 8) (b : ShiftB) (s : State) : Out :=
  s.run e (fun s => s.regOp e (fun x =>
    let u := x.d[a]
    let k := shiftAmt b x
    x.alu d (asr32 u k) (asrC u k) (some false)))

/-- LSR: V is 0. -/
def execLsr (e : Fin 17) (d a : Fin 8) (b : ShiftB) (s : State) : Out :=
  s.run e (fun s => s.regOp e (fun x =>
    let u := x.d[a]
    let k := shiftAmt b x
    x.alu d (u >>> k) (lsrC u k) (some false)))

/-- LSL: V is 0. -/
def execLsl (e : Fin 17) (d a : Fin 8) (b : ShiftB) (s : State) : Out :=
  s.run e (fun s => s.regOp e (fun x =>
    let u := x.d[a]
    let k := shiftAmt b x
    x.alu d (u <<< k) (lslC u k) (some false)))

/-- CMP: the flags of SUB. -/
def execCmp (e : Fin 17) (a : Fin 8) (b : AluB) (s : State) : Out :=
  s.run e (fun s => s.regOp e (fun x =>
    let u := x.d[a]
    let v := aluVal b true x
    { x with sr := aluFlags x.sr (u - v) (some (subC u v)) (some (subV u v)) }))

/-! ### Multiply-accumulate (R204, R237) -/

/-- An accumulator set to an exact result modulo 2^72, with its flags (R204, R231). -/
def EngX.setAcc (x : EngX) (k : Fin 2) (i : Int) : EngX := { x with a := x.a.set k (BitVec.ofInt 72 i), sr := accFlags x.sr i }

/-- An operand of a multiply read; memory ones through their pointer. -/
def State.readXY (s : State) (e : Nat) (o : XY) (x : EngX) : State × BitVec 32 :=
  match o with
  | .reg d => (s, x.d[d])
  | .mem m => s.readOp e (shortLong m) x

/-- The post-modification of an operand of a multiply. -/
def postXY (o : XY) (y x : EngX) : EngX :=
  match o with
  | .reg _ => y
  | .mem m => memPost (shortLong m) y x

/-- Two accesses in the same half in SPLIT mode take one more clock (R197). -/
def State.sameHalf (s : State) (e : Nat) (o : MacOps) : Nat :=
  match o.x, o.y with
  | .mem a, .mem b => b2n (!s.unified e && (upperHalf a.p == upperHalf b.p))
  | _, _ => 0

/-- One multiply: the product into, onto or off accumulator `k`. -/
def State.mac (s : State) (e : Nat) (k : Fin 2) (o : MacOps) (frac : Bool) (rd : List (Fin 2)) (f : Int → Int → Int) : State :=
  s.plain e (1 + s.sameHalf e o) rd (some k) (some k) (fun x s =>
    let p := s.readXY e o.x x
    let q := p.1.readXY e o.y x
    q.1.modEng e (fun y =>
      (postXY o.y (postXY o.x y x) x).setAcc k (f (x.a[k]).toInt (product frac o.ux o.uy p.2 q.2))))

/-- MPYF. -/
def execMpyf (e : Fin 17) (k : Fin 2) (o : MacOps) (s : State) : Out := s.run e (fun s => s.mac e k o true [] (fun _ p => p))

/-- MPYI. -/
def execMpyi (e : Fin 17) (k : Fin 2) (o : MacOps) (s : State) : Out := s.run e (fun s => s.mac e k o false [] (fun _ p => p))

/-- MACF. -/
def execMacf (e : Fin 17) (k : Fin 2) (o : MacOps) (s : State) : Out := s.run e (fun s => s.mac e k o true [k] (fun a p => a + p))

/-- MACI. -/
def execMaci (e : Fin 17) (k : Fin 2) (o : MacOps) (s : State) : Out := s.run e (fun s => s.mac e k o false [k] (fun a p => a + p))

/-- MSUF. -/
def execMsuf (e : Fin 17) (k : Fin 2) (o : MacOps) (s : State) : Out := s.run e (fun s => s.mac e k o true [k] (fun a p => a - p))

/-- MSUI. -/
def execMsui (e : Fin 17) (k : Fin 2) (o : MacOps) (s : State) : Out := s.run e (fun s => s.mac e k o false [k] (fun a p => a - p))

/-! ### Accumulators (R193, R238) -/

/-- The other accumulator. -/
def otherAcc (k : Fin 2) : Fin 2 := 1 - k

/-- CLR. -/
def execClr (e : Fin 17) (k : Fin 2) (s : State) : Out :=
  s.run e (fun s => s.plain e 1 [] none (some k) (fun _ s => s.modEng e (fun y => y.setAcc k 0)))

/-- A 32-bit source of LDAF or LDAI loaded through `f`. -/
def State.loadAcc (s : State) (e : Nat) (k : Fin 2) (o : Opnd) (f : Int → Int) : State :=
  s.plain e 1 [] none (some k) (fun x s =>
    match o with
    | .reg d => s.modEng e (fun y => y.setAcc k (f (x.d[d]).toInt))
    | .mem m =>
      let q := s.readOp e m x
      q.1.modEng e (fun y => (memPost m y x).setAcc k (f q.2.toInt)))

/-- LDAF: the fractional load. -/
def execLdaf (e : Fin 17) (k : Fin 2) (o : Opnd) (s : State) : Out := s.run e (fun s => s.loadAcc e k o (fun i => i * 2 ^ 32))

/-- LDAI: the integer load. -/
def execLdai (e : Fin 17) (k : Fin 2) (o : Opnd) (s : State) : Out := s.run e (fun s => s.loadAcc e k o (fun i => i))

/-- LDA64. -/
def execLda64 (e : Fin 17) (k : Fin 2) (o : Opnd64) (s : State) : Out :=
  s.run e (fun s => s.plain e 1 [] none (some k) (fun x s =>
    match o with
    | .pair i => s.modEng e (fun y => y.setAcc k (x.rdPair i).toInt)
    | .mem m =>
      let q := s.readOp64 e m x
      q.1.modEng e (fun y => (memPost m y x).setAcc k q.2.toInt)))

/-- ADDA. -/
def execAdda (e : Fin 17) (k : Fin 2) (s : State) : Out :=
  s.run e (fun s => s.plain e 1 [0, 1] none (some k) (fun x s =>
    s.modEng e (fun y => y.setAcc k ((x.a[k]).toInt + (x.a[otherAcc k]).toInt))))

/-- SUBA. -/
def execSuba (e : Fin 17) (k : Fin 2) (s : State) : Out :=
  s.run e (fun s => s.plain e 1 [0, 1] none (some k) (fun x s =>
    s.modEng e (fun y => y.setAcc k ((x.a[k]).toInt - (x.a[otherAcc k]).toInt))))

/-- NEGA. -/
def execNega (e : Fin 17) (k : Fin 2) (s : State) : Out :=
  s.run e (fun s => s.plain e 1 [k] none (some k) (fun x s => s.modEng e (fun y => y.setAcc k (-(x.a[k]).toInt))))

/-! ### Accumulator stores (R206, R207, R239) -/

/-- The flags of a store. -/
def EngX.stored (y : EngX) (z n o : Bool) : EngX := { y with sr := storeFlags y.sr z n o }

/-- STR: 32 bits, to a D register or a memory word. -/
def execStr (e : Fin 17) (k : Fin 2) (sat : Bool) (q : BitVec 6) (o : Opnd) (s : State) : Out :=
  s.run e (fun s => s.plain e 1 [k] none none (fun x s =>
    let r := storeVal 32 sat q.toNat x.a[k]
    let v : BitVec 32 := BitVec.ofInt 32 r.1
    match o with
    | .reg d => s.modEng e (fun y => EngX.stored { y with d := y.d.set d v } (v == 0) v.msb r.2)
    | .mem m => ((s.modEng e (fun y => memPost m y x)).writeOp e m x v).modEng e (fun y => y.stored (v == 0) v.msb r.2)))

/-- STR64: 64 bits, to a D pair or a 64-bit memory operand. -/
def execStr64 (e : Fin 17) (k : Fin 2) (sat : Bool) (q : BitVec 6) (o : Opnd64) (s : State) : Out :=
  s.run e (fun s => s.plain e 1 [k] none none (fun x s =>
    let r := storeVal 64 sat q.toNat x.a[k]
    let v : BitVec 64 := BitVec.ofInt 64 r.1
    match o with
    | .pair i => s.modEng e (fun y => (y.wrPair i v).stored (v == 0) v.msb r.2)
    | .mem m => ((s.modEng e (fun y => memPost m y x)).writeOp64 e m x v).modEng e (fun y => y.stored (v == 0) v.msb r.2)))

/-! ### Loads and stores (R240, R243) -/

/-- LD: the loaded value stands even where it goes into the operand's own pointer. -/
def execLd (e : Fin 17) (r : RegW) (m : MemOp) (s : State) : Out :=
  s.run e (fun s => s.simple e (fun x s =>
    let q := s.readOp e m x
    q.1.modEng e (fun y => (memPost m y x).wrReg r q.2)))

/-- LD64. -/
def execLd64 (e : Fin 17) (pair : Fin 4) (m : MemOp) (s : State) : Out :=
  s.run e (fun s => s.simple e (fun x s =>
    let q := s.readOp64 e m x
    q.1.modEng e (fun y => (memPost m y x).wrPair pair q.2)))

/-- ST. -/
def execSt (e : Fin 17) (r : RegR) (m : MemOp) (s : State) : Out :=
  s.run e (fun s => s.simple e (fun x s => (s.modEng e (fun y => memPost m y x)).writeOp e m x (x.rdReg r)))

/-- ST64. -/
def execSt64 (e : Fin 17) (pair : Fin 4) (m : MemOp) (s : State) : Out :=
  s.run e (fun s => s.simple e (fun x s => (s.modEng e (fun y => memPost m y x)).writeOp64 e m x (x.rdPair pair)))

/-- LDS (R223, R224, R241): the clocks of Table DSP-8 in place of the base. -/
def execLds (e : Fin 17) (dd da : Fin 8) (s : State) : Out :=
  s.run e (fun s => s.plain e 0 [] none none (fun x s =>
    let q := s.engLoad e (x.d[da]).toNat
    q.1.modEng e (fun y => { y with d := y.d.set dd (BitVec.ofNat 32 q.2) })))

/-- STS (R216, R223, R241). -/
def execSts (e : Fin 17) (dd da : Fin 8) (s : State) : Out :=
  s.run e (fun s => s.simple e (fun x s => s.engStore e (x.d[da]).toNat (x.d[dd]).toNat))

/-! ### Accesses of the group view that have an effect of their own (Table DSP-7) -/

/-- POOL_REQ (R219). -/
def execPoolReq (e : Fin 17) (s : State) : Out := s.run e (fun s => s.engPoolReq e)

/-- POOL_FREE (R219). -/
def execPoolFree (e : Fin 17) (block : BitVec 16) (s : State) : Out := s.run e (fun s => s.engPoolFree e block.toNat)

/-- MARK (R220). -/
def execMarkWrite (e : Fin 17) (code : BitVec 16) (s : State) : Out := s.run e (fun s => s.engMark e code.toNat)

/-- CLAVE_GO (R220). -/
def execClaveGo (e : Fin 17) (s : State) : Out := s.run e (fun s => s.engClaveGo e)

/-- CAUSE_TAKE (R218): the word read is handed out. -/
def execCauseTake (e : Fin 17) (s : State) : Out :=
  s.run e (fun s => let q := s.causeTake e; { q.1 with readOut := [q.2] })

end Sys2Proof.Machine
end

