-- ==== Sys2Proof/Machine/Bexic.lean ====
section
/-!
DEFINITION. Bexic.lean: the command sequencer (ch. 16): the checks of Table BXP-3, sessions, execution and answers, event frames, and
the commands that arrive as whole messages.
-/
namespace Sys2Proof.Machine

/-! ### Opcodes (Table BXP-5) -/

/-- Requests that exist. -/
def knownOps : List Nat :=
  [0x00, 0x01, 0x02, 0x03, 0x04, 0x05, 0x10, 0x11, 0x12, 0x13, 0x14, 0x15, 0x16, 0x20, 0x21, 0x22, 0x23, 0x24, 0x25, 0x26, 0x27,
   0x30, 0x31, 0x40, 0x41, 0x42, 0x43, 0x50, 0x51, 0x60, 0x61, 0x62, 0x70, 0x71, 0x72, 0x73, 0x74, 0x7D, 0x7E, 0x7F]
/-- Opcodes of the device endpoint only. -/
def deviceOps : List Nat := [0x10, 0x11, 0x60, 0x70, 0x73, 0x7D, 0x7E, 0x7F]
/-- Opcodes of group endpoints only. -/
def groupOps : List Nat :=
  [0x12, 0x13, 0x14, 0x15, 0x16, 0x20, 0x21, 0x22, 0x23, 0x24, 0x25, 0x26, 0x27, 0x30, 0x31, 0x40, 0x41, 0x42, 0x43]
/-- Kind B opcodes (R512). -/
def kindBOps : List Nat :=
  [0x10, 0x11, 0x12, 0x13, 0x14, 0x15, 0x16, 0x20, 0x21, 0x22, 0x23, 0x24, 0x25, 0x26, 0x27, 0x31, 0x40, 0x41, 0x42, 0x62, 0x70,
   0x71, 0x74]
/-- Opcodes whose OK response is always sent (R515). -/
def alwaysOps : List Nat := [0x00, 0x01, 0x02, 0x04, 0x20, 0x21, 0x43, 0x50, 0x60, 0x74, 0x7E]
/-- Opcodes that leave no CMD record (R504). -/
def silentOps : List Nat := [0x01, 0x02, 0x04, 0x43, 0x60]
/-- Opcodes that FALLBACK executes (R109). -/
def fallbackOps : List Nat := [0x01, 0x02, 0x7D, 0x7E, 0x7F]
/-- STOP-class group commands, in order of precedence (R290). -/
def stopOps : List Nat := [0x16, 0x14, 0x13]
/-- START-class group commands (Table BXP-5). -/
def startOps : List Nat := [0x12, 0x15, 0x20, 0x21, 0x22, 0x25, 0x26, 0x27]

/-- Step 12: the payload length of Table BXP-5. -/
def lengthOk (op : Nat) (m : Msg) : Bool :=
  let n := m.payload.length
  match op with
  | 0x00 => n = 4
  | 0x01 => n ≤ 1388
  | 0x02 => n = 4
  | 0x03 => n = 12
  | 0x04 => n = 8
  | 0x05 => n = 8 + 4 * m.le 4 2
  | 0x20 => n = 48
  | 0x21 => n = 48
  | 0x22 => n = 40
  | 0x23 => n = 4 + 64 * m.u8 0
  | 0x25 => n = 40
  | 0x26 => n = 40
  | 0x27 => n = 48
  | 0x30 => n = 4 + 4 * m.u8 3
  | 0x40 => n = 4 + 16 * m.le 0 2
  | 0x41 => n = 4
  | 0x42 => n = 4
  | 0x43 => n = 8
  | 0x50 => n = 4
  | 0x51 => n = 4 + 4 * m.u8 0
  | 0x60 => n = 12
  | 0x61 => n = 8
  | 0x70 => n = 4
  | 0x71 => n = 16
  | 0x73 => n = 4
  | 0x74 => decide (4 ≤ n) && decide (n = 4 + m.u8 2)
  | 0x7E => if m.u8 0 = 2 then decide (9 ≤ n) && decide (n ≤ 1400) else n = 8
  | _ => n = 0

/-- The checks of READ_BLOCK and WRITE_BLOCK (Table BXP-6). -/
def chkBlock (m : Msg) : Option Nat :=
  firstBad [chk (decide (1 ≤ m.le 4 2) && decide (m.le 4 2 ≤ 348)) 4, zeroAt m.payload 6 2]

/-- Step 13: the offset of the first payload byte out of range, not zero where it must be, or naming a unit outside the group. -/
def fieldBad (op : Nat) (m : Msg) (s : State) : Option Nat :=
  match op with
  | 0x04 => chkBlock m
  | 0x05 => chkBlock m
  | 0x20 => chkMove m s
  | 0x21 => chkMove m s
  | 0x22 => chkJog m s
  | 0x23 => chkPathAppend m s
  | 0x25 => chkFollow m s
  | 0x26 => chkGear m s
  | 0x27 => chkCam m s
  | 0x30 => chkCoefWrite m s
  | 0x40 => chkClaveAppend m s
  | 0x41 => chkClaveFlush m s
  | 0x42 => chkSnareArm m s
  | 0x43 => chkSnareRead m s
  | 0x50 => chkBufAlloc m s
  | 0x51 => chkBufFree m s
  | 0x60 => chkLedgerRead m s
  | 0x61 => firstBad [chk (decide (m.u8 1 < 16)) 1, zeroAt m.payload 2 6]
  | 0x70 => chkEngineTest m s
  | 0x71 => chkEngineMigrate m s
  | 0x73 => chkCanRecover m s
  | 0x74 => chkI2cXfer m s
  | 0x7E => chkImageWrite m s
  | _ => none

/-! ### Sources, answers and records -/

/-- VIA of a source (Table BXP-11). -/
def viaOf : Src → Nat
  | .udp _ _ _ => 1
  | .can c => 2 + c
  | .i2cs => 4

/-- The IPv4 address of a source; 0 for CAN and I2C-S. -/
def ipOfSrc : Src → Nat
  | .udp ip _ _ => ip.toNat
  | _ => 0

/-- The GROUP byte and the ledger's GROUP of an endpoint. -/
def groupByte (ep : Nat) : Nat := if ep < 16 then ep else 255

/-- The agent behind an endpoint (R124). -/
def agentOf (ep : Fin 17) : Agent := if h : ep.val < 16 then .group ⟨ep.val, h⟩ else .device

/-- A message leaves the command sequencer for its transport (R418, R472, R483). The second part says whether it was queued. -/
def State.sendOut (s : State) (o : OutMsg) : State × Bool :=
  let s := { s with outbox := o :: s.outbox }
  match o.dst with
  | .udp ip port mac =>
    s.sendUdp ip.toNat port.toNat mac.toNat (if o.ep < 16 then 48651 + o.ep else 48650) o.ep (outBytes o)
  | .can c => (s.canQueue c o none, true)
  | .i2cs => (s.i2cHold (outBytes o), true)

/-- A response (R502): the request's GROUP and SEQ, OPCODE with bit 7, and the status word. -/
def State.respond (s : State) (op : Nat) (m : Msg) (tag status detail : Nat) (body : List Byte) : State :=
  (s.sendOut { ep := m.ep, dst := m.src, opcode := op ||| 0x80, group := m.group.toNat, seq := m.seq.toNat, tag := tag,
               payload := u8s [status, detail, 0, 0] ++ body }).1

/-- A protocol violation is counted and recorded (R504, R110, Table LDG-5). -/
def State.violation (s : State) (op : Nat) (m : Msg) (code off : Nat) : State :=
  let s := s.inc (Reg.SYS_BXP_PROTO m.ep)
  if s.mode = modeFallback then s.inc Reg.SYS_FB_PROTO
  else
    s.event (groupByte m.ep) clsProto code true (u8s [viaOf m.src, op, m.group.toNat, 0] ++ leBytes 4 m.seq.toNat
      ++ leBytes 4 (ipOfSrc m.src) ++ leBytes 2 off ++ List.replicate 18 0)

/-- The TAG of an answer (R502): the session's once the message has reached the session check. FALLBACK has no session check. -/
def State.answerTag (s : State) (m : Msg) : Nat := if s.live then s.get (Reg.SYS_BXP_SESSION_TAG m.ep) else m.tag.toNat

/-- A message that fails one of steps 2-9: nothing of it is consumed. -/
def State.refuse (s : State) (op : Nat) (m : Msg) (status : Nat) : State :=
  (s.violation op m status 0).respond op m m.tag.toNat status 0 []

/-- A message that fails step 1 (R503): dropped, counted and recorded, not answered. -/
def State.dropMsg (s : State) (op : Nat) (m : Msg) : State := (s.inc (Reg.SYS_BXP_DROPPED m.ep)).violation op m 0 0

/-- A message of an unlisted source (R499): at most 10 answers per second leave, the rest are counted. -/
def State.unlisted (s : State) (op : Nat) (m : Msg) : State :=
  let s := s.violation op m stNotPermitted 0
  let sec := s.ntime / 1000000000
  let k := if s.flt.npSecond = sec then s.flt.npSent else 0
  if k < 10 then
    { s with flt := { s.flt with npSent := k + 1, npSecond := sec } }.respond op m m.tag.toNat stNotPermitted 0 []
  else s.inc Reg.SYS_BXP_NOTPERM

/-- The status of the session's last consumed message, while no later one has been consumed (R507). -/
def State.noteStatus (s : State) (m : Msg) (status : Nat) : State :=
  if s.flag (Reg.SYS_BXP_SESSION_OPEN m.ep) && decide (s.get (Reg.SYS_BXP_SESSION_TAG m.ep) = m.tag.toNat)
      && decide (s.get (Reg.SYS_BXP_LAST_SEQ m.ep) = m.seq.toNat) && (s.sessX m.ep).src.same m.src then
    s.modSess m.ep (fun x => { x with lastStatus := status })
  else s

/-- The outcome of a consumed message: PROTO record, last status, CMD record and answer (R502-R504, R515). LOADING follows the
response to RESTART (Table PWR-6). -/
def State.finish (op : Nat) (m : Msg) (r : Reply) : State :=
  let s := if r.proto then r.s.violation op m r.status (if r.status = stLimit then leAt r.body 0 2 else 0) else r.s
  let s := if op = 0x01 then s else s.noteStatus m r.status
  let tag := s.answerTag m
  let s := if silentOps.contains op then s
    else s.event (groupByte m.ep) clsCmd op true (u8s [r.status, viaOf m.src] ++ leBytes 2 tag ++ leBytes 4 m.seq.toNat
      ++ List.replicate 4 0 ++ padTo 20 m.payload)
  let s := if r.status ≠ stOk ∨ bit m.flags.toNat 0 ∨ alwaysOps.contains op then s.respond op m tag r.status r.detail r.body else s
  if r.restart then s.goLoading else s

/-! ### Sessions, registers, subscriptions -/

/-- The tag of a new session (R508). -/
def newTag (t prev : Nat) : Nat :=
  let up := fun (x : Nat) => if x = 65535 then 1 else x + 1
  if t = 0 ∨ t = prev then (if up t = prev then up (up t) else up t) else t

/-- SESSION_OPEN (R508): it replaces any session, whose subscription ends. -/
def runSessionOpen (m : Msg) (s : State) : Reply :=
  let e : Nat := m.ep
  let tag := newTag (s.ntime % 65536) (s.sessX e).prevTag
  let s := ((s.set (Reg.SYS_BXP_SESSION_TAG e) tag).set (Reg.SYS_BXP_SESSION_OPEN e) 1).set (Reg.SYS_BXP_SESSION_VIA e) (viaOf m.src)
  let s := (s.set (Reg.SYS_BXP_LAST_SEQ e) m.seq.toNat).set (Reg.SYS_BXP_SRC_IP e) (ipOfSrc m.src)
  let s := s.setSess e { src := m.src, lastStatus := stOk, prevTag := tag, mask := 0, evSeq := 1, waiting := [] }
  s.ok (leBytes 2 tag ++ u8s [groupByte e, s.mode] ++ leBytes 4 (s.get Reg.SYS_IMG_STAMP_LO) ++ leBytes 4 (s.get Reg.SYS_IMG_STAMP_HI)
    ++ leBytes 4 (s.get Reg.SYS_IMG_GEN) ++ leBytes 8 s.ntime)

/-- READ_REG (R516). -/
def runReadReg (m : Msg) (s : State) : Reply :=
  let q := s.busRead (agentOf m.ep) (m.le 0 4)
  q.1.ok (leBytes 4 q.2)

/-- WRITE_REG (R516): one masked write. -/
def runWriteReg (m : Msg) (s : State) : Reply := (s.busWrite (agentOf m.ep) (m.le 0 4) (m.le 4 4) (m.le 8 4)).ok []

/-- `n` words read one after the other from address `a`. -/
def State.readWords (s : State) (ag : Agent) (a : Nat) : Nat → State × List Nat
  | 0 => (s, [])
  | n + 1 =>
    let q := s.busRead ag a
    let r := q.1.readWords ag (a + 4) n
    (r.1, q.2 :: r.2)

/-- READ_BLOCK (R123, R129). -/
def runReadBlock (m : Msg) (s : State) : Reply :=
  let q := s.readWords (agentOf m.ep) (m.le 0 4) (m.le 4 2)
  q.1.ok (leBytes 4 (m.le 0 4) ++ (q.2.map (leBytes 4)).flatten)

/-- WRITE_BLOCK (R129). -/
def runWriteBlock (m : Msg) (s : State) : Reply :=
  (s.forAll (List.range (m.le 4 2)) (fun s i => s.busWrite (agentOf m.ep) (m.le 0 4 + 4 * i) (m.le (8 + 4 * i) 4) fullMask)).ok []

/-- Mask bits that apply to an endpoint (R520): records of DEVICE_FAULT and LOSS belong to no group. -/
def maskFor (ep v : Nat) : Nat := if ep < 16 then v &&& 0xF77 else v &&& 0xFFF

/-- EVENT_SUBSCRIBE (R520, R521). -/
def runEventSubscribe (m : Msg) (s : State) : Reply :=
  let k := maskFor m.ep (m.le 0 4)
  let s := if s.flag (Reg.SYS_BXP_SESSION_OPEN m.ep) then
      s.modSess m.ep (fun x => { x with mask := k, src := m.src, evSeq := 1, waiting := [] })
    else s
  s.ok (leBytes 4 k)

/-! ### Execution -/

/-- A kind X command executes (R512). -/
def runX (op : Nat) (m : Msg) (s : State) : Reply :=
  match op with
  | 0x00 => runSessionOpen m s
  | 0x01 => s.ok (leBytes 8 s.ntime ++ m.payload)
  | 0x02 => runReadReg m s
  | 0x03 => runWriteReg m s
  | 0x04 => runReadBlock m s
  | 0x05 => runWriteBlock m s
  | 0x30 => runCoefWrite m s
  | 0x43 => runSnareRead m s
  | 0x50 => runBufAlloc m s
  | 0x51 => runBufFree m s
  | 0x60 => runLedgerRead m (s.ringFetch m)
  | 0x61 => runEventSubscribe m s
  | 0x72 => runFieldResume m s
  | 0x73 => runCanRecover m s
  | 0x7D => runClearStartCount m s
  | 0x7E => runImageWrite m s
  | _ => runRestart m s

/-- The effect of a kind B command at its boundary (R512). -/
def effOf (op : Nat) (m : Msg) (s : State) : Reply :=
  match op with
  | 0x10 => effArm s
  | 0x11 => effDisarm s
  | 0x31 => effCoefSwap m s
  | 0x40 => effClaveAppend m s
  | 0x41 => effClaveFlush m s
  | 0x42 => effSnareArm m s
  | 0x62 => effClearFault m s
  | 0x70 => effEngineTest m s
  | 0x71 => effEngineMigrate m s
  | _ => effMotion op m s

/-- Acceptance of an I2C_XFER (R493-R495): it waits and is answered when its transfer has ended. -/
def runI2cXfer (m : Msg) (s : State) : Reply :=
  if s.xferDenied m then { s.nak stNotPermitted with proto := true }
  else
    match s.xferRefused with
    | some st => s.nak st
    | none => { (s.xferQueue m).ok [] with later := true }

/-- An outcome that comes now, or nothing yet. -/
def State.settle (op : Nat) (m : Msg) (r : Reply) : State := if r.later then r.s else State.finish op m r

/-- The message is consumed (R503): its SEQ becomes the session's last sequence; its status is open. -/
def State.consume (s : State) (op : Nat) (m : Msg) : State :=
  let s := s.inc (Reg.SYS_BXP_RX_MSG m.ep)
  if s.live && decide (1 < op) then
    (s.set (Reg.SYS_BXP_LAST_SEQ m.ep) m.seq.toNat).modSess m.ep (fun x => { x with lastStatus := 256 })
  else s

/-- A kind B command waits for its boundary (R512). COEF_SWAP requests its swap as it is consumed, except in a DIRECT group (R274,
R276). -/
def State.await (s : State) (op : Nat) (m : Msg) : State :=
  let s := if op = 0x31 ∧ ¬ s.flag (Reg.GRP_COEF_STAT_MODE m.ep) then s.askSwap m.ep else s
  { s with awaiting := s.awaiting ++ [{ op := op, msg := m, clk := s.clk }] }

/-- Steps 12-14 of a consumed message. In FALLBACK every opcode that it does not execute is answered WRONG_MODE, whatever it carries
(R109; log 71). -/
def State.execute (s : State) (op : Nat) (m : Msg) : State :=
  let s := s.consume op m
  if !s.live && !fallbackOps.contains op then State.finish op m (s.nak stWrongMode)
  else if !lengthOk op m then State.finish op m { s.nak stBadLength with proto := true }
  else
    match fieldBad op m s with
    | some o => State.finish op m { s.limit o with proto := true }
    | none =>
      if op = 0x74 then State.settle op m (runI2cXfer m s)
      else if kindBOps.contains op then s.await op m
      else State.settle op m (runX op m s)

/-! ### The checks of Table BXP-3 -/

/-- The CRC of a message over its header and payload (R500). -/
def msgCrc (op : Nat) (m : Msg) : Nat :=
  crc32c (u8s [m.version.toNat, m.flags.toNat, m.group.toNat, op] ++ leBytes 4 m.seq.toNat ++ leBytes 2 m.len.toNat
    ++ leBytes 2 m.tag.toNat ++ [0, 0, 0, 0] ++ m.payload)

/-- Steps 2-5 for a message carried whole (R501, R518). -/
def wireBad (op : Nat) (m : Msg) : Option Nat :=
  if m.version ≠ 1 then some stBadVersion
  else if m.crc.toNat ≠ msgCrc op m then some stBadCrc
  else if 1400 < m.len.toNat ∨ m.len.toNat ≠ m.payload.length ∨ 8 ≤ m.flags.toNat then some stBadLength
  else if ¬ (bit m.flags.toNat 1 ∧ bit m.flags.toNat 2) then some stFragError
  else none

/-- Step 7: the device endpoint answers the listed sources (R499); I2C-S is listed when it serves the device. -/
def State.listed (s : State) (src : Src) : Bool :=
  match src with
  | .i2cs => true
  | .udp ip _ _ => (List.range 4).any (fun i => decide (s.get (Reg.ETH_DEV_SRC_KIND i) = 1) && decide (s.get (Reg.ETH_DEV_SRC_ADDR i) = ip.toNat))
  | .can c => (List.range 4).any (fun i => decide (s.get (Reg.ETH_DEV_SRC_KIND i) = 2 + c.val))

/-- Step 8. In FALLBACK no opcode fails it: one that FALLBACK does not execute, known or not, is WRONG_MODE (R109). -/
def State.opcodeBad (s : State) (op : Nat) (m : Msg) : Option Nat :=
  if !s.live then none
  else if !knownOps.contains op then some stUnknownOp
  else if m.ep.val < 16 ∧ deviceOps.contains op then some stNotPermitted
  else if m.ep.val = 16 ∧ groupOps.contains op then some stBadGroup
  else none

/-- Messages of an endpoint that await execution (R511). -/
def State.awaitCount (s : State) (ep : Fin 17) : Nat :=
  (s.awaiting.filter (fun w => decide (w.msg.ep = ep))).length
    + (s.i2c.jobs.filter (fun j => decide (j.msg.ep = ep) && j.effect.isNone)).length

/-- Step 10: TAG and source are the session's (R509). -/
def State.inSession (s : State) (m : Msg) : Bool :=
  s.flag (Reg.SYS_BXP_SESSION_OPEN m.ep) && decide (s.get (Reg.SYS_BXP_SESSION_TAG m.ep) = m.tag.toNat) && (s.sessX m.ep).src.same m.src

/-- A SEQ at or below the last sequence (R510). LAST_STATUS of a command that still waits is a free value. -/
def State.stale (s : State) (op : Nat) (m : Msg) : State :=
  let x := s.sessX m.ep
  let q := if x.lastStatus < 256 then (s, x.lastStatus) else (s.draw, Config.freeNat s.drawn % 256)
  (q.1.violation op m stStaleSeq 0).respond op m (q.1.answerTag m) stStaleSeq 0
    (leBytes 4 (q.1.get (Reg.SYS_BXP_LAST_SEQ m.ep)) ++ u8s [q.2, 0, 0, 0])

/-- Steps 6-14 of a whole message. Steps 7, 10 and 11 are skipped in FALLBACK (R109), 10 and 11 for SESSION_OPEN and PING. -/
def State.serveWhole (s : State) (op : Nat) (m : Msg) : State :=
  if m.group.toNat ≠ groupByte m.ep then s.refuse op m stBadGroup
  else if s.live ∧ m.ep.val = 16 ∧ ¬ s.listed m.src then s.unlisted op m
  else
    match s.opcodeBad op m with
    | some st => s.refuse op m st
    | none =>
      if 32 ≤ s.awaitCount m.ep then (s.inc (Reg.SYS_BXP_RATE m.ep)).refuse op m stRate
      else if s.live ∧ 1 < op ∧ ¬ s.inSession m then
        (s.violation op m stNoSession 0).respond op m (s.answerTag m) stNoSession 0 []
      else if s.live ∧ 1 < op ∧ m.seq.toNat ≤ s.get (Reg.SYS_BXP_LAST_SEQ m.ep) then s.stale op m
      else s.execute op m

/-- Whether an endpoint is open to a source (R69, R108): every endpoint in STANDBY, OPERATE and SAFE_HOLD, the device endpoint in
FALLBACK; in LOADING only RESTART is answered. -/
def State.endpointOpen (s : State) (op : Nat) (m : Msg) : Bool :=
  s.awake && (s.live || (decide (s.mode = modeFallback) && decide (m.ep.val = 16) && decide (m.src ≠ .can 1))
    || (decide (s.mode = modeLoading) && decide (op = 0x7F)))

/-- What arrives through I2C-S is for the endpoint that I2C-S serves (R481). -/
def State.route (s : State) (m : Msg) : Msg :=
  if m.src = .i2cs then { m with ep := if h : s.i2cEndpoint < 17 then ⟨s.i2cEndpoint, h⟩ else 16 } else m

/-- A message with opcode `op` arrives whole (R592, Table BXP-3). -/
def State.serve (s : State) (op : Nat) (m : Msg) : State :=
  let m := s.route m
  if !s.endpointOpen op m then s
  else if m.version = 0 then s.dropMsg op m
  else
    match wireBad op m with
    | some st => s.refuse op m st
    | none => s.serveWhole op m

/-! ### Kind B commands at a slow boundary (R290, R352, R513) -/

/-- What becomes of a kind B command among those of its boundary. -/
inductive Fate where
  | run
  | superseded
  | noEffect
  | refused (status : Nat)
  deriving DecidableEq, Repr

/-- The STOP-class command of group `n` that takes effect, if one that the table does not refuse is there (R290). -/
def State.stopWinner (s : State) (l : List Await) (n : Fin 17) : Option Nat :=
  stopOps.find? (fun op => l.any (fun w => decide (w.op = op) && decide (w.msg.ep = n)) && decide (s.verdict op n < 2))

/-- Two START-class commands for one axis; GROUP_ENABLE and RESUME name none and match their own kind. -/
def sameAxis (a b : Await) : Bool :=
  decide (a.msg.ep = b.msg.ep) &&
    (if 0x20 ≤ a.op then decide (0x20 ≤ b.op) && decide (a.msg.u8 0 = b.msg.u8 0) else decide (a.op = b.op))

/-- The fate of `w` between the commands consumed before and after it, judged as the groups stand at the boundary. -/
def State.fate (s : State) (before : List Await) (w : Await) (after : List Await) : Fate :=
  let all := before ++ w :: after
  let n := w.msg.ep
  if w.op = 0x10 then (if all.any (fun v => decide (v.op = 0x11)) then .superseded else .run)
  else if stopOps.contains w.op then
    match s.stopWinner all n with
    | none => .refused (if s.verdict w.op n = 2 then stBusy else stWrongMode)
    | some op => if op = w.op ∧ ¬ before.any (fun v => decide (v.op = w.op) && decide (v.msg.ep = n)) then .run else .noEffect
  else if startOps.contains w.op then
    if (s.stopWinner all n).isSome then .superseded
    else if after.any (fun v => startOps.contains v.op && sameAxis w v && decide (s.verdict v.op n < 2)) then .superseded
    else .run
  else if w.op = 0x42 then
    (if after.any (fun v => decide (v.op = 0x42) && decide (v.msg.ep = n) && decide (v.msg.u8 0 = w.msg.u8 0)) then .superseded else .run)
  else .run

/-- One command of the boundary takes effect, or not, and is answered. -/
def State.effect1 (s : State) (f : Fate) (w : Await) : State :=
  State.finish w.op w.msg
    (match f with
     | .run => effOf w.op w.msg s
     | .superseded => s.nak stSuperseded
     | .noEffect => s.ok s.effect
     | .refused st => s.nak st)

/-- The commands of a boundary in order of consumption; `s0` is the state in which they meet. -/
def State.batch (s0 : State) (before : List Await) : List Await → State → State
  | [], s => s
  | w :: r, s => State.batch s0 (before ++ [w]) r (s.effect1 (s0.fate before w r) w)

/-- The command was complete before the clock of this boundary, so that its next boundary is this one (R17). -/
def State.due (s : State) (w : Await) : Bool := decide (w.clk < s.clk)

/-- Every kind B command that is due takes effect at this slow boundary; one consumed in the boundary's own clock waits on. -/
def State.effects (s : State) : State :=
  State.batch s [] (s.awaiting.filter s.due) { s with awaiting := s.awaiting.filter (fun w => !s.due w) }

/-! ### Event frames (R520, R521) -/

/-- Items that fit in one frame whose payload holds `used` bytes already, and the rest. -/
def fitItems : Nat → List Item → List Item × List Item
  | _, [] => ([], [])
  | used, i :: r =>
    if used + 4 + i.body.length ≤ 1400 then
      let q := fitItems (used + 4 + i.body.length) r
      (i :: q.1, q.2)
    else ([], i :: r)

/-- The payload of an event frame. -/
def eventPayload (now : Nat) (l : List Item) : List Byte :=
  leBytes 2 l.length ++ [0, 0] ++ leBytes 8 now ++ (l.map (fun i => u8s [i.kind, i.body.length, 0, 0] ++ i.body)).flatten

/-- The pool block of an event frame is attached to the copy queued last in the first of the ports, which is marked as its endpoint's.
A copy that spilled has a block already, and the frame needs but one. -/
def State.attachBlk (s : State) (mac : Nat) (b : Nat × Nat) : State :=
  match (s.portsTo mac).find? (fun p => s.flag (Reg.ETH_PORT_STAT_LINK p)) with
  | none => s.freeBlk (some b)
  | some p =>
    let q := (s.ethX p).queue
    match q.getLast? with
    | some f =>
      let put := fun (s : State) (f : TxFrame) => s.modEth p (fun x => { x with queue := q.dropLast ++ [{ f with event := some b.1 }] })
      if f.blk.isNone then put s { f with blk := some b } else (put s f).freeBlk (some b)
    | none => s.freeBlk (some b)

/-- A frame of endpoint `ep` with its block: the state and whether the frame went out. -/
def State.sendEvent (s : State) (o : OutMsg) (blk : Nat × Nat) : State × Bool :=
  match o.dst with
  | .udp _ _ mac =>
    let q := s.sendOut o
    if q.2 then (q.1.attachBlk mac.toNat blk, true) else (q.1.freeBlk (some blk), false)
  | .can c => ({ s with outbox := o :: s.outbox }.canQueue c o (some blk), true)
  | .i2cs =>
    let s := s.freeBlk (some blk)
    if s.i2c.out.length + s.i2cOpen < 6 then ((s.sendOut o).1, true) else (s.inc Reg.I2C_S_EVT_DROP, false)

/-- An event frame of endpoint `ep` is due (R521). -/
def State.flushEvents (s : State) (ep : Fin 17) : State :=
  let x := s.sessX ep
  if !s.live || !s.awake || x.waiting.isEmpty || decide (x.mask = 0) || !s.flag (Reg.SYS_BXP_SESSION_OPEN ep) then s
  else
    let l := fitItems 12 x.waiting
    let s := s.setSess ep { x with waiting := l.2, evSeq := (x.evSeq + 1) % 2 ^ 32 }
    let o : OutMsg := { ep := ep, dst := x.src, opcode := 0x90, group := groupByte ep, seq := x.evSeq,
                        tag := s.get (Reg.SYS_BXP_SESSION_TAG ep), payload := eventPayload s.ntime l.1 }
    match s.poolAlloc ep 1 6 with
    | (s, some (b :: _)) =>
      let q := s.sendEvent o (ep, b)
      if q.2 then q.1 else q.1.inc (Reg.SYS_BXP_EVT_LOST ep)
    | (s, _) => s.inc (Reg.SYS_BXP_EVT_LOST ep)

/-- EVENT_FRAME_FLUSH (R521). -/
def execEventFrameFlush (ep : Fin 17) (s : State) : Out := .next (s.flushEvents ep)

/-! ### Commands that arrive as whole messages -/

/-- SESSION_OPEN (R508). -/
def execSessionOpen (m : Msg) (s : State) : Out := .next (s.serve 0x00 m)
/-- PING (R516). -/
def execPing (m : Msg) (s : State) : Out := .next (s.serve 0x01 m)
/-- READ_REG (R516). -/
def execReadReg (m : Msg) (s : State) : Out := .next (s.serve 0x02 m)
/-- WRITE_REG (R516). -/
def execWriteReg (m : Msg) (s : State) : Out := .next (s.serve 0x03 m)
/-- READ_BLOCK (R516). -/
def execReadBlock (m : Msg) (s : State) : Out := .next (s.serve 0x04 m)
/-- WRITE_BLOCK (R516). -/
def execWriteBlock (m : Msg) (s : State) : Out := .next (s.serve 0x05 m)
/-- ARM (R65). -/
def execArm (m : Msg) (s : State) : Out := .next (s.serve 0x10 m)
/-- DISARM (R66). -/
def execDisarm (m : Msg) (s : State) : Out := .next (s.serve 0x11 m)
/-- GROUP_ENABLE (R289). -/
def execGroupEnable (m : Msg) (s : State) : Out := .next (s.serve 0x12 m)
/-- GROUP_DISABLE (R287). -/
def execGroupDisable (m : Msg) (s : State) : Out := .next (s.serve 0x13 m)
/-- HOLD (R291). -/
def execHold (m : Msg) (s : State) : Out := .next (s.serve 0x14 m)
/-- RESUME (R291). -/
def execResume (m : Msg) (s : State) : Out := .next (s.serve 0x15 m)
/-- STOP (R292). -/
def execStop (m : Msg) (s : State) : Out := .next (s.serve 0x16 m)
/-- MOVE_ABS (R293). -/
def execMoveAbs (m : Msg) (s : State) : Out := .next (s.serve 0x20 m)
/-- MOVE_REL (R293). -/
def execMoveRel (m : Msg) (s : State) : Out := .next (s.serve 0x21 m)
/-- JOG (R298). -/
def execJog (m : Msg) (s : State) : Out := .next (s.serve 0x22 m)
/-- PATH_APPEND (R300, R301). -/
def execPathAppend (m : Msg) (s : State) : Out := .next (s.serve 0x23 m)
/-- PATH_FLUSH (R301). -/
def execPathFlush (m : Msg) (s : State) : Out := .next (s.serve 0x24 m)
/-- FOLLOW_SET (R314). -/
def execFollowSet (m : Msg) (s : State) : Out := .next (s.serve 0x25 m)
/-- GEAR_SET (R308). -/
def execGearSet (m : Msg) (s : State) : Out := .next (s.serve 0x26 m)
/-- CAM_SET (R312). -/
def execCamSet (m : Msg) (s : State) : Out := .next (s.serve 0x27 m)
/-- COEF_WRITE (R273). -/
def execCoefWrite (m : Msg) (s : State) : Out := .next (s.serve 0x30 m)
/-- COEF_SWAP (R274). -/
def execCoefSwap (m : Msg) (s : State) : Out := .next (s.serve 0x31 m)
/-- CLAVE_APPEND (R326). -/
def execClaveAppend (m : Msg) (s : State) : Out := .next (s.serve 0x40 m)
/-- CLAVE_FLUSH (R342). -/
def execClaveFlush (m : Msg) (s : State) : Out := .next (s.serve 0x41 m)
/-- SNARE_ARM (R347). -/
def execSnareArm (m : Msg) (s : State) : Out := .next (s.serve 0x42 m)
/-- SNARE_READ (R351). -/
def execSnareRead (m : Msg) (s : State) : Out := .next (s.serve 0x43 m)
/-- BUF_ALLOC (R145). -/
def execBufAlloc (m : Msg) (s : State) : Out := .next (s.serve 0x50 m)
/-- BUF_FREE (R145). -/
def execBufFree (m : Msg) (s : State) : Out := .next (s.serve 0x51 m)
/-- LEDGER_READ (R537). -/
def execLedgerRead (m : Msg) (s : State) : Out := .next (s.serve 0x60 m)
/-- EVENT_SUBSCRIBE (R520). -/
def execEventSubscribe (m : Msg) (s : State) : Out := .next (s.serve 0x61 m)
/-- CLEAR_FAULT (R562, R563). -/
def execClearFault (m : Msg) (s : State) : Out := .next (s.serve 0x62 m)
/-- ENGINE_TEST (R183). -/
def execEngineTest (m : Msg) (s : State) : Out := .next (s.serve 0x70 m)
/-- ENGINE_MIGRATE (R184). -/
def execEngineMigrate (m : Msg) (s : State) : Out := .next (s.serve 0x71 m)
/-- FIELD_RESUME (R392). -/
def execFieldResume (m : Msg) (s : State) : Out := .next (s.serve 0x72 m)
/-- CAN_RECOVER (R469). -/
def execCanRecover (m : Msg) (s : State) : Out := .next (s.serve 0x73 m)
/-- I2C_XFER (R492). -/
def execI2cXfer (m : Msg) (s : State) : Out := .next (s.serve 0x74 m)
/-- I2C_BUS_RECOVERY (R495): I2C_XFER with RECOVER set in the request's FLAGS. -/
def execI2cBusRecovery (m : Msg) (s : State) : Out := .next (s.serve 0x74 m)
/-- CLEAR_START_COUNT (R116). -/
def execClearStartCount (m : Msg) (s : State) : Out := .next (s.serve 0x7D m)
/-- IMAGE_WRITE ERASE (R113); the phase stands in the payload. -/
def execImageWriteErase (m : Msg) (s : State) : Out := .next (s.serve 0x7E m)
/-- IMAGE_WRITE BEGIN (R113). -/
def execImageWriteBegin (m : Msg) (s : State) : Out := .next (s.serve 0x7E m)
/-- IMAGE_WRITE DATA (R113). -/
def execImageWriteData (m : Msg) (s : State) : Out := .next (s.serve 0x7E m)
/-- IMAGE_WRITE COMMIT (R113). -/
def execImageWriteCommit (m : Msg) (s : State) : Out := .next (s.serve 0x7E m)
/-- IMAGE_WRITE ABORT (R113). -/
def execImageWriteAbort (m : Msg) (s : State) : Out := .next (s.serve 0x7E m)
/-- RESTART (R69). -/
def execRestart (m : Msg) (s : State) : Out := .next (s.serve 0x7F m)

/-! ### Operations that end later (R592) -/

/-- IMAGE_ERASE_DONE (R113): the ERASE is answered, or the write opens. -/
def execImageEraseDone (s : State) : Out :=
  if !s.awake then .next s
  else
    match s.eraseEnd with
    | (_, some (m, r)) => .next (State.finish 0x7E m r)
    | (s, none) => .next s

/-- IMAGE_COMMIT_DONE (R113). -/
def execImageCommitDone (s : State) : Out :=
  if !s.awake then .next s
  else
    match s.commitEnd with
    | (_, some (m, r)) => .next (State.finish 0x7E m r)
    | (s, none) => .next s

/-- I2C_TRANSFER_DONE (R491, R494): the transfer is answered. -/
def execI2cTransferDone (result index count : BitVec 8) (losses : BitVec 4) (data : List Byte) (s : State) : Out :=
  if !s.i2cRuns 1 then .next s
  else
    match s.xferEnd result.toNat index.toNat count.toNat losses.toNat data with
    | (s, some (m, body)) => .next (State.finish 0x74 m (s.ok body))
    | (s, none) => .next s

end Sys2Proof.Machine
end

