-- ==== Sys2Proof/Machine/Transport.lean ====
section
/-!
DEFINITION. Transport.lean: how Bexic messages arrive: Ethernet frames, CAN fragments and FALLBACK segments with their reassembly,
and I2C-S writes (R415, R437, R474, R482, R501, R517-R519, R523).
-/
namespace Sys2Proof.Machine

/-- The endpoint of a number up to 16. -/
def epOf (k : Nat) : Fin 17 := if h : k < 17 then ⟨k, h⟩ else 16

/-- A message or fragment from its bytes: opcode and header, with the payload that follows. Fewer than 16 bytes have no header, shown
as VERSION 0 (Table BXP-3, step 1); what did not arrive reads zero. -/
def parseMsg (ep : Fin 17) (src : Src) (l : List Byte) : Nat × Msg :=
  (byteAt l 3,
   { ep := ep, src := src, version := if l.length < 16 then 0 else l.getD 0 0, flags := l.getD 1 0, group := l.getD 2 0,
     seq := BitVec.ofNat 32 (leAt l 4 4), len := BitVec.ofNat 16 (leAt l 8 2), tag := BitVec.ofNat 16 (leAt l 10 2),
     crc := BitVec.ofNat 32 (leAt l 12 4), payload := l.drop 16 })

/-- A whole message arrives as bytes. -/
def State.serveBytes (s : State) (ep : Fin 17) (src : Src) (l : List Byte) : State :=
  let q := parseMsg ep src l
  s.serve q.1 q.2

/-! ### Ethernet -/

/-- A drive-channel datagram of network axis 16 + i (R522, R523, Table BXP-10). -/
def driveFb (i : Nat) (l : List Byte) : DriveFb :=
  let q := parseMsg 16 .i2cs l
  let m := q.2
  { headerOk := decide (l.length = 40) && decide (m.version = 1) && decide (m.flags = 6) && decide (m.group.toNat = 16 + i)
      && decide (q.1 = 0xA1) && decide (m.tag = 0) && decide (m.len = 24) && decide (m.crc.toNat = msgCrc q.1 m)
      && decide (m.u8 0 < 2) && decide (m.u8 1 = 0) && decide (m.u8 3 = 0)
    ready := bit (m.u8 0) 0
    epoch := BitVec.ofNat 8 (m.u8 2)
    current := BitVec.ofNat 32 (m.le 4 4)
    pos := BitVec.ofNat 64 (m.le 8 8)
    sample := BitVec.ofNat 64 (m.le 16 8) }

/-- A frame of a drive, valid or not (R269). -/
def State.driveIn (s : State) (i : Nat) (f : DriveFb) : State :=
  let y := 16 + i
  if !s.live || !s.hasDrive y then s
  else (if s.driveValid y f then s else s.inc Reg.ETH_DRV_FOREIGN).driveJudge y (some f)

/-- What a frame has handed to port 0 acts. -/
def State.deliver (s : State) (p : Nat) : Deliver → State
  | .nothing => s
  | .arp req mac ip target => s.arpAnswer p req mac ip target
  | .echo mac ip data => s.echoAnswer p mac ip data
  | .bexic ep ip port mac body => s.serveBytes (epOf ep) (.udp (BitVec.ofNat 32 ip) (BitVec.ofNat 16 port) (BitVec.ofNat 48 mac)) body
  | .drive i body => s.driveIn i (driveFb i body)

/-- ETH_FRAME_RECEIVE (R411-R419, R422, R437, R439): `frame` is the frame from DA up to the FCS, `backlog` the bytes that wait in the port's
receive buffer. What the frame delivers to port 0 acts at once, and a pool block that it took goes back (R147). -/
def execEthFrameReceive (port : Fin 2) (frame : List Byte) (fcsOk : Bool) (backlog : Nat) (s : State) : Out :=
  let q := s.ethReceive port frame fcsOk backlog
  let s := q.1.deliver port q.2.1
  .next (match q.2.2 with | some (h, b) => s.poolFree h b | none => s)

/-! ### CAN: fragments (R473, R474, R517) -/

/-- What every fragment of a message has in common: GROUP, OPCODE, SEQ and TAG. -/
def fragKey (l : List Byte) : List Byte := slice l 2 6 ++ slice l 10 2

/-- The open reassembly of an endpoint's identifier. -/
def CanX.part (x : CanX) (ep : Nat) : Option CanPart := (x.parts.find? (fun q => decide (q.1 = ep))).map (fun q => q.2)

/-- The channel without the reassembly of an endpoint's identifier. -/
def CanX.without (x : CanX) (ep : Nat) : CanX := { x with parts := x.parts.filter (fun q => decide (q.1 ≠ ep)) }

/-- The open reassembly is discarded and its block freed. -/
def State.partDrop (s : State) (c ep : Nat) : State :=
  match (s.canX c).part ep with
  | none => s
  | some p => (s.modCan c (fun x => x.without ep)).freeBlk p.blk

/-- The open message is answered FRAG_ERROR with its own SEQ, and discarded (R517). -/
def State.partError (s : State) (c : Fin 2) (ep : Fin 17) : State :=
  match (s.canX c).part ep with
  | none => s
  | some p =>
    let q := parseMsg ep (.can c) (p.head ++ List.replicate 4 0)
    (s.partDrop c ep).refuse q.1 q.2 stFragError

/-- The last fragment has come: steps 6-14 apply to the whole message, whose first header stands for it. -/
def State.partWhole (s : State) (c : Fin 2) (ep : Fin 17) (p : CanPart) : State :=
  let q := parseMsg ep (.can c) (p.head ++ List.replicate 4 0 ++ p.payload)
  let m := { q.2 with len := BitVec.ofNat 16 p.payload.length }
  ((s.modCan c (fun x => x.without ep)).serveWhole q.1 m).freeBlk p.blk

/-- A first fragment asks for a pool block; refused, the rest of its message is dropped (R474). -/
def State.partStart (s : State) (c : Fin 2) (ep : Fin 17) (l body : List Byte) (last : Bool) : State :=
  let s := s.modCan c (fun x => { x with refused := x.refused.filter (fun q => decide (q.1 ≠ ep.val)) })
  match s.poolAlloc ep 1 (3 + c) with
  | (s, some (b :: _)) =>
    let p : CanPart := { head := l.take 12, payload := body, blk := some (ep, b), clk := s.clk }
    if last then s.partWhole c ep p else s.modCan c (fun x => { x with parts := (ep.val, p) :: (x.without ep).parts })
  | (s, _) =>
    let s := s.inc (Reg.CAN_RX_DROP_POOL c)
    if last then s else s.modCan c (fun x => { x with refused := (ep.val, fragKey l) :: x.refused })

/-- A fragment that passed steps 1-4 (R517). -/
def State.fragment (s : State) (c : Fin 2) (ep : Fin 17) (op : Nat) (m : Msg) (l : List Byte) : State :=
  let first := bit m.flags.toNat 1
  let last := bit m.flags.toNat 2
  if first then (s.partError c ep).partStart c ep l m.payload last
  else
    match (s.canX c).part ep with
    | some p =>
      if decide (fragKey l ≠ fragKey p.head) || (decide (m.payload.length ≠ 48) && !last) || decide (1400 < p.payload.length + m.payload.length) then s.partError c ep
      else
        let p := { p with payload := p.payload ++ m.payload, clk := s.clk }
        if last then s.partWhole c ep p else s.modCan c (fun x => { x with parts := (ep.val, p) :: (x.without ep).parts })
    | none =>
      if (s.canX c).refused.contains (ep.val, fragKey l) then
        (if last then s.modCan c (fun x => { x with refused := x.refused.filter (fun q => decide (q.1 ≠ ep.val)) }) else s)
      else s.refuse op m stFragError

/-- Steps 1-4 of a fragment in a frame with data `l` (R473, R474, R517). -/
def State.fragChecks (s : State) (c : Fin 2) (ep : Fin 17) (fd : Bool) (op : Nat) (m : Msg) (l : List Byte) : State :=
  if !fd || decide (m.version = 0) then s.dropMsg op m
  else if m.version ≠ 1 then s.refuse op m stBadVersion
  else if m.crc.toNat ≠ msgCrc op m then (s.partDrop c ep).refuse op m stBadCrc
  else if m.len.toNat ≠ m.payload.length ∨ 48 < m.len.toNat ∨ 8 ≤ m.flags.toNat then s.refuse op m stBadLength
  else s.fragment c ep op m l

/-- A frame at a host-to-module identifier; padding is ignored (R473). -/
def State.canBexic (s : State) (c : Fin 2) (ep : Fin 17) (f : CanFrame) : State :=
  let q := parseMsg ep (.can c) f.data
  s.fragChecks c ep f.fd q.1 { q.2 with payload := q.2.payload.take q.2.len.toNat } f.data

/-! ### CAN0 in FALLBACK: segments (R519) -/

/-- A FALLBACK reassembly fails: FRAG_ERROR with the SEQ received so far, 0 with fewer than 8 header bytes. -/
def State.segError (s : State) (l : List Byte) : State :=
  let q := parseMsg 16 (.can 0) l
  (s.modCan 0 (fun x => { x with fb := none })).refuse q.1 { q.2 with seq := if l.length < 8 then 0 else q.2.seq } stFragError

/-- The segment that is next: the message goes on, ends, or grows too long. -/
def State.segTake (s : State) (l seg : List Byte) (idx : Nat) (last : Bool) : State :=
  let l := l ++ seg
  if 1416 < l.length then s.segError l
  else if last then (s.modCan 0 (fun x => { x with fb := none })).serveBytes 16 (.can 0) l
  else s.modCan 0 (fun x => { x with fb := some (l, (idx + 1) % 64, s.clk) })

/-- A classic frame at 0x7F0 in FALLBACK (R519). -/
def State.canSegment (s : State) (f : CanFrame) : State :=
  if f.data.length < 2 then s.inc Reg.SYS_FB_PROTO
  else
    let ctl := byteAt f.data 0
    let idx := ctl % 64
    let seg := f.data.drop 1
    let last := bit ctl 6
    if bit ctl 7 then
      let s := match (s.canX 0).fb with | some (l, _, _) => s.segError l | none => s
      if idx = 0 then s.segTake [] seg 0 last else s.segError []
    else
      match (s.canX 0).fb with
      | none => s.segError []
      | some (l, nxt, _) => if idx = nxt then s.segTake l seg idx last else s.segError l

/-- CAN_FRAME_RECEIVE (R449-R475, R517, R519). -/
def execCanFrameReceive (c : Fin 2) (f : CanFrame) (s : State) : Out :=
  match s.canReceive c f with
  | (s, .none) => .next s
  | (s, .bexic ep) => .next (s.canBexic c (epOf ep) f)
  | (s, .segment) => .next (s.canSegment f)

/-- REASSEMBLY_TIMEOUT (R517, R519): 100 ms without a fragment. Identifiers 0-16 are those of CAN0 by endpoint, 17-33 those of CAN1, 34
is 0x7F0 in FALLBACK. -/
def execReassemblyTimeout (id : Fin 35) (s : State) : Out :=
  let k : Nat := id
  if !s.awake then .next s
  else if k = 34 then
    match (s.canX 0).fb with
    | some (l, _, _) => .next (s.segError l)
    | none => .next s
  else .next (s.partError (if k < 17 then 0 else 1) (epOf (k % 17)))

/-! ### I2C-S -/

/-- I2C_S_WRITE (R479-R484): what reaches BXP_TX is a message; one that is too long is malformed whatever its header says. -/
def execI2cSWrite (addr : BitVec 7) (data : List Byte) (s : State) : Out :=
  match s.i2cWrite addr.toNat data with
  | (s, none) => .next s
  | (s, some (l, fits)) =>
    if fits then .next (s.serveBytes 16 .i2cs l)
    else
      let q := parseMsg 16 .i2cs l
      let m := s.route q.2
      .next (if !s.endpointOpen q.1 m then s
        else if m.version = 0 then s.dropMsg q.1 m
        else s.refuse q.1 m ((wireBad q.1 m).getD stBadLength))

end Sys2Proof.Machine
end

