-- ==== Sys2Proof/Machine/Boundary.lean ====
section
/-!
DEFINITION. Boundary.lean: fast and slow boundaries (R28, R153-R159, Table ENG-2): what each does at its clock, unit by unit.
-/
namespace Sys2Proof.Machine

/-! ### The tick generator (R153-R155) -/

/-- How late a boundary that is fast boundary `k` of its slow sample is against the grid of NTIME, in half nanoseconds: within half a
slow period. Before the first slow boundary only the grid of the fast boundaries binds one that is not slow itself. -/
def State.tickOff (s : State) (k : Nat) : Int :=
  let f : Int := 5 * (s.get Reg.SYS_TICK_CFG_FAST_CLK : Int)
  let p : Int := if s.tick_.slow ∨ k = 0 then f * (s.get Reg.SYS_TICK_CFG_SLOW_DIV : Int) else f
  let d := ((s.ntimeH : Int) - 2 * (s.get Reg.SYS_TICK_PHASE : Int) - f * (k : Int)) % p
  if 2 * d ≤ p then d else d - p

/-- ALIGNED and OFFSET of the present boundary, and the clock by which the sample that begins is shorter or longer (R154). -/
def State.tickJudge (s : State) (k : Nat) : State :=
  let d := s.tickOff k
  let ok := decide (-5 ≤ d) && decide (d ≤ 5)
  let s := (s.put Reg.SYS_TICK_STAT_ALIGNED ok).setI Reg.SYS_TICK_STAT_OFFSET (convDiv d 5)
  { s with tick_ := { s.tick_ with slew := if ok then 0 else if 0 < d then -1 else 1 } }

/-- A fast boundary is counted, and the sample that begins when it slews; `slow`: it is a slow boundary. -/
def State.tickFast (s : State) (slow : Bool) : State :=
  let t := s.tick_
  let s := { s with tick_ := { t with
    lastFast := s.clk, fastNo := t.fastNo + 1, inSlow := t.inSlow + 1, begun := true, down := t.begun && !t.down } }
  let s := s.tickJudge (if slow then 0 else s.tick_.inSlow)
  if s.tick_.slew = 0 then s else s.inc Reg.SYS_TICK_SLEW

/-- A slow boundary is counted: SLOW_COUNT is 0 at the first one, which is the origin of TIME (R155, R322). -/
def State.tickSlow (s : State) : State :=
  let s := s.set Reg.SYS_SLOW_NTIME s.ntime
  if s.tick_.slow then
    { s.set Reg.SYS_SLOW_COUNT (s.get Reg.SYS_SLOW_COUNT + 1) with tick_ := { s.tick_ with lastSlow := s.clk, inSlow := 0 } }
  else
    let s := { s with tick_ := { s.tick_ with lastSlow := s.clk, inSlow := 0, fastNo := 0, slow := true } }
    s.forAll (List.range 16) (fun s n => s.set (Reg.CLAVE_TIME_ORIGIN n) s.ntime)

/-! ### A fast boundary -/

/-- TIME advances by the length of a fast sample in ms (R322). -/
def State.timeFast (s : State) (n : Nat) : State :=
  if s.tick_.slow then s.modClave n (fun c => { c with time := c.time + mkRat (s.get Reg.SYS_TICK_CFG_FAST_CLK) 400000 }) else s

/-- A run that has not executed DONE has missed its deadline (R160). -/
def State.fastDue (s : State) (e : Nat) : State :=
  if s.engRuns e && (s.engX e).unfinished then s.missDeadline e else s

/-- ENTRY_FAST of an engine that serves a group, or that shadows one (R156, R185). -/
def State.fastCode (s : State) (e : Nat) : State :=
  let n := s.grpOf e
  if s.engIs e esActive n then s.fastStart e n
  else if s.engIs e esShadow n && decide (2 ≤ (s.grpX n).mig.phase) then s.fastStart e n
  else s

/-- Register writes that engines have committed take effect (R159). -/
def State.applyRegs (s : State) : State :=
  let l := s.tick_.regsNext
  l.foldl (fun s q => s.engPut q.1 q.2.1 q.2.2) { s with tick_ := { s.tick_ with regsNext := [] } }

/-- Everything that a fast boundary does; `slow`: it is a slow boundary. -/
def State.fastWork (s0 : State) (slow : Bool) : State :=
  let s := s0.forAll (List.range 17) State.fastDue
  let s := s.applyRegs
  let s := s.forAll (List.range 16) State.takeEnd
  let s := s.forAll (List.range 16) State.timeFast
  let s := s.tickFast slow
  let s := (s.presentAll.presentPu).latchAct false
  let s := s.forAll (List.range 16) s0.cellFast
  let s := s.forAll (List.range 4) State.echoStep
  let len := ((s.get Reg.SYS_TICK_CFG_FAST_CLK : Int) + s.tick_.slew).toNat
  let s := s.forAll (List.range 16) (fun s n => s.claveFast n len)
  s.forAll (List.range 17) State.fastCode

/-- FAST_BOUNDARY (R153). Ticks run in STANDBY, OPERATE and SAFE_HOLD (R155). -/
def execFastBoundary (s : State) : Out := if s.up then .next (s.fastWork false) else .next s

/-! ### A slow boundary -/

/-- The drive cycles that end at a slow boundary: the first one since STANDBY entry ends none (R269). -/
def State.netCycles (s : State) : State :=
  if s.tick_.slow then s.forAll ((List.range 32).filter (fun x => s.hasDrive x)) State.netCycle else s

/-- A network axis takes its drive's position at a slow boundary (R270). -/
def State.netFeedback (s : State) : State := s.forAll ((List.range 32).filter (fun x => s.hasDrive x)) State.netPresent

/-- What is in force for the sample that begins: FEED_OVR (R307) and the motion of the sample that ends (R349). -/
def State.slowLatch (s : State) : State :=
  let s := s.forAll (List.range 16) (fun s n =>
    let o := s.get (Reg.GRP_FEED_OVR n)
    s.modGrp n (fun g => { g with ovr := o, pdirty := g.pdirty || decide (g.ovr ≠ o) }))
  s.forAll (List.range 32) (fun s x => s.modAxis x (fun a => { a with oldMot := a.motion }))

/-- The source of a running migration starts a sample of its own for comparison. -/
def State.freshSource (s : State) (n : Nat) : State :=
  if (s.grpX n).mig.phase = 0 then s else s.modEng (s.engOf n) EngX.freshSample

/-- ENTRY_SLOW of an engine that serves a group, or that shadows one, becomes due (R156, R185). -/
def State.slowCode (s : State) (e : Nat) : State :=
  let n := s.grpOf e
  if s.engIs e esActive n then s.slowStart e n
  else if s.engIs e esShadow n && decide (2 ≤ (s.grpX n).mig.phase) then s.slowStart e n
  else s

/-- What a slow boundary notes about a group's engine: one more sample without applied outputs (R179). -/
def State.slowMark (s : State) (n : Nat) : State :=
  s.modGrp n (fun g => { g with unapp := if g.hasCode then g.unapp + 1 else g.unapp })

/-- A port whose gates follow the tick generator (R433, R445). -/
def State.slowGates (s : State) (p : Nat) : State :=
  if s.get (Reg.ETH_GCL_CTL_MODE p) = 1 then ((s.set (Reg.ETH_GCL_OPER_BASE p) s.ntime).releaseHeld p).syncGates p else s

/-- What the slow boundary does before commands take effect: feedback latched, requested coefficient swaps, set-points, transitions
that are due (R28, R274, Table SET-1). -/
def State.slowBefore (s : State) : State :=
  let s := s.netCycles.tickSlow.slowLatch
  let s := s.forAll (List.range 16) State.shadowCompare
  let s := s.forAll (List.range 16) State.freshSource
  let s := s.forAll (List.range 16) State.takeOffset
  let s := s.netFeedback.latchAct true
  let s := s.forAll (List.range 16) State.takeSwap
  let s := s.forAll (List.range 16) State.cellSlow
  let s := s.forAll (List.range 16) (fun s n => (s.pathFetch n).produce n)
  s.forAll (List.range 16) State.settleBefore

/-- What it does after commands have taken effect: transitions, transfers, Clave's prediction and window, gates, engines, snapshots. -/
def State.slowAfter (s : State) : State :=
  let s := s.forAll (List.range 16) State.settleAfter
  let s := s.xferBoundary
  let s := s.forAll (List.range 16) (fun s n => ((s.claveFetch n).claveSlow n).claveRefill n)
  let s := s.forAll (List.range 2) State.slowGates
  let s := s.forAll (List.range 17) State.slowCode
  let s := s.forAll (List.range 16) State.snapStart
  let s := s.forAll (List.range 16) State.slowMark
  s.forAll (List.range 16) State.coldTake

/-- Everything that a slow boundary does beside being a fast one. -/
def State.slowWork (s : State) : State := s.slowBefore.effects.slowAfter

/-- The fast boundary that falls into this clock has been taken. -/
def State.fastTaken (s : State) : Bool := s.tick_.begun && decide (s.tick_.lastFast = s.clk)

/-- SLOW_BOUNDARY (R28, R512): a slow boundary is also a fast one (R153), which comes first. -/
def execSlowBoundary (s : State) : Out :=
  if s.up then .next (if s.fastTaken then (s.tickJudge 0).slowWork else (s.fastWork true).slowWork) else .next s

end Sys2Proof.Machine
end

