-- ==== Sys2Proof/Machine/Dispatch.lean ====
section
/-!
DEFINITION. Dispatch.lean: one arm per command: its meaning, or its rejection by name.
-/
namespace Sys2Proof.Machine

/-- The effect of a command on everything but the queue. -/
def exec (i : Instr) (s : State) : Host.Outcome State Fault Refusal :=
  match i with
  | .supplyLow mv => Sys2Proof.Machine.execSupplyLow mv s
  | .supplyLowEnd mv => Sys2Proof.Machine.execSupplyLowEnd mv s
  | .vmainSample mv => Sys2Proof.Machine.execVmainSample mv s
  | .railFall => Sys2Proof.Machine.execRailFall s
  | .railReturn => Sys2Proof.Machine.execRailReturn s
  | .loadingEntry selfTest vbakMv retries => Sys2Proof.Machine.execLoadingEntry selfTest vbakMv retries s
  | .startSequenceComplete => Sys2Proof.Machine.execStartSequenceComplete s
  | .loadTimeout => Sys2Proof.Machine.execLoadTimeout s
  | .startSuccess => Sys2Proof.Machine.execStartSuccess s
  | .loadingClockReturn => Sys2Proof.Machine.execLoadingClockReturn s
  | .vbakMeasure mv => Sys2Proof.Machine.execVbakMeasure mv s
  | .rtcLoad ag => Sys2Proof.Machine.execRtcLoad ag s
  | .rtcLoadTick => Sys2Proof.Machine.execRtcLoadTick s
  | .rtcSync => Sys2Proof.Machine.execRtcSync s
  | .rtcLoRead ag => Sys2Proof.Machine.execRtcLoRead ag s
  | .comparatorStrobe levels => Sys2Proof.Machine.execComparatorStrobe levels s
  | .bkfifoHiRead ag => Sys2Proof.Machine.execBkfifoHiRead ag s
  | .rcFieldRead ag addr => Sys2Proof.Machine.execRcFieldRead ag addr s
  | .dormantResponderTransaction addr write readLen => Sys2Proof.Machine.execDormantResponderTransaction addr write readLen s
  | .dormantResponderSleep => Sys2Proof.Machine.execDormantResponderSleep s
  | .i2cSHandover => Sys2Proof.Machine.execI2cSHandover s
  | .seqWatchdog => Sys2Proof.Machine.execSeqWatchdog s
  | .clockLoss => Sys2Proof.Machine.execClockLoss s
  | .overTemp dc => Sys2Proof.Machine.execOverTemp dc s
  | .arm m => Sys2Proof.Machine.execArm m s
  | .disarm m => Sys2Proof.Machine.execDisarm m s
  | .clearFault m => Sys2Proof.Machine.execClearFault m s
  | .restart m => Sys2Proof.Machine.execRestart m s
  | .clearStartCount m => Sys2Proof.Machine.execClearStartCount m s
  | .imageWriteErase m => Sys2Proof.Machine.execImageWriteErase m s
  | .imageWriteBegin m => Sys2Proof.Machine.execImageWriteBegin m s
  | .imageWriteData m => Sys2Proof.Machine.execImageWriteData m s
  | .imageWriteCommit m => Sys2Proof.Machine.execImageWriteCommit m s
  | .imageWriteAbort m => Sys2Proof.Machine.execImageWriteAbort m s
  | .imageEraseDone => Sys2Proof.Machine.execImageEraseDone s
  | .imageCommitDone => Sys2Proof.Machine.execImageCommitDone s
  | .keyhashProgram ag confirm => Sys2Proof.Machine.execKeyhashProgram ag confirm s
  | .keyhashProgramDone readBackOk => Sys2Proof.Machine.execKeyhashProgramDone readBackOk s
  | .bufAlloc m => Sys2Proof.Machine.execBufAlloc m s
  | .bufFree m => Sys2Proof.Machine.execBufFree m s
  | .poolGrant => Sys2Proof.Machine.execPoolGrant s
  | .minReset ag => Sys2Proof.Machine.execMinReset ag s
  | .aliasWrite ag addr value => Sys2Proof.Machine.execAliasWrite ag addr value s
  | .pairLowRead ag addr => Sys2Proof.Machine.execPairLowRead ag addr s
  | .pairHighRead ag addr => Sys2Proof.Machine.execPairHighRead ag addr s
  | .pairHighWrite ag addr value => Sys2Proof.Machine.execPairHighWrite ag addr value s
  | .pairLowWrite ag addr value => Sys2Proof.Machine.execPairLowWrite ag addr value s
  | .registerWrite ag addr value mask => Sys2Proof.Machine.execRegisterWrite ag addr value mask s
  | .sramScrub corrected ue spoilt => Sys2Proof.Machine.execSramScrub corrected ue spoilt s
  | .xmemScrub corrected ue spoilt => Sys2Proof.Machine.execXmemScrub corrected ue spoilt s
  | .fastBoundary => Sys2Proof.Machine.execFastBoundary s
  | .slowBoundary => Sys2Proof.Machine.execSlowBoundary s
  | .entrySlowStart e => Sys2Proof.Machine.execEntrySlowStart e s
  | .entryEventStart e => Sys2Proof.Machine.execEntryEventStart e s
  | .snapshotComplete n => Sys2Proof.Machine.execSnapshotComplete n s
  | .deadline e => Sys2Proof.Machine.execDeadline e s
  | .outputTransfer => Sys2Proof.Machine.execOutputTransfer s
  | .engFail e cause word => Sys2Proof.Machine.execEngFail e cause word s
  | .takeoverFirstRun e => Sys2Proof.Machine.execTakeoverFirstRun e s
  | .selfCheckPass e late mismatch => Sys2Proof.Machine.execSelfCheckPass e late mismatch s
  | .engineTest m => Sys2Proof.Machine.execEngineTest m s
  | .engineTestDone e pass => Sys2Proof.Machine.execEngineTestDone e pass s
  | .engineMigrate m => Sys2Proof.Machine.execEngineMigrate m s
  | .shadowStart n => Sys2Proof.Machine.execShadowStart n s
  | .migrationHandover n => Sys2Proof.Machine.execMigrationHandover n s
  | .doorbell ag n => Sys2Proof.Machine.execDoorbell ag n s
  | .runMaxReset ag e => Sys2Proof.Machine.execRunMaxReset ag e s
  | .nop e => Sys2Proof.Machine.execNop e s
  | .done e => Sys2Proof.Machine.execDone e s
  | .jmp e cond target => Sys2Proof.Machine.execJmp e cond target s
  | .call e target => Sys2Proof.Machine.execCall e target s
  | .ret e => Sys2Proof.Machine.execRet e s
  | .clrsr e => Sys2Proof.Machine.execClrsr e s
  | .rep e count endOff => Sys2Proof.Machine.execRep e count endOff s
  | .repReg e dc endOff => Sys2Proof.Machine.execRepReg e dc endOff s
  | .ldi e r imm => Sys2Proof.Machine.execLdi e r imm s
  | .ldiu e r imm => Sys2Proof.Machine.execLdiu e r imm s
  | .ldih e d imm => Sys2Proof.Machine.execLdih e d imm s
  | .add e d a b => Sys2Proof.Machine.execAdd e d a b s
  | .sub e d a b => Sys2Proof.Machine.execSub e d a b s
  | .and e d a b => Sys2Proof.Machine.execAnd e d a b s
  | .or e d a b => Sys2Proof.Machine.execOr e d a b s
  | .xor e d a b => Sys2Proof.Machine.execXor e d a b s
  | .not e d a => Sys2Proof.Machine.execNot e d a s
  | .neg e d a => Sys2Proof.Machine.execNeg e d a s
  | .abs e d a => Sys2Proof.Machine.execAbs e d a s
  | .min e d a b => Sys2Proof.Machine.execMin e d a b s
  | .max e d a b => Sys2Proof.Machine.execMax e d a b s
  | .asr e d a b => Sys2Proof.Machine.execAsr e d a b s
  | .lsr e d a b => Sys2Proof.Machine.execLsr e d a b s
  | .lsl e d a b => Sys2Proof.Machine.execLsl e d a b s
  | .cmp e a b => Sys2Proof.Machine.execCmp e a b s
  | .mpyf e k o => Sys2Proof.Machine.execMpyf e k o s
  | .mpyi e k o => Sys2Proof.Machine.execMpyi e k o s
  | .macf e k o => Sys2Proof.Machine.execMacf e k o s
  | .maci e k o => Sys2Proof.Machine.execMaci e k o s
  | .msuf e k o => Sys2Proof.Machine.execMsuf e k o s
  | .msui e k o => Sys2Proof.Machine.execMsui e k o s
  | .clr e k => Sys2Proof.Machine.execClr e k s
  | .ldaf e k o => Sys2Proof.Machine.execLdaf e k o s
  | .ldai e k o => Sys2Proof.Machine.execLdai e k o s
  | .lda64 e k o => Sys2Proof.Machine.execLda64 e k o s
  | .adda e k => Sys2Proof.Machine.execAdda e k s
  | .suba e k => Sys2Proof.Machine.execSuba e k s
  | .nega e k => Sys2Proof.Machine.execNega e k s
  | .str e k sat q o => Sys2Proof.Machine.execStr e k sat q o s
  | .str64 e k sat q o => Sys2Proof.Machine.execStr64 e k sat q o s
  | .ld e r m => Sys2Proof.Machine.execLd e r m s
  | .ld64 e pair m => Sys2Proof.Machine.execLd64 e pair m s
  | .st e r m => Sys2Proof.Machine.execSt e r m s
  | .st64 e pair m => Sys2Proof.Machine.execSt64 e pair m s
  | .lds e dd da => Sys2Proof.Machine.execLds e dd da s
  | .sts e dd da => Sys2Proof.Machine.execSts e dd da s
  | .mov e rd rs => Sys2Proof.Machine.execMov e rd rs s
  | .stepPtr e m => Sys2Proof.Machine.execStepPtr e m s
  | .poolReq e => Sys2Proof.Machine.execPoolReq e s
  | .poolFree e block => Sys2Proof.Machine.execPoolFree e block s
  | .markWrite e code => Sys2Proof.Machine.execMarkWrite e code s
  | .claveGo e => Sys2Proof.Machine.execClaveGo e s
  | .causeTake e => Sys2Proof.Machine.execCauseTake e s
  | .cellMeasurementReady x wa wb wc faultIn sdBad => Sys2Proof.Machine.execCellMeasurementReady x wa wb wc faultIn sdBad s
  | .cellTrip x cause detail => Sys2Proof.Machine.execCellTrip x cause detail s
  | .enDelayExpiry x => Sys2Proof.Machine.execEnDelayExpiry x s
  | .brakeRelDelayExpiry x => Sys2Proof.Machine.execBrakeRelDelayExpiry x s
  | .brakeEngDelayExpiry x => Sys2Proof.Machine.execBrakeEngDelayExpiry x s
  | .gtimeExpiry x => Sys2Proof.Machine.execGtimeExpiry x s
  | .loopFltWrite ag x value => Sys2Proof.Machine.execLoopFltWrite ag x value s
  | .driveFeedbackFrame x f => Sys2Proof.Machine.execDriveFeedbackFrame x f s
  | .coefWrite m => Sys2Proof.Machine.execCoefWrite m s
  | .coefSwap m => Sys2Proof.Machine.execCoefSwap m s
  | .coefArm ag n => Sys2Proof.Machine.execCoefArm ag n s
  | .groupEnable m => Sys2Proof.Machine.execGroupEnable m s
  | .groupDisable m => Sys2Proof.Machine.execGroupDisable m s
  | .hold m => Sys2Proof.Machine.execHold m s
  | .resume m => Sys2Proof.Machine.execResume m s
  | .stop m => Sys2Proof.Machine.execStop m s
  | .moveAbs m => Sys2Proof.Machine.execMoveAbs m s
  | .moveRel m => Sys2Proof.Machine.execMoveRel m s
  | .jog m => Sys2Proof.Machine.execJog m s
  | .pathAppend m => Sys2Proof.Machine.execPathAppend m s
  | .pathFlush m => Sys2Proof.Machine.execPathFlush m s
  | .feedOvrWrite ag n value => Sys2Proof.Machine.execFeedOvrWrite ag n value s
  | .gearSet m => Sys2Proof.Machine.execGearSet m s
  | .camSet m => Sys2Proof.Machine.execCamSet m s
  | .followSet m => Sys2Proof.Machine.execFollowSet m s
  | .claveAppend m => Sys2Proof.Machine.execClaveAppend m s
  | .claveFlush m => Sys2Proof.Machine.execClaveFlush m s
  | .clavePrediction n => Sys2Proof.Machine.execClavePrediction n s
  | .claveNop n idx => Sys2Proof.Machine.execClaveNop n idx s
  | .claveHoOn n idx => Sys2Proof.Machine.execClaveHoOn n idx s
  | .claveHoOff n idx => Sys2Proof.Machine.execClaveHoOff n idx s
  | .claveHoPulse n idx => Sys2Proof.Machine.execClaveHoPulse n idx s
  | .claveDeferredOff n k => Sys2Proof.Machine.execClaveDeferredOff n k s
  | .claveDoOn n idx => Sys2Proof.Machine.execClaveDoOn n idx s
  | .claveDoOff n idx => Sys2Proof.Machine.execClaveDoOff n idx s
  | .claveSnareArm n idx => Sys2Proof.Machine.execClaveSnareArm n idx s
  | .claveSnareDisarm n idx => Sys2Proof.Machine.execClaveSnareDisarm n idx s
  | .claveSnareTrigger n idx => Sys2Proof.Machine.execClaveSnareTrigger n idx s
  | .claveCoefSwap n idx => Sys2Proof.Machine.execClaveCoefSwap n idx s
  | .claveEngineEvent n idx => Sys2Proof.Machine.execClaveEngineEvent n idx s
  | .claveMark n idx => Sys2Proof.Machine.execClaveMark n idx s
  | .claveNotify n idx => Sys2Proof.Machine.execClaveNotify n idx s
  | .hoMaxSpan k => Sys2Proof.Machine.execHoMaxSpan k s
  | .hoMaxOn k => Sys2Proof.Machine.execHoMaxOn k s
  | .hoModeWrite ag k mode => Sys2Proof.Machine.execHoModeWrite ag k mode s
  | .hiEdge k level lineFault => Sys2Proof.Machine.execHiEdge k level lineFault s
  | .snareRecordComplete u => Sys2Proof.Machine.execSnareRecordComplete u s
  | .snareArm m => Sys2Proof.Machine.execSnareArm m s
  | .snareRead m => Sys2Proof.Machine.execSnareRead m s
  | .fbLineEdge p levels held1 held2 held3 => Sys2Proof.Machine.execFbLineEdge p levels held1 held2 held3 s
  | .fbIndexEdge p level held => Sys2Proof.Machine.execFbIndexEdge p level held s
  | .sincosConversion p sin cos lineBad => Sys2Proof.Machine.execSincosConversion p sin cos lineBad s
  | .serialReadStart p => Sys2Proof.Machine.execSerialReadStart p s
  | .serialReadDone p data crc ldelay frameOk => Sys2Proof.Machine.execSerialReadDone p data crc ldelay frameOk s
  | .serialReadTimeout p => Sys2Proof.Machine.execSerialReadTimeout p s
  | .lineWindowLeave p conductor outside => Sys2Proof.Machine.execLineWindowLeave p conductor outside s
  | .lineFaultTimeout p => Sys2Proof.Machine.execLineFaultTimeout p s
  | .fbOffsetWrite ag p value => Sys2Proof.Machine.execFbOffsetWrite ag p value s
  | .refAck ag p => Sys2Proof.Machine.execRefAck ag p s
  | .ampTrackReset ag p => Sys2Proof.Machine.execAmpTrackReset ag p s
  | .fieldLinkCycle toField f => Sys2Proof.Machine.execFieldLinkCycle toField f s
  | .fieldSilenceTimeout => Sys2Proof.Machine.execFieldSilenceTimeout s
  | .fieldResume m => Sys2Proof.Machine.execFieldResume m s
  | .autoResume => Sys2Proof.Machine.execAutoResume s
  | .vfieldLoss => Sys2Proof.Machine.execVfieldLoss s
  | .diEdge idx samples stamp => Sys2Proof.Machine.execDiEdge idx samples stamp s
  | .diBroken idx => Sys2Proof.Machine.execDiBroken idx s
  | .diBrokenClear idx => Sys2Proof.Machine.execDiBrokenClear idx s
  | .doOutWrite ag j value => Sys2Proof.Machine.execDoOutWrite ag j value s
  | .doApply => Sys2Proof.Machine.execDoApply s
  | .doTrip j thermal => Sys2Proof.Machine.execDoTrip j thermal s
  | .aiSample v0 v1 v2 v3 => Sys2Proof.Machine.execAiSample v0 v1 v2 v3 s
  | .puEdge k p q heldP heldQ faultP faultQ => Sys2Proof.Machine.execPuEdge k p q heldP heldQ faultP faultQ s
  | .ethFrameReceive port frame fcsOk backlog => Sys2Proof.Machine.execEthFrameReceive port frame fcsOk backlog s
  | .arpRequest port senderMac senderIp targetIp => Sys2Proof.Machine.execArpRequest port senderMac senderIp targetIp s
  | .icmpEchoRequest port srcMac srcIp dstIp data => Sys2Proof.Machine.execIcmpEchoRequest port srcMac srcIp dstIp data s
  | .ethFrameTransmit port => Sys2Proof.Machine.execEthFrameTransmit port s
  | .gateChange port => Sys2Proof.Machine.execGateChange port s
  | .gclChange ag port => Sys2Proof.Machine.execGclChange ag port s
  | .gclChangeApply port => Sys2Proof.Machine.execGclChangeApply port s
  | .ethLinkUp port g1000 => Sys2Proof.Machine.execEthLinkUp port g1000 s
  | .ethLinkDown port => Sys2Proof.Machine.execEthLinkDown port s
  | .ethPortEnableWrite ag port en => Sys2Proof.Machine.execEthPortEnableWrite ag port en s
  | .sfBlockedClear ag w mask => Sys2Proof.Machine.execSfBlockedClear ag w mask s
  | .syncReceived port sync => Sys2Proof.Machine.execSyncReceived port sync s
  | .pdelayReqReceived port pd => Sys2Proof.Machine.execPdelayReqReceived port pd s
  | .announceReceived port a => Sys2Proof.Machine.execAnnounceReceived port a s
  | .ptpInterval port kind => Sys2Proof.Machine.execPtpInterval port kind s
  | .syncTimeout => Sys2Proof.Machine.execSyncTimeout s
  | .canFrameReceive c f => Sys2Proof.Machine.execCanFrameReceive c f s
  | .canTxSend ag c => Sys2Proof.Machine.execCanTxSend ag c s
  | .canTxAbort ag c => Sys2Proof.Machine.execCanTxAbort ag c s
  | .canFrameTransmit c won loopDelay unlike bit1 => Sys2Proof.Machine.execCanFrameTransmit c won loopDelay unlike bit1 s
  | .canError c k => Sys2Proof.Machine.execCanError c k s
  | .canRecover m => Sys2Proof.Machine.execCanRecover m s
  | .canRecoveryDone c => Sys2Proof.Machine.execCanRecoveryDone c s
  | .canIntegrationEnd c => Sys2Proof.Machine.execCanIntegrationEnd c s
  | .canEnableWrite ag c en => Sys2Proof.Machine.execCanEnableWrite ag c en s
  | .canFifoPop ag c k => Sys2Proof.Machine.execCanFifoPop ag c k s
  | .i2cSWrite addr data => Sys2Proof.Machine.execI2cSWrite addr data s
  | .i2cSRead addr n => Sys2Proof.Machine.execI2cSRead addr n s
  | .sclLowTimeout bus part sdaLow => Sys2Proof.Machine.execSclLowTimeout bus part sdaLow s
  | .sdaLowTimeout bus => Sys2Proof.Machine.execSdaLowTimeout bus s
  | .i2cXfer m => Sys2Proof.Machine.execI2cXfer m s
  | .i2cBusRecovery m => Sys2Proof.Machine.execI2cBusRecovery m s
  | .i2cTransferStart => Sys2Proof.Machine.execI2cTransferStart s
  | .i2cTransferDone result index count losses data => Sys2Proof.Machine.execI2cTransferDone result index count losses data s
  | .sessionOpen m => Sys2Proof.Machine.execSessionOpen m s
  | .ping m => Sys2Proof.Machine.execPing m s
  | .readReg m => Sys2Proof.Machine.execReadReg m s
  | .writeReg m => Sys2Proof.Machine.execWriteReg m s
  | .readBlock m => Sys2Proof.Machine.execReadBlock m s
  | .writeBlock m => Sys2Proof.Machine.execWriteBlock m s
  | .ledgerRead m => Sys2Proof.Machine.execLedgerRead m s
  | .eventSubscribe m => Sys2Proof.Machine.execEventSubscribe m s
  | .reassemblyTimeout id => Sys2Proof.Machine.execReassemblyTimeout id s
  | .eventFrameFlush ep => Sys2Proof.Machine.execEventFrameFlush ep s
  | .ledgerClaim => Sys2Proof.Machine.execLedgerClaim s
  | .ledgerCommit => Sys2Proof.Machine.execLedgerCommit s
  | .peakReset ag => Sys2Proof.Machine.execPeakReset ag s
  | .stopMaxExpiry n => Sys2Proof.Machine.execStopMaxExpiry n s
  | .driveEnableLost => Sys2Proof.Machine.execDriveEnableLost s
  | .driveEnableRise => Sys2Proof.Machine.execDriveEnableRise s
  | .driveEnableHwCut => Sys2Proof.Machine.execDriveEnableHwCut s
  | .stoActive x mv => Sys2Proof.Machine.execStoActive x mv s
  | .bdPowerOn => Sys2Proof.Machine.execBdPowerOn s
  | .clockReturn => Sys2Proof.Machine.execClockReturn s
  | .vfieldReturn => Sys2Proof.Machine.execVfieldReturn s
  | .macAgeing mac => Sys2Proof.Machine.execMacAgeing mac s
  | .illegalInstruction e => Sys2Proof.Machine.execIllegalInstruction e s

end Sys2Proof.Machine
end

