-- ==== Sys2Proof/Machine/AingocaWord.lean ====
section
/-!
DEFINITION. AingocaWord.lean: Aingoca instruction words (R227-R242, Tables ISA-1 to ISA-5 and ISA-8): which engine command a word of
program memory stands for, and the word of each command. A word that Table ISA-8 calls illegal stands for none.
-/
namespace Sys2Proof.Machine

/-! ### Fields -/

def fin2 (n : Nat) : Fin 2 := ⟨n % 2, Nat.mod_lt _ (by decide)⟩
def fin4 (n : Nat) : Fin 4 := ⟨n % 4, Nat.mod_lt _ (by decide)⟩
def fin8 (n : Nat) : Fin 8 := ⟨n % 8, Nat.mod_lt _ (by decide)⟩

/-- Number of a writable register (Table ISA-2). -/
def regWNum : RegW → Nat
  | .d i => i
  | .p i => 8 + i
  | .m i => 16 + i
  | .l i => 20 + i

/-- Number of a readable register (Table ISA-2). -/
def regRNum : RegR → Nat
  | .w r => regWNum r
  | .sr => 24
  | .lcnt => 25

/-- The writable register of a number. -/
def regWOf (n : Nat) : Option RegW :=
  if n < 8 then some (.d (fin8 n))
  else if n < 16 then some (.p (fin8 (n - 8)))
  else if n < 20 then some (.m (fin4 (n - 16)))
  else if n < 24 then some (.l (fin4 (n - 20)))
  else none

/-- The readable register of a number. -/
def regROf (n : Nat) : Option RegR :=
  if n = 24 then some .sr else if n = 25 then some .lcnt else (regWOf n).map .w

/-- A long memory operand in 14 bits (Table ISA-3). -/
def longNum (m : MemOp) : Nat :=
  m.p.val * 2048 + (match m.mode with
    | .plain => 0
    | .inc => 256
    | .dec => 512
    | .addM j => 768 + j.val
    | .off v => 1024 + v.toNat)

/-- The long memory operand of 14 bits. -/
def longOf (n : Nat) : Option MemOp :=
  let p := fin8 (n / 2048)
  let lo := n % 256
  match n / 256 % 8 with
  | 0 => if lo = 0 then some ⟨p, .plain⟩ else none
  | 1 => if lo = 0 then some ⟨p, .inc⟩ else none
  | 2 => if lo = 0 then some ⟨p, .dec⟩ else none
  | 3 => if lo < 4 then some ⟨p, .addM (fin4 lo)⟩ else none
  | 4 => some ⟨p, .off (BitVec.ofNat 8 lo)⟩
  | _ => none

/-- The operand of STEP as a long memory operand. -/
def stepNum (m : StepOp) : Nat :=
  m.p.val * 2048 + (match m.mode with
    | .inc => 256
    | .dec => 512
    | .addM j => 768 + j.val)

/-- The operand of STEP: no mode without post-modification (R242). -/
def stepOf (n : Nat) : Option StepOp :=
  let p := fin8 (n / 2048)
  let lo := n % 256
  match n / 256 % 8 with
  | 1 => if lo = 0 then some ⟨p, .inc⟩ else none
  | 2 => if lo = 0 then some ⟨p, .dec⟩ else none
  | 3 => if lo < 4 then some ⟨p, .addM (fin4 lo)⟩ else none
  | _ => none

/-- A short memory operand in 5 bits. -/
def shortNum (o : ShortOp) : Nat :=
  o.p.val * 4 + (match o.mode with
    | .plain => 0
    | .inc => 1
    | .dec => 2
    | .addM => 3)

/-- The short memory operand of 5 bits. -/
def shortOf (n : Nat) : ShortOp :=
  ⟨fin8 (n / 4), match n % 4 with | 0 => .plain | 1 => .inc | 2 => .dec | _ => .addM⟩

/-- An X or Y field (R237). -/
def xyNum : XY → Nat
  | .mem o => shortNum o
  | .reg d => d

/-- An X or Y field read as memory or as a register. -/
def xyOf (mem : Bool) (n : Nat) : Option XY :=
  if mem then some (.mem (shortOf n)) else if n < 8 then some (.reg (fin8 n)) else none

/-- FORM of a pair of operands (R237). -/
def formOf : XY → XY → Nat
  | .mem _, .mem _ => 0
  | .mem _, .reg _ => 1
  | .reg _, .reg _ => 2
  | .reg _, .mem _ => 3

/-- Bits [23:0] of a multiply but for F. -/
def macNum (o : MacOps) : Nat :=
  b2n o.ux * 2 ^ 23 + b2n o.uy * 2 ^ 22 + formOf o.x o.y * 2 ^ 20 + xyNum o.x * 2 ^ 15 + xyNum o.y * 2 ^ 10

/-- Operand B with I (R233). -/
def aluBNum : AluB → Nat
  | .reg b => b
  | .imm v => 65536 + v.toNat

def aluBOf (n : Nat) : Option AluB :=
  if bit n 16 then some (.imm (BitVec.ofNat 16 n)) else if n % 65536 < 8 then some (.reg (fin8 n)) else none

/-- A shift amount with I. -/
def shiftBNum : ShiftB → Nat
  | .reg b => b
  | .imm v => 65536 + v.toNat

def shiftBOf (n : Nat) : Option ShiftB :=
  if bit n 16 then (if n % 65536 < 32 then some (.imm (BitVec.ofNat 5 n)) else none)
  else if n % 65536 < 8 then some (.reg (fin8 n)) else none

/-- OPND with MEM (Table ISA-1). -/
def opndNum : Opnd → Nat
  | .reg d => d
  | .mem m => 2 ^ 18 + longNum m

def opndOf (n : Nat) : Option Opnd :=
  if bit n 18 then (if bits n 14 4 = 0 then (longOf (n % 16384)).map .mem else none)
  else if n % 2 ^ 18 < 8 then some (.reg (fin8 n)) else none

/-- A 64-bit OPND with MEM: an even pair by its lower register. -/
def opnd64Num : Opnd64 → Nat
  | .pair i => 2 * i.val
  | .mem m => 2 ^ 18 + longNum m

def opnd64Of (n : Nat) : Option Opnd64 :=
  if bit n 18 then (if bits n 14 4 = 0 then (longOf (n % 16384)).map .mem else none)
  else if n % 2 ^ 18 < 8 ∧ n % 2 = 0 then some (.pair (fin4 (n / 2))) else none

/-! ### From command to word -/

/-- Class 0x2. -/
def aluWord (op : Nat) (d a : Fin 8) (b : Nat) : Nat := 0x20000000 + op * 2 ^ 23 + d.val * 2 ^ 20 + a.val * 2 ^ 17 + b
/-- Class 0x3. -/
def macWord (op f : Nat) (k : Fin 2) (o : MacOps) : Nat := 0x30000000 + k.val * 2 ^ 27 + op * 2 ^ 25 + f * 2 ^ 24 + macNum o
/-- Class 0x4. -/
def accWord (op : Nat) (k : Fin 2) (o : Nat) : Nat := 0x40000000 + k.val * 2 ^ 27 + op * 2 ^ 24 + o

/-- The word of an engine command (Tables ISA-1 to ISA-5); none for what is no instruction. -/
def encodeWord : Instr → Option Nat
  | .nop _ => some 0x07000000
  | .done _ => some 0x01000000
  | .jmp _ c t => some (0x02000000 + c.toNat * 2 ^ 20 + t.toNat)
  | .call _ t => some (0x03000000 + t.toNat)
  | .ret _ => some 0x04000000
  | .clrsr _ => some 0x05000000
  | .repReg _ dc z => some (0x06000000 + dc.val * 2 ^ 20 + z.toNat)
  | .rep _ n z => some (0xF0000000 + z.toNat * 2 ^ 16 + n.toNat)
  | .ldi _ r v => some (0x10000000 + regWNum r * 2 ^ 23 + v.toNat)
  | .ldiu _ r v => some (0x10200000 + regWNum r * 2 ^ 23 + v.toNat)
  | .ldih _ d v => some (0x10400000 + d.val * 2 ^ 23 + v.toNat)
  | .add _ d a b => some (aluWord 0 d a (aluBNum b))
  | .sub _ d a b => some (aluWord 1 d a (aluBNum b))
  | .and _ d a b => some (aluWord 2 d a (aluBNum b))
  | .or _ d a b => some (aluWord 3 d a (aluBNum b))
  | .xor _ d a b => some (aluWord 4 d a (aluBNum b))
  | .not _ d a => some (aluWord 5 d a 0)
  | .neg _ d a => some (aluWord 6 d a 0)
  | .abs _ d a => some (aluWord 7 d a 0)
  | .min _ d a b => some (aluWord 8 d a (aluBNum b))
  | .max _ d a b => some (aluWord 9 d a (aluBNum b))
  | .asr _ d a b => some (aluWord 10 d a (shiftBNum b))
  | .lsr _ d a b => some (aluWord 11 d a (shiftBNum b))
  | .lsl _ d a b => some (aluWord 12 d a (shiftBNum b))
  | .cmp _ a b => some (aluWord 13 0 a (aluBNum b))
  | .mpyf _ k o => some (macWord 0 1 k o)
  | .mpyi _ k o => some (macWord 0 0 k o)
  | .macf _ k o => some (macWord 1 1 k o)
  | .maci _ k o => some (macWord 1 0 k o)
  | .msuf _ k o => some (macWord 2 1 k o)
  | .msui _ k o => some (macWord 2 0 k o)
  | .clr _ k => some (accWord 0 k 0)
  | .ldaf _ k o => some (accWord 1 k (opndNum o))
  | .ldai _ k o => some (accWord 2 k (opndNum o))
  | .lda64 _ k o => some (accWord 3 k (opnd64Num o))
  | .adda _ k => some (accWord 4 k 0)
  | .suba _ k => some (accWord 5 k 0)
  | .nega _ k => some (accWord 6 k 0)
  | .str _ k sat q o => some (0x50000000 + k.val * 2 ^ 27 + b2n sat * 2 ^ 25 + q.toNat * 2 ^ 19 + opndNum o)
  | .str64 _ k sat q o => some (0x54000000 + k.val * 2 ^ 27 + b2n sat * 2 ^ 25 + q.toNat * 2 ^ 19 + opnd64Num o)
  | .ld _ r m => some (0x60000000 + regWNum r * 2 ^ 21 + longNum m)
  | .ld64 _ i m => some (0x64000000 + 2 * i.val * 2 ^ 21 + longNum m)
  | .st _ r m => some (0x68000000 + regRNum r * 2 ^ 21 + longNum m)
  | .st64 _ i m => some (0x6C000000 + 2 * i.val * 2 ^ 21 + longNum m)
  | .lds _ dd da => some (0x70000000 + dd.val * 2 ^ 24 + da.val * 2 ^ 21)
  | .sts _ dd da => some (0x78000000 + dd.val * 2 ^ 24 + da.val * 2 ^ 21)
  | .mov _ rd rs => some (0x80000000 + regWNum rd * 2 ^ 19 + regRNum rs * 2 ^ 14)
  | .stepPtr _ m => some (0x81000000 + stepNum m)
  | _ => none

/-! ### From word to command -/

/-- Class 0x0. -/
def decCtl (e : Fin 17) (w : Nat) : Option Instr :=
  match bits w 24 4 with
  | 1 => if bits w 0 24 = 0 then some (.done e) else none
  | 2 => if bits w 13 7 = 0 then some (.jmp e (BitVec.ofNat 4 (bits w 20 4)) (BitVec.ofNat 13 (bits w 0 13))) else none
  | 3 => if bits w 13 11 = 0 then some (.call e (BitVec.ofNat 13 (bits w 0 13))) else none
  | 4 => if bits w 0 24 = 0 then some (.ret e) else none
  | 5 => if bits w 0 24 = 0 then some (.clrsr e) else none
  | 6 =>
    if bits w 23 1 = 0 ∧ bits w 12 8 = 0 then some (.repReg e (fin8 (bits w 20 3)) (BitVec.ofNat 12 (bits w 0 12))) else none
  | 7 => if bits w 0 24 = 0 then some (.nop e) else none
  | _ => none

/-- Class 0x1. -/
def decImm (e : Fin 17) (w : Nat) : Option Instr :=
  let v := BitVec.ofNat 16 (bits w 0 16)
  if bits w 16 5 ≠ 0 then none
  else
    match regWOf (bits w 23 5), bits w 21 2 with
    | some r, 0 => some (.ldi e r v)
    | some r, 1 => some (.ldiu e r v)
    | some (.d i), 2 => some (.ldih e i v)
    | _, _ => none

/-- Class 0x2. -/
def decAlu (e : Fin 17) (w : Nat) : Option Instr :=
  let d := fin8 (bits w 20 3)
  let a := fin8 (bits w 17 3)
  let n := bits w 0 17
  match bits w 23 5 with
  | 0 => (aluBOf n).map (.add e d a)
  | 1 => (aluBOf n).map (.sub e d a)
  | 2 => (aluBOf n).map (.and e d a)
  | 3 => (aluBOf n).map (.or e d a)
  | 4 => (aluBOf n).map (.xor e d a)
  | 5 => if n = 0 then some (.not e d a) else none
  | 6 => if n = 0 then some (.neg e d a) else none
  | 7 => if n = 0 then some (.abs e d a) else none
  | 8 => (aluBOf n).map (.min e d a)
  | 9 => (aluBOf n).map (.max e d a)
  | 10 => (shiftBOf n).map (.asr e d a)
  | 11 => (shiftBOf n).map (.lsr e d a)
  | 12 => (shiftBOf n).map (.lsl e d a)
  | 13 => if bits w 20 3 = 0 then (aluBOf n).map (.cmp e a) else none
  | _ => none

/-- Class 0x3. -/
def decMac (e : Fin 17) (w : Nat) : Option Instr :=
  let k := fin2 (bits w 27 1)
  let form := bits w 20 2
  if bits w 0 10 ≠ 0 then none
  else
    match xyOf (decide (form < 2)) (bits w 15 5), xyOf (decide (form = 0) || decide (form = 3)) (bits w 10 5) with
    | some x, some y =>
      let o : MacOps := { x := x, y := y, ux := bit w 23, uy := bit w 22 }
      match bits w 25 2, bits w 24 1 with
      | 0, 1 => some (.mpyf e k o)
      | 0, _ => some (.mpyi e k o)
      | 1, 1 => some (.macf e k o)
      | 1, _ => some (.maci e k o)
      | 2, 1 => some (.msuf e k o)
      | 2, _ => some (.msui e k o)
      | _, _ => none
    | _, _ => none

/-- Class 0x4. -/
def decAcc (e : Fin 17) (w : Nat) : Option Instr :=
  let k := fin2 (bits w 27 1)
  let n := bits w 0 19
  if bits w 19 5 ≠ 0 then none
  else
    match bits w 24 3 with
    | 0 => if n = 0 then some (.clr e k) else none
    | 1 => (opndOf n).map (.ldaf e k)
    | 2 => (opndOf n).map (.ldai e k)
    | 3 => (opnd64Of n).map (.lda64 e k)
    | 4 => if n = 0 then some (.adda e k) else none
    | 5 => if n = 0 then some (.suba e k) else none
    | 6 => if n = 0 then some (.nega e k) else none
    | _ => none

/-- Class 0x5. -/
def decStr (e : Fin 17) (w : Nat) : Option Instr :=
  let k := fin2 (bits w 27 1)
  let q := BitVec.ofNat 6 (bits w 19 6)
  if bit w 26 then (opnd64Of (bits w 0 19)).map (.str64 e k (bit w 25) q)
  else (opndOf (bits w 0 19)).map (.str e k (bit w 25) q)

/-- An even pair by its lower register (R240). -/
def pairOf64 (n : Nat) : Option (Fin 4) := if n < 8 ∧ n % 2 = 0 then some (fin4 (n / 2)) else none

/-- Class 0x6. -/
def decMem (e : Fin 17) (w : Nat) : Option Instr :=
  if bits w 14 7 ≠ 0 then none
  else
    match longOf (bits w 0 14) with
    | none => none
    | some m =>
      let n := bits w 21 5
      if bit w 27 then (if bit w 26 then (pairOf64 n).map (.st64 e · m) else (regROf n).map (.st e · m))
      else if bit w 26 then (pairOf64 n).map (.ld64 e · m) else (regWOf n).map (.ld e · m)

/-- Class 0x7. -/
def decSys (e : Fin 17) (w : Nat) : Option Instr :=
  if bits w 0 21 ≠ 0 then none
  else if bit w 27 then some (.sts e (fin8 (bits w 24 3)) (fin8 (bits w 21 3)))
  else some (.lds e (fin8 (bits w 24 3)) (fin8 (bits w 21 3)))

/-- Class 0x8. -/
def decMov (e : Fin 17) (w : Nat) : Option Instr :=
  match bits w 24 4 with
  | 0 =>
    if bits w 0 14 ≠ 0 then none
    else
      match regWOf (bits w 19 5), regROf (bits w 14 5) with
      | some rd, some rs => some (.mov e rd rs)
      | _, _ => none
  | 1 => if bits w 14 10 ≠ 0 then none else (stepOf (bits w 0 14)).map (.stepPtr e)
  | _ => none

/-- The command that a 32-bit word stands for when engine `e` executes it; none for an illegal form (Table ISA-8). -/
def decodeWord (e : Fin 17) (w : Nat) : Option Instr :=
  match w / 2 ^ 28 with
  | 0 => decCtl e w
  | 1 => decImm e w
  | 2 => decAlu e w
  | 3 => decMac e w
  | 4 => decAcc e w
  | 5 => decStr e w
  | 6 => decMem e w
  | 7 => decSys e w
  | 8 => decMov e w
  | 15 => some (.rep e (BitVec.ofNat 16 (bits w 0 16)) (BitVec.ofNat 12 (bits w 16 12)))
  | _ => none

/-- The word that engine `e` fetches next. -/
def State.fetchWord (s : State) (e : Fin 17) : Nat := s.rdLE (pmAt e + 4 * (s.engX e).pc) 4

/-- The command that stands for the word that engine `e` fetches next; none is the failure ILLEGAL (R245). -/
def State.fetchCommand (s : State) (e : Fin 17) : Option Instr := decodeWord e (s.fetchWord e)

end Sys2Proof.Machine
end

