-- ==== Sys2Proof/Safety.lean ====
section
/-!
DEFINITION. Safety.lean: the terms that claims are stated in: what a step leaves unchanged, what an engine instruction makes of
its engine, and the invariant of the machine.
-/
namespace Sys2Proof.Machine

/-! ### What stays as it was -/

/-- The components of the state. -/
inductive Comp where
  | pending | regs | mem | clk | ntimeH | drawn | outbox | readOut | awaiting | tick_
  | bk | start | flash | pool | led | flt | sess | holds | eng | grp
  | axis | cur | clave | ho | snare | fb | echo | field | eth | can
  | i2c
  deriving DecidableEq, Repr

/-- A component is the same in two states. -/
def Comp.Same (s t : State) : Comp → Prop
  | .pending => t.pending = s.pending
  | .regs => t.regs = s.regs
  | .mem => t.mem = s.mem
  | .clk => t.clk = s.clk
  | .ntimeH => t.ntimeH = s.ntimeH
  | .drawn => t.drawn = s.drawn
  | .outbox => t.outbox = s.outbox
  | .readOut => t.readOut = s.readOut
  | .awaiting => t.awaiting = s.awaiting
  | .tick_ => t.tick_ = s.tick_
  | .bk => t.bk = s.bk
  | .start => t.start = s.start
  | .flash => t.flash = s.flash
  | .pool => t.pool = s.pool
  | .led => t.led = s.led
  | .flt => t.flt = s.flt
  | .sess => t.sess = s.sess
  | .holds => t.holds = s.holds
  | .eng => t.eng = s.eng
  | .grp => t.grp = s.grp
  | .axis => t.axis = s.axis
  | .cur => t.cur = s.cur
  | .clave => t.clave = s.clave
  | .ho => t.ho = s.ho
  | .snare => t.snare = s.snare
  | .fb => t.fb = s.fb
  | .echo => t.echo = s.echo
  | .field => t.field = s.field
  | .eth => t.eth = s.eth
  | .can => t.can = s.can
  | .i2c => t.i2c = s.i2c

/-- From `s` to `t` nothing has changed but the listed components. -/
def Only (l : List Comp) (s t : State) : Prop := ∀ c, c ∉ l → c.Same s t

/-- Of the device fault state nothing has changed but that the words of which `p` holds have been written anew and wait for no check
(R595). -/
def Healed (s t : State) (p : Nat → Prop) : Prop :=
  t.flt = { s.flt with latent := t.flt.latent } ∧ ∀ w, w ∈ t.flt.latent ↔ w ∈ s.flt.latent ∧ ¬ p w

/-- Byte address `w` lies in one of the `n` slots of `size` bytes that follow the `first`, in a queue of `total` slots at `base`. -/
def InQueue (base size total first n w : Nat) : Prop :=
  ∃ i, i < n ∧ base + (first + i) % total * size ≤ w ∧ w < base + (first + i) % total * size + size

/-- Every register field whose home is not that of a listed one reads in `t` as in `s`. -/
def RegsKept (s t : State) (fs : List Fld) : Prop := ∀ g : Fld, (∀ f ∈ fs, g.key ≠ f.key) → t.get g = s.get g

/-- From `s` to `t` nothing has changed but the listed register fields. -/
def OnlyRegs (s t : State) (fs : List Fld) : Prop := Only [.regs] s t ∧ RegsKept s t fs

/-- From `s` to `t` nothing has changed but engine `e`. -/
def OnlyEng (s t : State) (e : Nat) : Prop := Only [.eng] s t ∧ ∀ k, k ≠ e → t.engX k = s.engX k

/-! ### What each command can change -/

/-- What each command can change: the components it is confined to. A Bexic message can ask for whatever its opcodes do. -/
def touched : Instr → List Comp
  | .supplyLow _ | .overTemp _ =>
    [.regs, .led, .flt, .sess, .grp, .axis, .cur, .clave, .ho, .snare, .field]
  | .supplyLowEnd _ | .vmainSample _ =>
    [.regs, .flt]
  | .railFall =>
    [.regs, .bk, .start, .flt, .eng, .axis, .cur, .ho]
  | .railReturn | .rtcLoadTick | .comparatorStrobe _ | .bdPowerOn =>
    [.regs, .bk]
  | .loadingEntry _ _ _ =>
    [.regs, .mem, .ntimeH, .drawn, .awaiting, .tick_, .bk, .start, .flash, .pool, .led, .flt, .sess, .holds, .eng, .grp, .axis, .cur,
     .clave, .ho, .snare, .fb, .echo, .field, .eth, .can, .i2c]
  | .startSequenceComplete =>
    [.regs, .mem, .tick_, .start, .pool, .led, .grp, .cur, .fb, .eth]
  | .loadTimeout =>
    [.regs, .start]
  | .startSuccess | .autoResume | .diBrokenClear _ | .gateChange _ | .canRecoveryDone _ =>
    [.regs]
  | .loadingClockReturn =>
    [.regs, .start, .flt]
  | .vbakMeasure _ | .sdaLowTimeout _ | .ledgerClaim =>
    [.regs, .led]
  | .rtcLoad _ | .keyhashProgram _ _ | .minReset _ | .aliasWrite _ _ _ | .pairHighWrite _ _ _ | .pairLowWrite _ _ _
    | .registerWrite _ _ _ _ | .doorbell _ _ | .runMaxReset _ _ | .done _ | .str _ _ _ _ _ | .str64 _ _ _ _ _ | .st _ _ _
    | .st64 _ _ _ | .sts _ _ _ | .loopFltWrite _ _ _ | .coefArm _ _ | .feedOvrWrite _ _ _ | .hoModeWrite _ _ _ | .fbOffsetWrite _ _ _
    | .refAck _ _ | .ampTrackReset _ _ | .doOutWrite _ _ _ | .gclChange _ _ | .ethPortEnableWrite _ _ _ | .sfBlockedClear _ _ _
    | .canTxSend _ _ | .canTxAbort _ _ | .canEnableWrite _ _ _ | .canFifoPop _ _ _ | .peakReset _ =>
    [.regs, .mem, .drawn, .start, .flash, .pool, .led, .flt, .sess, .holds, .eng, .grp, .axis, .cur, .clave, .ho, .snare, .fb,
     .field, .eth, .can]
  | .rtcSync | .dormantResponderSleep =>
    [.bk]
  | .rtcLoRead _ | .bkfifoHiRead _ | .rcFieldRead _ _ | .pairLowRead _ _ | .pairHighRead _ _ =>
    [.regs, .mem, .drawn, .readOut, .bk, .start, .pool, .led, .flt, .sess, .holds, .eng, .grp, .axis, .cur, .clave, .ho, .snare,
     .field, .eth]
  | .dormantResponderTransaction _ _ _ | .i2cSRead _ _ =>
    [.regs, .readOut, .bk, .i2c]
  | .i2cSHandover | .i2cTransferStart =>
    [.regs, .i2c]
  | .seqWatchdog =>
    [.regs, .start, .eng, .axis, .cur, .ho]
  | .clockLoss =>
    [.regs, .start, .flt, .sess, .grp, .axis, .cur, .clave, .ho, .snare, .field]
  | .arm _ | .disarm _ | .clearFault _ | .restart _ | .clearStartCount _ | .imageWriteErase _ | .imageWriteBegin _
    | .imageWriteData _ | .imageWriteCommit _ | .imageWriteAbort _ | .bufAlloc _ | .bufFree _ | .engineTest _ | .engineMigrate _
    | .coefWrite _ | .coefSwap _ | .groupEnable _ | .groupDisable _ | .hold _ | .resume _ | .stop _ | .moveAbs _ | .moveRel _
    | .jog _ | .pathAppend _ | .pathFlush _ | .gearSet _ | .camSet _ | .followSet _ | .claveAppend _ | .claveFlush _ | .snareArm _
    | .snareRead _ | .fieldResume _ | .ethFrameReceive _ _ _ _ | .canFrameReceive _ _ | .canRecover _ | .i2cSWrite _ _ | .i2cXfer _
    | .i2cBusRecovery _ | .sessionOpen _ | .ping _ | .readReg _ | .writeReg _ | .readBlock _ | .writeBlock _ | .ledgerRead _
    | .eventSubscribe _ =>
    [.regs, .mem, .drawn, .outbox, .awaiting, .bk, .start, .flash, .pool, .led, .flt, .sess, .holds, .eng, .grp, .axis, .cur, .clave,
     .ho, .snare, .fb, .field, .eth, .can, .i2c]
  | .imageEraseDone | .imageCommitDone =>
    [.regs, .drawn, .outbox, .start, .flash, .pool, .led, .sess, .eng, .axis, .cur, .ho, .eth, .can, .i2c]
  | .keyhashProgramDone _ =>
    [.regs, .drawn, .flash]
  | .poolGrant =>
    [.regs, .drawn, .pool, .led, .eng]
  | .sramScrub _ _ _ | .xmemScrub _ _ _ | .snapshotComplete _ =>
    [.regs, .mem, .start, .pool, .led, .flt, .sess, .eng, .grp, .axis, .cur, .clave, .ho, .snare, .field, .eth]
  | .fastBoundary =>
    [.regs, .mem, .drawn, .tick_, .start, .flash, .pool, .led, .flt, .sess, .holds, .eng, .grp, .axis, .cur, .clave, .ho, .snare,
     .fb, .echo, .field, .eth, .can]
  | .slowBoundary =>
    [.regs, .mem, .drawn, .outbox, .awaiting, .tick_, .start, .flash, .pool, .led, .flt, .sess, .holds, .eng, .grp, .axis, .cur,
     .clave, .ho, .snare, .fb, .echo, .field, .eth, .can, .i2c]
  | .entrySlowStart _ =>
    [.eng, .axis]
  | .entryEventStart _ =>
    [.eng]
  | .deadline _ | .engFail _ _ _ | .selfCheckPass _ _ _ | .engineTestDone _ _ | .nop _ | .jmp _ _ _ | .call _ _ | .ret _ | .clrsr _
    | .rep _ _ _ | .repReg _ _ _ | .ldi _ _ _ | .ldiu _ _ _ | .ldih _ _ _ | .add _ _ _ _ | .sub _ _ _ _ | .and _ _ _ _ | .or _ _ _ _
    | .xor _ _ _ _ | .not _ _ _ | .neg _ _ _ | .abs _ _ _ | .min _ _ _ _ | .max _ _ _ _ | .asr _ _ _ _ | .lsr _ _ _ _ | .lsl _ _ _ _
    | .cmp _ _ _ | .clr _ _ | .adda _ _ | .suba _ _ | .nega _ _ | .mov _ _ _ | .stepPtr _ _ | .illegalInstruction _ =>
    [.regs, .mem, .drawn, .start, .pool, .led, .flt, .sess, .eng, .grp, .axis, .cur, .clave, .ho, .snare, .field, .eth]
  | .outputTransfer =>
    [.regs, .drawn, .tick_, .pool, .led, .eng, .grp, .axis, .cur, .eth]
  | .takeoverFirstRun _ | .migrationHandover _ =>
    [.regs, .led, .eng, .grp]
  | .shadowStart _ =>
    [.regs, .mem, .eng, .grp]
  | .mpyf _ _ _ | .mpyi _ _ _ | .macf _ _ _ | .maci _ _ _ | .msuf _ _ _ | .msui _ _ _ | .ldaf _ _ _ | .ldai _ _ _ | .lda64 _ _ _
    | .ld _ _ _ | .ld64 _ _ _ | .lds _ _ _ =>
    [.regs, .mem, .drawn, .bk, .start, .pool, .led, .flt, .sess, .holds, .eng, .grp, .axis, .cur, .clave, .ho, .snare, .field, .eth]
  | .poolReq _ | .poolFree _ _ =>
    [.pool, .eng]
  | .markWrite _ _ =>
    [.regs, .led, .eng]
  | .claveGo _ =>
    [.regs, .eng, .clave]
  | .causeTake _ =>
    [.regs, .readOut, .eng]
  | .cellMeasurementReady _ _ _ _ _ _ | .cellTrip _ _ _ | .driveFeedbackFrame _ _ | .hoMaxSpan _ | .hoMaxOn _ | .fieldLinkCycle _ _
    | .vfieldLoss | .diBroken _ | .puEdge _ _ _ _ _ _ _ | .driveEnableLost =>
    [.regs, .led, .sess, .grp, .axis, .cur, .clave, .ho, .snare, .field]
  | .enDelayExpiry _ | .brakeEngDelayExpiry _ | .gtimeExpiry _ =>
    [.regs, .axis, .cur]
  | .brakeRelDelayExpiry _ =>
    [.regs, .axis]
  | .clavePrediction _ =>
    [.clave]
  | .claveNop _ _ | .claveEngineEvent _ _ | .claveMark _ _ | .claveNotify _ _ =>
    [.regs, .mem, .drawn, .pool, .led, .sess, .clave]
  | .claveHoOn _ _ | .claveHoOff _ _ | .claveHoPulse _ _ =>
    [.regs, .mem, .drawn, .pool, .led, .sess, .clave, .ho]
  | .claveDeferredOff _ _ =>
    [.regs, .clave, .ho]
  | .claveDoOn _ _ | .claveDoOff _ _ =>
    [.regs, .mem, .drawn, .pool, .led, .sess, .clave, .field]
  | .claveSnareArm _ _ | .claveSnareDisarm _ _ | .claveSnareTrigger _ _ =>
    [.regs, .mem, .drawn, .pool, .led, .sess, .clave, .snare]
  | .claveCoefSwap _ _ =>
    [.regs, .mem, .drawn, .pool, .led, .sess, .grp, .clave]
  | .hiEdge _ _ _ =>
    [.regs, .snare]
  | .snareRecordComplete _ =>
    [.regs, .mem, .drawn, .pool, .led, .sess, .snare]
  | .fbLineEdge _ _ _ _ _ | .sincosConversion _ _ _ _ | .serialReadStart _ | .serialReadDone _ _ _ _ _ | .serialReadTimeout _ =>
    [.regs, .led, .sess, .grp, .axis, .cur, .clave, .ho, .snare, .fb, .echo, .field]
  | .fbIndexEdge _ _ _ =>
    [.regs, .snare, .fb]
  | .lineWindowLeave _ _ _ =>
    [.regs, .fb]
  | .lineFaultTimeout _ =>
    [.regs, .led, .sess, .grp, .axis, .cur, .clave, .ho, .snare, .echo, .field]
  | .fieldSilenceTimeout | .diEdge _ _ _ | .doApply | .doTrip _ _ =>
    [.regs, .field]
  | .aiSample _ _ _ _ | .vfieldReturn =>
    [.field]
  | .arpRequest _ _ _ _ | .icmpEchoRequest _ _ _ _ _ | .ethFrameTransmit _ | .ethLinkUp _ _ | .pdelayReqReceived _ _
    | .ptpInterval _ _ =>
    [.regs, .drawn, .pool, .led, .eth]
  | .gclChangeApply _ =>
    [.regs, .mem, .eth]
  | .ethLinkDown _ =>
    [.regs, .pool, .led, .eth]
  | .syncReceived _ _ =>
    [.regs, .ntimeH, .drawn, .pool, .led, .eth]
  | .announceReceived _ _ | .syncTimeout =>
    [.regs, .led, .eth]
  | .canFrameTransmit _ _ _ _ _ | .canError _ _ | .canIntegrationEnd _ =>
    [.regs, .pool, .led, .can]
  | .sclLowTimeout _ _ _ =>
    [.regs, .readOut, .bk, .led, .i2c]
  | .i2cTransferDone _ _ _ _ _ =>
    [.regs, .drawn, .outbox, .start, .pool, .led, .sess, .eng, .axis, .cur, .ho, .eth, .can, .i2c]
  | .reassemblyTimeout _ =>
    [.regs, .drawn, .outbox, .pool, .led, .eth, .can, .i2c]
  | .eventFrameFlush _ =>
    [.regs, .drawn, .outbox, .pool, .led, .sess, .eth, .can, .i2c]
  | .ledgerCommit =>
    [.regs, .led, .flt, .sess]
  | .stopMaxExpiry _ =>
    [.regs, .sess, .grp, .axis, .cur, .clave, .ho, .snare, .field]
  | .driveEnableRise | .driveEnableHwCut =>
    [.regs, .cur]
  | .stoActive _ _ =>
    [.regs, .drawn, .led, .sess, .grp, .axis, .cur, .clave, .ho, .snare, .field]
  | .clockReturn =>
    [.regs, .led, .flt]
  | .macAgeing _ =>
    [.eth]

/-! ### The invariant -/

/-- The invariant of the machine: memory and every sparse table in canonical form, the event queue within its 1022 entries (R527) and
the backup event FIFO within its eight (R52). -/
structure State.Inv (s : State) : Prop where
  mem : Memory.wf s.mem = true
  regs : SMap.wf regReset s.regs = true
  eng : SMap.wf (fun _ => {}) s.eng = true
  grp : SMap.wf (fun _ => {}) s.grp = true
  axis : SMap.wf (fun _ => {}) s.axis = true
  cur : SMap.wf (fun _ => {}) s.cur = true
  clave : SMap.wf (fun _ => {}) s.clave = true
  ho : SMap.wf (fun _ => {}) s.ho = true
  snare : SMap.wf (fun _ => {}) s.snare = true
  fb : SMap.wf (fun _ => {}) s.fb = true
  echo : SMap.wf (fun _ => {}) s.echo = true
  can : SMap.wf (fun _ => {}) s.can = true
  sess : SMap.wf (fun _ => {}) s.sess = true
  holds : SMap.wf (fun _ => {}) s.holds = true
  cells : SMap.wf (fun _ => 255) s.flash.cells = true
  owner : SMap.wf (fun _ => holderFree) s.pool.owner = true
  grants : SMap.wf (fun _ => 0) s.pool.grants = true
  written : SMap.wf (fun _ => 0) s.pool.written = true
  pu : SMap.wf (fun _ => {}) s.field.pu = true
  ports : SMap.wf (fun _ => {}) s.eth.ports = true
  bucket : SMap.wf bucketReset s.eth.bucket = true
  evq : evqUsed s.led.evq ≤ 1022
  turn : ∀ u, s.led.turn = some u → evqUsed u.base.evq ≤ 1022
  fifo : s.bk.fifo.length ≤ 8

/-! ### Engine instructions -/

/-- Engine `e` executes a word after which the run goes on within PM. -/
def GoesOn (s : State) (e : Fin 17) : Prop :=
  s.executes e = true ∧ (rollNext (s.engX e).pc (s.engX e).roll).2 < 8192

/-- The engine after `k` clocks, at the next word, having written accumulator `w` or none. -/
def EngX.after (x : EngX) (k : Nat) (w : Option (Fin 2)) : EngX :=
  { x with clk := x.clk + k, lastAcc := w, roll := (rollNext x.pc x.roll).1, pc := (rollNext x.pc x.roll).2 }

/-- Command `c` answers a next state in which engine `e` stands as `y` and nothing else has changed. -/
def EngineBecomes (s : State) (e : Fin 17) (c : Instr) (y : EngX) : Prop :=
  ∃ t, exec c s = .next t ∧ t.engX e = y ∧ OnlyEng s t e

/-- What a class 0x2 instruction computes: its engine, the D register it writes, the result, and C and V where it sets them. -/
structure AluRes where
  e : Fin 17
  d : Option (Fin 8)
  r : BitVec 32
  c : Option Bool
  v : Option Bool

/-- Table ISA-5 in exact integers. -/
def aluTable (s : State) : Instr → Option AluRes
  | .add e d a b =>
    let x := s.engX e
    let u := x.d[a]; let v := aluVal b true x
    some ⟨e, some d, .ofInt 32 (u.toInt + v.toInt), some (decide (2 ^ 32 ≤ u.toNat + v.toNat)), some (outOf 32 (u.toInt + v.toInt))⟩
  | .sub e d a b =>
    let x := s.engX e
    let u := x.d[a]; let v := aluVal b true x
    some ⟨e, some d, .ofInt 32 (u.toInt - v.toInt), some (decide (u.toNat < v.toNat)), some (outOf 32 (u.toInt - v.toInt))⟩
  | .cmp e a b =>
    let x := s.engX e
    let u := x.d[a]; let v := aluVal b true x
    some ⟨e, none, .ofInt 32 (u.toInt - v.toInt), some (decide (u.toNat < v.toNat)), some (outOf 32 (u.toInt - v.toInt))⟩
  | .and e d a b => let x := s.engX e; some ⟨e, some d, x.d[a] &&& aluVal b false x, some false, some false⟩
  | .or e d a b => let x := s.engX e; some ⟨e, some d, x.d[a] ||| aluVal b false x, some false, some false⟩
  | .xor e d a b => let x := s.engX e; some ⟨e, some d, x.d[a] ^^^ aluVal b false x, some false, some false⟩
  | .not e d a => some ⟨e, some d, ~~~(s.engX e).d[a], some false, some false⟩
  | .neg e d a =>
    let u := (s.engX e).d[a]
    some ⟨e, some d, .ofInt 32 (0 - u.toInt), some (decide (u ≠ 0)), some (outOf 32 (0 - u.toInt))⟩
  | .abs e d a =>
    let u := (s.engX e).d[a]
    some ⟨e, some d, .ofInt 32 u.toInt.natAbs, none, some (outOf 32 u.toInt.natAbs)⟩
  | .min e d a b => let x := s.engX e; some ⟨e, some d, .ofInt 32 (min x.d[a].toInt (aluVal b true x).toInt), none, none⟩
  | .max e d a b => let x := s.engX e; some ⟨e, some d, .ofInt 32 (max x.d[a].toInt (aluVal b true x).toInt), none, none⟩
  | .asr e d a b =>
    let x := s.engX e
    let u := x.d[a]; let k := shiftAmt b x
    some ⟨e, some d, .ofInt 32 (u.toInt / 2 ^ k), if k = 0 then none else some (decide (u.toInt / 2 ^ (k - 1) % 2 = 1)), some false⟩
  | .lsr e d a b =>
    let x := s.engX e
    let u := x.d[a]; let k := shiftAmt b x
    some ⟨e, some d, .ofNat 32 (u.toNat / 2 ^ k), if k = 0 then none else some (decide (u.toNat / 2 ^ (k - 1) % 2 = 1)), some false⟩
  | .lsl e d a b =>
    let x := s.engX e
    let u := x.d[a]; let k := shiftAmt b x
    some ⟨e, some d, .ofNat 32 (u.toNat * 2 ^ k), if k = 0 then none else some (decide (u.toNat * 2 ^ (k - 1) / 2 ^ 31 % 2 = 1)), some false⟩
  | _ => none

/-- SR from `sr` to `sr'` (R231): Z and N as given, C and V where given, SV set with V, every other bit as it was. -/
def FlagsFrom (sr sr' : BitVec 16) (z n : Bool) (c v : Option Bool) : Prop :=
  ∀ i, i < 16 → sr'.getLsbD i =
    (if i = fZ then z else if i = fN then n else if i = fC then c.getD (sr.getLsbD fC) else if i = fV then v.getD (sr.getLsbD fV)
     else if i = fSV then sr.getLsbD fSV || v.getD false else sr.getLsbD i)

/-- SR after an accumulator result `i` (R231, Table DSP-5): Z and N of what is held, AE whether that exceeds 64 bits, AO set when
`i` wrapped, every other bit as it was. -/
def AccFlagsFrom (sr sr' : BitVec 16) (i : Int) : Prop :=
  ∀ k, k < 16 → sr'.getLsbD k =
    (if k = fZ then decide (i % 2 ^ 72 = 0) else if k = fN then decide (2 ^ 71 ≤ i % 2 ^ 72)
     else if k = fAE then decide (2 ^ 63 ≤ i % 2 ^ 72 ∧ i % 2 ^ 72 < 2 ^ 72 - 2 ^ 63)
     else if k = fAO then sr.getLsbD fAO || outOf 72 i else sr.getLsbD k)

/-! ### Events and blocks -/

/-- The register fields that show the event queue (Table LDG-6). -/
def ledgerFlds : List Fld :=
  [Reg.LEDGER_EVQ_LEVEL_LEVEL, Reg.LEDGER_EVQ_LEVEL_PEAK, Reg.LEDGER_STAT_FULL, Reg.LEDGER_STAT_LOSS_PENDING, Reg.LEDGER_MERGED]
    ++ (List.range 8).map Reg.LEDGER_LOST

/-- An event that occurs in `s` (R526-R528). -/
def State.evNow (s : State) (group cls code : Nat) (long : Bool) (payload : List Byte) : Ev :=
  { ntime := s.ntime, coord := s.coordOf group, group := group, cls := cls, code := code, count := 1, long := long, payload := payload,
    clk := s.clk }

/-- No event has been posted in the present clock (R529). -/
def FirstEvent (s : State) : Prop := ∀ u, s.led.turn = some u → u.clk ≠ s.clk

/-- From `s` to `t` the event `e` has joined the end of the event queue, where the queue runs and has room and `e` is the first event
of its clock (R526, R529, R530). -/
def Posted (s t : State) (e : Ev) : Prop :=
  s.live = true → FirstEvent s → evqUsed s.led.evq + e.entries ≤ 1022 → t.led.evq = s.led.evq ++ [e]

/-- R141: a request of `k` blocks charged to group `n`, or to the device (16), is granted. -/
def Grantable (s : State) (h k : Nat) : Prop :=
  if h < 16 then
    k ≤ s.get Reg.POOL_STAT_FREE_TOTAL ∧ k ≤ (s.get (Reg.POOL_GRP_FLOOR h) - s.get (Reg.POOL_GRP_USED h)) + s.freeShared
  else k ≤ s.freeShared

/-! ### Operands of engine instructions -/

/-- A pointer post-modified by `m` under circular length `l` (R201, R202). -/
def circNext (p : BitVec 16) (l : Nat) (m : Int) : BitVec 16 :=
  if l = 0 then .ofInt 16 (p.toNat + m)
  else .ofInt 16 ((p.toNat / 2 ^ Nat.clog 2 l * 2 ^ Nat.clog 2 l : Nat) + ((p.toNat % 2 ^ Nat.clog 2 l : Nat) + m) % l)

/-- The pointers `p` after the post-modification of a memory operand, with the lengths and modifiers of `x` (Table DSP-3, R243). -/
def ptrAfter (o : MemOp) (x : EngX) (p : Vector (BitVec 16) 8) : Vector (BitVec 16) 8 :=
  let go := fun m => p.set o.p (circNext p[o.p] x.l[mod4 o.p].toNat m)
  match o.mode with
  | .plain => p
  | .off _ => p
  | .inc => go 1
  | .dec => go (-1)
  | .addM j => go x.m[j].toInt

/-- The pointers after an operand of a multiply. -/
def ptrAfterXY (o : XY) (x : EngX) (p : Vector (BitVec 16) 8) : Vector (BitVec 16) 8 :=
  match o with
  | .reg _ => p
  | .mem m => ptrAfter (shortLong m) x p

/-- The address of a memory operand lies in DM (Table DSP-2). -/
def inDm (m : MemOp) (x : EngX) : Prop := memAddr m x < 0x2000

/-- An operand of a multiply is a register or lies in DM. -/
def inDmXY (o : XY) (x : EngX) : Prop :=
  match o with
  | .reg _ => True
  | .mem m => inDm (shortLong m) x

/-- The bus address of a memory operand in DM; that of a 64-bit operand with `wide` (R199). -/
def dmOf (s : State) (e : Fin 17) (m : MemOp) (x : EngX) (wide : Bool) : Nat :=
  dmAddr e (s.unified e) m.p (if wide then memAddr m x / 2 * 2 else memAddr m x)

/-- The second word of a 64-bit operand in DM (R199). -/
def dmOf2 (s : State) (e : Fin 17) (m : MemOp) (x : EngX) : Nat := dmAddr e (s.unified e) m.p (memAddr m x / 2 * 2 + 1)

/-- The 32-bit word of a memory operand in DM. -/
def dmWord (s : State) (e : Fin 17) (m : MemOp) (x : EngX) : BitVec 32 := .ofNat 32 (s.rdLE (dmOf s e m x false) 4)

/-- The 64-bit value of a memory operand in DM. -/
def dmWord64 (s : State) (e : Fin 17) (m : MemOp) (x : EngX) : BitVec 64 :=
  .ofNat 64 (s.rdLE (dmOf s e m x true) 4 + s.rdLE (dmOf2 s e m x) 4 * 2 ^ 32)

/-- The value of an operand of a multiply. -/
def xyVal (s : State) (e : Fin 17) (o : XY) (x : EngX) : BitVec 32 :=
  match o with
  | .reg d => x.d[d]
  | .mem m => dmWord s e (shortLong m) x

/-- A register written with a 32-bit value (R232). -/
def EngX.written (x : EngX) (r : RegW) (v : BitVec 32) : EngX :=
  match r with
  | .d i => { x with d := x.d.set i v }
  | .p i => { x with p := x.p.set i (.ofNat 16 (v.toNat % 2 ^ 16)) }
  | .m i => { x with m := x.m.set i (.ofNat 16 (v.toNat % 2 ^ 16)) }
  | .l i => { x with l := x.l.set i (.ofNat 14 (min 8192 (v.toNat % 2 ^ 14))) }

/-- A register read into 32 bits (R232). -/
def EngX.source (x : EngX) (r : RegR) : BitVec 32 :=
  match r with
  | .w (.d i) => x.d[i]
  | .w (.p i) => .ofNat 32 x.p[i].toNat
  | .w (.m i) => .ofInt 32 x.m[i].toInt
  | .w (.l i) => .ofNat 32 x.l[i].toNat
  | .sr => .ofNat 32 x.sr.toNat
  | .lcnt => .ofNat 32 ((x.roll.map RollLvl.count).headD 0)

/-- What an instruction of class 0x3 leaves in its accumulator: engine, accumulator, operands, and the exact result (R204, R237). -/
structure MacRes where
  e : Fin 17
  k : Fin 2
  o : MacOps
  i : Int

/-- The exact product of the operands: each signed or unsigned, doubled in fractional mode (R204). -/
def exactProduct (s : State) (e : Fin 17) (o : MacOps) (frac : Bool) : Int :=
  let a := xyVal s e o.x (s.engX e); let b := xyVal s e o.y (s.engX e)
  (if frac then 2 else 1) * ((if o.ux then (a.toNat : Int) else a.toInt) * (if o.uy then (b.toNat : Int) else b.toInt))

/-- The six multiplies. -/
def macTable (s : State) : Instr → Option MacRes
  | .mpyf e k o => some ⟨e, k, o, exactProduct s e o true⟩
  | .mpyi e k o => some ⟨e, k, o, exactProduct s e o false⟩
  | .macf e k o => some ⟨e, k, o, (s.engX e).a[k].toInt + exactProduct s e o true⟩
  | .maci e k o => some ⟨e, k, o, (s.engX e).a[k].toInt + exactProduct s e o false⟩
  | .msuf e k o => some ⟨e, k, o, (s.engX e).a[k].toInt - exactProduct s e o true⟩
  | .msui e k o => some ⟨e, k, o, (s.engX e).a[k].toInt - exactProduct s e o false⟩
  | _ => none

/-- Two memory operands in the same half in SPLIT mode take one more clock (R197). -/
def bothInOneHalf (s : State) (e : Fin 17) (o : MacOps) : Nat :=
  match o.x, o.y with
  | .mem a, .mem b => if s.get (Reg.ENG_STATE_FETCH e) = 0 ∧ (4 ≤ a.p.val ↔ 4 ≤ b.p.val) then 1 else 0
  | _, _ => 0

/-- What an instruction of class 0x4 leaves in its accumulator: the engine, the accumulator, the exact result, the accumulators read,
and the memory operand, if any, with whether it is in DM (R193, R238). -/
structure AccRes where
  e : Fin 17
  k : Fin 2
  i : Int
  rd : List (Fin 2)
  m : Option MemOp

/-- The loads and sums of accumulators. -/
def accTable (s : State) : Instr → Option AccRes
  | .clr e k => some ⟨e, k, 0, [], none⟩
  | .ldaf e k (.reg d) => some ⟨e, k, (s.engX e).d[d].toInt * 2 ^ 32, [], none⟩
  | .ldaf e k (.mem m) => some ⟨e, k, (dmWord s e m (s.engX e)).toInt * 2 ^ 32, [], some m⟩
  | .ldai e k (.reg d) => some ⟨e, k, (s.engX e).d[d].toInt, [], none⟩
  | .ldai e k (.mem m) => some ⟨e, k, (dmWord s e m (s.engX e)).toInt, [], some m⟩
  | .lda64 e k (.pair i) => some ⟨e, k, ((s.engX e).rdPair i).toInt, [], none⟩
  | .lda64 e k (.mem m) => some ⟨e, k, (dmWord64 s e m (s.engX e)).toInt, [], some m⟩
  | .adda e k => some ⟨e, k, (s.engX e).a[k].toInt + (s.engX e).a[1 - k].toInt, [0, 1], none⟩
  | .suba e k => some ⟨e, k, (s.engX e).a[k].toInt - (s.engX e).a[1 - k].toInt, [0, 1], none⟩
  | .nega e k => some ⟨e, k, -(s.engX e).a[k].toInt, [k], none⟩
  | _ => none

/-- One clock where an accumulator that is read was written by the preceding instruction (R205). -/
def waitFor (x : EngX) (rd : List (Fin 2)) : Nat :=
  match x.lastAcc with
  | some k => if k ∈ rd then 1 else 0
  | none => 0

/-- `r` is `a` divided by 2^q, rounded to nearest, halves to even (R206). -/
def RoundsTo (a : Int) (q : Nat) (r : Int) : Prop :=
  2 * |r * 2 ^ q - a| ≤ 2 ^ q ∧ (2 * |r * 2 ^ q - a| = 2 ^ q → r % 2 = 0)

/-- `r` is the integer nearest to `v`, halves to even (R247). -/
def NearestTo (v : Rat) (r : Int) : Prop := 2 * |(r : Rat) - v| ≤ 1 ∧ (2 * |(r : Rat) - v| = 1 → r % 2 = 0)

/-- What a store of `w` bits stores for the rounded value `r` (R206, R207). -/
def stores (w : Nat) (sat : Bool) (r : Int) : BitVec w :=
  if sat && outOf w r then .ofInt w (if 0 < r then 2 ^ (w - 1) - 1 else -2 ^ (w - 1)) else .ofInt w r

/-- The Roll levels that a taken jump to `t` leaves: no level, and none inside it, whose block does not hold `t` (R213). -/
def LeavesLevels (t : Nat) (old new : List RollLvl) : Prop :=
  ∃ gone, old = gone ++ new ∧ (∀ l ∈ new, l.has t = true) ∧ (∀ l, gone.getLast? = some l → l.has t = false)

/-! ### Loop engines as units -/

/-- An engine that has stopped: nothing runs, nothing is staged, nothing is left to start (R160, R166). -/
def EngX.stopped (x : EngX) : EngX := { x with running := false, staged := [], fastDone := true, slowDue := false, roll := [] }

/-- The register fields that a failure of engine `e` writes (R166, Table ENG-9). -/
def failFlds (e : Nat) : List Fld :=
  [Reg.ENG_FAIL_CAUSE e, Reg.ENG_FAIL_PC e, Reg.ENG_FAIL_NTIME e, Reg.ENG_STATE_STATE e, Reg.ENG_STATE_GROUP e, Reg.ENG_STATE_GVALID e]

/-- Engine `e` has failed with a cause: FAIL shows it with the PM address and NTIME, the engine has stopped and is in QUARANTINE, or OFF
after TEST_FAIL, for no group (R166, R183). -/
def FailedAs (s t : State) (e cause : Nat) : Prop :=
  t.get (Reg.ENG_FAIL_CAUSE e) = cause ∧ t.get (Reg.ENG_FAIL_PC e) = (s.engX e).pc ∧ t.get (Reg.ENG_FAIL_NTIME e) = s.ntime ∧
    t.get (Reg.ENG_STATE_STATE e) = (if cause = 7 then esOff else esQuarantine) ∧ t.get (Reg.ENG_STATE_GVALID e) = 0 ∧
    t.engX e = (s.engX e).stopped

/-- The engine right after code has been started at `pc`: every register zero, Roll empty (R192). -/
def EngX.started (x : EngX) (kind pc : Nat) : EngX :=
  { x with d := Vector.replicate 8 0, a := Vector.replicate 2 0, p := Vector.replicate 8 0, m := Vector.replicate 4 0,
           l := Vector.replicate 4 0, sr := 0, roll := [], lastAcc := none, pc := pc, running := true, kind := kind }

/-- Every byte of memory outside the `n` bytes from address `a` is the same. -/
def MemKept (s t : State) (a n : Nat) : Prop := ∀ b, ¬ (a ≤ b ∧ b < a + n) → t.rdByte b = s.rdByte b

/-! ### Bexic messages -/

/-- A message with opcode `op` passes every check of Table BXP-3 in STANDBY, OPERATE or SAFE_HOLD and is executed. -/
structure Accepted (s : State) (op : Nat) (m : Msg) : Prop where
  awake : s.awake = true
  live : s.live = true
  here : s.route m = m
  version : m.version = 1
  crc : m.crc.toNat = msgCrc op m
  len : m.len.toNat = m.payload.length
  short : m.payload.length ≤ 1400
  flags : m.flags.toNat < 8
  whole : bit m.flags.toNat 1 = true ∧ bit m.flags.toNat 2 = true
  group : m.group.toNat = groupByte m.ep
  listed : m.ep.val = 16 → s.listed m.src = true
  known : op ∈ knownOps
  allowed : m.ep.val < 16 → op ∉ deviceOps
  grouped : m.ep.val = 16 → op ∉ groupOps
  rate : s.awaitCount m.ep < 32
  session : 1 < op → s.inSession m = true
  fresh : 1 < op → s.get (Reg.SYS_BXP_LAST_SEQ m.ep) < m.seq.toNat
  size : lengthOk op m = true
  fields : fieldBad op m (s.consume op m) = none

/-- Command `c` leads to the state `u`, whose answer with a status, a detail byte and a payload then leaves (MessageAnswers). -/
def Answers (s : State) (c : Instr) (op : Nat) (m : Msg) (u : State) (st detail : Nat) (body : List Byte) : Prop :=
  exec c s = .next (State.finish op m { s := u, status := st, detail := detail, body := body })

/-- An answer that also counts as a protocol violation (R504). -/
def Violates (s : State) (c : Instr) (op : Nat) (m : Msg) (u : State) (st : Nat) (body : List Byte) : Prop :=
  exec c s = .next (State.finish op m { s := u, status := st, detail := 0, body := body, proto := true })

/-- A kind B command is consumed and waits for its slow boundary (R512); `fs` are register fields it writes at once. -/
def Waits (s : State) (c : Instr) (op : Nat) (m : Msg) (fs : List Fld) : Prop :=
  ∃ t, exec c s = .next t ∧ t.awaiting = s.awaiting ++ [⟨op, m, s.clk⟩] ∧ t.get (Reg.SYS_BXP_LAST_SEQ m.ep) = m.seq.toNat ∧
    (t.sessX m.ep).lastStatus = 256 ∧ Only [.regs, .sess, .awaiting] s t ∧
    RegsKept s t ([Reg.SYS_BXP_RX_MSG m.ep, Reg.SYS_BXP_LAST_SEQ m.ep] ++ fs)

/-- The kind B command that waits alone takes effect at its boundary: it leads to `u`, whose answer then leaves. -/
def TakesEffect (s : State) (op : Nat) (m : Msg) (u : State) (st : Nat) (body : List Byte) : Prop :=
  s.effects = State.finish op m { s := u, status := st, detail := 0, body := body }

/-- Where the kind B command waits alone, consumed before the clock of the boundary (R17), its effect at the boundary leads to a state with `P`, with a status and, with OK, the NTIME of
the boundary at the head of the payload (R512, R513). -/
def AtBoundary (op : Nat) (pre : State → Msg → Prop) (st : Nat) (P : State → Msg → State → Prop) : Prop :=
  ∀ s m k, s.awaiting = [⟨op, m, k⟩] → k < s.clk → pre s m →
    ∃ u body, TakesEffect s op m u st body ∧ P s m u ∧ u.awaiting = [] ∧ (st = stOk → body.take 8 = leBytes 8 s.ntime)

/-- A command is refused at its boundary: nothing else happens. -/
def BoundaryRefuses (op : Nat) (pre : State → Msg → Prop) (st : Nat) : Prop := AtBoundary op pre st (fun s _ u => Only [.awaiting] s u)

/-- A command is consumed, waits where it is accepted, and takes effect at its boundary. -/
def ActsAtBoundary (c : Msg → Instr) (op : Nat) (fs : List Fld) (pre : State → Msg → Prop) (st : Nat) (P : State → Msg → State → Prop) : Prop :=
  (∀ s m, Accepted s op m → Waits s (c m) op m fs) ∧ AtBoundary op pre st P

/-! ### Start attempts -/

/-- Why LOADING is to be entered now: the rail is stable after DORMANT, or an entry is pending in LOADING (Table PWR-8). -/
def LoadingCause (s : State) (c : Nat) : Prop :=
  s.flt.clockLost = false ∧ (s.mode = modeDormant ∧ s.bk.onVbak = false ∧ c = (if s.bk.lost then 0 else 1) ∨
    s.mode = modeLoading ∧ s.start.entry = some c)

/-- The attempt has concluded as a failure with a code and a wake cause (R82, R106): counted to 3, no attempt open, FALLBACK at the third,
otherwise another LOADING entry with cause 3. -/
def FailureCounted (s t : State) (code cause : Nat) : Prop :=
  t.get (Reg.SYS_BKREG 0) % 16 = min (s.failCount + 1) 3 ∧ bit (t.get (Reg.SYS_BKREG 0)) 8 = false ∧
    t.get (Reg.SYS_BKREG 1) = code + min (s.failCount + 1) 3 * 256 + cause * 4096 ∧
    (2 ≤ s.failCount → t.mode = modeFallback ∧ t.start = {} ∧ t.get (Reg.CAN_CTL 0) = 1 ∧ t.get (Reg.CAN_CTL 1) = 0 ∧
      t.get (Reg.ETH_PORT_CTL_EN 0) = 1 ∧ t.get (Reg.ETH_PORT_CTL_EN 1) = 0) ∧
    (s.failCount < 2 → t.mode = modeLoading ∧ t.start.entry = some 3 ∧ t.start.accepted = none)

/-! ### Motion commands -/

/-- The group is in a state, and no power sequence of its axes runs (R287). -/
def State.stands (s : State) (n st : Nat) : Prop := s.gstate n = st ∧ s.flag (Reg.GRP_STATE_POWERING n) = false

/-- The group executes a motion command: MOVING or ENABLED, its power sequences complete (Table SET-2). -/
def State.MayMove (s : State) (n : Nat) : Prop := s.stands n gsMoving ∨ s.stands n gsEnabled

/-- The group executes a path command (Table SET-2). -/
def State.MayPath (s : State) (n : Nat) : Prop := s.MayMove n ∨ s.stands n gsHeld ∨ s.stands n gsTakeover

/-- A motion command names an axis of its group. -/
def NamesAxis (s : State) (m : Msg) : Prop := m.ep.val < 16 ∧ m.u8 0 ∈ s.axesOf m.ep

/-- Where the axis of a move comes to rest at the earliest, with deceleration `d` and jerk `j` (R296). -/
def restPoint (s : State) (x : Nat) (d j : Int) : Rat :=
  (kinEnd (stopPlan (s.axisKin x).v (s.axisKin x).a (ofQ d) (ofQ j)) (s.axisKin x).p (s.axisKin x).v).p

/-- The target of a move lies at or beyond the earliest point of rest, in the direction of motion (R296). -/
def ReachesAhead (s : State) (x : Nat) (target d j : Int) : Prop :=
  restPoint s x d j = (s.axisKin x).p ∨ (s.axisKin x).p < restPoint s x d j ∧ restPoint s x d j ≤ ofQ target ∨
    restPoint s x d j < (s.axisKin x).p ∧ ofQ target ≤ restPoint s x d j

/-- What a MOVE asks for: target (relative with `rel`), then velocity, acceleration, deceleration and jerk limits (R284, R293). -/
def moveAsks (s : State) (m : Msg) (rel : Bool) : Int × Int × Int × Int × Int :=
  let x := m.u8 0
  let v := (m.posq (bit (m.u8 1) 0) 8).getD 0
  (if rel then s.relTarget x v else v, ceilOr (s.getI (Reg.AXIS_V_MAX x)) (m.f64q 16), ceilOr (s.getI (Reg.AXIS_A_MAX x)) (m.f64q 24),
    ceilOr (s.getI (Reg.AXIS_D_MAX x)) (m.f64q 32), ceilOr (s.getI (Reg.AXIS_J_MAX x)) (m.f64q 40))

/-- A move that the group executes, whose target fits the number range. -/
def MoveRuns (rel : Bool) (s : State) (m : Msg) : Prop :=
  NamesAxis s m ∧ s.MayMove m.ep ∧ s.otherBusy m.ep (m.u8 0) = false ∧
    -(2 ^ 63) ≤ (moveAsks s m rel).1 ∧ (moveAsks s m rel).1 < 2 ^ 63

/-- Axis `x` follows a move to the target with the limits that the message asks for; no other axis and no other register has changed but
those of `fs`. -/
def MoveStarted (rel : Bool) (s : State) (m : Msg) (u : State) (fs : List Fld) : Prop :=
  let x := m.u8 0
  let q := moveAsks s m rel
  u.get (Reg.AXIS_SRC_SOURCE x) = 0 ∧ u.getI (Reg.AXIS_TARGET x) = q.1 ∧
    (∃ p, (u.axisX x).plan = some p ∧ p.kind = .move ∧ p.target = q.1 ∧ p.n = 0 ∧ p.lv = q.2.1 ∧ p.la = q.2.2.1 ∧ p.ld = q.2.2.2.1 ∧
      p.lj = q.2.2.2.2 ∧ p.p = (s.axisKin x).p ∧ p.v = (s.axisKin x).v ∧ (u.flag (Reg.AXIS_SRC_ACTIVE x) = true ↔ 0 < kinTime p.segs) ∧
      (u.flag (Reg.AXIS_SRC_REVERSING x) = true ↔ 0 < p.rev)) ∧
    (∀ k, k ≠ x → u.axisX k = s.axisX k) ∧
    RegsKept s u ([Reg.AXIS_SRC_SOURCE x, Reg.AXIS_TARGET x, Reg.AXIS_SRC_ACTIVE x, Reg.AXIS_SRC_REVERSING x] ++ fs)

/-- The target of a move, its earliest point of rest and the reversal it would need: where it may go (R296, R317). -/
def MoveAhead (rel : Bool) (s : State) (m : Msg) : Prop :=
  ReachesAhead s (m.u8 0) (moveAsks s m rel).1 (moveAsks s m rel).2.2.2.1 (moveAsks s m rel).2.2.2.2

/-- Where the axis of a move comes to rest at the earliest, with the limits of the message. -/
def moveRest (rel : Bool) (s : State) (m : Msg) : Rat := restPoint s (m.u8 0) (moveAsks s m rel).2.2.2.1 (moveAsks s m rel).2.2.2.2

/-- A move that the group executes, with its target inside the soft limits. -/
def MoveInside (rel : Bool) (s : State) (m : Msg) : Prop :=
  MoveRuns rel s m ∧ s.beyondSoft (m.u8 0) (ofQ (moveAsks s m rel).1) = false

/-- A command is refused with LIMIT at its boundary for the position `p` beyond a soft limit of its axis, which a WARN reports (R317). -/
def SoftRefused (op : Nat) (pre : State → Msg → Prop) (p : State → Msg → Int) : Prop :=
  AtBoundary op pre stLimit (fun s m u => Only [.regs, .led, .awaiting] s u ∧ RegsKept s u ledgerFlds ∧
    Posted s u (s.evNow m.ep clsWarn 0x0009 true (u8s [m.u8 0, op, 0, 0, 0, 0, 0, 0] ++ leBytes 8 (ofInt 64 (p s m)))))

/-- What command `c` with opcode `op`, a MOVE_ABS or with `rel` a MOVE_REL, does at its boundary (R293-R296): it starts the move; a
target beyond a soft limit, and a point of rest beyond one that a reversal needs, are refused and reported; a reversal is refused where
the axis refuses reversals, and otherwise counted and reported. -/
def MoveActs (rel : Bool) (c : Msg → Instr) (op : Nat) : Prop :=
  ActsAtBoundary c op [] (fun s m => MoveInside rel s m ∧ MoveAhead rel s m) stOk
    (fun s m u => MoveStarted rel s m u [] ∧ Only [.regs, .axis, .awaiting] s u) ∧
  SoftRefused op (fun s m => MoveRuns rel s m ∧ s.beyondSoft (m.u8 0) (ofQ (moveAsks s m rel).1) = true) (fun s m => (moveAsks s m rel).1) ∧
  SoftRefused op (fun s m => MoveInside rel s m ∧ ¬ MoveAhead rel s m ∧ s.beyondSoft (m.u8 0) (moveRest rel s m) = true)
    (fun s m => q24 (moveRest rel s m)) ∧
  BoundaryRefuses op (fun s m => MoveInside rel s m ∧ ¬ MoveAhead rel s m ∧ s.beyondSoft (m.u8 0) (moveRest rel s m) = false ∧
    s.flag (Reg.AXIS_LIM_CFG_REJECT_REVERSE (m.u8 0)) = true) stWouldReverse ∧
  AtBoundary op (fun s m => MoveInside rel s m ∧ ¬ MoveAhead rel s m ∧ s.beyondSoft (m.u8 0) (moveRest rel s m) = false ∧
    s.flag (Reg.AXIS_LIM_CFG_REJECT_REVERSE (m.u8 0)) = false) stOk
    (fun s m u => ∃ dist turn : Int, turn = q24 (moveRest rel s m) ∧ dist = q24 |moveRest rel s m - (s.axisKin (m.u8 0)).p| ∧
      MoveStarted rel s m u ([Reg.AXIS_REV_COUNT (m.u8 0), Reg.AXIS_LAST_OVERSHOOT (m.u8 0)] ++ ledgerFlds) ∧
      u.getI (Reg.AXIS_LAST_OVERSHOOT (m.u8 0)) = toInt 64 (ofInt 64 dist) ∧
      u.get (Reg.AXIS_REV_COUNT (m.u8 0)) = min 65535 (s.get (Reg.AXIS_REV_COUNT (m.u8 0)) + 1) ∧
      Posted s u (s.evNow m.ep clsInfo 0x0006 true (u8s [m.u8 0, 0, 0, 0, 0, 0, 0, 0] ++ leBytes 8 (ofInt 64 dist)
        ++ leBytes 8 (ofInt 64 turn) ++ leBytes 8 (ofInt 64 (moveAsks s m rel).1))) ∧
      Only [.regs, .axis, .led, .awaiting] s u)

/-- The coupling registers of axis `x` (Table SET-5) show a coupling. -/
def ShowsCoupling (u : State) (x kind msrc midx : Nat) (cyclic cubic : Bool) (offset m0 clutch : Int) : Prop :=
  u.get (Reg.AXIS_CPL_CFG_KIND x) = kind ∧ u.get (Reg.AXIS_CPL_CFG_MSRC x) = msrc ∧ u.get (Reg.AXIS_CPL_CFG_MIDX x) = midx ∧
    u.flag (Reg.AXIS_CPL_CFG_CYCLIC x) = cyclic ∧ u.flag (Reg.AXIS_CPL_CFG_CUBIC x) = cubic ∧ u.getI (Reg.AXIS_CPL_OFFSET x) = offset ∧
    u.getI (Reg.AXIS_CPL_M0 x) = m0 ∧ u.getI (Reg.AXIS_CLUTCH x) = clutch

/-- Axis `x` follows an input (R314). -/
def Follows (s : State) (x : Nat) : Prop := s.get (Reg.AXIS_SRC_SOURCE x) = 3 ∧ s.get (Reg.AXIS_FOL_CFG_SRC x) ≠ 0xFF

/-- The register fields of a coupling and its state. -/
def couplingFlds (x : Nat) : List Fld :=
  [Reg.AXIS_CPL_CFG_KIND x, Reg.AXIS_CPL_CFG_MSRC x, Reg.AXIS_CPL_CFG_MIDX x, Reg.AXIS_CPL_CFG_CYCLIC x, Reg.AXIS_CPL_CFG_CUBIC x,
    Reg.AXIS_CPL_OFFSET x, Reg.AXIS_CPL_M0 x, Reg.AXIS_CLUTCH x, Reg.AXIS_GEAR_NUM x, Reg.AXIS_GEAR_DEN x, Reg.AXIS_CAM_BASE x,
    Reg.AXIS_CAM_N x, Reg.AXIS_CAM_PERIOD x, Reg.AXIS_CAM_CYCLES x, Reg.AXIS_SRC_SOURCE x, Reg.AXIS_CPL_STAT_CLUTCH x, Reg.AXIS_CPL_STAT_U x, Reg.AXIS_SRC_ACTIVE x]

/-- The segments that a PATH_APPEND asks for, from where the queue ends (R300, R301). -/
def appended (s : State) (m : Msg) : List PathSeg :=
  segsFrom m (m.u8 0) (m.u8 0 + 1) 0 (s.pathTail m.ep).1 (s.pathTail m.ep).2 (s.grpX m.ep).feed

/-- A queue without what its segments leave for the blends behind them. -/
def noRooms (l : List PathSeg) : List PathSeg := l.map (fun g => { g with room := 0 })

/-- The way to rest of a group's path with A_PATH and J_PATH (R301). -/
def State.pathStop (s : State) (n : Nat) : List KSeg :=
  stopPlan (s.grpX n).pv (s.grpX n).pa (s.getQ (Reg.GRP_A_PATH n)) (s.getQ (Reg.GRP_J_PATH n))

/-- The register fields that show a path (Table SET-6). -/
def pathFlds (n : Nat) : List Fld :=
  [Reg.GRP_ARC_END n, Reg.GRP_QUEUE n, Reg.GRP_PLANNED n, Reg.GRP_ARC_POS n, Reg.GRP_PATH_VEL n, Reg.GRP_SEG_TAG n, Reg.GRP_STATE_PATH_RUN n]

/-! ### Entries of the coordinate schedulers -/

/-- A saturating counter field has counted one more. -/
def Counted (s t : State) (f : Fld) : Prop := t.get f = (s.inc f).get f

/-- The entry at place `i` of group `n`'s window, of action `act`, is the next one of this clock, in which the group still acts (R331,
R334). -/
def State.EntryDue (s : State) (n i act : Nat) (w : WEntry) : Prop :=
  (s.claveX n).win[i]? = some w ∧ w.e.act = act ∧ s.isNext n i = true ∧ (s.claveX n).acts s.clk < 8

/-- The entry at place `i` has left the window, and with `done` it counts as executed; the other entries of the window, the queue and the
schedulers of other groups are as they were (R333, R340). -/
def EntryLeft (s t : State) (n i : Nat) (done : Bool) : Prop :=
  (t.claveX n).win.map WEntry.e = ((s.claveX n).win.map WEntry.e).eraseIdx i ∧ (t.claveX n).queue = (s.claveX n).queue ∧
    t.get (Reg.CLAVE_EXECUTED n) =
      (if done then (s.get (Reg.CLAVE_EXECUTED n) + 1) % 2 ^ 32 else s.get (Reg.CLAVE_EXECUTED n)) ∧
    ∀ k, k ≠ n → t.claveX k = s.claveX k

/-- Command `c` executes an entry of action `act` that is due, where `pre` holds, with the effect `P`. Where it is neither late nor
recorded, nothing else has changed but the components `cs` and the register fields `fs`. -/
def EntryRuns (c : Fin 16 → Fin 1024 → Instr) (act : Nat) (done : Bool) (cs : List Comp) (fs : Nat → WEntry → List Fld)
    (pre : State → Nat → WEntry → Prop) (P : State → State → Nat → WEntry → Prop) : Prop :=
  ∀ (s : State) (n : Fin 16) (i : Fin 1024) (w : WEntry), s.EntryDue n i act w → pre s n w →
    ∃ t, exec (c n i) s = .next t ∧ EntryLeft s t n i done ∧ P s t n w ∧
      (w.late = 0 → s.flag (Reg.CLAVE_CFG_RECORD n) = false → Only (.regs :: .clave :: cs) s t ∧
        RegsKept s t ([Reg.CLAVE_PENDING n, Reg.CLAVE_QUEUED n, Reg.CLAVE_EXECUTED n] ++ fs n w))

/-- The entry is the one action of this clock on a fast output of its group that Clave may drive (R338, R345). -/
def State.OneAction (s : State) (n : Nat) (w : WEntry) : Prop :=
  w.out = none ∧ w.e.target < 8 ∧ s.hoGroup w.e.target = some n ∧ s.hoForced w.e.target = false ∧
    (s.hoActions n w.e.target).length = 1

/-- ON actions on the output are executed (R339, R340). -/
def State.OnAllowed (s : State) (n k : Nat) : Prop :=
  s.flag (Reg.CLAVE_HO_STATE_BLOCKED n k) = false ∧ s.onBlocked n = false

/-- The other fast outputs are as they were. -/
def OtherHosKept (s t : State) (k : Nat) : Prop := ∀ j, j < 8 → j ≠ k → t.hoX j = s.hoX j ∧ t.hoOn j = s.hoOn j

/-- Output HOk of group `n` is OFF, and so are its mirrors and its limits (R339). -/
def HoIsOff (t : State) (n k : Nat) : Prop :=
  t.hoOn k = false ∧ t.get (Reg.CLAVE_HO_STATE_ON n k) = 0 ∧ (t.hoX k).byClave = false ∧ (t.hoX k).offAt = none

/-- Clave has turned output HOk of group `n` on at the present clock; for its limits the entry's coordinate counts, or the present one
where the entry acts later than its crossing (R339). -/
def HoTurnedOn (s t : State) (n k : Nat) (w : WEntry) : Prop :=
  t.hoOn k = true ∧ t.get (Reg.CLAVE_HO_STATE_ON n k) = 1 ∧ (t.hoX k).byClave = true ∧ (t.hoX k).onClk = s.clk ∧
    (t.hoX k).offAt = none ∧ (t.hoX k).onCoord = (if w.at_.isSome then s.coordAt n s.clk else w.e.coord)

/-- A group fault with code `code` is raised in group `n`: where the image gives it a reaction, it is latched (R546). -/
def Raised (s t : State) (n code : Nat) : Prop :=
  1 ≤ s.reactOf n code → bit (t.get (Reg.FAULT_GRP_LATCH n)) (code - 1) = true

/-! ### Latch units -/

/-- An edge at clock `c` finds latch unit `u` ready to capture it (R346, R348, R350). -/
def State.CanCapture (s : State) (u c : Nat) : Prop :=
  u < 32 ∧ (s.snareGroup u).isSome ∧ s.armedAt u c = true ∧ (s.snareX u).hold ≤ c ∧ (s.snareX u).pend.length < 4

/-- Unit `u` has captured an edge of clock `c`: what R349 records of it waits for completion, a ONESHOT unit is no longer armed, a CONTINUOUS
one ignores edges for HOLDOFF (R348, R350). -/
def Captured (s t : State) (u c : Nat) (rising : Bool) (aux : Option Int) : Prop :=
  (∃ e, (t.snareX u).pend = (s.snareX u).pend ++ [e] ∧ e.clk = c ∧ e.ntime = s.ntimeAt c ∧ e.rising = rising ∧ e.aux = aux ∧
    ∀ n, s.snareGroup u = some n → e.coord = s.coordAt n c ∧ e.cmd = (s.axesOf n).map (fun y => s.cmdAt y c) ∧
      e.bad = (s.axesOf n).any s.actBad) ∧
  t.get (Reg.SNARE_STAT_PENDING u) = (s.snareX u).pend.length + 1 ∧
  (s.flag (Reg.SNARE_STAT_ARMED u) = true → (s.snareX u).ta ≤ c →
    if s.flag (Reg.SNARE_STAT_MODE u) then (t.snareX u).hold = c + s.get (Reg.SNARE_HOLDOFF u) else t.get (Reg.SNARE_STAT_ARMED u) = 0)

/-- An edge of clock `c` has reached latch unit `u`, which was up: outside its armed intervals nothing happens, within HOLDOFF the edge is
counted, with four pending it is an overrun, and otherwise it is captured (R348, R350). -/
def EdgeReaches (s t : State) (u c : Nat) (rising : Bool) (aux : Option Int) : Prop :=
  (s.CanCapture u c → Captured s t u c rising aux) ∧
  (s.snareGroup u = none ∨ s.armedAt u c = false → t.snareX u = s.snareX u) ∧
  ((s.snareGroup u).isSome → s.armedAt u c = true → c < (s.snareX u).hold →
    t.snareX u = s.snareX u ∧ Counted s t (Reg.SNARE_HOLDOFF_MISS u)) ∧
  ((s.snareGroup u).isSome → s.armedAt u c = true → (s.snareX u).hold ≤ c → 4 ≤ (s.snareX u).pend.length →
    t.snareX u = s.snareX u ∧ Counted s t (Reg.SNARE_OVERRUN u))

/-- An edge of a source at clock `c` reaches the latch units that the image connects to it with its direction, and no other (R346). -/
def EdgeServes (s t : State) (kind sel c : Nat) (rising : Bool) (aux : Option Int) : Prop :=
  ∀ u, u < 32 →
    if s.get (Reg.SNARE_CFG_KIND u) = kind ∧ s.get (Reg.SNARE_CFG_SEL u) = sel ∧
        bit (s.get (Reg.SNARE_CFG_EDGE u)) (if rising then 0 else 1) = true then EdgeReaches s t u c rising aux
    else t.snareX u = s.snareX u

/-- The register fields that an edge can change. -/
def edgeFlds : List Fld :=
  (List.range 32).flatMap (fun u => [Reg.SNARE_STAT_PENDING u, Reg.SNARE_STAT_ARMED u, Reg.SNARE_HOLDOFF_MISS u, Reg.SNARE_OVERRUN u])

/-! ### Feedback ports -/

/-- Port `p` has raised a fault with a cause: it is invalid, a relative port loses its reference after a disturbance of what it counts,
its group's fault is raised, and no axis that it serves is powered (R376, R379, R552). -/
def PortFaulted (s t : State) (p cause : Nat) : Prop :=
  t.get (Reg.FB_STAT_FAULT p) = 1 ∧ t.get (Reg.FB_STAT_CAUSE p) = cause ∧ t.get (Reg.FB_STAT_VALID p) = 0 ∧
    Counted s t (Reg.FB_FAULTS p) ∧
    (relative (s.get (Reg.FB_CFG_TYPE p)) = true → cause ∈ [1, 4, 6] → t.get (Reg.FB_STAT_REF_LOST p) = 1) ∧
    ∀ n, s.fbGroup p = some n → Raised s t n (causeCode cause) ∧ ∀ x ∈ s.servedBy p, t.get (Reg.AXIS_SRC_POWERED x) = 0

/-- A read of an absolute port has failed: it is stale and counted, and at ERR_LIMIT in a row the port raises a fault with `cause` unless
it holds one; otherwise no register has changed but these and `fs` (R374). -/
def ReadFailed (s t : State) (p cause : Nat) (fs : List Fld) : Prop :=
  t.get (Reg.FB_STAT_STALE p) = 1 ∧ Counted s t (Reg.FB_ERRORS p) ∧ (t.fbX p).fails = (s.fbX p).fails + 1 ∧
    if s.get (Reg.FB_FILT_ERR_LIMIT p) ≤ (s.fbX p).fails + 1 ∧ s.flag (Reg.FB_STAT_FAULT p) = false then PortFaulted s t p cause
    else Only [.regs, .fb] s t ∧ RegsKept s t ([Reg.FB_STAT_STALE p, Reg.FB_ERRORS p] ++ fs)

/-- No feedback port but `p` has changed. -/
def OtherPortsKept (s t : State) (p : Nat) : Prop := ∀ k, k ≠ p → t.fbX k = s.fbX k

/-- The register fields that show what the output sets do (Table FIO-1). -/
def outFlds : List Fld := (List.range 16).flatMap (fun j => [Reg.FIELD_DO_STAT_OUT j, Reg.FIELD_DO_STAT_SAFE_ACTIVE j])

/-! ### Ethernet -/

/-- Command `c` raises a counter field and changes nothing else. -/
def CountsOnly (s : State) (c : Instr) (f : Fld) : Prop := ∃ t, exec c s = .next t ∧ Counted s t f ∧ OnlyRegs s t [f]

/-- A port with a link has room for a frame of `len` bytes with its FCS in a class (R422, R423). -/
def State.HasRoom (s : State) (p cls len : Nat) : Prop :=
  s.flag (Reg.ETH_PORT_STAT_LINK p) = true ∧
    if cls = 7 then bufUse true (s.ethX p).queue + len ≤ 16384 else bufUse false (s.ethX p).queue + len ≤ 245760

/-- A frame has joined the end of a port's queue (R420). -/
def Queued (s t : State) (p cls : Nat) (bytes : List Byte) (follow : Option PtpFollow) : Prop :=
  (t.ethX p).queue = (s.ethX p).queue ++ [{ cls := cls, len := bytes.length + 4, bytes := bytes, blk := none, follow := follow }]

/-- Where the port has room, an 802.1AS message of a type and sequenceId has joined its queue in class 6, with what follows it
(R420, R424). -/
def SendsPtp (s t : State) (p typ seq : Nat) (follow : Option PtpFollow) : Prop :=
  s.HasRoom p 6 1600 → ∃ bytes, Queued s t p 6 bytes follow ∧ beAt bytes 0 6 = 0x0180C200000E ∧ beAt bytes 6 6 = s.ownMac ∧
    beAt bytes 12 2 = 0x88F7 ∧ byteAt bytes 14 = 0x10 + typ ∧ beAt bytes 44 2 = seq % 65536

/-! ### Cells and drives -/

/-- What a trip cause sets and reports: the cause bit, the group fault code, and its detail (R262, Tables LOP-2 and FLT-1). -/
def tripRow (c : TripCause) (x : Nat) (v : BitVec 32) : Fld × Nat × Nat :=
  match c with
  | .oc => (Reg.CUR_STAT_OC x, 0x03, v.toNat)
  | .sum => (Reg.CUR_STAT_SUM x, 0x04, v.toNat)
  | .psFlt => (Reg.CUR_STAT_PS_FLT x, 0x05, 0)
  | .sdLoss => (Reg.CUR_STAT_SD_LOSS x, 0x06, v.toNat)

/-- The drive of network axis `y` of group `n` is LOST (Table LOP-4). -/
def DriveLost (s t : State) (y n : Nat) : Prop :=
  t.get (Reg.AXIS_NET_STAT_DSTATE y) = 3 ∧ t.get (Reg.AXIS_NET_STAT_SYNC_CNT y) = 0 ∧ t.get (Reg.AXIS_SRC_POWERED y) = 0 ∧
    (1 ≤ s.reactOf n 0x0B → bit (t.get (Reg.FAULT_GRP_LATCH n)) 10 = true)

/-! ### Responses -/

/-- The commands that arrive as messages, with their opcodes. -/
def messageCommands (m : Msg) : List (Nat × Instr) :=
  [(0x00, .sessionOpen m), (0x01, .ping m), (0x02, .readReg m), (0x03, .writeReg m), (0x04, .readBlock m), (0x05, .writeBlock m),
   (0x10, .arm m), (0x11, .disarm m), (0x12, .groupEnable m), (0x13, .groupDisable m), (0x14, .hold m), (0x15, .resume m), (0x16, .stop m),
   (0x20, .moveAbs m), (0x21, .moveRel m), (0x22, .jog m), (0x23, .pathAppend m), (0x24, .pathFlush m), (0x25, .followSet m),
   (0x26, .gearSet m), (0x27, .camSet m), (0x30, .coefWrite m), (0x31, .coefSwap m), (0x40, .claveAppend m), (0x41, .claveFlush m),
   (0x42, .snareArm m), (0x43, .snareRead m), (0x50, .bufAlloc m), (0x51, .bufFree m), (0x60, .ledgerRead m), (0x61, .eventSubscribe m),
   (0x62, .clearFault m), (0x70, .engineTest m), (0x71, .engineMigrate m), (0x72, .fieldResume m), (0x73, .canRecover m),
   (0x74, .i2cXfer m), (0x74, .i2cBusRecovery m), (0x7D, .clearStartCount m), (0x7E, .imageWriteErase m), (0x7E, .imageWriteBegin m),
   (0x7E, .imageWriteData m), (0x7E, .imageWriteCommit m), (0x7E, .imageWriteAbort m), (0x7F, .restart m)]

/-- The response to a message with a status word and a payload (R502). -/
def responseTo (op : Nat) (m : Msg) (tag st detail : Nat) (body : List Byte) : OutMsg :=
  { ep := m.ep, dst := m.src, opcode := op ||| 0x80, group := m.group.toNat, seq := m.seq.toNat, tag := tag,
    payload := u8s [st, detail, 0, 0] ++ body }

/-- A message is refused with a status: nothing of it is consumed, one answer leaves, and a violation is counted. -/
def Refused (s : State) (c : Instr) (op : Nat) (m : Msg) (tag st : Nat) (body : List Byte) : Prop :=
  ∃ t, exec c s = .next t ∧ t.outbox = responseTo op m tag st 0 body :: s.outbox ∧ t.awaiting = s.awaiting ∧ t.sess = s.sess ∧
    t.get (Reg.SYS_BXP_LAST_SEQ m.ep) = s.get (Reg.SYS_BXP_LAST_SEQ m.ep) ∧
    t.get (Reg.SYS_BXP_RX_MSG m.ep) = s.get (Reg.SYS_BXP_RX_MSG m.ep) ∧
    t.get (Reg.SYS_BXP_PROTO m.ep) = min 65535 (s.get (Reg.SYS_BXP_PROTO m.ep) + 1)

end Sys2Proof.Machine
end

