-- ==== Sys2Proof/Certificates/Slice0/Obligations.lean ====
section
/-!
DEFINITION. Obligations.lean: what is claimed of the model, for the provers.
-/
open Sys2Proof Sys2Proof.Machine

/-- A step runs the command at the front of the queue (95_what_each_step_holds.md). -/
def Obligations.StepRunsFrontCommand : Prop :=
  ∀ (c : Instr) (r : List Instr) (s : State), step { s with pending := c :: r } = exec c { s with pending := r }

/-- With nothing in the queue a step lets one main clock of 2.5 ns pass (the model's choice, log 1): RTC, NTIME and the count of a start
attempt go on, and what has been issued to the pool unit reaches it (01_architecture.md, 02_power_and_modes.md,
04_groups_and_memory.md). -/
def Obligations.EmptyQueueLetsOneClockPass : Prop :=
  ∀ s : State, s.pending = [] → ∃ t, step s = .next t ∧ t.pending = [] ∧
    t.bk.rtc * 6250000 + t.bk.sub = (if 6250000 ≤ s.bk.sub + 512 then (s.bk.rtc + 1) % 2 ^ 48 * 6250000 + (s.bk.sub + 512 - 6250000)
      else s.bk.rtc * 6250000 + s.bk.sub + 512) ∧
    t.clk = (if s.awake then s.clk + 1 else s.clk) ∧
    (s.eth.frac = 0 → s.get Reg.ETH_PTP_RATE = 0 → t.ntimeH = if s.awake then s.ntimeH + 5 else s.ntimeH) ∧
    (s.awake = true → t.pool.asks = [] ∧ t.pool.frees = []) ∧
    (s.pool.asks = [] → s.pool.frees = [] → (∀ p, p < 16 → (s.fbX p).check = none) →
      t = { s with regs := t.regs, clk := t.clk, ntimeH := t.ntimeH, start := { s.start with held := t.start.held },
                   eth := { s.eth with frac := t.eth.frac }, bk := { s.bk with rtc := t.bk.rtc, sub := t.bk.sub } } ∧
      RegsKept s t [Reg.SYS_START_STAT_HELD_S]) ∧
    (∀ n b, s.awake = true → n < 16 → b < 65536 → s.pool.asks = [] → s.pool.frees = [(n, b)] → s.owner b = n →
      (∀ p, p < 16 → (s.fbX p).check = none) → s.get Reg.POOL_STAT_FREE_TOTAL < 65536 → s.get (Reg.POOL_GRP_USED n) < 131072 →
      t.owner b = holderFree ∧ (∀ j, j ≠ b → t.owner j = s.owner j) ∧
      t.get Reg.POOL_STAT_FREE_TOTAL = s.get Reg.POOL_STAT_FREE_TOTAL + 1 ∧ t.get (Reg.POOL_GRP_USED n) = s.get (Reg.POOL_GRP_USED n) - 1)

/-- Every step answers a next state, takes one command from the queue and keeps the invariant (04_groups_and_memory.md,
17_ledger.md, 02_power_and_modes.md). -/
def Obligations.StepKeepsInvariant : Prop :=
  ∀ s : State, s.Inv → ∃ t, step s = .next t ∧ t.Inv ∧ t.pending = s.pending.tail

/-- The state after reset has the invariant (01_architecture.md, 02_power_and_modes.md). -/
def Obligations.ResetHasInvariant : Prop := State.reset.Inv

/-- Every command is confined to the components of the state that its rules concern (95_what_each_step_holds.md). -/
def Obligations.CommandsStayInTheirComponents : Prop :=
  ∀ (c : Instr) (s : State), s.Inv → ∃ t, exec c s = .next t ∧ Only (touched c) s t

/-- Class 0x2 computes the result and the flags of Table ISA-5, in both forms of B, and changes nothing else
(07_engine_instructions.md, 06_engine_datapath.md). -/
def Obligations.AluResultsAndFlags : Prop :=
  ∀ (c : Instr) (s : State) (q : AluRes), aluTable s c = some q → GoesOn s q.e →
    ∃ sr, EngineBecomes s q.e c { (s.engX q.e).after 1 none with
        d := (match q.d with | some d => (s.engX q.e).d.set d q.r | none => (s.engX q.e).d), sr := sr } ∧
      FlagsFrom (s.engX q.e).sr sr (decide (q.r = 0)) q.r.msb q.c q.v

/-- NOP, CLRSR, LDI, LDIU, LDIH, MOV and STEP change one register as R202, R209 and R232 say, and nothing else
(06_engine_datapath.md, 07_engine_instructions.md). -/
def Obligations.RegisterMoves : Prop :=
  ∀ (s : State) (e : Fin 17), GoesOn s e →
    EngineBecomes s e (.nop e) ((s.engX e).after 1 none) ∧
    EngineBecomes s e (.clrsr e) { (s.engX e).after 1 none with sr := 0 } ∧
    (∀ r imm, EngineBecomes s e (.ldi e r imm) (((s.engX e).after 1 none).written r (.ofInt 32 imm.toInt))) ∧
    (∀ r imm, EngineBecomes s e (.ldiu e r imm) (((s.engX e).after 1 none).written r (.ofNat 32 imm.toNat))) ∧
    (∀ d imm, EngineBecomes s e (.ldih e d imm) { (s.engX e).after 1 none with
        d := (s.engX e).d.set d (.ofNat 32 (imm.toNat * 2 ^ 16 + (s.engX e).d[d].toNat % 2 ^ 16)) }) ∧
    (∀ rd rs, EngineBecomes s e (.mov e rd rs) (((s.engX e).after 1 none).written rd ((s.engX e).source rs))) ∧
    (∀ m, EngineBecomes s e (.stepPtr e m) { (s.engX e).after 1 none with p := ptrAfter (stepLong m) (s.engX e) (s.engX e).p })

/-- A multiply leaves the exact 72-bit result in its accumulator, with its flags, pointers and clocks, and changes nothing else
(06_engine_datapath.md, 07_engine_instructions.md). -/
def Obligations.MultiplyAccumulate : Prop :=
  ∀ (c : Instr) (s : State) (q : MacRes), macTable s c = some q → GoesOn s q.e →
    inDmXY q.o.x (s.engX q.e) → inDmXY q.o.y (s.engX q.e) →
    ∃ sr, EngineBecomes s q.e c { (s.engX q.e).after (1 + bothInOneHalf s q.e q.o) (some q.k) with
        a := (s.engX q.e).a.set q.k (.ofInt 72 q.i), sr := sr,
        p := ptrAfterXY q.o.y (s.engX q.e) (ptrAfterXY q.o.x (s.engX q.e) (s.engX q.e).p) } ∧
      AccFlagsFrom (s.engX q.e).sr sr q.i

/-- Accumulator loads, sums and negation leave the exact result, with its flags and clocks, and change nothing else
(06_engine_datapath.md, 07_engine_instructions.md). -/
def Obligations.AccumulatorResults : Prop :=
  ∀ (c : Instr) (s : State) (q : AccRes), accTable s c = some q → GoesOn s q.e → (∀ m, q.m = some m → inDm m (s.engX q.e)) →
    ∃ sr, EngineBecomes s q.e c { (s.engX q.e).after (1 + waitFor (s.engX q.e) q.rd) (some q.k) with
        a := (s.engX q.e).a.set q.k (.ofInt 72 q.i), sr := sr,
        p := (match q.m with | some m => ptrAfter m (s.engX q.e) (s.engX q.e).p | none => (s.engX q.e).p) } ∧
      AccFlagsFrom (s.engX q.e).sr sr q.i

/-- STR rounds half to even and saturates only on request, into a D register, a pair or DM, and stores nowhere else
(06_engine_datapath.md, 07_engine_instructions.md). -/
def Obligations.AccumulatorStores : Prop :=
  ∀ (s : State) (e : Fin 17) (k : Fin 2) (sat : Bool) (q : BitVec 6), GoesOn s e →
    (∃ r, RoundsTo (s.engX e).a[k].toInt q.toNat r ∧
      (∀ d, ∃ sr, EngineBecomes s e (.str e k sat q (.reg d)) { (s.engX e).after (1 + waitFor (s.engX e) [k]) none with
          d := (s.engX e).d.set d (stores 32 sat r), sr := sr } ∧
        FlagsFrom (s.engX e).sr sr (decide (stores 32 sat r = 0)) (stores 32 sat r).msb none (some (outOf 32 r))) ∧
      (∀ i, ∃ sr, EngineBecomes s e (.str64 e k sat q (.pair i)) (({ (s.engX e).after (1 + waitFor (s.engX e) [k]) none with
          sr := sr } : EngX).wrPair i (stores 64 sat r)) ∧
        FlagsFrom (s.engX e).sr sr (decide (stores 64 sat r = 0)) (stores 64 sat r).msb none (some (outOf 64 r))) ∧
      (∀ m, inDm m (s.engX e) → ∃ t sr n, exec (.str e k sat q (.mem m)) s = .next t ∧ Only [.eng, .mem] s t ∧
        (∀ j, j ≠ e.val → t.engX j = s.engX j) ∧
        t.engX e = { (s.engX e).after n none with p := ptrAfter m (s.engX e) (s.engX e).p, sr := sr } ∧
        ((s.grpX (s.grpOf e)).snapRun = false → n = 1 + waitFor (s.engX e) [k]) ∧
        t.rdLE (dmOf s e m (s.engX e) false) 4 = (stores 32 sat r).toNat ∧
        (∀ a, (a < dmOf s e m (s.engX e) false ∨ dmOf s e m (s.engX e) false + 4 ≤ a) → t.rdByte a = s.rdByte a) ∧
        FlagsFrom (s.engX e).sr sr (decide (stores 32 sat r = 0)) (stores 32 sat r).msb none (some (outOf 32 r))) ∧
      (∀ m, inDm m (s.engX e) → ∃ t sr n, exec (.str64 e k sat q (.mem m)) s = .next t ∧ Only [.eng, .mem] s t ∧
        (∀ j, j ≠ e.val → t.engX j = s.engX j) ∧
        t.engX e = { (s.engX e).after n none with p := ptrAfter m (s.engX e) (s.engX e).p, sr := sr } ∧
        ((s.grpX (s.grpOf e)).snapRun = false → n = 1 + waitFor (s.engX e) [k]) ∧
        t.rdLE (dmOf s e m (s.engX e) true) 4 + t.rdLE (dmOf2 s e m (s.engX e)) 4 * 2 ^ 32 = (stores 64 sat r).toNat ∧
        (∀ a, (a < dmOf s e m (s.engX e) true ∨ dmOf s e m (s.engX e) true + 4 ≤ a) →
          (a < dmOf2 s e m (s.engX e) ∨ dmOf2 s e m (s.engX e) + 4 ≤ a) → t.rdByte a = s.rdByte a) ∧
        FlagsFrom (s.engX e).sr sr (decide (stores 64 sat r = 0)) (stores 64 sat r).msb none (some (outOf 64 r))))

/-- LD and LD64 from DM load the word or the pair into the register, after the pointer moved, and change nothing else
(06_engine_datapath.md, 07_engine_instructions.md). -/
def Obligations.LoadsFromDm : Prop :=
  ∀ (s : State) (e : Fin 17) (m : MemOp), GoesOn s e → inDm m (s.engX e) →
    (∀ r, EngineBecomes s e (.ld e r m)
      (({ (s.engX e).after 1 none with p := ptrAfter m (s.engX e) (s.engX e).p } : EngX).written r (dmWord s e m (s.engX e)))) ∧
    (∀ i, EngineBecomes s e (.ld64 e i m)
      (({ (s.engX e).after 1 none with p := ptrAfter m (s.engX e) (s.engX e).p } : EngX).wrPair i (dmWord64 s e m (s.engX e))))

/-- ST and ST64 into DM write the bytes at the operand's address and no other byte (06_engine_datapath.md,
07_engine_instructions.md). -/
def Obligations.StoresToDm : Prop :=
  ∀ (s : State) (e : Fin 17) (m : MemOp), GoesOn s e → inDm m (s.engX e) →
    (∀ r, ∃ t n, exec (.st e r m) s = .next t ∧ Only [.eng, .mem] s t ∧ (∀ j, j ≠ e.val → t.engX j = s.engX j) ∧
      t.engX e = { (s.engX e).after n none with p := ptrAfter m (s.engX e) (s.engX e).p } ∧
      ((s.grpX (s.grpOf e)).snapRun = false → n = 1) ∧
      t.rdLE (dmOf s e m (s.engX e) false) 4 = ((s.engX e).source r).toNat ∧
      (∀ a, (a < dmOf s e m (s.engX e) false ∨ dmOf s e m (s.engX e) false + 4 ≤ a) → t.rdByte a = s.rdByte a)) ∧
    (∀ i, ∃ t n, exec (.st64 e i m) s = .next t ∧ Only [.eng, .mem] s t ∧ (∀ j, j ≠ e.val → t.engX j = s.engX j) ∧
      t.engX e = { (s.engX e).after n none with p := ptrAfter m (s.engX e) (s.engX e).p } ∧
      ((s.grpX (s.grpOf e)).snapRun = false → n = 1) ∧
      t.rdLE (dmOf s e m (s.engX e) true) 4 + t.rdLE (dmOf2 s e m (s.engX e)) 4 * 2 ^ 32 = ((s.engX e).rdPair i).toNat ∧
      (∀ a, (a < dmOf s e m (s.engX e) true ∨ dmOf s e m (s.engX e) true + 4 ≤ a) →
        (a < dmOf2 s e m (s.engX e) ∨ dmOf2 s e m (s.engX e) + 4 ≤ a) → t.rdByte a = s.rdByte a))

/-- JMP, CALL and RET go where they say, leave the Roll levels they jump out of, and change nothing else (06_engine_datapath.md,
07_engine_instructions.md). -/
def Obligations.JumpsAndCalls : Prop :=
  ∀ (s : State) (e : Fin 17), s.executes e = true → (s.engX e).atEnd = false →
    (∀ cond target, condHolds cond (s.engX e).sr = true → ∃ roll, LeavesLevels target.toNat (s.engX e).roll roll ∧
      EngineBecomes s e (.jmp e cond target)
        { s.engX e with clk := (s.engX e).clk + 2, lastAcc := none, pc := target.toNat, roll := roll }) ∧
    (∀ cond target, condHolds cond (s.engX e).sr = false → (s.engX e).pc + 1 < 8192 →
      EngineBecomes s e (.jmp e cond target) { s.engX e with clk := (s.engX e).clk + 1, lastAcc := none, pc := (s.engX e).pc + 1 }) ∧
    (∀ target, ∃ roll, LeavesLevels target.toNat (s.engX e).roll roll ∧
      EngineBecomes s e (.call e target) { s.engX e with
        clk := (s.engX e).clk + 2, lastAcc := none, pc := target.toNat, roll := roll,
        p := (s.engX e).p.set 7 (.ofNat 16 ((s.engX e).pc + 1)) }) ∧
    (∃ roll, LeavesLevels ((s.engX e).p[7].toNat % 8192) (s.engX e).roll roll ∧
      EngineBecomes s e (.ret e) { s.engX e with
        clk := (s.engX e).clk + 2, lastAcc := none, pc := (s.engX e).p[7].toNat % 8192, roll := roll }) ∧
    (List.range 16).map (fun c => condHolds (.ofNat 4 c) (s.engX e).sr) =
      (let f := fun i => (s.engX e).sr.getLsbD i
       [true, f 0, !f 0, f 1, !f 1, f 1 != f 3, f 1 == f 3, !f 0 && f 1 == f 3, f 0 || f 1 != f 3, f 2, !f 2, f 3, !f 3, f 4, f 5, f 7])

/-- REP pushes a Roll level; the end of a level repeats it or pops it, and an enclosing level with the same end is tested next
(06_engine_datapath.md, 07_engine_instructions.md). -/
def Obligations.RollLoops : Prop :=
  (∀ (s : State) (e : Fin 17) (count : Nat) (endOff : BitVec 12) (c : Instr), s.executes e = true → (s.engX e).atEnd = false →
    ((∃ k : BitVec 16, c = .rep e k endOff ∧ count = k.toNat) ∨
      (∃ d, c = .repReg e d endOff ∧ count = (s.engX e).d[d].toNat % 65536)) →
    ((s.engX e).pc + endOff.toNat + 1 < 8192 → (s.engX e).roll.length < 4 →
      EngineBecomes s e c { s.engX e with
        clk := (s.engX e).clk + 1, lastAcc := none, pc := (s.engX e).pc + 1,
        roll := ⟨(s.engX e).pc + 1, (s.engX e).pc + endOff.toNat + 1, if count = 0 then 65536 else count⟩ :: (s.engX e).roll }) ∧
    (8192 ≤ (s.engX e).pc + endOff.toNat + 1 → (s.engX e).pc < 8192 →
      ∃ t, exec c s = .next t ∧ t.get (Reg.ENG_FAIL_CAUSE e) = 4) ∧
    ((s.engX e).pc + endOff.toNat + 1 < 8192 → (s.engX e).roll.length = 4 →
      ∃ t, exec c s = .next t ∧ t.get (Reg.ENG_FAIL_CAUSE e) = 5)) ∧
  (∀ pc, rollNext pc [] = ([], pc + 1)) ∧
  (∀ pc l r, l.stop ≠ pc → rollNext pc (l :: r) = (l :: r, pc + 1)) ∧
  (∀ pc l r, l.stop = pc → 1 < l.count → rollNext pc (l :: r) = ({ l with count := l.count - 1 } :: r, l.start)) ∧
  (∀ pc l r, l.stop = pc → l.count ≤ 1 → rollNext pc (l :: r) = rollNext pc r)

/-- DONE ends the run, empties the Roll stack, commits what was staged, and shows the clocks of a slow run (05_loop_engines.md,
06_engine_datapath.md). -/
def Obligations.DoneCommits : Prop :=
  ∀ (s : State) (e : Fin 17), s.executes e = true → (s.engX e).atEnd = false →
    (∃ t, exec (.done e) s = .next t ∧ (t.engX e).running = false ∧ (t.engX e).roll = [] ∧ (t.engX e).staged = []) ∧
    (s.compared e = false → (∀ a v, StagedW.reg a v ∈ (s.engX e).staged → isLoopFlt a = false) →
      ∃ t, exec (.done e) s = .next t ∧
        t.engX e = { s.engX e with
          clk := (s.engX e).clk + 1, lastAcc := none, running := false, staged := [], roll := [], fastDone := true,
          committed := (s.engX e).committed ++ (s.engX e).staged } ∧
        (∀ j, j ≠ e.val → t.engX j = s.engX j) ∧
        ((s.engX e).kind ≠ 1 → OnlyEng s t e) ∧
        ((s.engX e).kind = 1 → Only [.eng, .regs, .grp] s t ∧ RegsKept s t [Reg.ENG_RUN_LAST e, Reg.ENG_RUN_MAX e] ∧
          ((s.engX e).clk + 1 < 65536 → t.get (Reg.ENG_RUN_LAST e) = (s.engX e).clk + 1 ∧
            (s.get (Reg.ENG_RUN_MAX e) < 65536 → t.get (Reg.ENG_RUN_MAX e) = max ((s.engX e).clk + 1) (s.get (Reg.ENG_RUN_MAX e)))) ∧
          (s.engIn e esActive = true → (t.grpX (s.grpOf e)).unapp = 0) ∧
          (∀ n, n ≠ s.grpOf e → t.grpX n = s.grpX n)))

/-- LDS loads the word at D[a] with bits [1:0] ignored, whatever the address; STS writes the engine's own DM and its group's mailbox at
once, stages a write of an axis or cell register that lies in its window, and does nothing where it may not write
(06_engine_datapath.md, 05_loop_engines.md, 04_groups_and_memory.md). -/
def Obligations.SystemLoadsAndStores : Prop :=
  (∀ (s : State) (e : Fin 17) (dd da : Fin 8), GoesOn s e → s.compared e = false → ∀ a, a = (s.engX e).d[da].toNat / 4 * 4 →
    (dmAt e ≤ a → a < dmAt e + 0x8000 →
      EngineBecomes s e (.lds e dd da) { (s.engX e).after 1 none with d := (s.engX e).d.set dd (.ofNat 32 (s.rdLE a 4)) } ∧
      ∃ t n, exec (.sts e dd da) s = .next t ∧ (s.flt.latent = [] → Only [.eng, .mem] s t) ∧ (∀ j, j ≠ e.val → t.engX j = s.engX j) ∧
        t.engX e = (s.engX e).after n none ∧ t.rdLE a 4 = (s.engX e).d[dd].toNat ∧
        ((s.grpX (s.grpOf e)).snapRun = false → n = 1) ∧
        (∀ b, (b < a ∨ a + 4 ≤ b) → t.rdByte b = s.rdByte b)) ∧
    (stagedAddr a = true → s.window a (.engine e) = .rw →
      EngineBecomes s e (.sts e dd da)
        { (s.engX e).after 1 none with staged := (s.engX e).staged ++ [.reg a (s.engX e).d[dd].toNat] }) ∧
    (stagedAddr a = true → s.window a (.engine e) ≠ .rw → EngineBecomes s e (.sts e dd da) ((s.engX e).after 1 none)) ∧
    (s.grpOf e < 16 → s.engGroup e = some (s.grpOf e) → s.flt.latent = [] →
      0x20130000 + 0x400 * s.grpOf e ≤ a → a < 0x20130400 + 0x400 * s.grpOf e →
      ∃ t, exec (.sts e dd da) s = .next t ∧ Only [.eng, .mem] s t ∧ (∀ j, j ≠ e.val → t.engX j = s.engX j) ∧
        t.engX e = (s.engX e).after 1 none ∧ t.rdLE a 4 = (s.engX e).d[dd].toNat ∧
        (∀ b, (b < a ∨ a + 4 ≤ b) → t.rdByte b = s.rdByte b)) ∧
    (s.window a (.engine e) = .none_ → aliasOf a = none → a < 0x80000000 →
      (∃ k, EngineBecomes s e (.lds e dd da) { (s.engX e).after k none with d := (s.engX e).d.set dd 0 }) ∧
      EngineBecomes s e (.sts e dd da) ((s.engX e).after 1 none)) ∧
    (s.flt.latent = [] → stagedAddr a = false → ∃ t k v, exec (.lds e dd da) s = .next t ∧ Only [.eng, .regs, .bk, .holds, .drawn] s t ∧
      (∀ j, j ≠ e.val → t.engX j = s.engX j) ∧ t.engX e = { (s.engX e).after k none with d := (s.engX e).d.set dd v } ∧
      (a < 0x10000000 → k = 12) ∧ (0x10000000 ≤ a → a < 0x20000000 → k = 1) ∧ (0x20000000 ≤ a → a < 0x80000000 → k = 8) ∧
      (0x80000000 ≤ a → 1 ≤ k ∧ k ≤ 400))) ∧
  (∀ (s : State) (e : Fin 17) (dd da : Fin 8), s.executes e = false →
    exec (.lds e dd da) s = .next s ∧ exec (.sts e dd da) s = .next s ∧ exec (.nop e) s = .next s ∧ exec (.done e) s = .next s)

/-- The axis view shows latched values and staged set-points; writes of IQ_SET and ID_SET are staged, reserved words read zero
(06_engine_datapath.md Table DSP-6). -/
def Obligations.AxisView : Prop :=
  ∀ (s : State) (e : Fin 17) (m : MemOp), GoesOn s e → s.compared e = false →
    ∀ w o : Nat, w = memAddr m (s.engX e) → o = w % 0x100 →
    ∀ y : Nat → EngX, y = (fun k => ({ (s.engX e).after k none with p := ptrAfter m (s.engX e) (s.engX e).p } : EngX)) →
    (0x2000 ≤ w → w < 0x2800 →
      (∀ r, (s.axesOf (s.grpOf e))[(w - 0x2000) / 0x100]? = none →
        EngineBecomes s e (.ld e r m) ((y 2).written r 0) ∧ (∀ q, EngineBecomes s e (.st e q m) (y 2))) ∧
      (∀ r x, (s.axesOf (s.grpOf e))[(w - 0x2000) / 0x100]? = some x →
        (∀ h, h < 2 → o = h → EngineBecomes s e (.ld e r m)
          ((y (max 16 ((s.engX e).clk + 1) - (s.engX e).clk + 1)).written r (.ofNat 32 (s.get (Reg.AXIS_POS_ACT x) / 2 ^ (32 * h))))) ∧
        (∀ h, h < 2 → o = 0x02 + h → EngineBecomes s e (.ld e r m) ((y 2).written r (.ofNat 32 ((s.axisX x).posV / 2 ^ (32 * h))))) ∧
        (∀ h, h < 2 → o = 0x04 + h → EngineBecomes s e (.ld e r m) ((y 2).written r (.ofNat 32 ((s.axisX x).velV / 2 ^ (32 * h))))) ∧
        (∀ h, h < 2 → o = 0x06 + h → EngineBecomes s e (.ld e r m) ((y 2).written r (.ofNat 32 ((s.axisX x).accV / 2 ^ (32 * h))))) ∧
        (o = 0x0A → 16 ≤ x → EngineBecomes s e (.ld e r m) ((y 2).written r 0)) ∧
        (o = 0x0C → 16 ≤ x → EngineBecomes s e (.ld e r m)
          ((y (max 16 ((s.engX e).clk + 1) - (s.engX e).clk + 1)).written r 0)) ∧
        (o = 0x09 → EngineBecomes s e (.ld e r m) ((y 2).written r (.ofNat 32 x))) ∧
        (o = 0x0A → x < 16 → EngineBecomes s e (.ld e r m) ((y 2).written r (.ofNat 32 (s.axisX x).idV))) ∧
        (o = 0x0B → EngineBecomes s e (.ld e r m) ((y 2).written r (.ofNat 32 (s.axisX x).iqV))) ∧
        (o = 0x0C → x < 16 → EngineBecomes s e (.ld e r m)
          ((y (max 16 ((s.engX e).clk + 1) - (s.engX e).clk + 1)).written r (.ofNat 32 (s.axisX x).angV))) ∧
        (o = 0x10 → ∀ pre v post, (s.engX e).committed = pre ++ [.iq x v] ++ post → (∀ u, StagedW.iq x u ∉ post) →
          EngineBecomes s e (.ld e r m) ((y 2).written r (.ofNat 32 v))) ∧
        (∀ q, o = 0x10 → EngineBecomes s e (.st e q m)
          { y 2 with staged := (s.engX e).staged ++ [.iq x ((s.engX e).source q).toNat] }) ∧
        (∀ q, o = 0x11 → EngineBecomes s e (.st e q m)
          { y 2 with staged := if x < 16 then (s.engX e).staged ++ [.id x ((s.engX e).source q).toNat] else (s.engX e).staged }) ∧
        (∀ q, o ≠ 0x10 → o ≠ 0x11 → EngineBecomes s e (.st e q m) (y 2)))) ∧
    ((0x2900 ≤ w ∧ w < 0x2C00 ∨ 0x2F00 ≤ w) →
      (∀ r, EngineBecomes s e (.ld e r m) ((y 1).written r 0)) ∧ (∀ q, EngineBecomes s e (.st e q m) (y 1)))

/-- MARK, CAUSE_TAKE and POOL_FREE of an engine act for its group, and change nothing else (06_engine_datapath.md Table DSP-7,
04_groups_and_memory.md, 17_ledger.md). -/
def Obligations.EngineMarksCausesAndFrees : Prop :=
  ∀ (s : State) (e : Fin 17), s.executes e = true → s.engIn e esActive = true → s.compared e = false →
    (∀ code, ∃ t, exec (.markWrite e code) s = .next t ∧ Only [.regs, .led] s t ∧ RegsKept s t ledgerFlds ∧
      Posted s t (s.evNow (s.grpOf e) clsMark code.toNat true (s.engX e).markData)) ∧
    (∃ t, exec (.causeTake e) s = .next t ∧ Only [.regs, .readOut] s t ∧ RegsKept s t [Reg.ENG_EVT_CAUSE e] ∧
      t.readOut = [s.get (Reg.ENG_EVT_CAUSE e)] ∧ t.get (Reg.ENG_EVT_CAUSE e) = 0) ∧
    (∀ block, s.grpOf e < 16 → s.owner block.toNat ≠ s.grpOf e → exec (.poolFree e block) s = .next s) ∧
    (∀ block, s.grpOf e < 16 → s.owner block.toNat = s.grpOf e →
      exec (.poolFree e block) s =
        .next { s with pool := { s.pool with frees := s.pool.frees ++ [(s.grpOf e, block.toNat)] } })

/-- POOL_REQ sets out for the pool unit, which in the next clock takes a free block for the group where R141 grants it and refuses the
request otherwise; POOL_GRANT brings the answer (04_groups_and_memory.md, 06_engine_datapath.md). -/
def Obligations.EnginePoolRequests : Prop :=
  (∀ (s : State) (e : Fin 17), s.executes e = true → s.compared e = false →
    exec (.poolReq e) s = .next { s with pool := { s.pool with asks := s.pool.asks ++ [⟨e, s.grpOf e, (s.engX e).clk⟩] } }) ∧
  (∀ (s : State) (e : Fin 17) (n k : Nat), s.Inv → s.pending = [] → s.up = true → n < 16 → s.pool.asks = [⟨e, n, k⟩] → s.pool.frees = [] →
    s.engIn e esShadow = false → (∀ p, p < 16 → (s.fbX p).check = none) →
    s.get Reg.POOL_STAT_FREE_TOTAL ≤ 65536 → s.get (Reg.POOL_GRP_USED n) < 65536 → s.get (Reg.POOL_GRP_NOBUF n) < 2 ^ 32 - 1 →
    ∃ t, step s = .next t ∧ t.pool.asks = [] ∧ (∀ j, j ≠ e.val → t.engX j = s.engX j) ∧
      (Grantable s n 1 → ∃ b, s.owner b = holderFree ∧ t.owner b = n ∧ (∀ j, j ≠ b → t.owner j = s.owner j) ∧
        t.pool.answers = s.pool.answers ++ [⟨e, some b, k⟩] ∧ t.engX e = { s.engX e with grants := (s.engX e).grants ++ [some b] } ∧
        t.get Reg.POOL_STAT_FREE_TOTAL = s.get Reg.POOL_STAT_FREE_TOTAL - 1 ∧
        t.get (Reg.POOL_GRP_USED n) = s.get (Reg.POOL_GRP_USED n) + 1 ∧
        RegsKept s t ([Reg.POOL_STAT_FREE_TOTAL, Reg.POOL_GRP_USED n, Reg.POOL_GRP_PEAK n, Reg.POOL_SHARED, Reg.POOL_MIN_SHARED,
          Reg.POOL_STAT_LOW, Reg.SYS_START_STAT_HELD_S] ++ ledgerFlds)) ∧
      (¬ Grantable s n 1 → (∀ j, t.owner j = s.owner j) ∧ t.pool.answers = s.pool.answers ++ [⟨e, none, k⟩] ∧
        t.engX e = { s.engX e with grants := (s.engX e).grants ++ [none] } ∧
        t.get (Reg.POOL_GRP_NOBUF n) = s.get (Reg.POOL_GRP_NOBUF n) + 1 ∧
        RegsKept s t (Reg.POOL_GRP_NOBUF n :: Reg.SYS_START_STAT_HELD_S :: ledgerFlds))) ∧
  (∀ s : State, s.pool.answers = [] → s.pool.asks = [] → s.pool.frees = [] → exec .poolGrant s = .next s) ∧
  (∀ (s : State) (e b k : Nat) (r : List PoolAns), s.up = true → s.pool.answers = ⟨e, some b, k⟩ :: r →
    ∃ t, exec .poolGrant s = .next t ∧ Only [.pool, .eng] s t ∧ t.pool = { s.pool with answers := r } ∧
      t.engX e = { s.engX e with gnt := some (some b) } ∧ (∀ j, j ≠ e → t.engX j = s.engX j)) ∧
  (∀ (s : State) (e k : Nat) (r : List PoolAns), s.up = true → s.pool.answers = ⟨e, none, k⟩ :: r →
    ∃ t, exec .poolGrant s = .next t ∧ Only [.pool, .eng, .regs] s t ∧ t.pool = { s.pool with answers := r } ∧
      RegsKept s t [Reg.ENG_STAT_NOBUF e] ∧ t.get (Reg.ENG_STAT_NOBUF e) = 1 ∧
      (∃ sr, t.engX e = { s.engX e with gnt := some none, sr := sr } ∧
        ∀ i, i < 16 → sr.getLsbD i = (if i = 7 then true else (s.engX e).sr.getLsbD i)) ∧
      (∀ j, j ≠ e → t.engX j = s.engX j))

/-- CLAVE_GO queues a good entry for the next slow boundary, counts a bad one as rejected and reports a full queue
(06_engine_datapath.md, 10_coordinate_scheduler.md). -/
def Obligations.EngineClaveAppend : Prop :=
  ∀ (s : State) (e : Fin 17), s.executes e = true → s.engIn e esActive = true → s.compared e = false →
    ∀ n, n = s.grpOf e →
    ((s.entryBad n (s.engX e).entry).isSome = true → ∃ t, exec (.claveGo e) s = .next t ∧ Only [.regs, .eng] s t ∧
      RegsKept s t [Reg.CLAVE_REJECTED n] ∧
      (s.get (Reg.CLAVE_REJECTED n) < 2 ^ 16 - 1 → t.get (Reg.CLAVE_REJECTED n) = s.get (Reg.CLAVE_REJECTED n) + 1) ∧
      t.engX e = { s.engX e with claveOk := false, claveFull := false } ∧ (∀ j, j ≠ e.val → t.engX j = s.engX j)) ∧
    ((s.entryBad n (s.engX e).entry).isSome = false → queueMax ≤ (s.claveX n).queue.length + (s.claveX n).goWait.length →
      EngineBecomes s e (.claveGo e) { s.engX e with claveOk := false, claveFull := true }) ∧
    ((s.entryBad n (s.engX e).entry).isSome = false → (s.claveX n).queue.length + (s.claveX n).goWait.length < queueMax →
      ∃ t, exec (.claveGo e) s = .next t ∧ Only [.clave, .eng] s t ∧
        t.claveX n = { s.claveX n with goWait := (s.claveX n).goWait ++ [(s.clk, ClEntry.ofBytes (s.engX e).entry)] } ∧
        (∀ j, j ≠ n → t.claveX j = s.claveX j) ∧
        t.engX e = { s.engX e with claveOk := true, claveFull := false } ∧ (∀ j, j ≠ e.val → t.engX j = s.engX j))

/-- An engine failure is recorded in FAIL, stops the engine and quarantines it; an unserved group in a reacting state goes to
FAULT (05_loop_engines.md, 04_groups_and_memory.md, 18_faults.md). -/
def Obligations.EngineFailures : Prop :=
  ∀ (s : State) (e : Fin 17), s.up = true →
    (∀ (cause : BitVec 4) w, cause.toNat = 0 ∨ 8 < cause.toNat → exec (.engFail e cause w) s = .next s) ∧
    (∀ (cause : BitVec 4) w, cause.toNat ≠ 2 → cause.toNat ≠ 3 →
      (s.engIn e esOff = true ∨ s.engIn e esQuarantine = true ∨ s.engIn e esTakeover = true) → exec (.engFail e cause w) s = .next s) ∧
    (∀ (cause : BitVec 4) (w : BitVec 13), 1 ≤ cause.toNat → cause.toNat ≤ 8 → (s.engIn e esSpare = true ∨ s.engIn e esTesting = true) →
      s.migOf e = none → (s.engX e).pc < 8192 →
      ∃ t, exec (.engFail e cause w) s = .next t ∧ FailedAs s t e cause.toNat ∧
        Only [.regs, .mem, .eng, .led] s t ∧ RegsKept s t (failFlds e ++ ledgerFlds) ∧ (∀ k, k ≠ e.val → t.engX k = s.engX k) ∧
        Posted s t (s.evNow 255 clsWarn 0x0007 false (u8s [e, cause.toNat])) ∧
        (cause.toNat ≠ 2 → cause.toNat ≠ 3 → t.mem = s.mem) ∧
        (cause.toNat = 3 → t.rdLE (dmAt e + 4 * w.toNat) 4 = 0 ∧ MemKept s t (dmAt e + 4 * w.toNat) 4) ∧
        (cause.toNat = 2 → t.rdLE (pmAt e + 4 * (s.engX e).pc) 4 = 0 ∧ MemKept s t (pmAt e + 4 * (s.engX e).pc) 4)) ∧
    ((s.engX e).running = false → exec (.illegalInstruction e) s = .next s) ∧
    (∀ n, s.grpOf e = n → n < 16 → s.engIn e esActive = true → (s.engX e).running = true → (s.engX e).pc < 8192 →
      (s.grpX n).mig.phase = 0 → (s.grpX n).react < 4 → s.matching n = none →
      ∃ t, exec (.illegalInstruction e) s = .next t ∧ FailedAs s t e 4 ∧ t.flag (Reg.GRP_ENG_CFG_SERVED n) = false ∧
        bit (t.get (Reg.FAULT_GRP_LATCH n)) 0 = true ∧
        (reacts (s.gstate n) = true → t.gstate n = gsFault) ∧ (reacts (s.gstate n) = false → t.gstate n = s.gstate n)) ∧
    (∀ n k, s.Inv → s.grpOf e = n → n < 16 → s.engIn e esActive = true → (s.engX e).running = true → (s.engX e).pc < 8192 → s.flt.latent = [] →
      (s.grpX n).mig.phase = 0 → s.flag (Reg.GRP_ENG_CFG_TAKEOVER n) = true → (s.grpX n).memUe = false → s.highest n esSpare = some k →
      s.migOf k = none → (s.grpX n).snapBase + (s.grpX n).snapLen ≤ 0x8000 → (s.grpX n).snapLen ≤ 0x800 →
      ∃ t, exec (.illegalInstruction e) s = .next t ∧ FailedAs s t e 4 ∧ t.flag (Reg.GRP_ENG_CFG_SERVED n) = false ∧
        t.get (Reg.ENG_STATE_STATE k) = esTakeover ∧ t.grpOf k = n ∧ (t.grpX n).take.phase = 1 ∧ (t.grpX n).take.spare = k ∧
        (t.grpX n).take.since = s.clk ∧ (s.mode = modeOperate → reacts (s.gstate n) = true → t.gstate n = gsTakeover) ∧
        (∀ i, i < 0x8000 → t.rdByte (pmAt k + i) = s.rdByte (copyAt n + i)) ∧
        ((s.grpX n).snapDone = none → ∀ i, i < 0x8000 → t.rdByte (dmAt k + i) = s.rdByte (copyAt n + 0x8000 + i)) ∧
        (∀ b, (s.grpX n).snapDone = some b → b < 2 → ∀ i, i < (s.grpX n).snapLen →
          t.rdByte (dmAt k + (s.grpX n).snapBase + i) = s.rdByte (snapAt n b + i))) ∧
    (∀ n, s.migOf e = some n → s.engIn e esShadow = true → (s.engX e).running = true → (s.engX e).pc < 8192 →
      ∃ t, exec (.illegalInstruction e) s = .next t ∧ FailedAs s t e 4 ∧ Only [.regs, .eng, .grp, .led] s t ∧
        t.get (Reg.ENG_SHADOW_REASON e) = 5 ∧ t.get (Reg.GRP_MIGRATE_OPEN n) = 0 ∧
        t.grpX n = { s.grpX n with mig := {} } ∧ (∀ k, k ≠ n → t.grpX k = s.grpX k) ∧ (∀ k, k ≠ e.val → t.engX k = s.engX k))

/-- DEADLINE counts a missed run and stops the engine, SELF_CHECK_PASS reports a late or failed pass, ENGINE_TEST_DONE ends a
test (05_loop_engines.md, 17_ledger.md). -/
def Obligations.EngineChecksAndDeadlines : Prop :=
  ∀ (s : State) (e : Fin 17), s.up = true →
    ((s.engX e).unfinished = false → exec (.deadline e) s = .next s) ∧
    (∀ n, s.grpOf e = n → s.engIn e esActive = true → (s.engX e).unfinished = true → (s.engX e).misses = 0 →
      ((s.grpX n).take.phase ≠ 2 ∨ (s.grpX n).take.spare ≠ e) → s.get (Reg.ENG_MISS_COUNT e) < 2 ^ 32 - 1 →
      ∃ t, exec (.deadline e) s = .next t ∧ Only [.regs, .eng, .led] s t ∧ RegsKept s t (Reg.ENG_MISS_COUNT e :: ledgerFlds) ∧
        t.get (Reg.ENG_MISS_COUNT e) = s.get (Reg.ENG_MISS_COUNT e) + 1 ∧
        t.engX e = { (s.engX e).stopped with missed := true, misses := 1 } ∧ (∀ k, k ≠ e.val → t.engX k = s.engX k) ∧
        Posted s t (s.evNow n clsWarn 0x0005 false (u8s [e, if (s.engX e).running then (s.engX e).kind else 1]))) ∧
    (∀ n, s.migOf e = some n → s.engIn e esShadow = true → (s.engX e).unfinished = true → (s.engX e).pc < 8192 →
      ∃ t, exec (.deadline e) s = .next t ∧ Only [.regs, .eng, .grp, .led] s t ∧ t.get (Reg.ENG_FAIL_CAUSE e) = 1 ∧
        t.get (Reg.ENG_STATE_STATE e) = esQuarantine ∧ t.get (Reg.ENG_SHADOW_REASON e) = 4 ∧ t.get (Reg.GRP_MIGRATE_OPEN n) = 0 ∧
        (t.grpX n).mig = {} ∧ (t.engX e).running = false) ∧
    (s.engIn e esActive = false → s.engIn e esSpare = false → s.engIn e esShadow = false →
      ∀ a b, exec (.selfCheckPass e a b) s = .next s) ∧
    ((s.engIn e esActive = true ∨ s.engIn e esSpare = true ∨ s.engIn e esShadow = true) →
      exec (.selfCheckPass e false false) s = .next s ∧
      ∃ t, exec (.selfCheckPass e true false) s = .next t ∧ Only [.regs, .led] s t ∧
        RegsKept s t (Reg.ENG_STAT_CHECK_LATE e :: ledgerFlds) ∧ t.get (Reg.ENG_STAT_CHECK_LATE e) = 1 ∧
        Posted s t (s.evNow 255 clsWarn 0x0006 false (u8s [e]))) ∧
    (s.engIn e esSpare = true → s.migOf e = none → (s.engX e).pc < 8192 →
      ∃ t, exec (.selfCheckPass e false true) s = .next t ∧ FailedAs s t e 6 ∧ Only [.regs, .eng, .led] s t) ∧
    (s.engIn e esTesting = false → ∀ b, exec (.engineTestDone e b) s = .next s) ∧
    (s.engIn e esTesting = true →
      (∃ t, exec (.engineTestDone e true) s = .next t ∧ Only [.regs, .led] s t ∧ t.get (Reg.ENG_TEST_RESULT e) = 1 ∧
        t.get (Reg.ENG_STATE_STATE e) = esSpare ∧ t.get (Reg.ENG_STATE_GVALID e) = 0 ∧
        RegsKept s t ([Reg.ENG_TEST_RESULT e, Reg.ENG_STATE_STATE e, Reg.ENG_STATE_GROUP e, Reg.ENG_STATE_GVALID e] ++ ledgerFlds) ∧
        Posted s t (s.evNow 255 clsInfo 0x0004 false (u8s [e, 1]))) ∧
      (s.migOf e = none → (s.engX e).pc < 8192 → ∃ t, exec (.engineTestDone e false) s = .next t ∧ FailedAs s t e 7 ∧
        Only [.regs, .eng, .led] s t ∧ t.get (Reg.ENG_TEST_RESULT e) = 2 ∧
        RegsKept s t (Reg.ENG_TEST_RESULT e :: failFlds e ++ ledgerFlds)))

/-- ENTRY_SLOW starts after the fast code and no earlier than clock 128, ENTRY_EVENT in an idle engine with a cause; each from
zeroed registers (05_loop_engines.md, 06_engine_datapath.md). -/
def Obligations.EngineEntries : Prop :=
  ∀ (s : State), s.up = true →
    (∀ e : Fin 17, (s.engX e).slowDue = false ∨ (s.engX e).fastDone = false ∨ (s.engX e).running = true →
      exec (.entrySlowStart e) s = .next s) ∧
    (∀ e : Fin 17, (s.engX e).slowDue = true → (s.engX e).fastDone = true → (s.engX e).running = false →
      ∀ y : EngX, y = { (s.engX e).started 1 (s.grpX (s.grpOf e)).entrySlow with slowDue := false, clk := max 128 (s.engX e).clk } →
      (s.engIn e esShadow = true → EngineBecomes s e (.entrySlowStart e) y) ∧
      (s.engIn e esActive = true → ∃ t, exec (.entrySlowStart e) s = .next t ∧ Only [.eng, .axis] s t ∧ t.engX e = y ∧
        (∀ k, k ≠ e.val → t.engX k = s.engX k) ∧
        (∀ x, x ∈ s.axesOf (s.grpOf e) → t.axisX x =
          { s.axisX x with posV := s.get (Reg.AXIS_POS_CMD x), velV := s.get (Reg.AXIS_VEL_CMD x), accV := s.get (Reg.AXIS_ACC_CMD x) }) ∧
        (∀ x, x ∉ s.axesOf (s.grpOf e) → t.axisX x = s.axisX x))) ∧
    (∀ e : Fin 17, s.get (Reg.ENG_EVT_CAUSE e) = 0 ∨ (s.engX e).running = true ∨ (s.engX e).missed = true →
      exec (.entryEventStart e) s = .next s) ∧
    (∀ e : Fin 17, s.engIn e esActive = true ∨ s.engIn e esShadow = true → (s.grpX (s.grpOf e)).hasCode = true →
      (s.grpX (s.grpOf e)).entryEvent ≠ 0xFFFF → (s.engX e).running = false → (s.engX e).slowDue = false → (s.engX e).fastDone = true →
      (s.engX e).missed = false → s.tick_.begun = true → s.get (Reg.ENG_EVT_CAUSE e) ≠ 0 →
      EngineBecomes s e (.entryEventStart e) ((s.engX e).started 2 (s.grpX (s.grpOf e)).entryEvent)) ∧
    (∀ n : Fin 16, (s.grpX n).snapRun = false → exec (.snapshotComplete n) s = .next s) ∧
    (∀ n : Fin 16, (s.grpX n).snapRun = true → (s.grpX n).take.phase ≠ 1 ∨ (s.grpX n).take.cold = true →
      ∃ t, exec (.snapshotComplete n) s = .next t ∧ Only [.grp] s t ∧
      (∀ k, k ≠ n.val → t.grpX k = s.grpX k) ∧
      ((s.grpX n).snapOk = true → t.grpX n =
        { s.grpX n with snapRun := false, snapDone := some (s.grpX n).snapNext, snapNext := 1 - (s.grpX n).snapNext }) ∧
      ((s.grpX n).snapOk = false → t.grpX n = { s.grpX n with snapRun := false }))

/-- A spare's first run makes it the group's engine; a shadow starts on its source's snapshot; at the handover target and source
change places (05_loop_engines.md, 04_groups_and_memory.md). -/
def Obligations.TakeoverAndMigration : Prop :=
  (∀ (s : State) (e : Fin 17), (s.grpX (s.grpOf e)).take.phase ≠ 1 ∨ s.tick_.lastSlow < (s.grpX (s.grpOf e)).take.since + 2400 →
    exec (.takeoverFirstRun e) s = .next s) ∧
  (∀ (s : State) (e : Fin 17) (n : Nat) (g : GroupX), s.Inv → s.up = true → s.engIn e esTakeover = true → s.grpOf e = n → n < 16 →
    g = s.grpX n → g.take.phase = 1 → g.take.spare = e → s.tick_.slow = true → g.take.since + 2400 ≤ s.tick_.lastSlow →
    s.get (Reg.GRP_ENG_COUNT_TAKEOVERS n) < 2 ^ 16 - 1 → s.get (Reg.GRP_LOST n) + g.unapp < 2 ^ 32 →
    ∃ t, exec (.takeoverFirstRun e) s = .next t ∧ Only [.regs, .led, .eng, .grp] s t ∧
      t.get (Reg.ENG_STATE_STATE e) = esActive ∧ t.flag (Reg.ENG_STATE_GVALID e) = true ∧ t.grpOf e = n ∧
      t.get (Reg.GRP_ENGINE n) = e ∧ t.flag (Reg.GRP_ENG_CFG_SERVED n) = true ∧
      t.get (Reg.GRP_ENG_COUNT_TAKEOVERS n) = s.get (Reg.GRP_ENG_COUNT_TAKEOVERS n) + 1 ∧ t.flag (Reg.ENG_STAT_TAKEOVER e) = true ∧
      (∀ k, k ≠ e.val → t.engX k = s.engX k) ∧ (t.engX e).slowDue = g.hasCode ∧ (t.engX e).running = false ∧ (t.engX e).staged = [] ∧
      (g.take.cold = true → t.get (Reg.ENG_STAT_LOST e) = 0 ∧ t.get (Reg.GRP_LOST n) = s.get (Reg.GRP_LOST n)) ∧
      (g.take.cold = false → t.get (Reg.ENG_STAT_LOST e) = min 255 (g.unapp - 1) ∧
        t.get (Reg.GRP_LOST n) = s.get (Reg.GRP_LOST n) + (g.unapp - 1) ∧
        Posted s t (s.evNow n clsInfo 0x0002 false (u8s [g.take.failed, e, min 255 (g.unapp - 1)])))) ∧
  (∀ (s : State) (n : Fin 16), (s.grpX n).mig.phase ≠ 1 ∨ s.get Reg.SYS_SLOW_COUNT < (s.grpX n).mig.start →
    exec (.shadowStart n) s = .next s) ∧
  (∀ (s : State) (n : Fin 16) (g : GroupX) (b : Nat), s.Inv → s.up = true → s.tick_.begun = true → g = s.grpX n → g.mig.phase = 1 →
    g.mig.start ≤ s.get Reg.SYS_SLOW_COUNT → g.mig.target < 17 → s.engOf n < 17 →
    g.snapBase + g.snapLen ≤ 0x8000 → g.snapLen ≤ 0x800 → b = (if g.snapRun ∨ ¬ g.snapOk then g.snapNext else g.snapDone.getD 0) → b < 2 →
    s.get (Reg.ENG_EVT_CAUSE (s.engOf n)) < 2 ^ 32 →
    ∃ t, exec (.shadowStart n) s = .next t ∧ Only [.regs, .mem, .eng, .grp] s t ∧
      t.get (Reg.ENG_EVT_CAUSE g.mig.target) = s.get (Reg.ENG_EVT_CAUSE (s.engOf n)) ∧
      t.grpX n = { g with mig := { g.mig with phase := 2, matched := 0 } } ∧ (∀ k, k ≠ n.val → t.grpX k = s.grpX k) ∧
      (t.engX g.mig.target).clk = 520 ∧ (g.hasCode = true → (t.engX g.mig.target).slowDue = true) ∧
      (∀ k, k ≠ g.mig.target → t.engX k = s.engX k) ∧
      MemKept s t (dmAt g.mig.target + g.snapBase) g.snapLen ∧
      ∀ i, i < g.snapLen → t.rdByte (dmAt g.mig.target + g.snapBase + i) = s.rdByte (snapAt n b + i)) ∧
  (∀ (s : State) (n : Fin 16), (s.grpX n).mig.phase ≠ 3 → exec (.migrationHandover n) s = .next s) ∧
  (∀ (s : State) (n : Fin 16) (a b : Nat), s.up = true → (s.grpX n).mig.phase = 3 → a = s.engOf n → b = (s.grpX n).mig.target →
    a < 17 → b < 17 → a ≠ b → s.get (Reg.GRP_ENG_COUNT_MIGRATIONS n) < 2 ^ 16 - 1 →
    ∃ t, exec (.migrationHandover n) s = .next t ∧ Only [.regs, .led, .eng, .grp] s t ∧
      t.get (Reg.ENG_STATE_STATE b) = esActive ∧ t.flag (Reg.ENG_STATE_GVALID b) = true ∧ t.grpOf b = n ∧ t.get (Reg.GRP_ENGINE n) = b ∧
      t.get (Reg.ENG_STATE_STATE a) = esSpare ∧ t.flag (Reg.ENG_STATE_GVALID a) = false ∧ t.get (Reg.ENG_EVT_CAUSE a) = 0 ∧
      t.get (Reg.GRP_ENG_COUNT_MIGRATIONS n) = s.get (Reg.GRP_ENG_COUNT_MIGRATIONS n) + 1 ∧ t.get (Reg.GRP_MIGRATE_OPEN n) = 0 ∧
      t.grpX n = { s.grpX n with mig := {} } ∧ t.engX b = s.engX b ∧ t.engX a = {} ∧
      Posted s t (s.evNow n clsInfo 0x0005 false (u8s [a, b])))

/-- Committed set-points reach the cells and the drive frames at the output transfer; boundaries are counted and time-stamped
(05_loop_engines.md, 01_architecture.md, 02_power_and_modes.md). -/
def Obligations.TransferAndBoundaries : Prop :=
  (∀ s : State, s.tick_.begun = false → exec .outputTransfer s = .next s) ∧
  (∀ s : State, s.up = true → s.tick_.begun = true → s.tick_.inSlow ≠ 0 →
    (∀ e, e < 17 → ∀ w ∈ (s.engX e).committed, ∀ a v, w ≠ StagedW.reg a v) →
    ∃ t, exec .outputTransfer s = .next t ∧ Only [.eng, .axis, .cur, .grp] s t ∧
      (∀ e, e < 17 → t.engX e = { s.engX e with committed := [] }) ∧ (∀ e, 17 ≤ e → t.engX e = s.engX e)) ∧
  (∀ (s : State) (e : Fin 17) (x v : Nat), s.up = true → s.tick_.begun = true → s.tick_.inSlow ≠ 0 → s.engIn e esActive = true →
    (s.engX e).committed = [.iq x v] → (∀ k, k < 17 → k ≠ e.val → (s.engX k).committed = []) →
    (∀ n, n < 16 → (s.grpX n).take.phase ≠ 2) →
    ∃ t, exec .outputTransfer s = .next t ∧ t.engX e = { s.engX e with committed := [] } ∧
      (x < 16 → Only [.eng, .cur] s t ∧ t.curX x = { s.curX x with iqNext := some v } ∧ ∀ k, k ≠ x → t.curX k = s.curX k) ∧
      (16 ≤ x → Only [.eng, .axis] s t ∧ t.axisX x = { s.axisX x with iqOut := v } ∧ ∀ k, k ≠ x → t.axisX k = s.axisX k)) ∧
  (∀ (s : State) (e : Fin 17) (a v : Nat), s.up = true → s.tick_.begun = true → s.tick_.inSlow ≠ 0 → s.engIn e esShadow = false →
    (s.engX e).committed = [.reg a v] → (∀ k, k < 17 → k ≠ e.val → (s.engX k).committed = []) →
    (∀ n, n < 16 → (s.grpX n).take.phase ≠ 2) →
    ∃ t, exec .outputTransfer s = .next t ∧ Only [.eng, .tick_] s t ∧ t.engX e = { s.engX e with committed := [] } ∧
      t.tick_ = { s.tick_ with regsNext := s.tick_.regsNext ++ [(e.val, a, v)] }) ∧
  (∀ s : State, s.up = false → exec .fastBoundary s = .next s ∧ exec .slowBoundary s = .next s) ∧
  (∀ s : State, s.up = true → ∃ t, exec .fastBoundary s = .next t ∧ t.tick_.lastFast = s.clk ∧ t.tick_.begun = true ∧ t.tick_.regsNext = [] ∧
    t.tick_.fastNo = s.tick_.fastNo + 1 ∧ t.tick_.inSlow = s.tick_.inSlow + 1 ∧ t.tick_.slow = s.tick_.slow ∧
    t.tick_.lastSlow = s.tick_.lastSlow ∧ t.clk = s.clk ∧ t.ntimeH = s.ntimeH ∧ t.pending = s.pending) ∧
  (∀ s : State, s.up = true → s.tick_.begun = true → s.tick_.lastFast = s.clk →
    ∃ t, exec .slowBoundary s = .next t ∧ t.tick_.lastSlow = s.clk ∧ t.tick_.inSlow = 0 ∧ t.tick_.slow = true ∧
      t.tick_.lastFast = s.tick_.lastFast ∧ t.tick_.fastNo = (if s.tick_.slow then s.tick_.fastNo else 0) ∧
      t.clk = s.clk ∧ t.ntimeH = s.ntimeH ∧ t.pending = s.pending)

/-- Supply and temperature: readings are shown, a new condition raises its device fault once, enters SAFE_HOLD and makes groups
react (02_power_and_modes.md, 18_faults.md, 17_ledger.md). -/
def Obligations.SupplyAndTemperature : Prop :=
  (∀ (s : State) (mv : BitVec 16), s.flt.supplyLow = true ∨ s.mode = modeDormant → exec (.supplyLow mv) s = .next s) ∧
  (∀ (s : State) (mv : BitVec 16), s.flt.supplyLow = false → s.mode ≠ modeDormant →
    ∃ t, exec (.supplyLow mv) s = .next t ∧ t.flt = { s.flt with supplyLow := true, below19 := true } ∧ t.get Reg.SYS_SUPPLY_VMAIN_WARN = 1 ∧
      bit (t.get Reg.FAULT_DEV_LATCH) 0 = true ∧
      Posted s t (s.evNow 255 clsDeviceFault 0x101 false
        (u8s [0xFF, (s.reacting.map (fun n => s.devReact n 0x101)).foldl max 0, s.mode, 0] ++ leBytes 4 mv.toNat)) ∧
      (s.live = true → t.mode = modeSafeHold ∧
        (∀ n, n < 16 → reacts (s.gstate n) = true → s.devReact n 0x101 = 4 → (s.grpX n).react < 4 → t.gstate n = gsFault)) ∧
      (∀ n, n < 16 → reacts (s.gstate n) = false → t.gstate n = s.gstate n) ∧
      (s.live = false → t.mode = s.mode)) ∧
  (∀ (s : State) (mv : BitVec 16), mv.toNat ≤ 19000 → exec (.supplyLowEnd mv) s = .next s) ∧
  (∀ (s : State) (mv : BitVec 16), 19000 < mv.toNat →
    ∃ t, exec (.supplyLowEnd mv) s = .next t ∧ Only [.regs, .flt] s t ∧ RegsKept s t [Reg.SYS_SUPPLY_VMAIN_WARN] ∧
      t.flt = { s.flt with supplyLow := false, below19 := false } ∧ t.get Reg.SYS_SUPPLY_VMAIN_WARN = 0) ∧
  (∀ (s : State) (mv : BitVec 16), s.awake = false → exec (.vmainSample mv) s = .next s) ∧
  (∀ (s : State) (mv : BitVec 16), s.awake = true →
    ∃ t, exec (.vmainSample mv) s = .next t ∧ Only [.regs, .flt] s t ∧ RegsKept s t [Reg.SYS_VMAIN_MV, Reg.SYS_SUPPLY_VMAIN_WARN] ∧
      t.flt = { s.flt with below19 := decide (mv.toNat < 19000) } ∧
      t.get Reg.SYS_VMAIN_MV = mv.toNat ∧ (t.get Reg.SYS_SUPPLY_VMAIN_WARN = 1 ↔ mv.toNat < 18000)) ∧
  (∀ (s : State) (dc : BitVec 16), s.awake = false → exec (.overTemp dc) s = .next s) ∧
  (∀ (s : State) (dc : BitVec 16), s.awake = true → ∃ t, exec (.overTemp dc) s = .next t ∧
    t.get Reg.FAULT_TEMP_DC = dc.toNat ∧ (t.get Reg.FAULT_TEMP_HOT = 1 ↔ 900 < dc.toInt) ∧
    (t.flt.overTemp = true ↔ 1000 < dc.toInt ∨ (s.flt.overTemp = true ∧ 900 < dc.toInt)) ∧
    ((dc.toInt ≤ 1000 ∨ s.flt.overTemp = true) → Only [.regs, .flt] s t ∧ RegsKept s t [Reg.FAULT_TEMP_DC, Reg.FAULT_TEMP_HOT]) ∧
    (1000 < dc.toInt → s.flt.overTemp = false → bit (t.get Reg.FAULT_DEV_LATCH) 1 = true ∧ (s.live = true → t.mode = modeSafeHold)))

/-- Loss of the main clock brakes powered axes, latches the fault and holds the device; its return records the fault
(18_faults.md, 03_start_and_image.md). -/
def Obligations.ClockLossAndReturn : Prop :=
  (∀ s : State, s.awake = false → exec .clockLoss s = .next s) ∧
  (∀ s : State, s.awake = true → s.mode = modeLoading → ∃ t, exec .clockLoss s = .next t ∧ Only [.regs, .flt, .start] s t ∧
    t.flt = { s.flt with clockLost := true } ∧ t.start = { s.start with clockHeld := true } ∧
    RegsKept s t ((List.range 16).map Reg.SYS_BKREG)) ∧
  (∀ s : State, s.awake = true → s.mode ≠ modeLoading → ∃ t, exec .clockLoss s = .next t ∧ t.flt.clockLost = true ∧
    bit (t.get Reg.FAULT_DEV_LATCH) 3 = true ∧
    (∀ x, x < 16 → (s.axisX x).phase ≠ 0 → t.get (Reg.CUR_STAT_BRAKE_OUT x) = 0 ∧ t.get (Reg.CUR_STAT_ENABLE_OUT x) = 0) ∧
    (s.live = true → t.mode = modeSafeHold ∧ t.flt.clockRec = some (4, s.mode)) ∧
    (s.live = false → t.mode = s.mode ∧ t.flt.clockRec = none)) ∧
  (∀ s : State, s.flt.clockLost = false ∨ s.mode = modeLoading ∨ s.mode = modeDormant → exec .clockReturn s = .next s) ∧
  (∀ (s : State) (r m : Nat), s.flt.clockLost = true → s.live = true → s.flt.clockRec = some (r, m) →
    ∃ t, exec .clockReturn s = .next t ∧ Only [.regs, .led, .flt] s t ∧ RegsKept s t ledgerFlds ∧
      t.flt = { s.flt with clockLost := false, clockRec := none } ∧
      Posted s t (s.evNow 255 clsDeviceFault 0x104 false (u8s [0xFF, r, m, 0] ++ leBytes 4 0)))

/-- Rail fall stops the main domain and is logged with its time, watchdog reset leads to LOADING, loss of retention clears the
backup domain (02_power_and_modes.md, 05_loop_engines.md). -/
def Obligations.RailsAndBackupDomain : Prop :=
  (∀ s : State, s.bk.onVbak = true → exec .railFall s = .next s) ∧
  (∀ s : State, s.bk.onVbak = false → s.get (Reg.SYS_BKREG 0) < 2 ^ 32 → ∃ t, exec .railFall s = .next t ∧ t.mode = modeDormant ∧ t.start = {} ∧
    t.flt = { s.flt with clockLost := false, clockRec := none } ∧
    t.bk = { s.bk with onVbak := true, interrupted := s.bk.interrupted || bit (s.get (Reg.SYS_BKREG 0)) 8,
                       fifo := if s.bk.fifo.length < 8 then s.bk.fifo ++ [⟨s.bk.rtc, 4, false⟩] else s.bk.fifo } ∧
    (∀ i, i < 32 → bit (t.get (Reg.SYS_BKREG 0)) i = (decide (i ≠ 8) && bit (s.get (Reg.SYS_BKREG 0)) i)) ∧
    (∀ e, e < 17 → t.get (Reg.ENG_STATE_STATE e) = esOff ∧ (t.engX e).running = false) ∧
    (∀ x, x < 16 → t.get (Reg.CUR_STAT_ENABLE_OUT x) = 0 ∧ t.get (Reg.CUR_STAT_BRAKE_OUT x) = 0 ∧ (t.curX x).pwm = 0) ∧
    (∀ k, k < 8 → t.hoOn k = false)) ∧
  (∀ s : State, s.bk.onVbak = false → exec .railReturn s = .next s) ∧
  (∀ s : State, s.bk.onVbak = true → ∃ t, exec .railReturn s = .next t ∧ Only [.regs, .bk] s t ∧
    RegsKept s t [Reg.SYS_BKFIFO_STAT_OVF] ∧
    t.bk = { s.bk with onVbak := false, awake := true,
                       fifo := if s.bk.fifo.length < 8 then s.bk.fifo ++ [⟨s.bk.rtc, 5, true⟩] else s.bk.fifo }) ∧
  (∀ s : State, s.awake = false → exec .seqWatchdog s = .next s) ∧
  (∀ (s : State) (b k total : Nat), s.awake = true → b = s.get (Reg.SYS_BKREG 12) → b < 2 ^ 32 → k = b % 8 → s.mode < 8 →
    total = min 0xFFFFFF (b / 256 + 1) → s.get Reg.FAULT_GONG_COUNT < 2 ^ 32 - 1 →
    ∃ t, exec .seqWatchdog s = .next t ∧ t.mode = modeLoading ∧ t.start = { s.start with entry := some 4 } ∧
      t.get Reg.FAULT_GONG_COUNT = s.get Reg.FAULT_GONG_COUNT + 1 ∧
      t.get (Reg.SYS_BKREG (4 + k)) = 0x107 + s.mode * 2 ^ 16 + total % 256 * 2 ^ 24 ∧
      t.get (Reg.SYS_BKREG 12) = (k + 1) % 8 + total * 256 ∧
      (∀ e, e < 17 → t.get (Reg.ENG_STATE_STATE e) = esOff ∧ (t.engX e).running = false) ∧
      (∀ x, x < 16 → t.get (Reg.CUR_STAT_ENABLE_OUT x) = 0 ∧ t.get (Reg.CUR_STAT_BRAKE_OUT x) = 0)) ∧
  (∀ s : State, s.bk.onVbak = false → exec .bdPowerOn s = .next s) ∧
  (∀ s : State, s.bk.onVbak = true → ∃ t, exec .bdPowerOn s = .next t ∧ Only [.regs, .bk] s t ∧
    t.bk = { onVbak := true, lost := true, awake := false } ∧ (∀ i, i < 16 → t.get (Reg.SYS_BKREG i) = 0) ∧
    (∀ k, k < 4 → t.get (Reg.SYS_CMP_CFG_THRESH k) = 0 ∧ t.get (Reg.SYS_CMP_CFG_EDGE k) = 0 ∧ t.get (Reg.SYS_CMP_CFG_STATE k) = 0) ∧
    t.get Reg.SYS_CMP_STROBE = 3 ∧ t.get Reg.SYS_BKFIFO_STAT_OVF = 0 ∧ t.get Reg.SYS_WAKE_CAUSE_CAUSE = 0)

/-- What an agent may write, read or not reach at an address, and that an access outside the window changes nothing and reads
zero (04_groups_and_memory.md Table GRP-2). -/
def Obligations.WindowsAndAccessesOutside : Prop :=
  (∀ (s : State) (a : Nat), s.awake = true → s.live = true →
    (a < 0x1000 ∨ 0x10000 ≤ a ∧ a < 0x28000 ∨ 0x30000 ≤ a ∧ a < 0x32200 ∨ 0x50000 ≤ a ∧ a < 0x51000 ∨ 0x60000 ≤ a ∧ a < 0x62000 ∨
      0x70000 ≤ a ∧ a < 0x92000 ∨ 0xA0000 ≤ a ∧ a < 0xA1000 ∨ 0xB0000 ≤ a ∧ a < 0xB1000 ∨ 0xC0000 ≤ a ∧ a < 0xC1000 ∨
      0xD0000 ≤ a ∧ a < 0xD1000 ∨ 0xE0000 ≤ a ∧ a < 0xE2000) →
    s.window a .device = .rw) ∧
  (∀ (s : State) (n m : Fin 16) (o : Nat), s.awake = true → s.live = true → o < 0x1000 →
    s.window (0x10000 + 0x1000 * n + o) (.group n) = .rw ∧ s.window o (.group n) = .ro ∧
    (m ≠ n → s.window (0x10000 + 0x1000 * m + o) (.group n) = .none_) ∧
    (∀ e : Fin 17, s.window o (.engine e) = .none_ ∧
      (s.engGroup e ≠ some m.val → s.window (0x10000 + 0x1000 * m + o) (.engine e) = .none_))) ∧
  (∀ (s : State) (n : Fin 16) (x : Fin 32) (o : Nat), s.awake = true → s.live = true → o < 0x400 →
    s.window (0x20000 + 0x400 * x + o) (.group n) = (if s.axisGroup x = some n.val then .rw else .none_)) ∧
  (∀ (s : State) (ag : Agent) (addr value mask : BitVec 32), aliasOf (addr.toNat / 4 * 4) = none →
    s.window (addr.toNat / 4 * 4) ag ≠ .rw →
    exec (.registerWrite ag addr value mask) s = .next s ∧ exec (.pairHighWrite ag addr value) s = .next s ∧
      exec (.pairLowWrite ag addr value) s = .next s) ∧
  (∀ (s : State) (ag : Agent) (addr value : BitVec 32), aliasOf (addr.toNat / 4 * 4) = none → exec (.aliasWrite ag addr value) s = .next s) ∧
  (∀ (s : State) (ag : Agent) (addr value : BitVec 32) (u : Nat) (up : Bool), aliasOf (addr.toNat / 4 * 4) = some (u, up) →
    s.window u ag ≠ .rw → exec (.aliasWrite ag addr value) s = .next s) ∧
  (∀ (s : State) (ag : Agent) (addr : BitVec 32), aliasOf (addr.toNat / 4 * 4) = none → s.window (addr.toNat / 4 * 4) ag = .none_ →
    exec (.rcFieldRead ag addr) s = .next { s with readOut := [0] } ∧ exec (.pairLowRead ag addr) s = .next { s with readOut := [0] } ∧
      exec (.pairHighRead ag addr) s = .next { s with readOut := [0] })

/-- The RTC is set through RTC_SET and RTC_CTL.LOAD, takes the value at its next tick, and NTIME does not change (R49). -/
def Obligations.RtcIsSetAtItsNextTick : Prop :=
  (∀ (s : State) (ag : Agent) (v : BitVec 32), s.window 0x28 ag = .rw →
    ∃ t, exec (.registerWrite ag 0x28 v 0xFFFFFFFF) s = .next t ∧ OnlyRegs s t [Reg.SYS_RTC_SET_LO] ∧
      t.get Reg.SYS_RTC_SET_LO = v.toNat ∧ t.ntime = s.ntime) ∧
  (∀ (s : State) (ag : Agent) (v : BitVec 32), s.window 0x2C ag = .rw →
    ∃ t, exec (.registerWrite ag 0x2C v 0xFFFFFFFF) s = .next t ∧ OnlyRegs s t [Reg.SYS_RTC_SET_HI] ∧
      t.get Reg.SYS_RTC_SET_HI = v.toNat % 65536 ∧ t.ntime = s.ntime) ∧
  (∀ (s : State) (ag : Agent), s.window 0x30 ag = .rw → s.get Reg.SYS_RTC_CTL_SYNC < 2 →
    ∃ t, exec (.rtcLoad ag) s = .next t ∧ OnlyRegs s t [Reg.SYS_RTC_CTL_LOAD] ∧ t.get Reg.SYS_RTC_CTL_LOAD = 1 ∧
      t.bk.rtc = s.bk.rtc ∧ t.ntime = s.ntime) ∧
  (∀ s : State, s.awake = false ∨ s.get Reg.SYS_RTC_CTL_LOAD = 0 → exec .rtcLoadTick s = .next s) ∧
  (∀ s : State, s.awake = true → s.get Reg.SYS_RTC_CTL_LOAD = 1 → ∃ t, exec .rtcLoadTick s = .next t ∧ Only [.regs, .bk] s t ∧
    RegsKept s t [Reg.SYS_RTC_CTL_LOAD] ∧ t.get Reg.SYS_RTC_CTL_LOAD = 0 ∧
    t.bk = { s.bk with rtc := s.get Reg.SYS_RTC_SET_LO + s.get Reg.SYS_RTC_SET_HI * 2 ^ 32, sub := 0 } ∧ t.ntime = s.ntime)

/-- Reading BKFIFO_HI returns and removes the oldest backup event, reading BKFIFO_LO returns it and removes nothing, for both
agents (R54). -/
def Obligations.BackupFifoReads : Prop :=
  (∀ (s : State) (ag : Agent), s.window 0x64 ag ≠ .none_ →
    exec (.bkfifoHiRead ag) s = .next { s with bk := { s.bk with fifo := s.bk.fifo.tail }, readOut := [s.bkHi] }) ∧
  (∀ (s : State) (ag : Agent), s.window 0x60 ag ≠ .none_ → exec (.rcFieldRead ag 0x60) s = .next { s with readOut := [s.bkLo] }) ∧
  (∀ s : State, s.bk.fifo = [] → s.bkLo = 0 ∧ s.bkHi = 0) ∧
  (∀ (s : State) (e : BkEntry) (r : List BkEntry), s.bk.fifo = e :: r → s.bkLo = e.rtc % 2 ^ 32 ∧
    s.bkHi = e.rtc / 2 ^ 32 % 2 ^ 16 + e.src % 16 * 2 ^ 16 + (if e.edge then 2 ^ 20 else 0) + 2 ^ 31) ∧
  (∀ (s : State) (addr : BitVec 7), s.responderOwns = true → addr.toNat = s.responderAddr → s.bk.awake = true →
    (∃ t, exec (.dormantResponderTransaction addr [0x30, 0] 4) s = .next t ∧ t.readOut = (leBytes 4 s.bkLo).map BitVec.toNat ∧
      t.bk = { s.bk with ptr := 0x34 } ∧ Only [.bk, .i2c, .readOut] s t) ∧
    (∃ t, exec (.dormantResponderTransaction addr [0x30, 0] 8) s = .next t ∧
      t.readOut = (leBytes 4 s.bkLo ++ leBytes 4 s.bkHi).map BitVec.toNat ∧
      t.bk = { s.bk with ptr := 0x38, fifo := s.bk.fifo.tail } ∧ Only [.bk, .i2c, .readOut] s t))

/-- Registers: masked writes, read-only and unlisted words, clear-on-read fields, RTC capture, and 64-bit pairs through capture
and hold (01_architecture.md Table SCO-2, 04_groups_and_memory.md, 02_power_and_modes.md, 16_bexic_protocol.md). -/
def Obligations.RegisterAccesses : Prop :=
  (∀ (s : State) (ag : Agent) (i : Nat) (v m addr : BitVec 32), (i = 14 ∨ i = 15) → addr.toNat = 0x80 + 4 * i →
    s.window addr.toNat ag = .rw → s.get (Reg.SYS_BKREG i) < 2 ^ 32 →
    ∃ t, exec (.registerWrite ag addr v m) s = .next t ∧ OnlyRegs s t [Reg.SYS_BKREG i] ∧ t.get (Reg.SYS_BKREG i) < 2 ^ 32 ∧
      ∀ k, k < 32 → (t.get (Reg.SYS_BKREG i)).testBit k = (if m.getLsbD k then v.getLsbD k else (s.get (Reg.SYS_BKREG i)).testBit k)) ∧
  (∀ (s : State) (ag : Agent) (v m : BitVec 32), s.window 0 ag = .rw → exec (.registerWrite ag 0 v m) s = .next s) ∧
  (∀ (s : State) (ag : Agent) (v m : BitVec 32), s.window 0x14 ag = .rw → exec (.registerWrite ag 0x14 v m) s = .next s) ∧
  (∀ (s : State) (ag : Agent) (a : BitVec 32), a.toNat % 4 = 0 → a.toNat < 0x10000000 → pairOf a.toNat = none → a.toNat ≠ 0x20 →
    a.toNat ≠ 0x64 →
    (s.window a.toNat ag = .ro → exec (.rcFieldRead ag a) s = .next { s with readOut := [s.wordNow a.toNat] }) ∧
    (s.window a.toNat ag = .rw → ∃ t, exec (.rcFieldRead ag a) s = .next t ∧ t.readOut = [s.wordNow a.toNat] ∧
      Only [.regs, .readOut] s t ∧
      RegsKept s t (((fldsAt a.toNat).filter (fun q => q.2.2 = .rc)).map Prod.fst) ∧
      ∀ q ∈ fldsAt a.toNat, q.2.2 = .rc → t.get q.1 = 0)) ∧
  (∀ (s : State) (ag : Agent), s.window 0x20 ag ≠ .none_ → s.bk.rtc < 2 ^ 48 → ∃ t, exec (.rtcLoRead ag) s = .next t ∧
    Only [.regs, .readOut] s t ∧ RegsKept s t [Reg.SYS_RTC_HI] ∧ t.readOut = [s.bk.rtc % 2 ^ 32] ∧ t.get Reg.SYS_RTC_HI = s.bk.rtc / 2 ^ 32) ∧
  (∀ (s : State) (ag : Agent) (k c : Nat), k = accessor ag → c = s.get Reg.SYS_SLOW_COUNT → c < 2 ^ 64 →
    (s.window 0x310 ag ≠ .none_ → ∃ t, exec (.pairLowRead ag 0x310) s = .next t ∧ Only [.holds, .readOut] s t ∧ t.readOut = [c % 2 ^ 32] ∧
      t.holdX k = { s.holdX k with rdPair := some 0x310, rdHigh := c / 2 ^ 32 } ∧ ∀ j, j ≠ k → t.holdX j = s.holdX j) ∧
    (s.window 0x314 ag ≠ .none_ → exec (.pairHighRead ag 0x314) s =
      .next { s with readOut := [if (s.holdX k).rdPair = some 0x310 then (s.holdX k).rdHigh else c / 2 ^ 32] })) ∧
  (∀ (s : State) (ag : Agent) (p : Fin 2) (a k : Nat) (lo hi v : BitVec 32), k = accessor ag → a = 0x8030C + 0x40 * p →
    lo.toNat = a → hi.toNat = a + 4 → s.window a ag = .rw → s.window (a + 4) ag = .rw → s.get (Reg.ETH_GCL_ADMIN_BASE p) < 2 ^ 64 →
    (∃ t, exec (.pairHighWrite ag hi v) s = .next t ∧ Only [.holds] s t ∧
      t.holdX k = { s.holdX k with wrPair := some a, wrHigh := v.toNat } ∧ ∀ j, j ≠ k → t.holdX j = s.holdX j) ∧
    ((s.holdX k).wrPair = some a → (s.holdX k).wrHigh < 2 ^ 32 → ∃ t, exec (.pairLowWrite ag lo v) s = .next t ∧ Only [.regs, .holds] s t ∧
      RegsKept s t [Reg.ETH_GCL_ADMIN_BASE p] ∧ t.get (Reg.ETH_GCL_ADMIN_BASE p) = v.toNat + (s.holdX k).wrHigh * 2 ^ 32 ∧
      t.holdX k = { s.holdX k with wrPair := none, wrHigh := 0 } ∧ ∀ j, j ≠ k → t.holdX j = s.holdX j) ∧
    ((s.holdX k).wrPair ≠ some a → ∃ t, exec (.pairLowWrite ag lo v) s = .next t ∧ OnlyRegs s t [Reg.ETH_GCL_ADMIN_BASE p] ∧
      t.get (Reg.ETH_GCL_ADMIN_BASE p) = v.toNat + s.get (Reg.ETH_GCL_ADMIN_BASE p) / 2 ^ 32 * 2 ^ 32))

/-- Each bit that acts when written 1 does exactly its effect: resets, requests, acknowledgements and clears
(04_groups_and_memory.md, 05_loop_engines.md, 08_control_loops.md, 11_feedback.md, 13_ethernet_tsn.md, 14_can_fd.md, 15_i2c.md,
17_ledger.md). -/
def Obligations.BitsThatAct : Prop :=
  (∀ (s : State) (ag : Agent), s.window 0xB0010 ag = .rw → s.get Reg.POOL_STAT_FREE_TOTAL ≤ 65536 →
    ∃ t, exec (.minReset ag) s = .next t ∧ OnlyRegs s t [Reg.POOL_MIN_SHARED] ∧ t.get Reg.POOL_MIN_SHARED = s.freeShared) ∧
  (∀ (s : State) (ag : Agent) (n : Fin 16), s.window (0x1002C + 0x1000 * n) ag = .rw → s.flag (Reg.GRP_ENG_CFG_SERVED n) = true →
    s.shadowOf n = none → s.get (Reg.ENG_EVT_CAUSE (s.engOf n)) < 2 ^ 32 →
    ∃ t, exec (.doorbell ag n) s = .next t ∧ OnlyRegs s t [Reg.ENG_EVT_CAUSE (s.engOf n)] ∧
      ∀ i, i < 32 → (t.get (Reg.ENG_EVT_CAUSE (s.engOf n))).testBit i =
        (decide (i = 17) || (s.get (Reg.ENG_EVT_CAUSE (s.engOf n))).testBit i)) ∧
  (∀ (s : State) (ag : Agent) (e : Fin 17), s.window (0x30020 + 0x200 * e) ag = .rw →
    ∃ t, exec (.runMaxReset ag e) s = .next t ∧ OnlyRegs s t [Reg.ENG_RUN_MAX e] ∧ t.get (Reg.ENG_RUN_MAX e) = 0) ∧
  (∀ (s : State) (ag : Agent) (n : Fin 16), s.window (0x10044 + 0x1000 * n) ag = .rw →
    ∃ t, exec (.coefArm ag n) s = .next t ∧ OnlyRegs s t [Reg.GRP_COEF_CTL n] ∧ t.get (Reg.GRP_COEF_CTL n) = 1) ∧
  (∀ (s : State) (ag : Agent) (p : Fin 16), s.window (0x60038 + 0x200 * p) ag = .rw →
    ∃ t, exec (.refAck ag p) s = .next t ∧ OnlyRegs s t [Reg.FB_STAT_REF_LOST p] ∧ t.get (Reg.FB_STAT_REF_LOST p) = 0) ∧
  (∀ (s : State) (ag : Agent) (p : Fin 16), s.window (0x600AC + 0x200 * p) ag = .rw →
    ∃ t, exec (.ampTrackReset ag p) s = .next t ∧ OnlyRegs s t [Reg.FB_R2_MIN p, Reg.FB_R2_MAX p] ∧
      t.get (Reg.FB_R2_MIN p) = 2 ^ 32 - 1 ∧ t.get (Reg.FB_R2_MAX p) = 0) ∧
  (∀ (s : State) (ag : Agent), s.window 0xC001C ag = .rw → s.get Reg.LEDGER_EVQ_LEVEL_LEVEL < 2 ^ 11 →
    ∃ t, exec (.peakReset ag) s = .next t ∧ OnlyRegs s t [Reg.LEDGER_EVQ_LEVEL_PEAK] ∧
      t.get Reg.LEDGER_EVQ_LEVEL_PEAK = s.get Reg.LEDGER_EVQ_LEVEL_LEVEL) ∧
  (∀ (s : State) (ag : Agent) (w : Fin 4) (m : BitVec 32), s.window (0x80410 + 4 * w) ag = .rw → s.get (Reg.ETH_SF_BLOCKED w) < 2 ^ 32 →
    ∃ t, exec (.sfBlockedClear ag w m) s = .next t ∧ OnlyRegs s t [Reg.ETH_SF_BLOCKED w] ∧
      ∀ i, i < 32 → (t.get (Reg.ETH_SF_BLOCKED w)).testBit i = ((s.get (Reg.ETH_SF_BLOCKED w)).testBit i && !m.getLsbD i)) ∧
  (∀ (s : State) (ag : Agent) (c : Fin 2), s.window (0x90350 + 0x1000 * c) ag = .rw →
    (s.flag (Reg.CAN_TXCTL_BUSY c) = true → exec (.canTxSend ag c) s = .next s) ∧
    (s.flag (Reg.CAN_TXCTL_BUSY c) = false → s.txbOk c = true → ∃ t, exec (.canTxSend ag c) s = .next t ∧
      OnlyRegs s t [Reg.CAN_TXCTL_BUSY c, Reg.CAN_TXCTL_ERR c] ∧ t.get (Reg.CAN_TXCTL_BUSY c) = 1 ∧ t.get (Reg.CAN_TXCTL_ERR c) = 0) ∧
    (s.flag (Reg.CAN_TXCTL_BUSY c) = false → s.txbOk c = false → ∃ t, exec (.canTxSend ag c) s = .next t ∧
      OnlyRegs s t [Reg.CAN_TXCTL_ERR c] ∧ t.get (Reg.CAN_TXCTL_ERR c) = 1) ∧
    ∃ t, exec (.canTxAbort ag c) s = .next t ∧ OnlyRegs s t [Reg.CAN_TXCTL_BUSY c] ∧ t.get (Reg.CAN_TXCTL_BUSY c) = 0) ∧
  (∀ (s : State) (ag : Agent) (c k : Fin 2), s.window (0x90104 + 0x1000 * c + 0x80 * k) ag = .rw → ((s.canX c).fifo k).length ≤ 64 →
    ∃ t, exec (.canFifoPop ag c k) s = .next t ∧ Only [.regs, .can] s t ∧
      RegsKept s t (Reg.CAN_RXF_STAT_LEVEL c k :: (List.range 20).map (Reg.CAN_RXF_HEAD c k)) ∧
      (t.canX c).fifo k = ((s.canX c).fifo k).tail ∧ (t.canX c).fifo (1 - k) = (s.canX c).fifo (1 - k) ∧
      t.canX (1 - c) = s.canX (1 - c) ∧ t.get (Reg.CAN_RXF_STAT_LEVEL c k) = ((s.canX c).fifo k).tail.length) ∧
  (∀ (s : State) (ag : Agent) (p : Fin 2), s.window (0x80300 + 0x40 * p) ag = .rw → s.get (Reg.ETH_GCL_CTL_MODE p) < 4 →
    ∃ t, exec (.gclChange ag p) s = .next t ∧
    (s.get (Reg.ETH_GCL_CTL_MODE p) ≠ 2 → OnlyRegs s t []) ∧
    (s.get (Reg.ETH_GCL_CTL_MODE p) = 2 → s.adminOk p = false → OnlyRegs s t [Reg.ETH_GCL_CTL_ERR p] ∧ t.get (Reg.ETH_GCL_CTL_ERR p) = 1) ∧
    (s.get (Reg.ETH_GCL_CTL_MODE p) = 2 → s.adminOk p = true → 0 < s.get (Reg.ETH_GCL_ADMIN_CYCLE p) → Only [.regs, .eth] s t ∧
      RegsKept s t [Reg.ETH_GCL_CTL_ERR p, Reg.ETH_GCL_CTL_PENDING p] ∧
      t.get (Reg.ETH_GCL_CTL_PENDING p) = 1 ∧ t.get (Reg.ETH_GCL_CTL_ERR p) = 0 ∧
      ∃ k, (t.ethX p).change = some (s.get (Reg.ETH_GCL_ADMIN_BASE p) + k * s.get (Reg.ETH_GCL_ADMIN_CYCLE p)) ∧
        s.ntime + 100000 ≤ s.get (Reg.ETH_GCL_ADMIN_BASE p) + k * s.get (Reg.ETH_GCL_ADMIN_CYCLE p) ∧
        (k = 0 ∨ s.get (Reg.ETH_GCL_ADMIN_BASE p) + (k - 1) * s.get (Reg.ETH_GCL_ADMIN_CYCLE p) < s.ntime + 100000)))

/-- Writes that carry a value: feed override, output modes, offsets, loop faults, field outputs and the enables of Ethernet
ports and CAN channels (08_control_loops.md, 09_setpoint_generation.md, 10_coordinate_scheduler.md, 11_feedback.md,
12_field_io.md, 13_ethernet_tsn.md, 14_can_fd.md, 15_i2c.md). -/
def Obligations.ValueWrites : Prop :=
  (∀ (s : State) (ag : Agent) (n : Fin 16) (v : BitVec 32), s.window (0x10104 + 0x1000 * n) ag = .rw → s.get (Reg.GRP_FEED_OVR n) < 2 ^ 11 →
    ∃ t, exec (.feedOvrWrite ag n v) s = .next t ∧ OnlyRegs s t [Reg.GRP_FEED_OVR n] ∧ t.get (Reg.GRP_FEED_OVR n) = min 2000 (v.toNat % 2 ^ 11)) ∧
  (∀ (s : State) (ag : Agent) (k : Fin 8) (m : BitVec 2), s.window (0x78040 + 4 * k) ag = .rw → s.get (Reg.FIELD_HO_CFG_MODE k) < 4 →
    ∃ t, exec (.hoModeWrite ag k m) s = .next t ∧ t.get (Reg.FIELD_HO_CFG_MODE k) = m.toNat ∧ Only [.regs, .ho] s t ∧
      (∀ j, j < 8 → j ≠ k.val → t.hoX j = s.hoX j ∧ t.hoOn j = s.hoOn j) ∧
      (m.toNat = 1 → t.hoOn k = false) ∧ (m.toNat = 2 → t.hoOn k = true ∧ (t.hoX k).byClave = false) ∧
      (m.toNat = 0 → s.get (Reg.FIELD_HO_CFG_MODE k) ≠ 2 → OnlyRegs s t [Reg.FIELD_HO_CFG_MODE k])) ∧
  (∀ (s : State) (ag : Agent) (p : Fin 16) (v : BitVec 64), s.window (0x60028 + 0x200 * p) ag = .rw → s.window (0x6002C + 0x200 * p) ag = .rw →
    ∃ t, exec (.fbOffsetWrite ag p v) s = .next t ∧ Only [.regs, .fb, .holds] s t ∧ RegsKept s t [Reg.FB_STAT_OFS_PENDING p] ∧
      t.get (Reg.FB_STAT_OFS_PENDING p) = 1 ∧ t.fbX p = { s.fbX p with ofs := some (s.clk, v.toNat) } ∧ ∀ j, j ≠ p.val → t.fbX j = s.fbX j) ∧
  (∀ (s : State) (ag : Agent) (x : Fin 32) (v : BitVec 32), s.window (0x20100 + 0x400 * x) ag = .rw → s.axisGroup x = none →
    s.get (Reg.AXIS_LOOP_FLT_DETAIL x) < 2 ^ 16 →
    ∃ t, exec (.loopFltWrite ag x v) s = .next t ∧
      OnlyRegs s t [Reg.AXIS_LOOP_FLT_DETAIL x, Reg.AXIS_LOOP_FLT_FOLLOW x, Reg.AXIS_LOOP_FLT_VEL x, Reg.AXIS_LOOP_FLT_USER x] ∧
      t.get (Reg.AXIS_LOOP_FLT_DETAIL x) = v.toNat / 65536 ∧
      t.get (Reg.AXIS_LOOP_FLT_FOLLOW x) = (if v.getLsbD 0 then 1 else s.get (Reg.AXIS_LOOP_FLT_FOLLOW x)) ∧
      t.get (Reg.AXIS_LOOP_FLT_VEL x) = (if v.getLsbD 1 then 1 else s.get (Reg.AXIS_LOOP_FLT_VEL x)) ∧
      t.get (Reg.AXIS_LOOP_FLT_USER x) = (if v.getLsbD 2 then 1 else s.get (Reg.AXIS_LOOP_FLT_USER x))) ∧
  (∀ (s : State) (ag : Agent) (j : Fin 16) (v : BitVec 32), s.window (0x70400 + 4 * j) ag = .rw →
    (s.doBase j ≠ j → exec (.doOutWrite ag j v) s = .next s) ∧
    (s.doBase j = j → ∃ t k, exec (.doOutWrite ag j v) s = .next t ∧ Only [.regs, .field] s t ∧ RegsKept s t [Reg.FIELD_DO_OUT j] ∧
      t.flag (Reg.FIELD_DO_OUT j) = v.getLsbD 0 ∧ s.ntime + 30000 ≤ 1000 * k ∧ 1000 * k < s.ntime + 31000 ∧
      t.field = { s.field with cmds := s.field.cmds ++ [⟨1000 * k, j, v.getLsbD 0, none, false, false⟩] })) ∧
  (∀ (s : State) (ag : Agent) (p : Fin 2), s.window (0x80100 + 0x40 * p) ag = .rw →
    (∃ t, exec (.ethPortEnableWrite ag p true) s = .next t ∧ OnlyRegs s t [Reg.ETH_PORT_CTL_EN p] ∧ t.get (Reg.ETH_PORT_CTL_EN p) = 1) ∧
    (∃ t, exec (.ethPortEnableWrite ag p false) s = .next t ∧ t.get (Reg.ETH_PORT_CTL_EN p) = 0 ∧ t.get (Reg.ETH_PORT_STAT_LINK p) = 0 ∧
      Only [.regs, .eth, .pool, .led] s t ∧
      (s.flag (Reg.ETH_PORT_STAT_LINK p) = true → (t.ethX p).queue = [] ∧ ∀ m ∈ t.eth.macs, m.2.1 ≠ p.val))) ∧
  (∀ (s : State) (ag : Agent) (c : Fin 2), s.window (0x90000 + 0x1000 * c) ag = .rw →
    (s.canState c = canDisabled → ∃ t, exec (.canEnableWrite ag c true) s = .next t ∧
      OnlyRegs s t [Reg.CAN_CTL c, Reg.CAN_STAT_STATE c] ∧ t.get (Reg.CAN_CTL c) = 1 ∧
      t.canState c = (if (s.canX c).wasOff then canBusOff else canListen)) ∧
    (s.canState c ≠ canDisabled → ∃ t, exec (.canEnableWrite ag c false) s = .next t ∧ Only [.regs, .can] s t ∧
      RegsKept s t [Reg.CAN_CTL c, Reg.CAN_STAT_STATE c] ∧ t.get (Reg.CAN_CTL c) = 0 ∧ t.canState c = canDisabled ∧
      (t.canX c).wasOff = (decide (s.canState c = canBusOff) || decide (s.canState c = canRecovering))))

/-- Aliases set and clear bits of a shared-SRAM word; scrubs count corrections and handle an uncorrectable word by its region
(04_groups_and_memory.md, 18_faults.md). -/
def Obligations.AliasesAndScrubs : Prop :=
  (∀ (s : State) (ag : Agent) (addr v : BitVec 32) (u : Nat) (up : Bool), aliasOf (addr.toNat / 4 * 4) = some (u, up) →
    0x20130000 ≤ u → u < 0x20134000 → s.window u ag = .rw → s.flt.latent = [] → ∃ t, exec (.aliasWrite ag addr v) s = .next t ∧ Only [.mem] s t ∧
      MemKept s t u 4 ∧ t.rdLE u 4 < 2 ^ 32 ∧
      ∀ i, i < 32 → (t.rdLE u 4).testBit i = (if v.getLsbD i then up else (s.rdLE u 4).testBit i)) ∧
  (∀ (s : State) (k : BitVec 16) (u : Option (BitVec 21)) (w : Option (BitVec 30)), s.live = false ∨ s.awake = false →
    exec (.sramScrub k u u) s = .next s ∧ exec (.xmemScrub k w w) s = .next s) ∧
  (∀ (s : State) (k : BitVec 16), s.live = true → s.awake = true → s.flt.latent = [] →
    (∀ o : BitVec 21, ∃ t, exec (.sramScrub k none (some o)) s = .next t ∧ Only [.regs, .flt] s t ∧
      t.flt = { s.flt with latent := [0x20000000 + o.toNat / 4 * 4] }) ∧
    (∃ t, exec (.sramScrub k none none) s = .next t ∧ OnlyRegs s t [Reg.SYS_SRAM_ECC_CE_COUNT] ∧
      t.get Reg.SYS_SRAM_ECC_CE_COUNT = min 65535 (s.get Reg.SYS_SRAM_ECC_CE_COUNT + k.toNat)) ∧
    (∃ t, exec (.xmemScrub k none none) s = .next t ∧ OnlyRegs s t [Reg.SYS_XMEM_SCRUB, Reg.SYS_XMEM_ECC_CE_COUNT] ∧
      t.get Reg.SYS_XMEM_SCRUB = (s.get Reg.SYS_XMEM_SCRUB + 1) % 65536 ∧
      t.get Reg.SYS_XMEM_ECC_CE_COUNT = min 65535 (s.get Reg.SYS_XMEM_ECC_CE_COUNT + k.toNat)) ∧
    (∀ (o : BitVec 21) (a n : Nat), a = o.toNat / 4 * 4 → sramUeGroup a = some n → ∃ t, exec (.sramScrub k (some o) none) s = .next t ∧
      t.rdLE (0x20000000 + a) 4 = 0 ∧ MemKept s t (0x20000000 + a) 4 ∧ t.get Reg.SYS_SRAM_ECC_UE = 1 ∧ t.get Reg.SYS_SRAM_UE_ADDR = a ∧
      (t.grpX n).memUe = true ∧
      Posted s t (s.evNow n clsGroupFault 0x02 false (u8s [0xFF, s.reactOf n 2, s.gstate n, 0] ++ leBytes 4 a))) ∧
    (∀ o : BitVec 21, sramUeGroup (o.toNat / 4 * 4) = none → ∃ t, exec (.sramScrub k (some o) none) s = .next t ∧ t.mode = modeLoading ∧
      t.start = { s.start with entry := some 4 } ∧ t.rdLE (0x20000000 + o.toNat / 4 * 4) 4 = 0 ∧
      ∀ e, e < 17 → t.get (Reg.ENG_STATE_STATE e) = esOff) ∧
    (∀ o : BitVec 30, ∃ t, exec (.xmemScrub k (some o) none) s = .next t ∧ t.mode = modeSafeHold ∧ t.flt.xmemUe = true ∧
      t.get Reg.SYS_XMEM_ECC_UE = 1 ∧ t.get Reg.SYS_XMEM_UE_ADDR = o.toNat / 8 * 8 ∧
      t.rdLE (0x80000000 + o.toNat / 8 * 8) 8 = 0 ∧ MemKept s t (0x80000000 + o.toNat / 8 * 8) 8 ∧
      bit (t.get Reg.FAULT_DEV_LATCH) 2 = true))

/-- The checks of an arriving message, in their order: each has its status, one answer and one counted violation, and consumes
nothing (16_bexic_protocol.md Table BXP-3). -/
def Obligations.MessageChecks : Prop :=
  ∀ (s : State) (m : Msg) (op : Nat) (c : Instr), (op, c) ∈ messageCommands m → s.awake = true → s.live = true → s.route m = m →
    (m.version = 0 → ∃ t, exec c s = .next t ∧ t.outbox = s.outbox ∧ t.awaiting = s.awaiting ∧
      t.get (Reg.SYS_BXP_DROPPED m.ep) = min 65535 (s.get (Reg.SYS_BXP_DROPPED m.ep) + 1)) ∧
    (m.version ≠ 0 → m.version ≠ 1 → Refused s c op m m.tag.toNat stBadVersion []) ∧
    (m.version = 1 → m.crc.toNat ≠ msgCrc op m → Refused s c op m m.tag.toNat stBadCrc []) ∧
    (m.version = 1 → m.crc.toNat = msgCrc op m → (1400 < m.len.toNat ∨ m.len.toNat ≠ m.payload.length ∨ 8 ≤ m.flags.toNat) →
      Refused s c op m m.tag.toNat stBadLength []) ∧
    (m.version = 1 → m.crc.toNat = msgCrc op m → m.len.toNat = m.payload.length → m.payload.length ≤ 1400 → m.flags.toNat < 8 →
      (bit m.flags.toNat 1 = false ∨ bit m.flags.toNat 2 = false → Refused s c op m m.tag.toNat stFragError []) ∧
      (bit m.flags.toNat 1 = true → bit m.flags.toNat 2 = true →
        (m.group.toNat ≠ groupByte m.ep → Refused s c op m m.tag.toNat stBadGroup []) ∧
        (m.group.toNat = groupByte m.ep →
          (m.ep.val = 16 → s.listed m.src = false →
            (if s.flt.npSecond = s.ntime / 1000000000 then s.flt.npSent else 0) < 10 → Refused s c op m m.tag.toNat stNotPermitted []) ∧
          (m.ep.val < 16 → op ∈ deviceOps → Refused s c op m m.tag.toNat stNotPermitted []) ∧
          (m.ep.val = 16 → s.listed m.src = true → op ∈ groupOps → Refused s c op m m.tag.toNat stBadGroup []) ∧
          ((m.ep.val = 16 → s.listed m.src = true ∧ op ∉ groupOps) → (m.ep.val < 16 → op ∉ deviceOps) →
            (32 ≤ s.awaitCount m.ep → Refused s c op m m.tag.toNat stRate []) ∧
            (s.awaitCount m.ep < 32 → 1 < op → s.inSession m = false →
              Refused s c op m (s.get (Reg.SYS_BXP_SESSION_TAG m.ep)) stNoSession []) ∧
            (s.awaitCount m.ep < 32 → 1 < op → s.inSession m = true → m.seq.toNat ≤ s.get (Reg.SYS_BXP_LAST_SEQ m.ep) →
              (s.sessX m.ep).lastStatus < 256 →
              Refused s c op m m.tag.toNat stStaleSeq
                (leBytes 4 (s.get (Reg.SYS_BXP_LAST_SEQ m.ep)) ++ u8s [(s.sessX m.ep).lastStatus, 0, 0, 0]))))))

/-- A consumed command is answered when it failed, asked for an answer or always has one, is recorded, and touches only the
transports (16_bexic_protocol.md, 17_ledger.md). -/
def Obligations.MessageAnswers : Prop :=
  (∀ (op : Nat) (m : Msg) (r : Reply) (t : State), r.proto = false → r.restart = false → t = State.finish op m r →
    t.outbox = (if r.status ≠ stOk ∨ bit m.flags.toNat 0 = true ∨ op ∈ alwaysOps
      then responseTo op m (r.s.answerTag m) r.status r.detail r.body :: r.s.outbox else r.s.outbox) ∧
    Only [.regs, .drawn, .outbox, .pool, .led, .sess, .eth, .can, .i2c] r.s t ∧
    (∀ f : Fld, f.key < 0x80000 * 32 ∨ 0xD0000 * 32 ≤ f.key → t.get f = r.s.get f) ∧
    (op ≠ 1 → r.s.flag (Reg.SYS_BXP_SESSION_OPEN m.ep) = true → r.s.get (Reg.SYS_BXP_SESSION_TAG m.ep) = m.tag.toNat →
      r.s.get (Reg.SYS_BXP_LAST_SEQ m.ep) = m.seq.toNat → (r.s.sessX m.ep).src.same m.src = true →
      (t.sessX m.ep).lastStatus = r.status) ∧
    (m.src = .i2cs → op ∉ silentOps → Posted r.s t (r.s.evNow (groupByte m.ep) clsCmd op true
      (u8s [r.status, viaOf m.src] ++ leBytes 2 (r.s.answerTag m) ++ leBytes 4 m.seq.toNat ++ List.replicate 4 0 ++ padTo 20 m.payload)))) ∧
  (∀ (op : Nat) (m : Msg) (r : Reply), r.restart = true → (State.finish op m r).mode = modeLoading ∧
    (State.finish op m r).start.entry = some 2 ∧ ∀ e, e < 17 → (State.finish op m r).get (Reg.ENG_STATE_STATE e) = esOff)

/-- SESSION_OPEN, PING, register reads and writes and EVENT_SUBSCRIBE: what each does and what it answers
(16_bexic_protocol.md). -/
def Obligations.SessionAndRegisterMessages : Prop :=
  (∀ (s : State) (m : Msg), Accepted s 0x00 m → (s.sessX m.ep).prevTag < 65536 → ∃ u tag, 1 ≤ tag ∧ tag < 65536 ∧ tag ≠ (s.sessX m.ep).prevTag ∧
    Answers s (.sessionOpen m) 0x00 m u stOk 0 (leBytes 2 tag ++ u8s [groupByte m.ep, s.mode] ++ leBytes 4 (s.get Reg.SYS_IMG_STAMP_LO)
      ++ leBytes 4 (s.get Reg.SYS_IMG_STAMP_HI) ++ leBytes 4 (s.get Reg.SYS_IMG_GEN) ++ leBytes 8 s.ntime) ∧
    Only [.regs, .sess] s u ∧ u.get (Reg.SYS_BXP_SESSION_TAG m.ep) = tag ∧ u.get (Reg.SYS_BXP_SESSION_OPEN m.ep) = 1 ∧
    u.get (Reg.SYS_BXP_LAST_SEQ m.ep) = m.seq.toNat ∧ u.get (Reg.SYS_BXP_SESSION_VIA m.ep) = viaOf m.src ∧
    u.sessX m.ep = { src := m.src, lastStatus := stOk, prevTag := tag, mask := 0, evSeq := 1, waiting := [] } ∧
    (∀ k, k ≠ m.ep.val → u.sessX k = s.sessX k) ∧
    RegsKept s u [Reg.SYS_BXP_SESSION_TAG m.ep, Reg.SYS_BXP_SESSION_OPEN m.ep, Reg.SYS_BXP_SESSION_VIA m.ep, Reg.SYS_BXP_LAST_SEQ m.ep,
      Reg.SYS_BXP_SRC_IP m.ep, Reg.SYS_BXP_RX_MSG m.ep]) ∧
  (∀ (s : State) (m : Msg), Accepted s 0x01 m → ∃ u, Answers s (.ping m) 0x01 m u stOk 0 (leBytes 8 s.ntime ++ m.payload) ∧
    OnlyRegs s u [Reg.SYS_BXP_RX_MSG m.ep]) ∧
  (∀ (s t : State) (m : Msg) (v : Nat), Accepted s 0x02 m → (s.consume 0x02 m).busRead (agentOf m.ep) (m.le 0 4) = (t, v) →
    Answers s (.readReg m) 0x02 m t stOk 0 (leBytes 4 v)) ∧
  (∀ (s : State) (m : Msg), Accepted s 0x03 m →
    Answers s (.writeReg m) 0x03 m ((s.consume 0x03 m).busWrite (agentOf m.ep) (m.le 0 4) (m.le 4 4) (m.le 8 4)) stOk 0 []) ∧
  (∀ (s : State) (m : Msg) (st : Nat → State) (v : Nat → Nat), Accepted s 0x04 m → st 0 = s.consume 0x04 m →
    (∀ i, i < m.le 4 2 → (st i).busRead (agentOf m.ep) (m.le 0 4 + 4 * i) = (st (i + 1), v i)) →
    Answers s (.readBlock m) 0x04 m (st (m.le 4 2)) stOk 0
      (leBytes 4 (m.le 0 4) ++ ((List.range (m.le 4 2)).map (fun i => leBytes 4 (v i))).flatten)) ∧
  (∀ (s : State) (m : Msg) (st : Nat → State), Accepted s 0x05 m → st 0 = s.consume 0x05 m →
    (∀ i, i < m.le 4 2 → st (i + 1) = (st i).busWrite (agentOf m.ep) (m.le 0 4 + 4 * i) (m.le (8 + 4 * i) 4) 0xFFFFFFFF) →
    Answers s (.writeBlock m) 0x05 m (st (m.le 4 2)) stOk 0 []) ∧
  (∀ (s : State) (m : Msg) (k : Nat), Accepted s 0x61 m → k = maskFor m.ep (m.le 0 4) →
    ∃ u, Answers s (.eventSubscribe m) 0x61 m u stOk 0 (leBytes 4 k) ∧ Only [.regs, .sess] s u ∧
      u.sessX m.ep = { s.sessX m.ep with lastStatus := 256, mask := k, src := m.src, evSeq := 1, waiting := [] } ∧
      (∀ j, j ≠ m.ep.val → u.sessX j = s.sessX j))

/-- Buffers, ledger reads, coefficients, snare records and the other commands executed at once (16_bexic_protocol.md,
04_groups_and_memory.md, 08_control_loops.md, 10_coordinate_scheduler.md, 12_field_io.md, 17_ledger.md, 03_start_and_image.md).
-/
def Obligations.MessagesExecutedAtOnce : Prop :=
  (∀ (s : State) (m : Msg), s.Inv → Accepted s 0x50 m → s.pool.frees = [] → s.get Reg.POOL_STAT_FREE_TOTAL ≤ 65536 →
    (Grantable s m.ep (m.u8 0) → ∃ (u : State) (l : List Nat), Answers s (.bufAlloc m) 0x50 m u stOk 0 (u8s [m.u8 0, 0, 0, 0] ++ (l.map (leBytes 4)).flatten) ∧
      l.length = m.u8 0 ∧ l.Nodup ∧ (∀ b ∈ l, s.owner b = holderFree ∧ u.owner b = m.ep) ∧ (∀ b, b ∉ l → u.owner b = s.owner b)) ∧
    (¬ Grantable s m.ep (m.u8 0) → ∃ u, Answers s (.bufAlloc m) 0x50 m u stNoBuf 0 [] ∧ ∀ b, u.owner b = s.owner b)) ∧
  (∀ (s : State) (m : Msg), Accepted s 0x51 m → ∃ u, Answers s (.bufFree m) 0x51 m u stOk 0 [] ∧
    Only [.regs, .sess, .pool] s u ∧
    u.pool = { s.pool with frees := s.pool.frees ++ (((List.range (m.u8 0)).map (fun i => m.le (4 + 4 * i) 4)).filter
      (fun b => decide (s.owner b = m.ep))).map (fun b => (m.ep.val, b)) }) ∧
  (∀ (s : State) (m : Msg) (first n : Nat), Accepted s 0x60 m → (∀ w ∈ s.flt.latent, w < 0xB0000000 ∨ 0xB8000000 ≤ w) → first = max (m.le 0 8) (s.get Reg.LEDGER_OLDEST_SEQ) →
    n = min (m.u8 8) (s.get Reg.LEDGER_WR_SEQ - first) →
    Answers s (.ledgerRead m) 0x60 m (s.consume 0x60 m) stOk 0
      (u8s [n, if m.le 0 8 ≠ 0 ∧ m.le 0 8 < s.get Reg.LEDGER_OLDEST_SEQ then 1 else 0, 0, 0] ++ leBytes 8 (first + n)
        ++ ((List.range n).map (fun i => s.slotRec ((first + i - 1) % ringSlots))).flatten)) ∧
  (∀ (s : State) (m : Msg) (x k : Nat), Accepted s 0x30 m → m.u8 0 = 1 → x = m.u8 1 → k = m.u8 2 → s.axisGroup x = some m.ep.val →
    ∃ u, Answers s (.coefWrite m) 0x30 m u stOk 0 [] ∧ (∀ i, i < m.u8 3 → u.get (Reg.AXIS_COEF_W x (k + i)) = m.le (4 + 4 * i) 4) ∧
      (s.flag (Reg.GRP_COEF_STAT_MODE m.ep) = true → ∀ i, i < m.u8 3 → u.get (Reg.AXIS_COEF_A x (k + i)) = m.le (4 + 4 * i) 4) ∧
      (s.flag (Reg.GRP_COEF_STAT_MODE m.ep) = false →
        RegsKept (s.consume 0x30 m) u ((List.range (m.u8 3)).map (fun i => Reg.AXIS_COEF_W x (k + i))))) ∧
  (∀ (s : State) (m : Msg) (l : List (Nat × Nat × Nat)), Accepted s 0x43 m →
    l = (s.snareX (m.u8 0)).recs.filter (fun q => decide (m.le 4 4 < q.1)) →
    ∃ u, Answers s (.snareRead m) 0x43 m u stOk 0 (u8s [(l.take (m.u8 1)).length, 0, 0, 0] ++ leBytes 4 l.length
        ++ ((l.take (m.u8 1)).map (fun q => u.poolGets (q.2.1 * 4096 + q.2.2 * 256) 256)).flatten) ∧
      (u.snareX (m.u8 0)).recs = l ∧ ∀ k, k ≠ m.u8 0 → u.snareX k = s.snareX k) ∧
  (∀ (s : State) (m : Msg), Accepted s 0x72 m →
    (s.flag Reg.FIELD_LINK_STAT_UP = false → Answers s (.fieldResume m) 0x72 m (s.consume 0x72 m) stBusy 0 []) ∧
    (s.flag Reg.FIELD_LINK_STAT_UP = true → ∃ u, Answers s (.fieldResume m) 0x72 m u stOk 0
        (leBytes 4 (((s.resumeSets m.ep).map (fun b => 2 ^ b)).sum)) ∧
      u.field = { s.field with release := s.field.release ++ s.resumeSets m.ep } ∧ Only [.regs, .sess, .field] s u)) ∧
  (∀ (s : State) (m : Msg), Accepted s 0x73 m → ∃ u, Answers s (.canRecover m) 0x73 m u stOk 0 [] ∧ Only [.regs, .sess] s u ∧
    u.canState (m.u8 0) = (if s.canState (m.u8 0) = canBusOff then canRecovering else s.canState (m.u8 0))) ∧
  (∀ (s : State) (m : Msg), Accepted s 0x7D m →
    (s.mode = modeOperate → Answers s (.clearStartCount m) 0x7D m (s.consume 0x7D m) stWrongMode 0 []) ∧
    (s.mode = modeStandby → ∃ u, Answers s (.clearStartCount m) 0x7D m u stOk 0 [] ∧ Only [.regs, .sess] s u ∧
      u.get (Reg.SYS_BKREG 0) % 16 = 0 ∧ bit (u.get (Reg.SYS_BKREG 0)) 8 = false ∧ u.get Reg.SYS_START_STAT_CONCLUDED = 1)) ∧
  (∀ (s : State) (m : Msg), Accepted s 0x7F m →
    (s.mode = modeOperate → Answers s (.restart m) 0x7F m (s.consume 0x7F m) stWrongMode 0 []) ∧
    (s.mode = modeStandby ∨ s.mode = modeSafeHold → ∃ t, exec (.restart m) s = .next t ∧ t.mode = modeLoading ∧ t.start.entry = some 2 ∧
      (bit m.flags.toNat 0 = true → t.outbox = responseTo 0x7F m m.tag.toNat stOk 0 [] :: s.outbox) ∧
      t.flash.openW = none ∧ t.flash.cells = s.flash.cells ∧ ∀ e, e < 17 → t.get (Reg.ENG_STATE_STATE e) = esOff))

/-- Image writes by phase, the end of an erase and of a verification, and KEYHASH programming (03_start_and_image.md). -/
def Obligations.ImageWritesAndKeyhash : Prop :=
  (∀ (s : State) (m : Msg), Accepted s 0x7E m → s.mode = modeOperate → ∀ c ∈ [Instr.imageWriteErase m, .imageWriteBegin m, .imageWriteData m,
    .imageWriteCommit m, .imageWriteAbort m], Answers s c 0x7E m (s.consume 0x7E m) stWrongMode 0 []) ∧
  (∀ (s : State) (m : Msg) (k : Nat), Accepted s 0x7E m → s.mode = modeStandby → k = m.u8 1 → k ≠ s.get Reg.SYS_START_STAT_SLOT →
    (m.u8 0 = 0 → s.flash.job = .idle → s.flash.openW = none → ∃ t, exec (.imageWriteErase m) s = .next t ∧
      t.outbox = s.outbox ∧ t.flash = { s.flash with job := .erase k, eraser := some m, cells := s.flash.cells.filter (fun c => decide (c.1 < k * 2 ^ 24)) ++ s.flash.cells.filter (fun c => decide (k * 2 ^ 24 + 2 ^ 16 ≤ c.1)) }) ∧
    (m.u8 0 = 1 → s.flash.job = .idle → s.flash.openW = none → ∃ u, Answers s (.imageWriteBegin m) 0x7E m u stOk 0 u.wrBody ∧
      u.flash.openW = some (k, m.le 4 4) ∧ u.flash.job = .begin_ k ∧ u.flash.held = [] ∧ u.get Reg.SYS_IMG_WR_STAT_STATE = wrErasing ∧
      u.get Reg.SYS_IMG_WR_NEXT = 0 ∧ u.flash.cells = s.flash.cells.filter (fun c => decide (c.1 < k * 2 ^ 24))
        ++ s.flash.cells.filter (fun c => decide (k * 2 ^ 24 + (m.le 4 4 + 65535) / 65536 * 65536 ≤ c.1))) ∧
    (∀ len n, m.u8 0 = 2 → s.flash.openW = some (k, len) → s.get Reg.SYS_IMG_WR_STAT_STATE = wrOpen → n = m.payload.length - 8 →
      8 < m.payload.length → m.le 4 4 = s.get Reg.SYS_IMG_WR_NEXT → m.le 4 4 + n ≤ len → len ≤ 2 ^ 24 →
      ∃ u, Answers s (.imageWriteData m) 0x7E m u stOk 0 u.wrBody ∧ u.get Reg.SYS_IMG_WR_NEXT = m.le 4 4 + n ∧
        u.flash.openW = s.flash.openW ∧
        (m.le 4 4 + n ≤ 256 → u.flash = { s.flash with held := s.flash.held ++ m.payload.drop 8 }) ∧
        (256 ≤ m.le 4 4 → u.flash.held = s.flash.held ∧
          ∀ i, i < n → SMap.get (fun _ => 255) u.flash.cells (k * 2 ^ 24 + m.le 4 4 + i) = byteAt m.payload (8 + i))) ∧
    (∀ len, m.u8 0 = 3 → s.flash.openW = some (k, len) → s.flash.commit = none → s.get Reg.SYS_IMG_WR_NEXT = len →
      ∃ t, exec (.imageWriteCommit m) s = .next t ∧ t.outbox = s.outbox ∧ t.flash = { s.flash with commit := some (m, false) } ∧
        t.get Reg.SYS_IMG_WR_STAT_STATE = wrCommitting) ∧
    (∀ len, m.u8 0 = 4 → s.flash.openW = some (k, len) → ∃ u, Answers s (.imageWriteAbort m) 0x7E m u stOk 0 u.wrBody ∧
      u.flash.openW = none ∧ u.flash.held = [] ∧ u.flash.cells = s.flash.cells ∧ u.get Reg.SYS_IMG_WR_STAT_STATE = wrIdle)) ∧
  (∀ s : State, s.awake = false ∨ s.flash.job = .idle → exec .imageEraseDone s = .next s) ∧
  (∀ (s : State) (k : Nat), s.awake = true → s.flash.job = .begin_ k → ∃ t, exec .imageEraseDone s = .next t ∧ Only [.regs, .flash] s t ∧
    t.flash = { s.flash with job := .idle } ∧ RegsKept s t [Reg.SYS_IMG_WR_STAT_STATE] ∧ t.get Reg.SYS_IMG_WR_STAT_STATE = wrOpen) ∧
  (∀ (s : State) (k : Nat) (m : Msg), s.awake = true → s.flash.job = .erase k → s.flash.eraser = some m →
    Answers s .imageEraseDone 0x7E m { s with flash := { s.flash with job := .idle, eraser := none } } stOk 0 s.wrBody) ∧
  (∀ s : State, s.awake = false ∨ s.flash.commit = none → exec .imageCommitDone s = .next s) ∧
  (∀ (s : State) (m : Msg), s.awake = true → s.flash.commit = some (m, true) →
    Answers s .imageCommitDone 0x7E m { s with flash := { s.flash with commit := none } } stWrongMode 0 []) ∧
  (∀ (s : State) (m : Msg), s.awake = true → s.flash.commit = some (m, false) → s.flash.held.length = 256 →
    ∃ u st d body, Answers s .imageCommitDone 0x7E m u st d body ∧ u.flash.commit = none ∧ u.flash.openW = none ∧ u.flash.held = [] ∧
      u.get Reg.SYS_IMG_WR_STAT_STATE = wrIdle ∧
      (∀ r, s.headReject s.flash.held = some r → r.code < 256 → st = stLimit ∧ d = r.code ∧ u.get Reg.SYS_IMG_WR_STAT_LAST_REJECT = d ∧
        u.flash.cells = s.flash.cells) ∧
      (∀ c, s.headReject s.flash.held = none → s.verifyBody State.reset (s.written (m.u8 1)) = .inl c →
        st = stOk ∧ u.get Reg.SYS_IMG_WR_STAT_LAST_REJECT = 0 ∧
        ∀ i, i < 256 → SMap.get (fun _ => 255) u.flash.cells (m.u8 1 * 2 ^ 24 + i) = byteAt s.flash.held i)) ∧
  (∀ (s : State) (ag : Agent) (c : BitVec 16), s.window 0x180 ag = .rw → ∃ t, exec (.keyhashProgram ag c) s = .next t ∧
    t.get Reg.SYS_KEYHASH_CMD_CONFIRM = 0 ∧
    ((c = 0x4B48 ∧ s.mode = modeStandby ∧ s.flash.keyJob = none ∧ s.flag Reg.SYS_KEYHASH_STAT_PROGRAMMED = false ∧
        (∃ i, i < 8 ∧ s.get (Reg.SYS_KEYHASH_STAGE i) ≠ 0)) →
      t.get Reg.SYS_KEYHASH_STAT_REFUSED = 0 ∧ t.get Reg.SYS_KEYHASH_CMD_GO = 1 ∧
      t.flash = { s.flash with keyJob := some ((List.range 8).map (fun i => s.get (Reg.SYS_KEYHASH_STAGE i))) }) ∧
    (∀ r, (c ≠ 0x4B48 ∧ r = 1 ∨ c = 0x4B48 ∧ (s.mode ≠ modeStandby ∧ r = 2 ∨ s.mode = modeStandby ∧ (s.flash.keyJob ≠ none ∧ r = 3 ∨
        s.flash.keyJob = none ∧ (s.flag Reg.SYS_KEYHASH_STAT_PROGRAMMED = true ∧ r = 4 ∨ s.flag Reg.SYS_KEYHASH_STAT_PROGRAMMED = false ∧
          (∀ i, i < 8 → s.get (Reg.SYS_KEYHASH_STAGE i) = 0) ∧ r = 5)))) →
      t.get Reg.SYS_KEYHASH_STAT_REFUSED = 1 ∧ t.flash = s.flash ∧ Posted s t (s.evNow 255 clsWarn 0x0015 false (u8s [r])))) ∧
  (∀ (s : State) (b : Bool), s.flash.keyJob = none ∨ s.awake = false → exec (.keyhashProgramDone b) s = .next s) ∧
  (∀ (s : State) (ws : List Nat), s.awake = true → s.flash.keyJob = some ws → (∀ w ∈ ws, w < 2 ^ 32) → ws.length = 8 →
    (∃ t, exec (.keyhashProgramDone true) s = .next t ∧ Only [.regs, .flash] s t ∧ t.flash = { s.flash with keyJob := none } ∧
      (∀ i, i < 8 → t.get (Reg.SYS_KEYHASH i) = ws.getD i 0) ∧ t.get Reg.SYS_KEYHASH_STAT_PROGRAMMED = 1 ∧
      t.get Reg.SYS_KEYHASH_STAT_FAILED = 0 ∧ t.get Reg.SYS_KEYHASH_CMD_GO = 0) ∧
    (∃ t, exec (.keyhashProgramDone false) s = .next t ∧ t.flash = { s.flash with keyJob := none } ∧
      t.get Reg.SYS_KEYHASH_STAT_FAILED = 1 ∧ t.get Reg.SYS_KEYHASH_CMD_GO = 0))

/-- I2C: transfers queue, run and are answered; timeouts are reported once; host transactions read and write pointer space
(15_i2c.md, 02_power_and_modes.md). -/
def Obligations.I2cTransfersAndTransactions : Prop :=
  (∀ (s : State) (m : Msg) (c : Instr), Accepted s 0x74 m → (c = .i2cXfer m ∨ c = .i2cBusRecovery m) →
    (s.xferDenied m = true → Violates s c 0x74 m (s.consume 0x74 m) stNotPermitted []) ∧
    (s.xferDenied m = false → s.flag Reg.I2C_P_CFG_EN = false → Answers s c 0x74 m (s.consume 0x74 m) stWrongMode 0 []) ∧
    (s.xferDenied m = false → s.flag Reg.I2C_P_CFG_EN = true → 8 ≤ s.i2c.jobs.length → Answers s c 0x74 m (s.consume 0x74 m) stBusy 0 []) ∧
    (s.xferDenied m = false → s.flag Reg.I2C_P_CFG_EN = true → s.i2c.jobs.length < 8 → ∃ t, exec c s = .next t ∧ t.outbox = s.outbox ∧
      t.i2c = { s.i2c with jobs := s.i2c.jobs ++ [{ msg := m, clk := s.clk }] } ∧ t.get Reg.I2C_P_STAT_QUEUED = s.i2c.jobs.length + 1 ∧
      Only [.regs, .sess, .i2c] s t)) ∧
  (∀ s : State, s.i2c.run ≠ none ∨ s.i2c.jobs = [] → exec .i2cTransferStart s = .next s) ∧
  (∀ (s : State) (j : I2cJob) (r : List I2cJob), s.i2c.run = none → s.i2c.jobs = j :: r → j.effect ≠ none → s.i2cRuns 1 = true → r.length < 8 →
    ∃ t, exec .i2cTransferStart s = .next t ∧ Only [.regs, .i2c] s t ∧ t.i2c = { s.i2c with jobs := r, run := some j } ∧
      RegsKept s t [Reg.I2C_P_STAT_QUEUED, Reg.I2C_P_STAT_BUSY, Reg.I2C_P_STAT_SCL_LOW, Reg.I2C_P_STAT_SDA_LOW] ∧ t.get Reg.I2C_P_STAT_QUEUED = r.length ∧ t.get Reg.I2C_P_STAT_BUSY = 1) ∧
  (∀ (s : State) (res idx cnt : BitVec 8) (l : BitVec 4) (d : List Byte), s.i2cRuns 1 = false ∨ s.i2c.run = none ∧ s.i2c.jobs = [] →
    exec (.i2cTransferDone res idx cnt l d) s = .next s) ∧
  (∀ (s : State) (j : I2cJob) (e : Nat) (idx cnt : BitVec 8) (l : BitVec 4) (d : List Byte), s.i2cRuns 1 = true → s.i2c.run = some j →
    j.effect = some e → bit (j.msg.u8 1) 0 = false → d.length = j.msg.u8 3 →
    ∃ u, Answers s (.i2cTransferDone 0 idx cnt l d) 0x74 j.msg u stOk 0 (leBytes 8 e ++ u8s [0, idx.toNat, cnt.toNat, j.msg.u8 3] ++ d) ∧
      u.i2c = { s.i2c with run := none } ∧ u.get Reg.I2C_P_STAT_BUSY = 0 ∧ Only [.regs, .i2c] s u) ∧
  (∀ (s : State) (b : Fin 2) (part : I2cPart) (d : Bool), s.i2cRuns b = false → exec (.sdaLowTimeout b) s = .next s ∧
    ((b = 0 → s.responderOwns = false ∨ s.bk.awake = false) → exec (.sclLowTimeout b part d) s = .next s)) ∧
  (∀ (s : State) (d : Bool), s.responderOwns = true → s.bk.awake = true → exec (.sclLowTimeout 0 .idle d) s = .next s) ∧
  (∀ (s : State) (d : Bool), s.targetRuns = true → ∃ t, exec (.sclLowTimeout 0 .idle d) s = .next t ∧ Only [.regs, .led] s t ∧
    t.get Reg.I2C_S_STAT_SCL_LOW = 1 ∧ t.flag Reg.I2C_S_STAT_SDA_LOW = d ∧ t.get Reg.I2C_S_STAT_SCL_STUCK = 1 ∧
    (s.flag Reg.I2C_S_STAT_SCL_STUCK = false → Posted s t (s.evNow 255 clsWarn 0x0014 false (u8s [0, 0])))) ∧
  (∀ (s : State) (part : I2cPart) (d : Bool), s.i2cRuns 1 = true →
    (∃ t, exec (.sclLowTimeout 1 part d) s = .next t ∧ t.flag Reg.I2C_P_STAT_SDA_LOW = d ∧ t.get Reg.I2C_P_STAT_SCL_LOW = 1 ∧ t.get Reg.I2C_P_STAT_SCL_STUCK = 1 ∧
      Only [.regs, .led] s t ∧ (s.flag Reg.I2C_P_STAT_SCL_STUCK = false → Posted s t (s.evNow 255 clsWarn 0x0014 false (u8s [1, 0]))) ∧
      (s.flag Reg.I2C_P_STAT_SCL_STUCK = true → t.led = s.led)) ∧
    (∃ t, exec (.sdaLowTimeout 1) s = .next t ∧ t.get Reg.I2C_P_STAT_SDA_LOW = 1 ∧ t.get Reg.I2C_P_STAT_SDA_STUCK = 1 ∧
      Only [.regs, .led] s t ∧ (s.flag Reg.I2C_P_STAT_SDA_STUCK = false → Posted s t (s.evNow 255 clsWarn 0x0014 false (u8s [1, 1]))))) ∧
  (∀ s : State, s.awake = true → 2 ≤ s.mode → s.responderOwns = true → ∃ t, exec .i2cSHandover s = .next t ∧ Only [.regs, .i2c] s t ∧
    RegsKept s t [Reg.I2C_S_STAT_OWNER, Reg.I2C_S_STAT_SCL_LOW, Reg.I2C_S_STAT_SDA_LOW] ∧ t.responderOwns = false ∧ t.i2c.ptr = 0) ∧
  (∀ s : State, s.responderOwns = false ∨ s.mode < 2 → exec .i2cSHandover s = .next s) ∧
  (∀ (s : State) (a : BitVec 7) (n : BitVec 16), s.targetRuns = true → a.toNat = s.targetAddr → ∃ t, exec (.i2cSRead a n) s = .next t ∧ t.readOut.length = n.toNat ∧
    t.i2c.ptr = (s.i2c.ptr + n.toNat) % 65536) ∧
  (∀ (s : State) (a : BitVec 7) (l h : Byte), s.targetRuns = true → a.toNat = s.targetAddr → l.toNat + 256 * h.toNat ≠ 0x1000 → ∃ t, exec (.i2cSWrite a [l, h]) s = .next t ∧
    t.i2c = { s.i2c with ptr := l.toNat + 256 * h.toNat } ∧ Only [.regs, .i2c] s t ∧
    RegsKept s t [Reg.I2C_S_STAT_SCL_LOW, Reg.I2C_S_STAT_SDA_LOW]) ∧
  (∀ (s : State) (a : BitVec 7) (w : List Byte) (n : BitVec 8), s.responderOwns = false ∨ a.toNat ≠ s.responderAddr →
    exec (.dormantResponderTransaction a w n) s = .next s) ∧
  (∀ (s : State) (a : BitVec 7) (w : List Byte) (n : BitVec 8), s.responderOwns = true → a.toNat = s.responderAddr → s.bk.awake = false →
    ∃ t, exec (.dormantResponderTransaction a w n) s = .next t ∧ t.bk = { s.bk with awake := true, ptr := 0 } ∧ t.readOut = [] ∧
      Only [.regs, .bk, .readOut] s t ∧ RegsKept s t [Reg.SYS_WAKE_CAUSE_I2C_WOKEN] ∧
      (s.mode = modeDormant → t.get Reg.SYS_WAKE_CAUSE_I2C_WOKEN = 1)) ∧
  (∀ s : State, exec .dormantResponderSleep s = .next { s with bk := { s.bk with awake := s.bk.awake && !s.bk.onVbak } })

/-- A slow boundary settles, lets the commands take effect that were complete before its clock, in order, and settles again; of commands
that exclude each other one wins (01_architecture.md, 09_setpoint_generation.md, 16_bexic_protocol.md). -/
def Obligations.BoundaryCommands : Prop :=
  (∀ s : State, s.up = false → exec .slowBoundary s = .next s) ∧
  (∀ s : State, s.up = true → s.tick_.begun = true → s.tick_.lastFast = s.clk →
    exec .slowBoundary s = .next (s.tickJudge 0).slowBefore.effects.slowAfter ∧ (s.tickJudge 0).slowBefore.awaiting = s.awaiting) ∧
  (∀ s : State, s.up = true → ¬ (s.tick_.begun = true ∧ s.tick_.lastFast = s.clk) →
    exec .slowBoundary s = .next (s.fastWork true).slowBefore.effects.slowAfter ∧ (s.fastWork true).slowBefore.awaiting = s.awaiting) ∧
  (∀ s : State, s.effects.awaiting = s.awaiting.filter (fun w => decide (s.clk ≤ w.clk))) ∧
  (∀ (s t : State) (a b : Await), s.awaiting = [a, b] → a.clk < s.clk → b.clk < s.clk → t = { s with awaiting := [] } →
    ((a.op = 0x10 ∧ b.op = 0x11 ∨ a.op ∈ startOps ∧ b.op ∈ startOps ∧ a.msg.ep = b.msg.ep ∧ s.verdict b.op b.msg.ep < 2 ∧
        (a.op < 0x20 ∧ a.op = b.op ∨ 0x20 ≤ a.op ∧ 0x20 ≤ b.op ∧ a.msg.u8 0 = b.msg.u8 0) ∨
      a.op ∈ startOps ∧ b.op ∈ stopOps ∧ a.msg.ep = b.msg.ep ∧ s.verdict b.op b.msg.ep < 2 ∨
      a.op = 0x42 ∧ b.op = 0x42 ∧ a.msg.ep = b.msg.ep ∧ a.msg.u8 0 = b.msg.u8 0) →
      s.effects = State.finish b.op b.msg (effOf b.op b.msg (State.finish a.op a.msg (t.nak stSuperseded)))) ∧
    ((a.op = 0x11 ∧ b.op = 0x10 ∨ a.op ∈ stopOps ∧ b.op ∈ startOps ∧ a.msg.ep = b.msg.ep ∧ s.verdict a.op a.msg.ep < 2) →
      s.effects = State.finish b.op b.msg ((State.finish a.op a.msg (effOf a.op a.msg t)).nak stSuperseded)) ∧
    (a.op ∈ stopOps → b.op ∈ stopOps → a.msg.ep = b.msg.ep →
      (s.verdict b.op b.msg.ep < 2 → a.op < b.op ∧ b.op = 0x16 ∨ a.op = 0x13 ∧ b.op = 0x14 →
        s.effects = State.finish b.op b.msg (effOf b.op b.msg (State.finish a.op a.msg (t.ok t.effect)))) ∧
      (s.verdict a.op a.msg.ep < 2 → b.op < a.op ∧ a.op = 0x16 ∨ a.op = 0x14 ∧ b.op = 0x13 →
        ∃ u, u = State.finish a.op a.msg (effOf a.op a.msg t) ∧ s.effects = State.finish b.op b.msg (u.ok u.effect))))

/-- ARM, DISARM and CLEAR_FAULT wait for a slow boundary and there change the mode and clear what R562 and R563 say, or are
refused (02_power_and_modes.md, 18_faults.md). -/
def Obligations.ModeCommands : Prop :=
  ActsAtBoundary .arm 0x10 [] (fun s _ => s.mode = modeStandby ∧ s.flash.openW = none ∧ s.flag Reg.SYS_MODE_DRIVE_ENABLE = true) stOk
    (fun s _ u => u.mode = modeOperate ∧ Only [.regs, .awaiting] s u ∧ RegsKept s u [Reg.SYS_MODE_CODE]) ∧
  AtBoundary 0x10 (fun s _ => s.mode = modeOperate) stOk (fun s _ u => Only [.awaiting] s u) ∧
  BoundaryRefuses 0x10 (fun s _ => s.mode = modeStandby ∧ s.flash.openW ≠ none) stBusy ∧
  BoundaryRefuses 0x10 (fun s _ => s.mode = modeStandby ∧ s.flash.openW = none ∧ s.flag Reg.SYS_MODE_DRIVE_ENABLE = false) stWrongMode ∧
  BoundaryRefuses 0x10 (fun s _ => s.mode = modeSafeHold) stWrongMode ∧
  ActsAtBoundary .disarm 0x11 [] (fun s _ => s.mode = modeOperate ∧ ∀ n, n < 16 → s.stands n gsDisabled) stOk
    (fun s _ u => u.mode = modeStandby ∧ Only [.regs, .awaiting] s u ∧ RegsKept s u [Reg.SYS_MODE_CODE]) ∧
  BoundaryRefuses 0x11 (fun s _ => s.mode = modeOperate ∧ ∃ n, n < 16 ∧ ¬ s.stands n gsDisabled) stBusy ∧
  BoundaryRefuses 0x11 (fun s _ => s.mode = modeSafeHold) stWrongMode ∧
  ActsAtBoundary .clearFault 0x62 [] (fun s m => m.ep.val < 16 ∧ s.gstate m.ep = gsFault ∧ s.clearHeld m.ep = false) stOk
    (fun s m u => u.gstate m.ep = gsDisabled ∧ u.get (Reg.FAULT_GRP_LATCH m.ep) = 0 ∧ u.get (Reg.FAULT_GRP_FIRST_VALID m.ep) = 0 ∧
      (∀ x ∈ s.localsOf m.ep, u.get (Reg.CUR_STAT_STATE x) ≠ cellTripped ∧ u.get (Reg.CUR_STAT_OC x) = 0) ∧ u.mode = s.mode ∧
      (∀ k, k < 16 → k ≠ m.ep.val → u.gstate k = s.gstate k ∧ u.get (Reg.FAULT_GRP_LATCH k) = s.get (Reg.FAULT_GRP_LATCH k)) ∧
      Only [.regs, .axis, .fb, .grp, .sess, .snare, .awaiting] s u) ∧
  BoundaryRefuses 0x62 (fun s m => m.ep.val < 16 ∧ (s.gstate m.ep = gsStopping ∨ s.clearHeld m.ep = true)) stBusy ∧
  AtBoundary 0x62 (fun s m => m.ep.val = 16 ∧ s.mode = modeSafeHold ∧ s.flt.xmemUe = false ∧ s.holdPersists = false ∧
      ∀ n, n < 16 → s.gstate n ≠ gsStopping) stOk
    (fun s _ u => u.mode = modeStandby ∧ (∀ n, n < 16 → u.gstate n = gsDisabled) ∧ u.get Reg.FAULT_DEV_LATCH = 0 ∧
      u.get Reg.FAULT_DEV_FIRST_VALID = 0 ∧ Only [.regs, .axis, .fb, .grp, .sess, .snare, .awaiting] s u) ∧
  BoundaryRefuses 0x62 (fun s m => m.ep.val = 16 ∧ s.mode = modeSafeHold ∧ s.flt.xmemUe = false ∧
      (s.holdPersists = true ∨ ∃ n, n < 16 ∧ s.gstate n = gsStopping)) stBusy ∧
  BoundaryRefuses 0x62 (fun s m => m.ep.val = 16 ∧ s.mode = modeSafeHold ∧ s.flt.xmemUe = true) stWrongMode ∧
  AtBoundary 0x62 (fun s m => m.ep.val = 16 ∧ s.mode ≠ modeSafeHold) stOk
    (fun s _ u => u.mode = s.mode ∧ u.get Reg.FAULT_DEV_LATCH = 0 ∧ u.get Reg.FAULT_DEV_FIRST_VALID = 0 ∧
      Only [.regs, .axis, .fb, .grp, .sess, .snare, .awaiting] s u)

/-- GROUP_ENABLE, GROUP_DISABLE, HOLD, RESUME and STOP: the state each leads to, what it starts, and what it refuses
(08_control_loops.md, 09_setpoint_generation.md). -/
def Obligations.GroupCommands : Prop :=
  ActsAtBoundary .groupEnable 0x12 []
    (fun s m => m.ep.val < 16 ∧ s.mode = modeOperate ∧ s.stands m.ep gsDisabled ∧ s.enableBusy m.ep = false) stOk
    (fun s m u => u.get (Reg.GRP_STATE_POWERING m.ep) = 1 ∧ u.get (Reg.FAULT_GRP_REACT_NOW m.ep) = 0 ∧ (u.grpX m.ep).power = 1 ∧
      (∀ x ∈ s.localsOf m.ep, s.get (Reg.CUR_STAT_STATE x) ≠ cellTripped → s.get (Reg.CUR_EN_DELAY x) ≠ 0 →
        u.get (Reg.CUR_STAT_STATE x) = cellEnabling ∧ u.flag (Reg.CUR_STAT_ENABLE_OUT x) = !s.flag Reg.FAULT_DE_HW_CUT ∧
        (u.curX x).pwm = 0 ∧ (u.axisX x).phase = 1) ∧
      (∀ x ∈ s.netsOf m.ep, u.flag (Reg.AXIS_SRC_POWERED x) = true) ∧
      Only [.regs, .grp, .axis, .cur, .awaiting] s u ∧
      RegsKept s u ([Reg.GRP_STATE_POWERING m.ep, Reg.FAULT_GRP_REACT_NOW m.ep] ++ (s.axesOf m.ep).flatMap (fun x =>
        [Reg.AXIS_SRC_POWERED x, Reg.CUR_STAT_STATE x, Reg.CUR_STAT_ENABLE_OUT x, Reg.CUR_STAT_BRAKE_OUT x,
          Reg.CUR_IQ_SET x, Reg.CUR_ID_SET x])) ∧
      (∀ x, x ∉ s.axesOf m.ep → u.axisX x = s.axisX x ∧ u.curX x = s.curX x) ∧ ∀ k, k ≠ m.ep.val → u.grpX k = s.grpX k) ∧
  BoundaryRefuses 0x12 (fun s m => s.gstate m.ep = gsDisabled ∧ s.mode ≠ modeOperate) stWrongMode ∧
  BoundaryRefuses 0x12 (fun s m => s.gstate m.ep = gsDisabled ∧ s.mode = modeOperate ∧ s.enableBusy m.ep = true) stBusy ∧
  ActsAtBoundary .groupDisable 0x13 [] (fun s m => m.ep.val < 16 ∧ s.stands m.ep gsEnabled) stOk
    (fun s m u => u.get (Reg.GRP_STATE_POWERING m.ep) = 1 ∧ (u.grpX m.ep).power = 2 ∧
      (∀ x ∈ s.axesOf m.ep, u.get (Reg.AXIS_SRC_POWERED x) = 0 ∧ (u.axisX x).plan = none) ∧
      (∀ x ∈ s.localsOf m.ep, (s.axisX x).phase = 3 → u.get (Reg.CUR_STAT_BRAKE_OUT x) = 0 ∧
        (s.get (Reg.CUR_BRAKE_ENG_DELAY x) ≠ 0 → (u.axisX x).phase = 4 ∧ u.get (Reg.CUR_STAT_STATE x) = s.get (Reg.CUR_STAT_STATE x))) ∧
      Only [.regs, .grp, .axis, .cur, .awaiting] s u ∧
      RegsKept s u (Reg.GRP_STATE_POWERING m.ep :: (s.axesOf m.ep).flatMap (fun x => [Reg.AXIS_SRC_POWERED x, Reg.AXIS_SRC_ACTIVE x,
        Reg.AXIS_SRC_REVERSING x, Reg.AXIS_SRC_HELD x, Reg.AXIS_CPL_CFG_KIND x, Reg.AXIS_CPL_STAT_CLUTCH x, Reg.AXIS_CPL_STAT_U x,
        Reg.AXIS_FOL_CFG_SRC x, Reg.CUR_STAT_STATE x, Reg.CUR_STAT_ENABLE_OUT x, Reg.CUR_STAT_BRAKE_OUT x])) ∧
      (∀ x, x ∉ s.axesOf m.ep → u.axisX x = s.axisX x ∧ u.curX x = s.curX x) ∧ ∀ k, k ≠ m.ep.val → u.grpX k = s.grpX k) ∧
  ActsAtBoundary .hold 0x14 [] (fun s m => m.ep.val < 16 ∧ s.stands m.ep gsMoving) stOk
    (fun s m u => u.gstate m.ep = gsHeld ∧ (u.grpX m.ep).hold = true ∧
      (∀ x ∈ s.axesOf m.ep, ∀ q, s.get (Reg.AXIS_SRC_SOURCE x) = 0 → (s.axisX x).plan = some q → q.kind ≠ .brake → s.planning x = true →
        (u.axisX x).kept = some q ∧ ∀ p, (u.axisX x).plan = some p → p.kind = .brake) ∧
      Only [.regs, .sess, .grp, .axis, .awaiting] s u ∧
      (∀ x, x ∉ s.axesOf m.ep → u.axisX x = s.axisX x) ∧ (∀ k, k ≠ m.ep.val → u.grpX k = s.grpX k) ∧
      RegsKept s u (Reg.GRP_STATE_STATE m.ep :: (s.axesOf m.ep).flatMap (fun x => [Reg.AXIS_SRC_ACTIVE x, Reg.AXIS_SRC_REVERSING x,
        Reg.AXIS_SRC_HELD x, Reg.AXIS_CPL_STAT_CLUTCH x]))) ∧
  ActsAtBoundary .resume 0x15 [] (fun s m => m.ep.val < 16 ∧ s.stands m.ep gsHeld) stOk
    (fun s m u => u.gstate m.ep = (if s.keptAny m.ep then gsMoving else gsEnabled) ∧ (u.grpX m.ep).hold = false ∧
      (∀ x ∈ s.axesOf m.ep, u.get (Reg.AXIS_SRC_HELD x) = 0 ∧ ∀ q, (s.axisX x).kept = some q → (u.axisX x).kept = none ∧
        (u.axisX x).plan ≠ none ∧ u.get (Reg.AXIS_SRC_SOURCE x) = 0) ∧
      Only [.regs, .sess, .grp, .axis, .awaiting] s u ∧
      (∀ x, x ∉ s.axesOf m.ep → u.axisX x = s.axisX x) ∧ ∀ k, k ≠ m.ep.val → u.grpX k = s.grpX k) ∧
  ActsAtBoundary .stop 0x16 [] (fun s m => m.ep.val < 16 ∧ s.stands m.ep gsMoving) stOk
    (fun s m u => (u.gstate m.ep = gsStopping ∨ u.gstate m.ep = gsEnabled) ∧ (u.grpX m.ep).hold = false ∧
      ((∀ x ∈ s.axesOf m.ep, s.get (Reg.AXIS_SRC_SOURCE x) = 0 ∧ (s.axisX x).plan = none ∧ s.get (Reg.AXIS_VEL_CMD x) = 0 ∧
          s.get (Reg.AXIS_ACC_CMD x) = 0) → (s.grpX m.ep).pv = 0 → u.gstate m.ep = gsEnabled ∧ (u.grpX m.ep).path = [] ∧
          u.get (Reg.GRP_QUEUE m.ep) = 0) ∧
      Only [.regs, .led, .sess, .grp, .axis, .awaiting] s u ∧
      (∀ x, x ∉ s.axesOf m.ep → x ∉ s.pathAxes m.ep → u.axisX x = s.axisX x) ∧ ∀ k, k ≠ m.ep.val → u.grpX k = s.grpX k) ∧
  (∀ op, op ∈ [0x14, 0x15, 0x16] → BoundaryRefuses op (fun s m => s.gstate m.ep = gsMoving ∧ s.flag (Reg.GRP_STATE_POWERING m.ep) = true) stBusy) ∧
  (∀ op, op ∈ [0x12, 0x13, 0x14, 0x15, 0x16] → BoundaryRefuses op (fun s m => s.gstate m.ep = gsFault) stWrongMode)

/-- MOVE_ABS, MOVE_REL and JOG: the profile an axis follows from the boundary on, reversals, soft limits, and what is refused
(09_setpoint_generation.md). -/
def Obligations.MotionCommands : Prop :=
  MoveActs false .moveAbs 0x20 ∧
  MoveActs true .moveRel 0x21 ∧
  ActsAtBoundary .jog 0x22 [] (fun s m => NamesAxis s m ∧ s.MayMove m.ep ∧ s.otherBusy m.ep (m.u8 0) = false) stOk
    (fun s m u => u.get (Reg.AXIS_SRC_SOURCE (m.u8 0)) = 0 ∧
      (∃ p, (u.axisX (m.u8 0)).plan = some p ∧ p.kind = .jog ((m.f64q 8).getD 0) ∧ p.n = 0 ∧ p.p = (s.axisKin (m.u8 0)).p ∧
        p.v = (s.axisKin (m.u8 0)).v ∧ p.la = ceilOr (s.getI (Reg.AXIS_A_MAX (m.u8 0))) (m.f64q 16) ∧
        p.ld = ceilOr (s.getI (Reg.AXIS_D_MAX (m.u8 0))) (m.f64q 24) ∧ p.lj = ceilOr (s.getI (Reg.AXIS_J_MAX (m.u8 0))) (m.f64q 32) ∧
        p.target = q24 (kinEnd p.segs p.p p.v).p ∧ u.getI (Reg.AXIS_TARGET (m.u8 0)) = toInt 64 (ofInt 64 p.target) ∧
        ((m.f64q 8).getD 0 = 0 →
          (s.beyondSoft (m.u8 0) (restPoint s (m.u8 0) p.ld p.lj) = false → p.segs = stopPlan p.v (s.axisKin (m.u8 0)).a (ofQ p.ld) (ofQ p.lj)) ∧
          (s.beyondSoft (m.u8 0) (kinEnd (stopPlan p.v (s.axisKin (m.u8 0)).a (ofQ p.ld * 2 ^ 40) (ofQ p.lj * 2 ^ 40)) p.p p.v).p = false →
            s.beyondSoft (m.u8 0) (kinEnd p.segs p.p p.v).p = false))) ∧
      (∀ k, k ≠ m.u8 0 → u.axisX k = s.axisX k) ∧ Only [.regs, .axis, .awaiting] s u ∧
      RegsKept s u [Reg.AXIS_SRC_SOURCE (m.u8 0), Reg.AXIS_TARGET (m.u8 0), Reg.AXIS_SRC_ACTIVE (m.u8 0), Reg.AXIS_SRC_REVERSING (m.u8 0)]) ∧
  (∀ op, op ∈ [0x20, 0x21, 0x22] →
    BoundaryRefuses op (fun s m => s.MayMove m.ep ∧ s.otherBusy m.ep (m.u8 0) = true) stBusy ∧
    BoundaryRefuses op (fun s m => s.gstate m.ep = gsHeld ∨ s.gstate m.ep = gsStopping ∨ s.gstate m.ep = gsTakeover) stBusy ∧
    BoundaryRefuses op (fun s m => s.flag (Reg.GRP_STATE_POWERING m.ep) = true) stBusy ∧
    BoundaryRefuses op (fun s m => s.stands m.ep gsDisabled ∨ s.stands m.ep gsFault) stWrongMode)

/-- PATH_APPEND queues all its segments or none, and stores its records; PATH_FLUSH keeps only what the path needs to come to
rest (09_setpoint_generation.md, 04_groups_and_memory.md Table GRP-5). -/
def Obligations.PathCommands : Prop :=
  ActsAtBoundary .pathAppend 0x23 []
    (fun s m => m.ep.val < 16 ∧ s.MayPath m.ep ∧ s.get (Reg.GRP_PATH_AXES m.ep) ≠ 0 ∧
      1 ≤ m.u8 0 ∧ m.u8 0 ≤ 21 ∧ ((s.grpX m.ep).queued = [] → m.le 8 4 ≠ 0 ∧ s.pathBlocked m.ep = false) ∧
      (∀ g ∈ appended s m, s.arcBad m.ep g = false ∧ s.segBeyond m.ep g = none) ∧ s.get (Reg.GRP_QUEUE m.ep) + m.u8 0 ≤ 262144) stOk
    (fun s m u => ((s.grpX m.ep).pend = none → noRooms (u.grpX m.ep).path = noRooms ((s.grpX m.ep).path ++ appended s m) ∧
        (s.canRun m.ep ((s.grpX m.ep).path ++ appended s m) = true → (u.grpX m.ep).path = (s.grpX m.ep).path ++ appended s m)) ∧
      ((s.grpX m.ep).pend ≠ none → (u.grpX m.ep).path = (s.grpX m.ep).path ∧ (u.grpX m.ep).pnext = (s.grpX m.ep).pnext ++ appended s m) ∧
      u.get (Reg.GRP_QUEUE m.ep) = ((u.grpX m.ep).queued.map PathSeg.records).sum % 2 ^ 19 ∧
      (∀ g, (appended s m).getLast? = some g → u.getI (Reg.GRP_ARC_END m.ep) = toInt 64 (ofInt 64 (q24 g.s1))) ∧
      (∀ i, i < m.u8 0 → ∀ j, j < 64 →
        (u.rdByte (0x90000000 + m.ep.val * 0x1000000 + ((s.grpX m.ep).recNo + i) % 262144 * 64 + j)).toNat = m.u8 (4 + 64 * i + j)) ∧
      (∀ a, (∀ i, i < m.u8 0 → ¬ (0x90000000 + m.ep.val * 0x1000000 + ((s.grpX m.ep).recNo + i) % 262144 * 64 ≤ a ∧
        a < 0x90000000 + m.ep.val * 0x1000000 + ((s.grpX m.ep).recNo + i) % 262144 * 64 + 64)) → u.rdByte a = s.rdByte a) ∧
      (∀ k, k ≠ m.ep.val → u.grpX k = s.grpX k) ∧ Only [.regs, .mem, .flt, .grp, .awaiting] s u ∧
      Healed s u (InQueue (0x90000000 + m.ep.val * 0x1000000) 64 262144 (s.grpX m.ep).recNo (m.u8 0)) ∧ RegsKept s u (pathFlds m.ep)) ∧
  (∀ (s : State) (m : Msg), m.u8 0 = 1 → recType m 0 = 1 → m.le 8 4 ≠ 0 → ∃ g, appended s m = [g] ∧ g.typ = 1 ∧ g.tag = m.le 6 2 ∧
    g.feed = m.le 8 4 ∧ g.exact_ = bit (m.u8 5) 0 ∧ g.dst = [0, 1, 2, 3, 4, 5].map (fun j => ofQ (toInt 64 (m.le (20 + 8 * j) 8))) ∧
    g.fr = (s.pathTail m.ep).1 ∧ g.s0 = (s.pathTail m.ep).2 ∧ g.s1 = g.s0 + g.length) ∧
  BoundaryRefuses 0x23 (fun s m => s.MayPath m.ep ∧ s.get (Reg.GRP_PATH_AXES m.ep) ≠ 0 ∧
    ((s.grpX m.ep).queued = [] → m.le 8 4 ≠ 0) ∧ (∀ g ∈ appended s m, s.arcBad m.ep g = false) ∧
    262144 < s.get (Reg.GRP_QUEUE m.ep) + m.u8 0) stQueueFull ∧
  BoundaryRefuses 0x23 (fun s m => s.MayPath m.ep ∧ s.get (Reg.GRP_PATH_AXES m.ep) ≠ 0 ∧
    (s.grpX m.ep).queued = [] ∧ m.le 8 4 ≠ 0 ∧ (∀ g ∈ appended s m, s.arcBad m.ep g = false) ∧
    s.get (Reg.GRP_QUEUE m.ep) + m.u8 0 ≤ 262144 ∧ s.pathBlocked m.ep = true) stBusy ∧
  BoundaryRefuses 0x23 (fun s m => s.MayPath m.ep ∧ s.get (Reg.GRP_PATH_AXES m.ep) = 0) stWrongMode ∧
  BoundaryRefuses 0x23 (fun s m => s.stands m.ep gsDisabled ∨ s.stands m.ep gsFault) stWrongMode ∧
  (∀ op, op ∈ [0x23, 0x24] → BoundaryRefuses op (fun s m => s.flag (Reg.GRP_STATE_POWERING m.ep) = true) stBusy) ∧
  ActsAtBoundary .pathFlush 0x24 [] (fun s m => m.ep.val < 16 ∧ s.MayPath m.ep) stOk
    (fun s m u => ((s.grpX m.ep).pend = none → (s.grpX m.ep).pnext = [] → kinTime (s.pathStop m.ep) ≤ 0 →
        (u.grpX m.ep).path = [] ∧ u.get (Reg.GRP_QUEUE m.ep) = 0 ∧ u.get (Reg.GRP_STATE_PATH_RUN m.ep) = 0 ∧
        u.getI (Reg.GRP_ARC_END m.ep) = toInt 64 (ofInt 64 (q24 (s.grpX m.ep).arc))) ∧
      (∀ e, (s.grpX m.ep).pend = none → (s.grpX m.ep).pnext = [] → 0 < kinTime (s.pathStop m.ep) →
        e = travel (s.ahead m.ep (s.grpX m.ep).path) (s.grpX m.ep).arc (kinEnd (s.pathStop m.ep) 0 (s.grpX m.ep).pv).p →
        (∀ g, (s.grpX m.ep).path.getLast? = some g → e < g.s1) → (s.grpX m.ep).path ≠ [] →
        (u.grpX m.ep).pend = some e ∧ u.getI (Reg.GRP_ARC_END m.ep) = toInt 64 (ofInt 64 (q24 e)) ∧
          (∀ g ∈ (u.grpX m.ep).queued, g ∈ (s.grpX m.ep).path ∧ g.s0 < e) ∧ Only [.regs, .grp, .awaiting] s u ∧ RegsKept s u (pathFlds m.ep)) ∧
      (∀ k, k ≠ m.ep.val → u.grpX k = s.grpX k) ∧ (∀ x, x ∉ s.pathAxes m.ep → u.axisX x = s.axisX x) ∧
      Only [.regs, .led, .grp, .axis, .awaiting] s u ∧
      RegsKept s u (pathFlds m.ep ++ ledgerFlds
        ++ (s.pathAxes m.ep).flatMap (fun x => [Reg.AXIS_POS_CMD x, Reg.AXIS_VEL_CMD x, Reg.AXIS_ACC_CMD x]))) ∧
  AtBoundary 0x24 (fun s m => s.stands m.ep gsDisabled ∨ s.stands m.ep gsStopping ∨ s.stands m.ep gsFault) stOk (fun s _ u => Only [.awaiting] s u)

/-- GEAR_SET, CAM_SET and FOLLOW_SET: the coupling or follow channel that an axis takes over, and what is refused
(09_setpoint_generation.md). -/
def Obligations.CouplingCommands : Prop :=
  ActsAtBoundary .gearSet 0x26 []
    (fun s m => NamesAxis s m ∧ s.MayMove m.ep ∧ fieldBad 0x26 m s = none ∧ s.cplOk m.ep (m.u8 0) = true) stOk
    (fun s m u => ∃ (x : Nat) (a : AxisX) (ms clutch : Int) (r : CplRun) (rel under : Bool), x = m.u8 0 ∧ a = s.axisX x ∧
      ms = s.masterVal m.ep (m.u8 1) (m.u8 2) ∧ clutch = (m.posq (bit (m.u8 3) 0) 32).getD 0 ∧ rel = bit (m.u8 3) 1 ∧
      (under = true ↔ s.get (Reg.AXIS_SRC_SOURCE x) = 2 ∧ s.get (Reg.AXIS_CPL_CFG_KIND x) ≠ 0) ∧
      (u.axisX x).chain = r :: (if under then a.chain else []) ∧ r.ms = ms ∧ r.done = false ∧ (u.axisX x).plan = none ∧
      r.c.kind = 1 ∧ r.c.msrc = m.u8 1 ∧ r.c.midx = m.u8 2 ∧ r.c.num = toInt 32 (m.le 4 4) ∧ r.c.den = m.le 8 4 ∧ r.c.clutch = clutch ∧
      u.getI (Reg.AXIS_GEAR_NUM x) = r.c.num ∧ u.get (Reg.AXIS_GEAR_DEN x) = r.c.den ∧
      ((u.axisX x).declutch = true ↔ r.c.num = 0) ∧
      (r.c.num ≠ 0 → (rel = true → -(2 ^ 63) ≤ ms ∧ ms < 2 ^ 63) →
        r.c.offset = (if rel then s.getI (Reg.AXIS_POS_CMD x) else (m.posq (bit (m.u8 3) 0) 16).getD 0) ∧
        r.c.m0 = (if rel then ms else (m.posq (bit (m.u8 3) 0) 24).getD 0) ∧
        ShowsCoupling u x 1 (m.u8 1) (m.u8 2) false false r.c.offset r.c.m0 clutch) ∧
      u.get (Reg.AXIS_SRC_SOURCE x) = 2 ∧ u.get (Reg.AXIS_CPL_STAT_CLUTCH x) = 1 ∧ u.get (Reg.AXIS_CPL_STAT_U x) = 0 ∧
      u.get (Reg.AXIS_SRC_ACTIVE x) = 1 ∧ (∀ k, k ≠ x → u.axisX k = s.axisX k) ∧ Only [.regs, .axis, .awaiting] s u ∧
      RegsKept s u (couplingFlds x)) ∧
  ActsAtBoundary .camSet 0x27 []
    (fun s m => NamesAxis s m ∧ s.MayMove m.ep ∧ fieldBad 0x27 m s = none ∧ s.cplOk m.ep (m.u8 0) = true ∧
      ¬ (bit (m.u8 3) 4 = true ∧ s.get (Reg.AXIS_SRC_SOURCE (m.u8 0)) = 2 ∧ s.get (Reg.AXIS_CPL_CFG_KIND (m.u8 0)) = 2)) stOk
    (fun s m u => ∃ (x : Nat) (ms : Int) (r : CplRun) (rel atCycle : Bool), x = m.u8 0 ∧ ms = s.masterVal m.ep (m.u8 1) (m.u8 2) ∧
      rel = bit (m.u8 3) 1 ∧ atCycle = bit (m.u8 3) 4 ∧ (u.axisX x).chain.head? = some r ∧ r.ms = ms ∧ r.done = atCycle ∧
      (u.axisX x).plan = none ∧ r.c.kind = 2 ∧ r.c.base = m.le 4 4 ∧ r.c.n = m.le 8 4 ∧
      r.c.period = (m.posq (bit (m.u8 3) 0) 32).getD 0 ∧ u.get (Reg.AXIS_CAM_BASE x) = r.c.base ∧ u.get (Reg.AXIS_CAM_N x) = r.c.n ∧
      u.getI (Reg.AXIS_CAM_PERIOD x) = r.c.period ∧
      ((rel = true → -(2 ^ 63) ≤ ms ∧ ms < 2 ^ 63) →
        ShowsCoupling u x 2 (m.u8 1) (m.u8 2) (bit (m.u8 3) 2) (bit (m.u8 3) 3)
          (if rel then s.getI (Reg.AXIS_POS_CMD x) else (m.posq (bit (m.u8 3) 0) 16).getD 0)
          (if rel then ms else (m.posq (bit (m.u8 3) 0) 24).getD 0) ((m.posq (bit (m.u8 3) 0) 40).getD 0)) ∧
      u.get (Reg.AXIS_SRC_SOURCE x) = 2 ∧ u.get (Reg.AXIS_CPL_STAT_CLUTCH x) = (if atCycle then 2 else 1) ∧
      u.get (Reg.AXIS_CPL_STAT_U x) = (if atCycle then 0xFFFFFF else 0) ∧ u.get (Reg.AXIS_SRC_ACTIVE x) = 1 ∧
      (∀ k, k ≠ x → u.axisX k = s.axisX k) ∧ Only [.regs, .axis, .awaiting] s u ∧ RegsKept s u (couplingFlds x)) ∧
  AtBoundary 0x27
    (fun s m => NamesAxis s m ∧ s.MayMove m.ep ∧ fieldBad 0x27 m s = none ∧ s.cplOk m.ep (m.u8 0) = true ∧
      bit (m.u8 3) 4 = true ∧ s.get (Reg.AXIS_SRC_SOURCE (m.u8 0)) = 2 ∧ s.get (Reg.AXIS_CPL_CFG_KIND (m.u8 0)) = 2) stOk
    (fun s m u => Only [.axis, .awaiting] s u ∧ (∀ k, k ≠ m.u8 0 → u.axisX k = s.axisX k) ∧
      ∃ c rel, (u.axisX (m.u8 0)) = { s.axisX (m.u8 0) with next := some (c, rel) } ∧ c.kind = 2 ∧ c.base = m.le 4 4 ∧ c.n = m.le 8 4 ∧
        rel = bit (m.u8 3) 1) ∧
  ActsAtBoundary .followSet 0x25 []
    (fun s m => NamesAxis s m ∧ s.MayMove m.ep ∧ fieldBad 0x25 m s = none ∧ m.u8 1 ≠ 0xFF ∧
      (Follows s (m.u8 0) ∨ s.cplOk m.ep (m.u8 0) = true)) stOk
    (fun s m u => ∃ x, x = m.u8 0 ∧ u.get (Reg.AXIS_SRC_SOURCE x) = 3 ∧ u.get (Reg.AXIS_SRC_ACTIVE x) = 1 ∧
      u.get (Reg.AXIS_FOL_CFG_SRC x) = m.u8 1 ∧ u.get (Reg.AXIS_FOL_CFG_MODE x) = m.u8 2 ∧
      u.getI (Reg.AXIS_FOL_SCALE x) = (m.f64q 8).getD 0 ∧ u.getI (Reg.AXIS_FOL_OFFSET x) = (m.posq (bit (m.u8 3) 0) 16).getD 0 ∧
      u.getI (Reg.AXIS_FOL_VMAX x) = ceilOr (s.getI (Reg.AXIS_V_MAX x)) (m.f64q 24) ∧
      u.getI (Reg.AXIS_FOL_AMAX x) = ceilOr (s.getI (Reg.AXIS_A_MAX x)) (m.f64q 32) ∧
      u.get (Reg.AXIS_CPL_CFG_KIND x) = 0 ∧ u.get (Reg.AXIS_CPL_STAT_CLUTCH x) = 0 ∧ (u.axisX x).plan = none ∧ (u.axisX x).kept = none ∧
      (Follows s x → (u.axisX x).folV = (s.axisX x).folV) ∧ (¬ Follows s x → (u.axisX x).folV = (s.axisKin x).v) ∧
      (u.axisX x).folTgt = s.getQ (Reg.AXIS_POS_CMD x) ∧ (∀ k, k ≠ x → u.axisX k = s.axisX k) ∧ Only [.regs, .axis, .awaiting] s u ∧
      RegsKept s u [Reg.AXIS_SRC_SOURCE x, Reg.AXIS_SRC_ACTIVE x, Reg.AXIS_FOL_CFG_SRC x, Reg.AXIS_FOL_CFG_MODE x, Reg.AXIS_FOL_SCALE x,
        Reg.AXIS_FOL_OFFSET x, Reg.AXIS_FOL_VMAX x, Reg.AXIS_FOL_AMAX x, Reg.AXIS_CPL_CFG_KIND x, Reg.AXIS_CPL_STAT_CLUTCH x,
        Reg.AXIS_CPL_STAT_U x]) ∧
  AtBoundary 0x25 (fun s m => NamesAxis s m ∧ s.MayMove m.ep ∧ m.u8 1 = 0xFF ∧ (Follows s (m.u8 0) ∨ s.cplOk m.ep (m.u8 0) = true)) stOk
    (fun s m u => (Follows s (m.u8 0) → (u.axisX (m.u8 0)) = { s.axisX (m.u8 0) with folEnd := true } ∧ u.get (Reg.AXIS_FOL_CFG_SRC (m.u8 0)) = 0xFF ∧
        (∀ k, k ≠ m.u8 0 → u.axisX k = s.axisX k) ∧ Only [.regs, .axis, .awaiting] s u ∧ RegsKept s u [Reg.AXIS_FOL_CFG_SRC (m.u8 0)]) ∧
      (¬ Follows s (m.u8 0) → Only [.awaiting] s u)) ∧
  BoundaryRefuses 0x25 (fun s m => s.MayMove m.ep ∧ ¬ Follows s (m.u8 0) ∧ s.cplOk m.ep (m.u8 0) = false) stBusy ∧
  (∀ op, op ∈ [0x26, 0x27] → BoundaryRefuses op
    (fun s m => s.MayMove m.ep ∧ s.masterOk m.ep (m.u8 0) (m.u8 1) (m.u8 2) = true ∧ s.cplOk m.ep (m.u8 0) = false) stBusy)

/-- COEF_SWAP, CLAVE_APPEND, CLAVE_FLUSH, SNARE_ARM, ENGINE_TEST and ENGINE_MIGRATE at their slow boundary (08_control_loops.md,
10_coordinate_scheduler.md, 05_loop_engines.md, 04_groups_and_memory.md Table GRP-5). -/
def Obligations.SchedulerCommands : Prop :=
  (∀ s m, Accepted s 0x31 m → s.flag (Reg.GRP_COEF_STAT_MODE m.ep) = true → Waits s (.coefSwap m) 0x31 m []) ∧
  (∀ s m, Accepted s 0x31 m → s.flag (Reg.GRP_COEF_STAT_MODE m.ep) = false → ∃ t, exec (.coefSwap m) s = .next t ∧
    t.awaiting = s.awaiting ++ [⟨0x31, m, s.clk⟩] ∧ t.get (Reg.GRP_COEF_STAT_PENDING m.ep) = 1 ∧
    t.grpX m.ep = { s.grpX m.ep with swapAt := if s.flag (Reg.GRP_COEF_STAT_PENDING m.ep) then (s.grpX m.ep).swapAt else s.clk } ∧
    (∀ k, k ≠ m.ep.val → t.grpX k = s.grpX k) ∧ Only [.regs, .sess, .grp, .awaiting] s t ∧
    RegsKept s t [Reg.SYS_BXP_RX_MSG m.ep, Reg.SYS_BXP_LAST_SEQ m.ep, Reg.GRP_COEF_STAT_PENDING m.ep]) ∧
  AtBoundary 0x31 (fun s m => s.flag (Reg.GRP_COEF_STAT_MODE m.ep) = false) stOk (fun s _ u => Only [.awaiting] s u) ∧
  BoundaryRefuses 0x31 (fun s m => s.flag (Reg.GRP_COEF_STAT_MODE m.ep) = true) stWrongMode ∧
  (∀ (s : State) (n : Nat), s.flag (Reg.GRP_COEF_STAT_PENDING n) = false ∨ s.clk ≤ (s.grpX n).swapAt → s.takeSwap n = s) ∧
  (∀ (s : State) (n : Nat), n < 16 → s.flag (Reg.GRP_COEF_STAT_PENDING n) = true → (s.grpX n).swapAt < s.clk →
    (∀ x ∈ s.axesOf n, (∀ k, k < 32 → (s.takeSwap n).get (Reg.AXIS_COEF_A x k) = s.get (Reg.AXIS_COEF_W x k)) ∧
      (x < 16 → ∀ k, k < 11 → (s.takeSwap n).get (Reg.CUR_COEF_A x k) = s.get (Reg.CUR_COEF_W x k))) ∧
    Only [.regs, .cur] s (s.takeSwap n) ∧ (s.takeSwap n).get (Reg.GRP_COEF_STAT_PENDING n) = 0 ∧
    ((s.takeSwap n).flag (Reg.GRP_COEF_STAT_ACTIVE n) = !s.flag (Reg.GRP_COEF_STAT_ACTIVE n)) ∧
    (s.takeSwap n).get (Reg.GRP_COEF_STAT_SWAPS n) = min 65535 (s.get (Reg.GRP_COEF_STAT_SWAPS n) + 1) ∧
    (s.takeSwap n).get (Reg.GRP_COEF_SWAP_NTIME n) = s.ntime ∧
    RegsKept s (s.takeSwap n) ([Reg.GRP_COEF_STAT_PENDING n, Reg.GRP_COEF_STAT_ACTIVE n, Reg.GRP_COEF_STAT_SWAPS n, Reg.GRP_COEF_SWAP_NTIME n]
      ++ (s.axesOf n).flatMap (fun x => (List.range 32).map (Reg.AXIS_COEF_A x) ++ (List.range 11).map (Reg.CUR_COEF_A x)))) ∧
  ActsAtBoundary .claveAppend 0x40 []
    (fun s m => m.ep.val < 16 ∧ lengthOk 0x40 m = true ∧ fieldBad 0x40 m s = none ∧
      (s.claveX m.ep).queue.length + (s.claveX m.ep).goWait.length + m.le 0 2 ≤ 1048576) stOk
    (fun s m u => ∃ l : List ClEntry, (u.claveX m.ep).queue = (s.claveX m.ep).queue ++ l ∧ l.length = m.le 0 2 ∧
      (u.claveX m.ep).win = (s.claveX m.ep).win ∧ u.get (Reg.CLAVE_QUEUED m.ep) = (s.claveX m.ep).queue.length + m.le 0 2 ∧
      (∀ i e, l[i]? = some e → e.coord = toInt 64 (m.le (4 + 16 * i) 8) ∧ e.act = m.le (12 + 16 * i) 2 % 1024 ∧
        e.dir = m.le (12 + 16 * i) 2 / 1024 % 4 ∧ e.target = m.le (14 + 16 * i) 2 ∧ e.param = m.le (16 + 16 * i) 4) ∧
      (∀ i, i < m.le 0 2 → ∀ j, j < 16 →
        (u.rdByte (0xA0000000 + m.ep.val * 0x1000000 + ((s.claveX m.ep).recNo + i) % 1048576 * 16 + j)).toNat = m.u8 (4 + 16 * i + j)) ∧
      (∀ a, (∀ i, i < m.le 0 2 → ¬ (0xA0000000 + m.ep.val * 0x1000000 + ((s.claveX m.ep).recNo + i) % 1048576 * 16 ≤ a ∧
        a < 0xA0000000 + m.ep.val * 0x1000000 + ((s.claveX m.ep).recNo + i) % 1048576 * 16 + 16)) → u.rdByte a = s.rdByte a) ∧
      (∀ k, k ≠ m.ep.val → u.claveX k = s.claveX k) ∧ Only [.regs, .mem, .flt, .clave, .awaiting] s u ∧
      Healed s u (InQueue (0xA0000000 + m.ep.val * 0x1000000) 16 1048576 (s.claveX m.ep).recNo (m.le 0 2)) ∧
      RegsKept s u [Reg.CLAVE_PENDING m.ep, Reg.CLAVE_QUEUED m.ep]) ∧
  BoundaryRefuses 0x40 (fun s m => 1048576 < (s.claveX m.ep).queue.length + (s.claveX m.ep).goWait.length + m.le 0 2) stQueueFull ∧
  ActsAtBoundary .claveFlush 0x41 [] (fun _ m => m.ep.val < 16) stOk
    (fun s m u => (u.claveX m.ep).queue = [] ∧ (u.claveX m.ep).win = [] ∧ u.get (Reg.CLAVE_PENDING m.ep) = 0 ∧
      u.get (Reg.CLAVE_QUEUED m.ep) = 0 ∧ (∀ k, k ≠ m.ep.val → u.claveX k = s.claveX k) ∧
      (∀ k, k < 8 → u.hoOn k = (s.hoOn k && !(!bit (m.u8 0) 0 && decide (k ∈ s.hosOf m.ep) && (s.hoX k).byClave && (s.hoX k).pulses.isEmpty))) ∧
      (bit (m.u8 0) 0 = true → OnlyRegs { s with clave := u.clave, awaiting := [] } u [Reg.CLAVE_PENDING m.ep, Reg.CLAVE_QUEUED m.ep]) ∧
      Only [.regs, .clave, .ho, .awaiting] s u) ∧
  ActsAtBoundary .snareArm 0x42 [] (fun _ m => m.u8 0 < 32) stOk
    (fun s m u => (m.u8 1 ≠ 2 → u.get (Reg.SNARE_STAT_ARMED (m.u8 0)) = 1 ∧
        u.flag (Reg.SNARE_STAT_MODE (m.u8 0)) = decide (m.u8 1 = 1) ∧
        (s.flag (Reg.SNARE_STAT_ARMED (m.u8 0)) = false → (u.snareX (m.u8 0)).ta = s.clk)) ∧
      (m.u8 1 = 2 → u.get (Reg.SNARE_STAT_ARMED (m.u8 0)) = 0) ∧ (∀ k, k ≠ m.u8 0 → u.snareX k = s.snareX k) ∧
      Only [.regs, .snare, .awaiting] s u ∧
      RegsKept s u [Reg.SNARE_STAT_ARMED (m.u8 0), Reg.SNARE_STAT_MODE (m.u8 0), Reg.SNARE_EMPTY_WIN (m.u8 0)]) ∧
  ActsAtBoundary .engineTest 0x70 []
    (fun s m => m.u8 0 ≤ 16 ∧ (s.engIn (m.u8 0) esSpare = true ∨ s.engIn (m.u8 0) esQuarantine = true ∨ s.engIn (m.u8 0) esOff = true)) stOk
    (fun s m u => u.engIn (m.u8 0) esTesting = true ∧ u.get (Reg.ENG_STATE_GVALID (m.u8 0)) = 0 ∧ u.get (Reg.ENG_TEST_RESULT (m.u8 0)) = 3 ∧
      u.get (Reg.ENG_TEST_COUNT (m.u8 0)) = min 255 (s.get (Reg.ENG_TEST_COUNT (m.u8 0)) + 1) ∧ u.engX (m.u8 0) = {} ∧
      (∀ a, pmAt (m.u8 0) ≤ a → a < pmAt (m.u8 0) + 0x10000 → u.rdByte a = 0) ∧ MemKept s u (pmAt (m.u8 0)) 0x10000 ∧
      (∀ k, k ≠ m.u8 0 → u.engX k = s.engX k) ∧ Only [.regs, .mem, .eng, .awaiting] s u ∧
      RegsKept s u [Reg.ENG_STATE_STATE (m.u8 0), Reg.ENG_STATE_GROUP (m.u8 0), Reg.ENG_STATE_GVALID (m.u8 0), Reg.ENG_EVT_CAUSE (m.u8 0),
        Reg.ENG_TEST_RESULT (m.u8 0), Reg.ENG_TEST_COUNT (m.u8 0)]) ∧
  BoundaryRefuses 0x70 (fun s m => s.engIn (m.u8 0) esSpare = false ∧ s.engIn (m.u8 0) esQuarantine = false ∧ s.engIn (m.u8 0) esOff = false) stBusy ∧
  ActsAtBoundary .engineMigrate 0x71 []
    (fun s m => m.u8 0 < 16 ∧ m.u8 1 ≤ 16 ∧ s.flag (Reg.GRP_ENG_CFG_TAKEOVER (m.u8 0)) = true ∧ s.flag (Reg.GRP_ENG_CFG_SERVED (m.u8 0)) = true ∧
      s.flt.latent = [] ∧ s.gstate (m.u8 0) ≠ gsTakeover ∧ (s.grpX (m.u8 0)).take.phase = 0 ∧ (s.grpX (m.u8 0)).mig.phase = 0 ∧ s.engIn (m.u8 1) esSpare = true ∧
      s.get (Reg.ENG_STATE_FETCH (m.u8 1)) = s.get (Reg.GRP_ENG_CFG_CODE_MODE (m.u8 0)) ∧
      (m.le 8 8 = 0 ∨ s.ntimeH + 5 * (2400 + 8 * s.slowClk) ≤ 2 * m.le 8 8)) stOk
    (fun s m u => u.engIn (m.u8 1) esShadow = true ∧ u.get (Reg.ENG_STATE_GROUP (m.u8 1)) = m.u8 0 ∧ u.get (Reg.ENG_STATE_GVALID (m.u8 1)) = 1 ∧
      u.get (Reg.GRP_MIGRATE_TARGET (m.u8 0)) = m.u8 1 ∧ u.get (Reg.GRP_MIGRATE_OPEN (m.u8 0)) = 1 ∧ (u.grpX (m.u8 0)).mig.phase = 1 ∧
      (u.grpX (m.u8 0)).mig.target = m.u8 1 ∧ u.engX (m.u8 1) = {} ∧
      (∀ i, i < 0x10000 → u.rdByte (pmAt (m.u8 1) + i) = s.rdByte (copyAt (m.u8 0) + i)) ∧ MemKept s u (pmAt (m.u8 1)) 0x10000 ∧
      (∀ k, k ≠ m.u8 1 → u.engX k = s.engX k) ∧ (∀ k, k ≠ m.u8 0 → u.grpX k = s.grpX k) ∧ Only [.regs, .mem, .eng, .grp, .awaiting] s u) ∧
  BoundaryRefuses 0x71 (fun s m => s.flag (Reg.GRP_ENG_CFG_TAKEOVER (m.u8 0)) = false) stWrongMode ∧
  BoundaryRefuses 0x71 (fun s m => s.flag (Reg.GRP_ENG_CFG_TAKEOVER (m.u8 0)) = true ∧
    (s.flag (Reg.GRP_ENG_CFG_SERVED (m.u8 0)) = false ∨ s.gstate (m.u8 0) = gsTakeover ∨ (s.grpX (m.u8 0)).mig.phase ≠ 0 ∨
      s.engIn (m.u8 1) esSpare = false)) stBusy

/-- LOADING starts from cleared state, counts failures up to FALLBACK, and leads to STANDBY with an image that verifies
(03_start_and_image.md, 02_power_and_modes.md). -/
def Obligations.StartAttempts : Prop :=
  (∀ (s : State) (f : BitVec 4) (v : BitVec 16) (r : BitVec 8), (∀ c, ¬ LoadingCause s c) → exec (.loadingEntry f v r) s = .next s) ∧
  (∀ (s : State) (f : BitVec 4) (v : BitVec 16) (r : BitVec 8) (c : Nat), LoadingCause s c → c < 16 →
    ∃ t, exec (.loadingEntry f v r) s = .next t ∧ (∀ q ∈ t.mem, 0xBE000000 ≤ q.1) ∧ t.awaiting = [] ∧ t.sess = [] ∧ t.eng = [] ∧ t.grp = [] ∧ t.axis = [] ∧
      t.led = {} ∧ t.i2c = {} ∧ t.flash = { cells := s.flash.cells } ∧ t.bk = { s.bk with interrupted := false, lost := false } ∧
      t.ntimeH = 2 * (s.bk.rtc * 1000000000 / 32768) ∧ t.clk = s.clk ∧ t.pending = s.pending ∧
      t.get Reg.SYS_WAKE_CAUSE_CAUSE = c ∧ t.get Reg.SYS_VBAK_MV = v.toNat ∧ t.get Reg.SYS_XMEM_TRAIN_RETRIES = r.toNat ∧
      (∀ i, 4 ≤ i → i < 12 → t.get (Reg.SYS_BKREG i) = s.get (Reg.SYS_BKREG i)) ∧ (t.mode = modeLoading ∨ t.mode = modeFallback) ∧
      (bit (s.get (Reg.SYS_BKREG 0)) 8 = false → s.failCount = 3 → t.mode = modeFallback ∧ t.get (Reg.SYS_BKREG 0) = s.get (Reg.SYS_BKREG 0) ∧
        t.get (Reg.CAN_CTL 0) = 1 ∧ t.get (Reg.CAN_CTL 1) = 0 ∧ t.get (Reg.ETH_PORT_CTL_EN 0) = 1 ∧ t.get (Reg.ETH_PORT_CTL_EN 1) = 0) ∧
      (bit (s.get (Reg.SYS_BKREG 0)) 8 = false → s.failCount < 3 → f ≠ 0 ∨ s.start.clockHeld = true → FailureCounted s t 2 c) ∧
      (bit (s.get (Reg.SYS_BKREG 0)) 8 = false → s.failCount < 3 → f = 0 → s.start.clockHeld = false → s.flash.keyJob = none →
        (∀ k, k < 2 → (s.headReject (s.slotHead k)).isSome = true) → FailureCounted s t 1 c) ∧
      (∀ k, t.start.accepted = some k → k < 2 ∧ t.mode = modeLoading ∧ t.start.entry = none ∧ bit (t.get (Reg.SYS_BKREG 0)) 8 = true)) ∧
  (∀ s : State, s.awake = false ∨ s.mode ≠ modeLoading ∨ s.start.entry ≠ none ∨ s.start.accepted = none → exec .startSequenceComplete s = .next s) ∧
  (∀ (s : State) (k : Nat) (c : Content), s.awake = true → s.mode = modeLoading → s.start.entry = none → s.start.accepted = some k → k < 2 →
    s.verifyBody s.imageBase s.stagedImage = .inl c → s.led = {} →
    ∃ t, exec .startSequenceComplete s = .next t ∧ t.mode = modeStandby ∧
      (∀ e, e < 17 → t.get (Reg.ENG_STATE_STATE e) = (if e < 16 then esActive else esSpare)) ∧ t.get Reg.LEDGER_STAT_RUN = 1 ∧
      t.get Reg.SYS_START_STAT_SLOT = k ∧ t.get Reg.SYS_IMG_GEN = leAt s.stagedImage 12 4 ∧
      t.get Reg.SYS_LOAD_TIME = (s.clk - s.start.began + 399999) / 400000 % 65536 ∧
      t.tick_ = { lastFast := s.clk, lastSlow := s.clk } ∧
      ∃ e, t.led.evq.head? = some e ∧ e.cls = clsInfo ∧ e.code = 1 ∧ e.group = 255 ∧ e.long = true ∧ e.ntime = s.ntime) ∧
  (∀ s : State, s.awake = false ∨ s.mode ≠ modeLoading ∨ s.start.entry ≠ none → exec .loadTimeout s = .next s) ∧
  (∀ s : State, s.awake = true → s.mode = modeLoading → s.start.entry = none → ∃ t, exec .loadTimeout s = .next t ∧ Only [.regs, .start] s t ∧
    FailureCounted s t 3 (s.get Reg.SYS_WAKE_CAUSE_CAUSE)) ∧
  (∀ s : State, s.awake = false ∨ s.mode ≠ modeStandby ∧ s.mode ≠ modeOperate ∨ s.flag Reg.SYS_START_STAT_CONCLUDED = true →
    exec .startSuccess s = .next s) ∧
  (∀ s : State, s.awake = true → s.mode = modeStandby ∨ s.mode = modeOperate → s.flag Reg.SYS_START_STAT_CONCLUDED = false →
    ∃ t, exec .startSuccess s = .next t ∧ OnlyRegs s t [Reg.SYS_BKREG 0, Reg.SYS_START_STAT_CONCLUDED, Reg.SYS_START_STAT_HELD_S] ∧
      (∀ i, i < 32 → bit (t.get (Reg.SYS_BKREG 0)) i = (bit (s.get (Reg.SYS_BKREG 0)) i && decide (4 ≤ i ∧ i ≠ 8))) ∧
      t.get Reg.SYS_START_STAT_CONCLUDED = 1 ∧ t.get Reg.SYS_START_STAT_HELD_S = 30) ∧
  (∀ s : State, s.flt.clockLost = false ∨ s.mode ≠ modeLoading → exec .loadingClockReturn s = .next s) ∧
  (∀ (s : State) (c : Nat), s.flt.clockLost = true → s.mode = modeLoading → s.start.entry = some c →
    exec .loadingClockReturn s = .next { s with flt := { s.flt with clockLost := false } }) ∧
  (∀ s : State, s.flt.clockLost = true → s.mode = modeLoading → s.start.entry = none → ∃ t, exec .loadingClockReturn s = .next t ∧
    Only [.regs, .start, .flt] s t ∧ t.flt = { s.flt with clockLost := false } ∧ t.start.clockHeld = false ∧
    bit (t.get Reg.SYS_START_STAT_SELFTEST_FAIL) 3 = true ∧ FailureCounted s t 2 (s.get Reg.SYS_WAKE_CAUSE_CAUSE))

/-- VBAK, RTC synchronisation, comparators, DRIVE_ENABLE, the hardware cut, STO and the limit of a stop: what each shows and
leads to (02_power_and_modes.md, 18_faults.md). -/
def Obligations.BackupAndEnables : Prop :=
  (∀ (s : State) (mv : BitVec 16), s.awake = false ∨ s.mode ≠ modeStandby ∧ s.mode ≠ modeOperate → exec (.vbakMeasure mv) s = .next s) ∧
  (∀ (s : State) (mv : BitVec 16), s.awake = true → s.mode = modeStandby ∨ s.mode = modeOperate →
    ∃ t, exec (.vbakMeasure mv) s = .next t ∧ Only [.regs, .led] s t ∧
      RegsKept s t ([Reg.SYS_VBAK_MV, Reg.SYS_SUPPLY_VBAK_LOW, Reg.SYS_SUPPLY_VBAK_PRESENT] ++ ledgerFlds) ∧
      t.get Reg.SYS_VBAK_MV = mv.toNat ∧ (t.flag Reg.SYS_SUPPLY_VBAK_LOW = true ↔ mv.toNat < 2200) ∧
      (t.flag Reg.SYS_SUPPLY_VBAK_PRESENT = true ↔ 2000 ≤ mv.toNat) ∧ (2200 ≤ mv.toNat → t.led = s.led) ∧
      (mv.toNat < 2200 → Posted s t (s.evNow 255 clsWarn 0x0002 false (leBytes 2 mv.toNat)))) ∧
  (∀ s : State, s.awake = false ∨ s.flag Reg.SYS_RTC_CTL_SYNC = false ∨ s.flag Reg.ETH_PTP_STAT_SYNC = false → exec .rtcSync s = .next s) ∧
  (∀ s : State, s.awake = true → s.flag Reg.SYS_RTC_CTL_SYNC = true → s.flag Reg.ETH_PTP_STAT_SYNC = true →
    exec .rtcSync s = .next { s with bk := { s.bk with rtc := s.ntime * 32768 / 1000000000 % 2 ^ 48, sub := 0 } }) ∧
  (∀ (s : State) (l : BitVec 4), (∀ k, k < 4 → s.get (Reg.SYS_CMP_CFG_EDGE k) = 0) → s.bk.cand.length = 4 →
    exec (.comparatorStrobe l) s = .next { s with bk := { s.bk with cand := List.replicate 4 none } }) ∧
  (∀ (s : State) (l : BitVec 4) (k : Nat) (b : Bool), k < 4 → s.get (Reg.SYS_CMP_CFG_EDGE k) ≠ 0 →
    (∀ j, j < 4 → j ≠ k → s.get (Reg.SYS_CMP_CFG_EDGE j) = 0) → b = l.getLsbD k → s.bk.cand.length = 4 →
    ∃ t, exec (.comparatorStrobe l) s = .next t ∧ Only [.regs, .bk] s t ∧
      (s.flag (Reg.SYS_CMP_CFG_STATE k) = b → t = { s with bk := { s.bk with cand := List.replicate 4 none } }) ∧
      (s.flag (Reg.SYS_CMP_CFG_STATE k) ≠ b → s.bk.cand[k]? ≠ some (some b) → t = { s with bk := { s.bk with cand := (List.replicate 4 none).set k (some b) } }) ∧
      (s.flag (Reg.SYS_CMP_CFG_STATE k) ≠ b → s.bk.cand[k]? = some (some b) → t.flag (Reg.SYS_CMP_CFG_STATE k) = b ∧
        t.bk = { s.bk with cand := List.replicate 4 none,
                           fifo := if bit (s.get (Reg.SYS_CMP_CFG_EDGE k)) (if b then 0 else 1) = true ∧ s.bk.fifo.length < 8
                             then s.bk.fifo ++ [⟨s.bk.rtc, k, b⟩] else s.bk.fifo } ∧
        (bit (s.get (Reg.SYS_CMP_CFG_EDGE k)) (if b then 0 else 1) = true →
          (s.bk.fifo.length < 8 → s.mode = modeDormant → t.get Reg.SYS_WAKE_CAUSE_CMP_EVENT = 1) ∧
          (8 ≤ s.bk.fifo.length → t.get Reg.SYS_BKFIFO_STAT_OVF = min 255 (s.get Reg.SYS_BKFIFO_STAT_OVF + 1))) ∧
        RegsKept s t [Reg.SYS_CMP_CFG_STATE k, Reg.SYS_BKFIFO_STAT_OVF, Reg.SYS_WAKE_CAUSE_CMP_EVENT])) ∧
  (∀ s : State, s.awake = false ∨ s.flag Reg.FAULT_DE_LEVEL = false → exec .driveEnableLost s = .next s) ∧
  (∀ s : State, s.awake = true → s.flag Reg.FAULT_DE_LEVEL = true → ∃ t, exec .driveEnableLost s = .next t ∧
    t.get Reg.FAULT_DE_LEVEL = 0 ∧ t.get Reg.SYS_MODE_DRIVE_ENABLE = 0 ∧
    (s.mode = modeOperate → t.mode = modeSafeHold ∧ bit (t.get Reg.FAULT_DEV_LATCH) 4 = true) ∧
    (s.mode ≠ modeOperate → t.mode = s.mode ∧ Only [.regs, .cur] s t) ∧
    (s.mode ≠ modeOperate → s.get Reg.FAULT_DE_CFG ≠ 0 → OnlyRegs s t [Reg.FAULT_DE_LEVEL, Reg.SYS_MODE_DRIVE_ENABLE]) ∧
    (s.get Reg.FAULT_DE_CFG = 0 → t.get Reg.FAULT_DE_HW_CUT = 1 ∧ ∀ x, x < 16 → t.get (Reg.CUR_STAT_ENABLE_OUT x) = 0 ∧ (t.curX x).pwm = 0)) ∧
  (∀ s : State, s.awake = false → exec .driveEnableRise s = .next s) ∧
  (∀ s : State, s.awake = true → ∃ t, exec .driveEnableRise s = .next t ∧ Only [.regs, .cur] s t ∧ t.get Reg.FAULT_DE_LEVEL = 1 ∧
    t.get Reg.SYS_MODE_DRIVE_ENABLE = 1 ∧ t.get Reg.FAULT_DE_HW_CUT = 0 ∧
    (s.flag Reg.FAULT_DE_HW_CUT = false → OnlyRegs s t [Reg.FAULT_DE_LEVEL, Reg.SYS_MODE_DRIVE_ENABLE]) ∧
    (s.flag Reg.FAULT_DE_HW_CUT = true → ∀ x, x < 16 → s.get (Reg.CUR_STAT_STATE x) = cellRun →
      t.get (Reg.CUR_STAT_ENABLE_OUT x) = 1 ∧ (t.curX x).pwm = 1)) ∧
  (∀ s : State, s.awake = false ∨ s.flag Reg.FAULT_DE_LEVEL = true → exec .driveEnableHwCut s = .next s) ∧
  (∀ s : State, s.awake = true → s.flag Reg.FAULT_DE_LEVEL = false → ∃ t, exec .driveEnableHwCut s = .next t ∧ Only [.regs, .cur] s t ∧
    RegsKept s t (Reg.FAULT_DE_HW_CUT :: (List.range 16).map Reg.CUR_STAT_ENABLE_OUT) ∧ t.get Reg.FAULT_DE_HW_CUT = 1 ∧
    ∀ x, x < 16 → t.get (Reg.CUR_STAT_ENABLE_OUT x) = 0 ∧ (t.curX x).pwm = 0 ∧ t.curX x = { s.curX x with pwm := 0, phases := (t.curX x).phases }) ∧
  (∀ (s : State) (x : Fin 16) (mv : BitVec 16), s.awake = false → exec (.stoActive x mv) s = .next s) ∧
  (∀ (s : State) (x : Fin 16) (mv : BitVec 16), s.awake = true → ∃ t b, exec (.stoActive x mv) s = .next t ∧
    (mv.toNat < 5000 → b = true ∧ t.drawn = s.drawn) ∧ (15000 < mv.toNat → b = false ∧ t.drawn = s.drawn) ∧
    (∀ i, i < 16 → bit (t.get Reg.FAULT_STO_STAT) i = (if i = x.val then b else bit (s.get Reg.FAULT_STO_STAT) i)) ∧
    (b = false ∨ s.flag (Reg.AXIS_SRC_POWERED x) = false → Only [.regs, .drawn] s t ∧ RegsKept s t [Reg.FAULT_STO_STAT]) ∧
    (∀ n, b = true → s.flag (Reg.AXIS_SRC_POWERED x) = true → s.axisGroup x = some n →
      t.get (Reg.AXIS_SRC_POWERED x) = 0 ∧ Posted s t (s.evNow n clsGroupFault 0x1A false
        (u8s [x.val, s.reactOf n 0x1A, s.gstate n, 0] ++ leBytes 4 0)))) ∧
  (∀ (s : State) (n : Fin 16), s.awake = false ∨ s.live = false ∨ s.gstate n ≠ gsStopping ∨ (s.grpX n).stopFrom = none →
    exec (.stopMaxExpiry n) s = .next s) ∧
  (∀ (s : State) (n : Fin 16), s.awake = true → s.live = true → s.gstate n = gsStopping → (s.grpX n).stopFrom ≠ none → (s.grpX n).react < 4 →
    ∃ t, exec (.stopMaxExpiry n) s = .next t ∧ t.gstate n = gsFault ∧ t.get (Reg.FAULT_GRP_REACT_NOW n) = 4 ∧
      (∀ x ∈ s.axesOf n, t.get (Reg.AXIS_SRC_POWERED x) = 0) ∧ ∀ k, k < 16 → k ≠ n.val → t.gstate k = s.gstate k)

/-- The event queue and the ledger: placing, merging and counting events, claiming and committing records, event frames
(17_ledger.md, 16_bexic_protocol.md). -/
def Obligations.LedgerCommands : Prop :=
  (∀ (s : State) (e : Ev), s.live = false → s.post e = s) ∧
  (∀ (s : State) (e : Ev), s.live = true → FirstEvent s → evqUsed s.led.evq + e.entries ≤ 1022 →
    Only [.regs, .led] s (s.post e) ∧ RegsKept s (s.post e) ledgerFlds ∧
    (s.post e).led = { s.led with evq := s.led.evq ++ [{ e with clk := s.clk }], turn := (s.post e).led.turn }) ∧
  (∀ (s : State) (a b : Ev), s.live = true → FirstEvent s → evqUsed s.led.evq + a.entries + b.entries ≤ 1022 →
    ((s.post a).post b).led.evq = s.led.evq ++
      (if b.rank < a.rank then [{ b with clk := s.clk }, { a with clk := s.clk }] else [{ a with clk := s.clk }, { b with clk := s.clk }])) ∧
  (∀ a b : Ev, (a.rank < b.rank ↔ (a.cls = 3 ∧ b.cls ≠ 3) ∨ (a.cls = 2 ∧ b.cls = 2 ∧ a.group < b.group) ∨ (a.cls = 2 ∧ b.cls ≠ 2 ∧ b.cls ≠ 3) ∨
      (a.cls ≠ 2 ∧ a.cls ≠ 3 ∧ b.cls ≠ 2 ∧ b.cls ≠ 3 ∧ (a.group < b.group ∨ a.group = b.group ∧ a.cls < b.cls))) ∨
    255 < a.group ∨ 255 < b.group ∨ 7 < a.cls ∨ 7 < b.cls) ∧
  (∀ (s : State) (e q : Ev) (a b : List Ev), s.live = true → FirstEvent s → 1022 < evqUsed s.led.evq + e.entries → s.led.evq = a ++ q :: b →
    q.group = e.group → q.cls = e.cls → q.code = e.code → (∀ r ∈ b, r.group ≠ e.group ∨ r.cls ≠ e.cls ∨ r.code ≠ e.code) →
    Only [.regs, .led] s (s.post e) ∧ RegsKept s (s.post e) ledgerFlds ∧
    (s.post e).led = { s.led with evq := a ++ { q with count := min 65535 (q.count + e.count), payload := e.payload } :: b,
                                                turn := (s.post e).led.turn } ∧
    (s.post e).get Reg.LEDGER_MERGED = min (2 ^ 32 - 1) (s.get Reg.LEDGER_MERGED + 1)) ∧
  (∀ (s : State) (e : Ev), s.live = true → FirstEvent s → 1022 < evqUsed s.led.evq + e.entries → e.cls < 8 →
    (∀ r ∈ s.led.evq, r.group ≠ e.group ∨ r.cls ≠ e.cls ∨ r.code ≠ e.code) →
    Only [.regs, .led] s (s.post e) ∧ RegsKept s (s.post e) ledgerFlds ∧
    (s.post e).get (Reg.LEDGER_LOST e.cls) = min (2 ^ 32 - 1) (s.get (Reg.LEDGER_LOST e.cls) + 1) ∧
    (s.post e).get Reg.LEDGER_STAT_LOSS_PENDING = 1 ∧
    (s.led.loss = none → (s.post e).led = { s.led with loss := some (s.ntime, (List.replicate 8 0).set e.cls 1),
                                                                          turn := (s.post e).led.turn }) ∧
    (∀ t0 l, s.led.loss = some (t0, l) → l.length = 8 →
      (s.post e).led = { s.led with loss := some (t0, l.set e.cls (l.getD e.cls 0 + 1)), turn := (s.post e).led.turn })) ∧
  (∀ s : State, s.live = false ∨ s.awake = false ∨ s.led.writing ≠ none ∨ (∃ t0, s.led.lastClaim = some t0 ∧ s.clk < t0 + 200) ∨
    (s.led.evq = [] ∧ s.led.loss = none) ∨
    (∃ e r, s.led.evq = e :: r ∧ e.cls ≠ clsLoss ∧ s.clk ≤ e.clk ∧ (s.led.loss = none ∨ 1022 < evqUsed s.led.evq + 64)) →
    exec .ledgerClaim s = .next s) ∧
  (∀ s : State, s.live = true → s.awake = true → s.led.writing = none → (∀ t0, s.led.lastClaim = some t0 → t0 + 200 ≤ s.clk) →
    (s.led.evq ≠ [] ∨ s.led.loss ≠ none) → (∀ e r, s.led.evq = e :: r → e.clk < s.clk) →
    ∃ t, exec .ledgerClaim s = .next t ∧ Only [.regs, .led] s t ∧ RegsKept s t (Reg.LEDGER_OLDEST_SEQ :: ledgerFlds) ∧
      t.get Reg.LEDGER_OLDEST_SEQ = max (s.get Reg.LEDGER_OLDEST_SEQ) (s.get Reg.LEDGER_WR_SEQ + 1 - 2097152) % 2 ^ 64 ∧
      (∀ t0 l, s.led.loss = some (t0, l) → evqUsed s.led.evq + 64 ≤ 1022 →
        t.led = { s.led with loss := none, turn := none, lastClaim := some s.clk, writing := some ⟨s.get Reg.LEDGER_WR_SEQ, t0, 0, 255, clsLoss, 1, min 65535 l.sum, l.flatMap (leBytes 4)⟩ }) ∧
      (∀ e r, s.led.evq = e :: r → s.led.loss = none ∨ 1022 < evqUsed s.led.evq + 64 →
        t.led = { s.led with evq := r, turn := none, lastClaim := some s.clk, writing := some ⟨s.get Reg.LEDGER_WR_SEQ, e.ntime, e.coord, e.group, e.cls, e.code, e.count, e.payload⟩ })) ∧
  (∀ s : State, s.led.writing = none ∨ s.live = false ∨ s.awake = false → exec .ledgerCommit s = .next s) ∧
  (∀ (s : State) (r : LRec), s.led.writing = some r → s.live = true → s.awake = true →
    ∃ t, exec .ledgerCommit s = .next t ∧ Only [.regs, .led, .flt, .sess] s t ∧ Healed s t (InQueue 0xB0000000 64 ringSlots (r.seq - 1) 1) ∧
      RegsKept s t [Reg.LEDGER_WR_SEQ, Reg.LEDGER_LOSS_RECORDS, Reg.LEDGER_RATE] ∧ t.get Reg.LEDGER_WR_SEQ = (r.seq + 1) % 2 ^ 64 ∧
      t.get Reg.LEDGER_LOSS_RECORDS = (if r.cls = clsLoss then min 65535 (s.get Reg.LEDGER_LOSS_RECORDS + 1) else s.get Reg.LEDGER_LOSS_RECORDS) ∧
      t.led.ring = (r :: s.led.ring).take 2097152 ∧ t.led.writing = none ∧ t.led.evq = s.led.evq ∧ t.led.loss = s.led.loss ∧
      t.led.lastClaim = s.led.lastClaim ∧
      (s.clk / 400000 = s.led.ms → t.led.msRecords = s.led.msRecords + 1 ∧ t.get Reg.LEDGER_RATE = s.get Reg.LEDGER_RATE) ∧
      (s.clk / 400000 = s.led.ms + 1 → t.led.msRecords = 1 ∧ t.get Reg.LEDGER_RATE = s.led.msRecords % 4096) ∧
      ∀ k, t.sessX k = (if (k = 16 ∨ k < 16 ∧ k = r.group) ∧ s.flag (Reg.SYS_BXP_SESSION_OPEN k) = true ∧ bit (s.sessX k).mask r.cls = true
        then { s.sessX k with waiting := (s.sessX k).waiting ++ [⟨1, s.recImage r⟩] } else s.sessX k)) ∧
  (∀ (s : State) (r : LRec), r.payload.length ≤ 32 → (s.recImage r).length = 64 ∧ leAt (s.recImage r) 0 8 = r.seq % 2 ^ 64 ∧
    leAt (s.recImage r) 8 8 = r.ntime % 2 ^ 64 ∧ leAt (s.recImage r) 24 1 = r.group % 256 ∧ leAt (s.recImage r) 25 1 = r.cls % 256 ∧
    leAt (s.recImage r) 26 2 = r.code % 65536 ∧ leAt (s.recImage r) 28 2 = r.count % 65536 ∧
    leAt (s.recImage r) 30 2 = s.get Reg.LEDGER_STAMP % 65536 ∧ (s.recImage r).drop 32 = r.payload ++ List.replicate (32 - r.payload.length) 0) ∧
  (∀ (s : State) (ep : Fin 17), s.live = false ∨ s.awake = false ∨ (s.sessX ep).waiting = [] ∨ (s.sessX ep).mask = 0 ∨
    s.flag (Reg.SYS_BXP_SESSION_OPEN ep) = false → exec (.eventFrameFlush ep) s = .next s) ∧
  (∀ (s : State) (ep : Fin 17), s.live = true → s.awake = true → (s.sessX ep).waiting ≠ [] → (s.sessX ep).mask ≠ 0 →
    s.flag (Reg.SYS_BXP_SESSION_OPEN ep) = true → ∃ (t : State) (l r : List Item), exec (.eventFrameFlush ep) s = .next t ∧
      (s.sessX ep).waiting = l ++ r ∧ (l.map (fun i => 4 + i.body.length)).sum + 12 ≤ 1400 ∧
      (∀ i, r.head? = some i → 1400 < (l.map (fun i => 4 + i.body.length)).sum + 12 + (4 + i.body.length)) ∧
      t.sessX ep = { s.sessX ep with waiting := r, evSeq := ((s.sessX ep).evSeq + 1) % 2 ^ 32 } ∧ (∀ k, k ≠ ep.val → t.sessX k = s.sessX k) ∧
      (s.pool.frees = [] → ¬ Grantable s ep 1 → t.outbox = s.outbox ∧ t.get (Reg.SYS_BXP_EVT_LOST ep) = min 65535 (s.get (Reg.SYS_BXP_EVT_LOST ep) + 1)) ∧
      (s.pool.frees = [] → Grantable s ep 1 → t.outbox = (if (s.sessX ep).src = .i2cs ∧ 6 ≤ s.i2c.out.length + s.i2cOpen then s.outbox else
        { ep := ep, dst := (s.sessX ep).src, opcode := 0x90, group := groupByte ep, seq := (s.sessX ep).evSeq, tag := s.get (Reg.SYS_BXP_SESSION_TAG ep), payload := leBytes 2 l.length ++ [0, 0] ++ leBytes 8 s.ntime ++ l.flatMap (fun i => u8s [i.kind, i.body.length, 0, 0] ++ i.body) } :: s.outbox) ∧
        (∀ c, (s.sessX ep).src = .can c → t.get (Reg.SYS_BXP_EVT_LOST ep) = s.get (Reg.SYS_BXP_EVT_LOST ep)) ∧
        ((s.sessX ep).src = .i2cs → 6 ≤ s.i2c.out.length + s.i2cOpen →
          t.get Reg.I2C_S_EVT_DROP = min 65535 (s.get Reg.I2C_S_EVT_DROP + 1) ∧
          t.get (Reg.SYS_BXP_EVT_LOST ep) = min 65535 (s.get (Reg.SYS_BXP_EVT_LOST ep) + 1))))

/-- Current cells: what a measurement computes, what a trip does, and how the four delays of the power sequences end
(08_control_loops.md, 18_faults.md). -/
def Obligations.CellCommands : Prop :=
  (∀ (s : State) (x : Fin 16) (a b c : BitVec 768) (f d : Bool), s.awake = false ∨ (s.curX x).meas = false →
    exec (.cellMeasurementReady x a b c f d) s = .next s) ∧
  (∀ (s : State) (x : Fin 16) (da db dc : BitVec 768) (f d : Bool), s.awake = true → (s.curX x).meas = true →
    ∃ (t : State) (ia ib ic ra rb rc : Int), exec (.cellMeasurementReady x da db dc f d) s = .next t ∧
      NearestTo (2 * s.get (Reg.CUR_GAIN_A x) * decimate (s.osr x) da + s.getI (Reg.CUR_OFS_A x)) ra ∧
      NearestTo (2 * s.get (Reg.CUR_GAIN_B x) * decimate (s.osr x) db + s.getI (Reg.CUR_OFS_B x)) rb ∧
      NearestTo (2 * s.get (Reg.CUR_GAIN_C x) * decimate (s.osr x) dc + s.getI (Reg.CUR_OFS_C x)) rc ∧
      ia = satI 32 ra ∧ ib = satI 32 (if s.flag (Reg.CUR_CFG_PHASE_SWAP x) then rc else rb) ∧
      ic = satI 32 (if s.flag (Reg.CUR_CFG_TWO_PHASE x) then -ia - ib else if s.flag (Reg.CUR_CFG_PHASE_SWAP x) then rb else rc) ∧
      t.getI (Reg.CUR_IA x) = ia ∧ t.getI (Reg.CUR_IB x) = ib ∧ t.getI (Reg.CUR_IC x) = ic ∧
      (let al := q31 (2 * ia - ib - ic) / 3
       let be := q31 (ib - ic) / sqrt3
       let cs := cosTurn (mkRat (s.get (Reg.CUR_ANGLE x)) (2 ^ 32))
       let sn := sinTurn (mkRat (s.get (Reg.CUR_ANGLE x)) (2 ^ 32))
       t.getI (Reg.CUR_ID x) = satI 32 (convRat ((al * cs + be * sn) * 2 ^ 31)) ∧
       t.getI (Reg.CUR_IQ x) = satI 32 (convRat ((be * cs - al * sn) * 2 ^ 31))) ∧
      (t.flag (Reg.CUR_STAT_FAULT_IN x) = true ↔ f = true) ∧ (t.curX x).meas = false ∧ (t.curX x).lossNow = d ∧
      (s.get (Reg.CUR_STAT_STATE x) ≠ cellRun → t.get (Reg.CUR_VD x) = s.get (Reg.CUR_VD x) ∧ t.get (Reg.CUR_VQ x) = s.get (Reg.CUR_VQ x) ∧
        (t.curX x).cmpNext = (s.curX x).cmpNext) ∧
      (s.get (Reg.CUR_STAT_STATE x) = cellRun →
        (let vm : Int := min ((s.curX x).coef.getD 7 0) (2 ^ 30)
         t.getI (Reg.CUR_VD x) ≤ vm ∧ -vm ≤ t.getI (Reg.CUR_VD x) ∧
         t.getI (Reg.CUR_VD x) * t.getI (Reg.CUR_VD x) + t.getI (Reg.CUR_VQ x) * t.getI (Reg.CUR_VQ x) ≤ vm * vm) ∧
        ∃ p q r, (t.curX x).cmpNext = some (p, q, r) ∧ ∀ k ∈ [p, q, r], k = 0 ∨ k = s.get Reg.SYS_TICK_CFG_FAST_CLK ∨
          s.get (Reg.CUR_DEADTIME_DMIN x) ≤ k ∧ k + s.get (Reg.CUR_DEADTIME_DMIN x) ≤ s.get Reg.SYS_TICK_CFG_FAST_CLK) ∧
      (∀ k, k < 16 → k ≠ x.val → t.get (Reg.CUR_IA k) = s.get (Reg.CUR_IA k) ∧ t.get (Reg.CUR_ID k) = s.get (Reg.CUR_ID k)) ∧
      (s.flag (Reg.CUR_CFG_TWO_PHASE x) = true ∨ (ia + ib + ic).natAbs ≤ s.get (Reg.CUR_SUM_LIM x) → Only [.regs, .axis, .cur] s t ∧
        t.get (Reg.CUR_STAT_STATE x) = s.get (Reg.CUR_STAT_STATE x) ∧
        RegsKept s t [Reg.CUR_IA x, Reg.CUR_IB x, Reg.CUR_IC x, Reg.CUR_ID x, Reg.CUR_IQ x, Reg.CUR_VD x, Reg.CUR_VQ x, Reg.CUR_STAT_SAT_D x,
          Reg.CUR_STAT_SAT_Q x, Reg.CUR_STAT_FAULT_IN x]) ∧
      (s.flag (Reg.CUR_CFG_TWO_PHASE x) = false → s.get (Reg.CUR_SUM_LIM x) < (ia + ib + ic).natAbs →
        t.get (Reg.CUR_STAT_STATE x) = cellTripped ∧ t.get (Reg.CUR_STAT_SUM x) = 1)) ∧
  (∀ n, n ∈ [64, 128, 256] → decimate n 0 = -1 ∧ decimate n (BitVec.allOnes 768) = 1) ∧
  (∀ (s : State) (x : Fin 16) (c : TripCause) (v : BitVec 32), s.awake = false → exec (.cellTrip x c v) s = .next s) ∧
  (∀ (s : State) (x : Fin 16) (v : BitVec 32), s.flag (Reg.CUR_CFG_TWO_PHASE x) = true → exec (.cellTrip x .sum v) s = .next s) ∧
  (∀ (s : State) (x : Fin 16) (c : TripCause) (v : BitVec 32), s.awake = true → s.flag (tripRow c x v).1 = true →
    s.get (Reg.CUR_STAT_STATE x) = cellTripped → ∃ t, exec (.cellTrip x c v) s = .next t ∧ Only [.regs, .cur] s t ∧
      RegsKept s t [Reg.CUR_STAT_FAULT_IN x]) ∧
  (∀ (s : State) (x : Fin 16) (c : TripCause) (v : BitVec 32), s.awake = true → (c = .sum → s.flag (Reg.CUR_CFG_TWO_PHASE x) = false) →
    s.flag (tripRow c x v).1 = false ∨ s.get (Reg.CUR_STAT_STATE x) ≠ cellTripped → ∃ t, exec (.cellTrip x c v) s = .next t ∧
      t.get (tripRow c x v).1 = 1 ∧ t.get (Reg.CUR_STAT_STATE x) = cellTripped ∧ (t.curX x).pwm = 0 ∧ t.get (Reg.CUR_STAT_ENABLE_OUT x) = 0 ∧
      (t.curX x).iD = 0 ∧ (t.curX x).iQ = 0 ∧ t.get (Reg.AXIS_SRC_POWERED x) = 0 ∧
      t.get (Reg.CUR_TRIP_CNT x) = min 65535 (s.get (Reg.CUR_TRIP_CNT x) + 1) ∧
      (s.axisGroup x = none → Only [.regs, .axis, .cur] s t) ∧
      (∀ n, s.axisGroup x = some n → Posted s t (s.evNow n clsGroupFault (tripRow c x v).2.1 false
        (u8s [x, s.reactOf n (tripRow c x v).2.1, s.gstate n, 0] ++ leBytes 4 (tripRow c x v).2.2)))) ∧
  (∀ (s : State) (x : Fin 16), s.awake = false ∨ (s.axisX x).phase ≠ 1 → exec (.enDelayExpiry x) s = .next s) ∧
  (∀ (s : State) (x : Fin 16), s.awake = true → (s.axisX x).phase = 1 → ∃ t, exec (.enDelayExpiry x) s = .next t ∧ Only [.regs, .axis, .cur] s t ∧
    RegsKept s t [Reg.CUR_STAT_STATE x, Reg.CUR_STAT_BRAKE_OUT x, Reg.AXIS_SRC_POWERED x, Reg.CUR_IQ_SET x, Reg.CUR_ID_SET x] ∧
    t.get (Reg.CUR_STAT_STATE x) = cellRun ∧ t.get (Reg.CUR_IQ_SET x) = 0 ∧ t.get (Reg.CUR_ID_SET x) = 0 ∧
    t.curX x = { s.curX x with pwm := if s.flag Reg.FAULT_DE_HW_CUT then 0 else 1, iD := 0, iQ := 0, zero := true, phases := (t.curX x).phases } ∧
    (if s.get (Reg.CUR_BRAKE_REL_DELAY x) = 0
      then t.axisX x = { s.axisX x with phase := 3 } ∧ t.get (Reg.CUR_STAT_BRAKE_OUT x) = 1 ∧ t.get (Reg.AXIS_SRC_POWERED x) = 1
      else t.axisX x = { s.axisX x with phase := 2 } ∧ t.get (Reg.CUR_STAT_BRAKE_OUT x) = s.get (Reg.CUR_STAT_BRAKE_OUT x) ∧
        t.get (Reg.AXIS_SRC_POWERED x) = s.get (Reg.AXIS_SRC_POWERED x)) ∧
    ∀ k, k ≠ x.val → t.curX k = s.curX k ∧ t.axisX k = s.axisX k) ∧
  (∀ (s : State) (x : Fin 16), s.awake = false ∨ (s.axisX x).phase ≠ 2 → exec (.brakeRelDelayExpiry x) s = .next s) ∧
  (∀ (s : State) (x : Fin 16), s.awake = true → (s.axisX x).phase = 2 → ∃ t, exec (.brakeRelDelayExpiry x) s = .next t ∧
    Only [.regs, .axis] s t ∧ RegsKept s t [Reg.CUR_STAT_BRAKE_OUT x, Reg.AXIS_SRC_POWERED x] ∧ t.get (Reg.CUR_STAT_BRAKE_OUT x) = 1 ∧
    t.get (Reg.AXIS_SRC_POWERED x) = 1 ∧ ∀ k, t.axisX k = (if k = x.val then { s.axisX k with phase := 3 } else s.axisX k)) ∧
  (∀ (s : State) (x : Fin 16), s.awake = false ∨ (s.axisX x).phase ≠ 4 → exec (.brakeEngDelayExpiry x) s = .next s) ∧
  (∀ (s : State) (x : Fin 16), s.awake = true → (s.axisX x).phase = 4 → ∃ t, exec (.brakeEngDelayExpiry x) s = .next t ∧
    Only [.regs, .axis, .cur] s t ∧ RegsKept s t [Reg.CUR_STAT_STATE x, Reg.CUR_STAT_ENABLE_OUT x] ∧ t.get (Reg.CUR_STAT_ENABLE_OUT x) = 0 ∧
    t.get (Reg.CUR_STAT_STATE x) = (if s.get (Reg.CUR_STAT_STATE x) = cellTripped then cellTripped else cellOff) ∧
    (∀ k, t.curX k = (if k = x.val then { s.curX k with pwm := 0, iD := 0, iQ := 0, zero := false, phases := (t.curX k).phases } else s.curX k)) ∧
    ∀ k, t.axisX k = (if k = x.val then { s.axisX k with phase := 0 } else s.axisX k)) ∧
  (∀ (s : State) (x : Fin 16), s.awake = false ∨ (s.axisX x).phase ≠ 5 → exec (.gtimeExpiry x) s = .next s) ∧
  (∀ (s : State) (x : Fin 16), s.awake = true → (s.axisX x).phase = 5 → ∃ t, exec (.gtimeExpiry x) s = .next t ∧
    Only [.regs, .axis, .cur] s t ∧ RegsKept s t [Reg.CUR_STAT_ENABLE_OUT x, Reg.CUR_STAT_BRAKE_OUT x] ∧ t.get (Reg.CUR_STAT_ENABLE_OUT x) = 0 ∧
    t.get (Reg.CUR_STAT_BRAKE_OUT x) = 0 ∧ (∀ k, t.curX k = (if k = x.val then { s.curX k with pwm := 0, phases := (t.curX k).phases } else s.curX k)) ∧
    ∀ k, t.axisX k = (if k = x.val then { s.axisX k with phase := 0 } else s.axisX k))

/-- Drive-channel frames of network axes: which are valid, and the drive state after a valid frame, a missed one and a lost
drive (08_control_loops.md). -/
def Obligations.DriveFrames : Prop :=
  (∀ (s : State) (x : Nat) (f : DriveFb), 0 < s.get Reg.SYS_TICK_CFG_FAST_CLK * s.get Reg.SYS_TICK_CFG_SLOW_DIV →
    (s.driveValid x f = true ↔ f.headerOk = true ∧ f.epoch ≠ 0 ∧
      s.clk + 256 ≤ s.tick_.lastSlow + s.get Reg.SYS_TICK_CFG_FAST_CLK * s.get Reg.SYS_TICK_CFG_SLOW_DIV ∧
      ∃ k : Int, |(2 * f.sample.toNat : Int) - ((s.ntimeH : Int) - 5 * ((s.clk : Int) - s.tick_.lastSlow))
        - k * (5 * (s.get Reg.SYS_TICK_CFG_FAST_CLK * s.get Reg.SYS_TICK_CFG_SLOW_DIV : Nat))| ≤ 2 * s.get (Reg.AXIS_NET_TOL x))) ∧
  (∀ (s : State) (x : Fin 16) (f : Option DriveFb), s.live = false ∨ s.awake = false ∨ s.axisGroup (16 + x) = none →
    exec (.driveFeedbackFrame x f) s = .next s) ∧
  (∀ (s : State) (x : Fin 16) (n : Nat) (f : DriveFb), s.live = true → s.awake = true → s.axisGroup (16 + x) = some n →
    s.driveValid (16 + x) f = true → ∃ t, exec (.driveFeedbackFrame x (some f)) s = .next t ∧
      let y := 16 + x.val
      let st := s.get (Reg.AXIS_NET_STAT_DSTATE y)
      let ep := f.epoch.toNat
      t.get (Reg.AXIS_NET_POS_RAW y) = f.pos.toNat ∧ t.get (Reg.AXIS_NET_SAMPLE y) = f.sample.toNat ∧ (t.axisX y).net1 = some f.pos.toInt ∧
      (t.axisX y).miss = 0 ∧ (t.axisX y).got = true ∧ (t.axisX y).iqV = f.current.toNat ∧
      (st ≠ 2 ∨ s.get (Reg.AXIS_NET_STAT_EPOCH y) = ep → Only [.regs, .axis] s t ∧
        RegsKept s t [Reg.AXIS_NET_POS_RAW y, Reg.AXIS_NET_SAMPLE y, Reg.AXIS_NET_STAT_DSTATE y, Reg.AXIS_NET_STAT_SYNC_CNT y, Reg.AXIS_NET_STAT_EPOCH y] ∧
        ∀ k, k ≠ y → t.axisX k = s.axisX k) ∧
      (st = 1 → (s.axisX y).epoch = ep → t.get (Reg.AXIS_NET_STAT_SYNC_CNT y) = (s.get (Reg.AXIS_NET_STAT_SYNC_CNT y) + 1) % 256 ∧
        (s.get (Reg.AXIS_NET_STAT_SYNC_CNT y) + 1 < s.get (Reg.AXIS_NET_CFG_RESYNC_N y) → t.get (Reg.AXIS_NET_STAT_DSTATE y) = 1) ∧
        (s.get (Reg.AXIS_NET_CFG_RESYNC_N y) ≤ s.get (Reg.AXIS_NET_STAT_SYNC_CNT y) + 1 → t.get (Reg.AXIS_NET_STAT_DSTATE y) = 2 ∧
          t.get (Reg.AXIS_NET_STAT_EPOCH y) = ep ∧ (t.axisX y).net2 = none)) ∧
      (st = 1 → (s.axisX y).epoch ≠ ep → t.get (Reg.AXIS_NET_STAT_DSTATE y) = 1 ∧ t.get (Reg.AXIS_NET_STAT_SYNC_CNT y) = 0 ∧
        (t.axisX y).epoch = ep) ∧
      (st = 2 → s.get (Reg.AXIS_NET_STAT_EPOCH y) = ep → t.get (Reg.AXIS_NET_STAT_DSTATE y) = 2 ∧ (t.axisX y).net2 = (s.axisX y).net1) ∧
      (st = 2 → s.get (Reg.AXIS_NET_STAT_EPOCH y) ≠ ep → DriveLost s t y n) ∧
      (st ≠ 1 → st ≠ 2 → f.ready = true → t.get (Reg.AXIS_NET_STAT_DSTATE y) = 1 ∧ t.get (Reg.AXIS_NET_STAT_SYNC_CNT y) = 1 ∧
        (t.axisX y).epoch = ep) ∧
      (st ≠ 1 → st ≠ 2 → f.ready = false → t.get (Reg.AXIS_NET_STAT_DSTATE y) = st)) ∧
  (∀ (s : State) (x : Fin 16) (n : Nat) (f : Option DriveFb), s.live = true → s.awake = true → s.axisGroup (16 + x) = some n →
    (∀ g, f = some g → s.driveValid (16 + x) g = false) → ∃ t, exec (.driveFeedbackFrame x f) s = .next t ∧
      let y := 16 + x.val
      let st := s.get (Reg.AXIS_NET_STAT_DSTATE y)
      t.get (Reg.AXIS_NET_MISS y) = min (2 ^ 32 - 1) (s.get (Reg.AXIS_NET_MISS y) + 1) ∧ (t.axisX y).miss = (s.axisX y).miss + 1 ∧
      (st = 1 → t.get (Reg.AXIS_NET_STAT_SYNC_CNT y) = 0) ∧
      (st ≠ 2 ∨ (s.axisX y).miss + 1 < s.get (Reg.AXIS_NET_CFG_MISS_LIMIT y) → t.get (Reg.AXIS_NET_STAT_DSTATE y) = st ∧
        Only [.regs, .axis] s t ∧ RegsKept s t [Reg.AXIS_NET_MISS y, Reg.AXIS_NET_STAT_SYNC_CNT y] ∧
        ∀ k, t.axisX k = (if k = y then { s.axisX k with miss := (s.axisX k).miss + 1, judged := true } else s.axisX k)) ∧
      (st = 2 → s.get (Reg.AXIS_NET_CFG_MISS_LIMIT y) ≤ (s.axisX y).miss + 1 → DriveLost s t y n)) ∧
  (∀ (s : State) (y : Nat), (s.axisX y).got = true ∨ (s.axisX y).judged = true → Only [.axis] s (s.netCycle y) ∧
    ∀ k, (s.netCycle y).axisX k = (if k = y then { s.axisX k with got := false, judged := false } else s.axisX k)) ∧
  (∀ (s : State) (y : Nat), 16 ≤ y → y < 32 → (s.axisX y).got = false → (s.axisX y).judged = false →
    (s.netCycle y).get (Reg.AXIS_NET_MISS y) = min (2 ^ 32 - 1) (s.get (Reg.AXIS_NET_MISS y) + 1) ∧
    ((s.netCycle y).axisX y).miss = (s.axisX y).miss + 1 ∧ ((s.netCycle y).axisX y).judged = false ∧
    (s.get (Reg.AXIS_NET_STAT_DSTATE y) = 1 → (s.netCycle y).get (Reg.AXIS_NET_STAT_SYNC_CNT y) = 0))

/-- R335-R339, R345, Table CLV-9: an ON of a fast output that is OFF turns it on; one of an output that is ON changes nothing; one that is
blocked is counted and not executed. An OFF turns an output off, or with SUPPRESS = 0 before MIN_PULSE is deferred to it, or finds the
output OFF. A pulse turns it on and leaves the instant of its OFF. A deferred OFF, and a pulse's, fall at their clocks. Each for an entry that is the
one action of its clock on the output. MAX_SPAN and MAX_ON force an output off, block it and raise the group's fault. -/
def Obligations.FastOutputs : Prop :=
  EntryRuns .claveHoOn 0x001 true [.ho] (fun n w => [Reg.FIELD_HO_STAT, Reg.CLAVE_HO_STATE_ON n w.e.target])
    (fun s n w => s.OneAction n w ∧ s.OnAllowed n w.e.target ∧ s.hoOn w.e.target = false)
    (fun s t n w => HoTurnedOn s t n w.e.target w ∧ (t.hoX w.e.target).pulses = (s.hoX w.e.target).pulses ∧ OtherHosKept s t w.e.target) ∧
  EntryRuns .claveHoOn 0x001 true [.ho] (fun _ _ => [])
    (fun s n w => s.OneAction n w ∧ s.OnAllowed n w.e.target ∧ s.hoOn w.e.target = true)
    (fun s t _ w => t.hoOn w.e.target = true ∧ t.hoX w.e.target = s.hoX w.e.target ∧ OtherHosKept s t w.e.target) ∧
  EntryRuns .claveHoOn 0x001 false [.ho] (fun n _ => [Reg.CLAVE_BLOCKED n])
    (fun s n w => s.OneAction n w ∧ ¬ s.OnAllowed n w.e.target)
    (fun s t n w => t.hoOn w.e.target = s.hoOn w.e.target ∧ t.hoX w.e.target = s.hoX w.e.target ∧ Counted s t (Reg.CLAVE_BLOCKED n) ∧
      OtherHosKept s t w.e.target) ∧
  EntryRuns .claveHoOff 0x002 true [.ho] (fun n w => [Reg.FIELD_HO_STAT, Reg.CLAVE_HO_STATE_ON n w.e.target])
    (fun s n w => s.OneAction n w ∧ s.hoOn w.e.target = true ∧ (s.flag (Reg.CLAVE_CFG_SUPPRESS n) = true ∨
      (s.hoX w.e.target).onClk + s.get (Reg.CLAVE_CFG_MIN_PULSE n) ≤ s.clk))
    (fun s t n w => HoIsOff t n w.e.target ∧ OtherHosKept s t w.e.target) ∧
  EntryRuns .claveHoOff 0x002 true [.ho] (fun n _ => [Reg.CLAVE_SHORT n])
    (fun s n w => s.OneAction n w ∧ s.hoOn w.e.target = true ∧ s.flag (Reg.CLAVE_CFG_SUPPRESS n) = false ∧
      s.clk < (s.hoX w.e.target).onClk + s.get (Reg.CLAVE_CFG_MIN_PULSE n))
    (fun s t n w => t.hoOn w.e.target = true ∧ (t.hoX w.e.target).onClk = (s.hoX w.e.target).onClk ∧
      (t.hoX w.e.target).offAt = some ((s.hoX w.e.target).onClk + s.get (Reg.CLAVE_CFG_MIN_PULSE n)) ∧
      Counted s t (Reg.CLAVE_SHORT n) ∧ OtherHosKept s t w.e.target) ∧
  EntryRuns .claveHoOff 0x002 true [.ho] (fun n _ => [Reg.CLAVE_ORPHAN_OFF n])
    (fun s n w => s.OneAction n w ∧ s.hoOn w.e.target = false)
    (fun s t n w => t.hoOn w.e.target = false ∧ t.hoX w.e.target = s.hoX w.e.target ∧ Counted s t (Reg.CLAVE_ORPHAN_OFF n) ∧
      OtherHosKept s t w.e.target) ∧
  EntryRuns .claveHoPulse 0x003 true [.ho] (fun n w => [Reg.FIELD_HO_STAT, Reg.CLAVE_HO_STATE_ON n w.e.target])
    (fun s n w => s.OneAction n w ∧ s.OnAllowed n w.e.target ∧ s.hoOn w.e.target = false)
    (fun s t n w => HoTurnedOn s t n w.e.target w ∧ OtherHosKept s t w.e.target ∧
      ∃ z : Rat, |z - s.clk| ≤ 1 / 2 ∧ (w.at_.isSome → z = s.clk) ∧
        (t.hoX w.e.target).pulses = (s.hoX w.e.target).pulses ++ [{ at_ := z + w.e.param }]) ∧
  (∀ (s : State) (n : Fin 16) (k : Fin 8), s.up = true → s.hoGroup k = some n.val → s.hoOn k = true → s.hoForced k = false →
    (s.hoActions n k).map (fun a => (a.on, a.place)) = [(false, none)] →
    ((∃ x, (s.hoX k).offAt = some x ∧ x ≤ s.clk) ∨ (s.claveX n).acts s.clk < 8) →
    (s.flag (Reg.CLAVE_CFG_SUPPRESS n) = true ∨ (s.hoX k).onClk + s.get (Reg.CLAVE_CFG_MIN_PULSE n) ≤ s.clk) →
    ∃ t, exec (.claveDeferredOff n k) s = .next t ∧ HoIsOff t n k ∧ OtherHosKept s t k ∧
      (t.hoX k).pulses = (s.hoX k).pulses.filter (fun p => decide ((s.clk : Rat) + 1 / 2 < p.at_) || decide (p.moved = some s.clk)) ∧
      (t.claveX n).win = (s.claveX n).win ∧ (∀ j, j ≠ n.val → t.claveX j = s.claveX j) ∧ Only [.regs, .ho, .clave] s t ∧
      RegsKept s t [Reg.FIELD_HO_STAT, Reg.CLAVE_HO_STATE_ON n k]) ∧
  (∀ (s : State) (n : Fin 16) (k : Fin 8), (s.up = false ∨ s.hoGroup k ≠ some n.val ∨ ∀ a ∈ s.hoActions n k, a.place.isSome = true) →
    exec (.claveDeferredOff n k) s = .next s) ∧
  (∀ (s : State) (n : Fin 16) (k : Fin 8), s.up = true → s.hoGroup k = some n.val → s.hoOn k = true →
    ((s.hoX k).byClave = true ∧ s.get (Reg.CLAVE_HO_LIM_MAX_SPAN n k) ≠ 0 ∧
      ofQ (s.get (Reg.CLAVE_HO_LIM_MAX_SPAN n k)) ≤
        |((s.claveX n).motion.at_ (((s.clk : Rat) + 1 / 2 - (s.claveX n).motion.clk) / 400000000)).p - ofQ (s.hoX k).onCoord| →
      ∃ t, exec (.hoMaxSpan k) s = .next t ∧ t.hoOn k = false ∧ t.get (Reg.CLAVE_HO_STATE_ON n k) = 0 ∧
        t.get (Reg.CLAVE_HO_STATE_BLOCKED n k) = 1 ∧ t.get (Reg.CLAVE_HO_STATE_CAUSE n k) = 1 ∧ Raised s t n 0x0D) ∧
    (s.get (Reg.CLAVE_HO_LIM_MAX_ON n k) ≠ 0 → (s.hoX k).onClk + s.get (Reg.CLAVE_HO_LIM_MAX_ON n k) ≤ s.clk →
      ∃ t, exec (.hoMaxOn k) s = .next t ∧ t.hoOn k = false ∧ t.get (Reg.CLAVE_HO_STATE_ON n k) = 0 ∧
        t.get (Reg.CLAVE_HO_STATE_BLOCKED n k) = 1 ∧ t.get (Reg.CLAVE_HO_STATE_CAUSE n k) = 2 ∧ Raised s t n 0x0E)) ∧
  (∀ (s : State) (k : Fin 8), (s.hoGroup k = none ∨ s.up = false ∨ s.hoOn k = false ∨ (s.hoX k).byClave = false) →
    exec (.hoMaxSpan k) s = .next s) ∧
  (∀ (s : State) (k : Fin 8), (s.hoGroup k = none ∨ s.up = false ∨ s.hoOn k = false) → exec (.hoMaxOn k) s = .next s)

/-- R328-R333, R340, R341, R343, R346-R348, R274, R276, Table CLV-3: what the actions of entries do that are no actions on fast outputs. A
prediction, 256 clocks after its boundary, covers every entry of the window and takes over; an entry that the latest two latches of a measured
coordinate enclose is found late, at the instant of their line. -/
def Obligations.EntryActions : Prop :=
  EntryRuns .claveNop 0x000 true [] (fun _ _ => []) (fun _ _ _ => True) (fun _ _ _ _ => True) ∧
  (∀ p ∈ [((.claveDoOn : Fin 16 → Fin 1024 → Instr), 0x010, true), (.claveDoOff, 0x011, false)],
    EntryRuns p.1 p.2.1 true [.field] (fun _ _ => [])
      (fun s n _ => (p.2.2 = true → s.onBlocked n = false) ∧ s.flag Reg.FIELD_LINK_STAT_UP = true)
      (fun s t n w => ∃ a, a % 1000 = 0 ∧ s.ntime + 30000 ≤ a ∧ a < s.ntime + 31000 ∧
        t.field = { s.field with cmds := s.field.cmds ++ [
          { at_ := a, set_ := w.e.target, on := p.2.2, clave := some n, was := (s.claveX n).doOn.contains w.e.target, sent := false }] } ∧
        (w.e.target ∈ (t.claveX n).doOn ↔ p.2.2 = true)) ∧
    EntryRuns p.1 p.2.1 true [] (fun n _ => [Reg.CLAVE_DO_LOST n])
      (fun s n _ => (p.2.2 = true → s.onBlocked n = false) ∧ s.flag Reg.FIELD_LINK_STAT_UP = false)
      (fun s t n _ => Counted s t (Reg.CLAVE_DO_LOST n))) ∧
  EntryRuns .claveDoOn 0x010 false [] (fun n _ => [Reg.CLAVE_BLOCKED n]) (fun s n _ => s.onBlocked n = true)
    (fun s t n _ => Counted s t (Reg.CLAVE_BLOCKED n)) ∧
  EntryRuns .claveSnareArm 0x020 true [.snare] (fun _ w => [Reg.SNARE_STAT_ARMED w.e.target, Reg.SNARE_STAT_MODE w.e.target])
    (fun _ _ w => w.e.target < 32)
    (fun s t _ w => t.get (Reg.SNARE_STAT_ARMED w.e.target) = 1 ∧ t.get (Reg.SNARE_STAT_MODE w.e.target) = (if w.e.param = 1 then 1 else 0) ∧
      (t.snareX w.e.target).ta = (if s.flag (Reg.SNARE_STAT_ARMED w.e.target) then (s.snareX w.e.target).ta else s.clk) ∧
      ∀ v, v ≠ w.e.target → t.snareX v = s.snareX v) ∧
  EntryRuns .claveSnareDisarm 0x021 true [.snare] (fun _ w => [Reg.SNARE_STAT_ARMED w.e.target, Reg.SNARE_EMPTY_WIN w.e.target])
    (fun _ _ w => w.e.target < 32)
    (fun s t _ w => t.get (Reg.SNARE_STAT_ARMED w.e.target) = 0 ∧ (∀ v, v ≠ w.e.target → t.snareX v = s.snareX v) ∧
      (if s.flag (Reg.SNARE_STAT_ARMED w.e.target) then
        (t.snareX w.e.target).prev = some ((s.snareX w.e.target).ta, s.clk, s.flag (Reg.SNARE_STAT_MODE w.e.target)) ∧
        (if (s.snareX w.e.target).ta = s.clk then Counted s t (Reg.SNARE_EMPTY_WIN w.e.target)
          else t.get (Reg.SNARE_EMPTY_WIN w.e.target) = s.get (Reg.SNARE_EMPTY_WIN w.e.target))
      else t.snareX w.e.target = s.snareX w.e.target)) ∧
  EntryRuns .claveSnareTrigger 0x022 true [.snare] (fun _ w => [Reg.SNARE_STAT_PENDING w.e.target, Reg.SNARE_STAT_ARMED w.e.target])
    (fun s _ w => s.get (Reg.SNARE_CFG_KIND w.e.target) = 2 ∧ s.CanCapture w.e.target s.clk)
    (fun s t _ w => Captured s t w.e.target s.clk false none ∧ ∀ v, v ≠ w.e.target → t.snareX v = s.snareX v) ∧
  EntryRuns .claveSnareTrigger 0x022 true [] (fun _ _ => []) (fun s _ w => s.get (Reg.SNARE_CFG_KIND w.e.target) ≠ 2) (fun _ _ _ _ => True) ∧
  EntryRuns .claveCoefSwap 0x030 true [.grp] (fun n _ => [Reg.GRP_COEF_STAT_PENDING n, Reg.GRP_COEF_CTL n])
    (fun s n _ => s.flag (Reg.GRP_COEF_STAT_MODE n) = false ∧ s.flag (Reg.GRP_COEF_CTL n) = true)
    (fun s t n _ => t.flag (Reg.GRP_COEF_STAT_PENDING n) = true ∧ t.get (Reg.GRP_COEF_CTL n) = 0 ∧
      (s.flag (Reg.GRP_COEF_STAT_PENDING n) = false → (t.grpX n).swapAt = s.clk) ∧ ∀ k, k ≠ n → t.grpX k = s.grpX k) ∧
  EntryRuns .claveCoefSwap 0x030 true [] (fun n _ => [Reg.GRP_COEF_IGN n])
    (fun s n _ => s.flag (Reg.GRP_COEF_STAT_MODE n) = true ∨ s.flag (Reg.GRP_COEF_CTL n) = false)
    (fun s t n _ => Counted s t (Reg.GRP_COEF_IGN n)) ∧
  EntryRuns .claveEngineEvent 0x040 true [] (fun _ _ => (List.range 17).map Reg.ENG_EVT_CAUSE)
    (fun s n w => s.flag (Reg.GRP_ENG_CFG_SERVED n) = true ∧ s.engOf n < 17 ∧ w.e.param < 16 ∧ ∀ e, s.shadowOf n = some e → e < 17)
    (fun s t n w => ∀ e, (e = s.engOf n ∨ s.shadowOf n = some e) → bit (t.get (Reg.ENG_EVT_CAUSE e)) w.e.param = true) ∧
  EntryRuns .claveMark 0x050 true [.led] (fun _ _ => ledgerFlds) (fun _ _ _ => True)
    (fun s t n w => w.late = 0 → s.flag (Reg.CLAVE_CFG_RECORD n) = false →
      Posted s t { s.evNow n clsMark (w.e.param % 65536) true w.e.bytes with coord := w.e.coord }) ∧
  EntryRuns .claveNotify 0x060 true [.sess] (fun _ _ => []) (fun s n _ => s.flag (Reg.CLAVE_CFG_RECORD n) = false)
    (fun s t n w => ∀ ep, (ep = n ∨ ep = 16) → s.flag (Reg.SYS_BXP_SESSION_OPEN ep) = true → bit (s.sessX ep).mask 9 = true →
      (t.sessX ep).waiting = (s.sessX ep).waiting ++ [⟨3, w.e.bytes ++ leBytes 8 s.ntime ++ leBytes 4 (s.claveX n).recSeq
        ++ u8s [if w.late ≠ 0 then 5 else if w.moved.isSome then 8 else 0] ++ leBytes 3 (min 0xFFFFFF w.late)⟩]) ∧
  (∀ (s : State) (n : Fin 16), (s.up = false ∨ ∀ b, (s.claveX n).due = some b → s.clk < b + 256) → exec (.clavePrediction n) s = .next s) ∧
  (∀ (s : State) (n : Fin 16) (b : Nat), s.up = true → (s.claveX n).due = some b → b + 256 ≤ s.clk →
    ∃ t, exec (.clavePrediction n) s = .next t ∧ Only [.clave] s t ∧ (∀ k, k ≠ n.val → t.claveX k = s.claveX k) ∧
      (t.claveX n).due = none ∧ (t.claveX n).pred = true ∧ (t.claveX n).queue = (s.claveX n).queue ∧
      (t.claveX n).win.map WEntry.e = (s.claveX n).win.map WEntry.e ∧ (∀ w ∈ (t.claveX n).win, w.ready = true) ∧
      (if s.get (Reg.CLAVE_CFG_SRC n) = 5 then (t.claveX n).motion = (s.claveX n).motion
        else (t.claveX n).motion = (s.claveX n).newMot ∧ (t.claveX n).oldMot = (s.claveX n).motion ∧ (t.claveX n).swap = s.clk) ∧
      (∀ (i : Nat) (w : WEntry) (t1 t0 : Nat) (r : List (Nat × Int)) (v1 v0 : Int), s.measured n = true → (s.claveX n).hist = (t1, v1) :: (t0, v0) :: r → t0 ≤ t1 →
        (s.claveX n).win[i]? = some w → w.ready = true → w.at_ = none →
        (bit w.e.dir 0 = true ∧ v0 < w.e.coord ∧ w.e.coord ≤ v1 ∨ bit w.e.dir 1 = true ∧ w.e.coord < v0 ∧ v1 ≤ w.e.coord) →
        ∃ (u : WEntry) (x : Rat), (t.claveX n).win[i]? = some u ∧ u.at_ = some x ∧ (x - t0) * (v1 - v0) = (w.e.coord - v0) * ((t1 : Rat) - t0) ∧
          NearestTo (max 0 ((s.clk : Rat) - x)) u.late))

/-- R344, R346, R349, R351, R358, R359, R367-R374, R376, R379: edges of fast inputs and index pulses serve the latch units connected to
them, and a latch unit's oldest edge becomes a record once a latch of every axis lies at or after it. Line edges, conversions and reads of feedback ports
move their counts by the rules of their types, and count, report or fault on what is illegal, failed or late. -/
def Obligations.EdgesAndReads : Prop :=
  (∀ (s : State) (k : Fin 8) (level fault : Bool), s.up = true →
    ∃ t, exec (.hiEdge k level fault) s = .next t ∧ bit (t.get Reg.FIELD_HI_STAT_LINE_FAULT) k = fault ∧
      (∀ j, j < 8 → j ≠ k.val → bit (t.get Reg.FIELD_HI_STAT_LINE_FAULT) j = bit (s.get Reg.FIELD_HI_STAT_LINE_FAULT) j ∧
        bit (t.get Reg.FIELD_HI_STAT_LEVEL) j = bit (s.get Reg.FIELD_HI_STAT_LEVEL) j) ∧
      (if fault then OnlyRegs s t [Reg.FIELD_HI_STAT_LINE_FAULT]
      else bit (t.get Reg.FIELD_HI_STAT_LEVEL) k = (level != s.flag (Reg.FIELD_HI_CFG_POL k)) ∧
        (if bit (s.get Reg.FIELD_HI_STAT_LEVEL) k = (level != s.flag (Reg.FIELD_HI_CFG_POL k)) then t.snare = s.snare
          else EdgeServes s t 0 k (s.clk - s.get (Reg.FIELD_HI_CFG_FILT k)) (level != s.flag (Reg.FIELD_HI_CFG_POL k)) none) ∧
        Only [.regs, .snare] s t ∧ RegsKept s t ([Reg.FIELD_HI_STAT_LINE_FAULT, Reg.FIELD_HI_STAT_LEVEL] ++ edgeFlds))) ∧
  (∀ (s : State) (u : Fin 32) (n : Nat) (e : SnEdge) (r : List SnEdge), s.up = true → s.snareGroup u = some n → (s.snareX u).pend = e :: r →
    (∀ y ∈ s.axesOf n, ∃ c v l, (s.axisX y).actH = (c, v) :: l ∧ e.clk ≤ c) →
    ∃ t, exec (.snareRecordComplete u) s = .next t ∧ (t.snareX u).pend = r ∧ (∀ v, v ≠ u.val → t.snareX v = s.snareX v) ∧
      (if s.get (Reg.SNARE_DEPTH u) ≤ (s.snareX u).recs.length then
        Counted s t (Reg.SNARE_LOST u) ∧ (t.snareX u).recs = (s.snareX u).recs ∧ Only [.regs, .snare] s t ∧
          RegsKept s t [Reg.SNARE_LOST u, Reg.SNARE_STAT_PENDING u, Reg.SNARE_STAT_STORED u]
      else ∀ b k, (s.snareX u).blk = some (b, k) → k < 16 →
        (t.snareX u).recs = (s.snareX u).recs ++ [((s.get (Reg.SNARE_SEQ u) + 1) % 2 ^ 32, b, k)] ∧ (t.snareX u).blk = some (b, k + 1) ∧
        t.get (Reg.SNARE_SEQ u) = (s.get (Reg.SNARE_SEQ u) + 1) % 2 ^ 32 ∧ t.get (Reg.SNARE_LAST_NTIME u) = e.ntime % 2 ^ 64 ∧
        t.get (Reg.SNARE_LAST_COORD u) = ofInt 64 e.coord ∧
        (s.flag (Reg.GRP_ENG_CFG_SERVED n) = true → bit (t.get (Reg.ENG_EVT_CAUSE (s.engOf n))) 16 = true) ∧
        t.rdBytes (poolBase + (b * 4096 + k * 256)) 256 =
          snareRecord u (s.get (Reg.SNARE_CFG_KIND u)) ((s.get (Reg.SNARE_SEQ u) + 1) % 2 ^ 32) e
            ((s.axesOf n).map (fun y => actBetween e.clk (s.axisX y).actH)) ∧
        MemKept s t (poolBase + (b * 4096 + k * 256)) 256 ∧ Only [.regs, .mem, .pool, .sess, .snare] s t)) ∧
  (∀ (s : State) (p : Fin 16) (levels : BitVec 3) (h1 h2 h3 : Nat),
    (s.up = false ∨ s.get (Reg.FB_CFG_TYPE p) ≠ fbInc ∧ s.get (Reg.FB_CFG_TYPE p) ≠ fbHall ∨ s.get (Reg.FB_FILT_LINE_FILT p) ≥ max h1 (max h2 h3)) →
    ∃ t, exec (.fbLineEdge p levels h1 h2 h3) s = .next t ∧ t.fbX p = { s.fbX p with rx := levels.toNat } ∧ Only [.fb] s t ∧
      OtherPortsKept s t p) ∧
  (∀ (s : State) (p : Fin 16) (levels : BitVec 3) (h1 h2 h3 : Nat) (d : Nat), s.up = true → (s.fbX p).lines < 8 →
    levels.toNat ≠ (s.fbX p).lines → s.get (Reg.FB_FILT_LINE_FILT p) < min h1 (min h2 h3) →
    (∃ t, exec (.fbLineEdge p levels h1 h2 h3) s = .next t) ∧
    (s.get (Reg.FB_CFG_TYPE p) = fbInc →
      d = (quadPos (levels.toNat % 2 * 2 + levels.toNat / 2 % 2) + 4 - quadPos ((s.fbX p).lines % 2 * 2 + (s.fbX p).lines / 2 % 2)) % 4 →
      ∃ t, exec (.fbLineEdge p levels h1 h2 h3) s = .next t ∧ (t.fbX p).lines = levels.toNat ∧ t.get (Reg.FB_STAT_LEVEL p) = levels.toNat ∧
        (t.fbX p).cnt = (s.fbX p).cnt + (if d = 1 then s.fbDir p 1 else if d = 3 then s.fbDir p (-1) else 0) ∧ OtherPortsKept s t p ∧
        (d ≠ 2 → (s.fbX p).index ≠ some s.clk → OnlyRegs { s with fb := t.fb } t [Reg.FB_STAT_LEVEL p]) ∧
        (d = 2 → Counted s t (Reg.FB_ILLEGAL p) ∧ (t.fbX p).ill = (s.fbX p).ill + 1 ∧
          (s.get (Reg.FB_FILT_ILL_LIMIT p) ≤ (s.fbX p).ill + 1 → s.flag (Reg.FB_STAT_FAULT p) = false → PortFaulted s t p 4))) ∧
    (s.get (Reg.FB_CFG_TYPE p) = fbHall → ∀ a b, hallPos levels.toNat = some b → hallPos (s.fbX p).lines = some a →
      ∃ t, exec (.fbLineEdge p levels h1 h2 h3) s = .next t ∧ (t.fbX p).lines = levels.toNat ∧ t.get (Reg.FB_STAT_LEVEL p) = levels.toNat ∧
        (t.fbX p).cnt = (s.fbX p).cnt + (if (b + 6 - a) % 6 = 1 then s.fbDir p 1 else if (b + 6 - a) % 6 = 5 then s.fbDir p (-1) else 0))) ∧
  (∀ (s : State) (p : Fin 16) (level : Bool) (held : Nat),
    (s.up = true ∧ (s.get (Reg.FB_CFG_TYPE p) = fbInc ∧ s.get (Reg.FB_FILT_LINE_FILT p) < held ∨ s.get (Reg.FB_CFG_TYPE p) = fbSinCos) ∧
      (s.get (Reg.FB_CFG_ZGATE p) = 0 ∨ (s.fbX p).lines % 2 * 2 + (s.fbX p).lines / 2 % 2 + 1 = s.get (Reg.FB_CFG_ZGATE p)) →
    ∃ t, exec (.fbIndexEdge p level held) s = .next t ∧ t.get (Reg.FB_INDEX_COUNT p) = ofInt 64 (s.fbX p).cnt ∧
      (t.fbX p).index = some s.clk ∧ (t.fbX p).cnt = (s.fbX p).cnt ∧ bit (t.fbX p).lines 2 = level ∧ bit (t.get (Reg.FB_STAT_LEVEL p)) 2 = level ∧
      EdgeServes s t 1 p s.clk level (if s.get (Reg.FB_CFG_TYPE p) = fbInc then some (s.fbX p).cnt else none) ∧ OtherPortsKept s t p ∧
      Only [.regs, .snare, .fb] s t ∧ RegsKept s t ([Reg.FB_STAT_LEVEL p, Reg.FB_INDEX_COUNT p] ++ edgeFlds)) ∧
    (s.up = false → ∃ t, exec (.fbIndexEdge p level held) s = .next t ∧ Only [.fb] s t ∧ OtherPortsKept s t p)) ∧
  (∀ (s : State) (p : Fin 16) (sin cos : BitVec 16) (bad : BitVec 6), s.up = true → s.get (Reg.FB_CFG_TYPE p) = fbSinCos →
    ∃ t, exec (.sincosConversion p sin cos bad) s = .next t ∧
      ∃ r2 phi : Nat, r2 < 2 ^ 32 ∧ phi < 65536 ∧ t.get (Reg.FB_R2_LAST p) = r2 ∧
      t.get (Reg.FB_R2_MIN p) = min r2 (s.get (Reg.FB_R2_MIN p)) ∧ t.get (Reg.FB_R2_MAX p) = max r2 (s.get (Reg.FB_R2_MAX p)) % 2 ^ 32 ∧
      (t.fbX p).check = some (s.clk + 48, r2, bad.toNat) ∧ (t.fbX p).phi = phi ∧ (t.fbX p).started = true ∧
      (s.get (Reg.FB_NOM p) ≠ 0 → ∃ v : Nat, r2 = min v (2 ^ 32 - 1) ∧
        NearestTo ((((sin.toInt - s.getI (Reg.FB_OFS_SC_SIN p) : Int) : Rat) ^ 2
          + (((cos.toInt - s.getI (Reg.FB_OFS_SC_COS p)) * s.get (Reg.FB_GAIN_COS p) : Int) / 2 ^ 30 : Rat) ^ 2)
          / (s.get (Reg.FB_NOM p) : Rat) ^ 2 * 2 ^ 30) v) ∧
      (t.fbX p).per = (if (s.fbX p).started = false then (s.fbX p).per else if 32768 < (phi : Int) - (s.fbX p).phi then (s.fbX p).per - 1
        else if (phi : Int) - (s.fbX p).phi < -32768 then (s.fbX p).per + 1 else (s.fbX p).per) ∧
      (t.fbX p).cnt = s.fbDir p ((t.fbX p).per * 2 ^ s.get (Reg.FB_INTERP p) + (phi * 2 ^ s.get (Reg.FB_INTERP p) / 65536 : Nat))) ∧
  (∀ (s : State) (p : Fin 16),
    (s.up = true → (s.get (Reg.FB_CFG_TYPE p) = fbBiss ∨ s.get (Reg.FB_CFG_TYPE p) = fbSsi) → s.readDue p = true →
      ∃ t, exec (.serialReadStart p) s = .next t ∧ (t.fbX p).busy = some s.clk ∧
        (if (s.fbX p).busy = none then t.fbX p = { s.fbX p with busy := some s.clk } ∧ Only [.fb] s t ∧ OtherPortsKept s t p
          else ReadFailed s t p 5 [])) ∧
    ((s.up = false ∨ s.get (Reg.FB_CFG_TYPE p) ≠ fbBiss ∧ s.get (Reg.FB_CFG_TYPE p) ≠ fbSsi ∨ s.readDue p = false) →
      exec (.serialReadStart p) s = .next s) ∧
    (∀ at_, (s.fbX p).busy = some at_ → s.up = true → s.readEnd p at_ ≤ s.clk →
      ∃ t, exec (.serialReadTimeout p) s = .next t ∧ (t.fbX p).busy = none ∧ ReadFailed s t p 5 []) ∧
    ((s.up = false ∨ ∀ at_, (s.fbX p).busy = some at_ → s.clk < s.readEnd p at_) → exec (.serialReadTimeout p) s = .next s)) ∧
  (∀ (s : State) (p : Fin 16) (data : BitVec 64) (crc : BitVec 16) (ld : BitVec 13) (ok biss : Bool) (at_ d f raw : Nat) (diff : Int),
    s.up = true → (s.fbX p).busy = some at_ → s.get (Reg.FB_CFG_TYPE p) = (if biss then fbBiss else fbSsi) →
    d = data.toNat % 2 ^ s.get (Reg.FB_SER_CFG_DATA_BITS p) →
    (ok = false → ∃ t, exec (.serialReadDone p data crc ld ok) s = .next t ∧ t.get (Reg.FB_RAW p) = d ∧ (t.fbX p).busy = none ∧
      ReadFailed s t p 5 [Reg.FB_RAW p, Reg.FB_LDELAY p]) ∧
    (ok = true → s.clk ≤ s.readEnd p at_ → (biss = false ∨ s.get (Reg.FB_SER_CFG_CRC_BITS p) = 0 ∨
        crc.toNat % 2 ^ s.get (Reg.FB_SER_CFG_CRC_BITS p) = 2 ^ s.get (Reg.FB_SER_CFG_CRC_BITS p) - 1
          - crcBits (s.get (Reg.FB_SER_CFG_CRC_BITS p)) (s.get (Reg.FB_CRC_POLY p)) d (s.get (Reg.FB_SER_CFG_DATA_BITS p)) 0) →
      (if biss then namedBit (s.get (Reg.FB_SER_BITS_NE_BIT p)) d ≠ some false else namedBit (s.get (Reg.FB_SER_BITS_ERR_BIT p)) d ≠ some true) →
      f = d / 2 ^ s.get (Reg.FB_SER_CFG_POS_LSB p) % 2 ^ s.get (Reg.FB_SER_CFG_POS_BITS p) →
      raw = (if biss = false ∧ s.flag (Reg.FB_SER_CFG_GRAY p) = true then grayDecode f (s.get (Reg.FB_SER_CFG_POS_BITS p)) 0 else f) →
      (∀ r, (s.fbX p).raw = some r → ∃ q : Int, diff = raw - r + q * 2 ^ s.get (Reg.FB_SER_CFG_POS_BITS p) ∧
        -(2 ^ s.get (Reg.FB_SER_CFG_POS_BITS p)) < 2 * diff ∧ 2 * diff ≤ 2 ^ s.get (Reg.FB_SER_CFG_POS_BITS p) ∧
        (s.get (Reg.FB_MAX_STEP p) = 0 ∨ diff.natAbs ≤ s.get (Reg.FB_MAX_STEP p))) →
      ∃ t, exec (.serialReadDone p data crc ld ok) s = .next t ∧ t.get (Reg.FB_RAW p) = d ∧ t.get (Reg.FB_STAT_STALE p) = 0 ∧
        (biss = true → t.get (Reg.FB_LDELAY p) = ld.toNat) ∧ (t.fbX p).raw = some raw ∧ (t.fbX p).busy = none ∧ (t.fbX p).fails = 0 ∧
        (t.fbX p).cnt = (if (s.fbX p).raw = none then (if s.flag (Reg.FB_SER_CFG_SIGNED p) then toInt (s.get (Reg.FB_SER_CFG_POS_BITS p)) raw else raw)
          else (s.fbX p).cnt + s.fbDir p diff) ∧
        Only [.regs, .fb] s t ∧ OtherPortsKept s t p ∧
        RegsKept s t [Reg.FB_RAW p, Reg.FB_LDELAY p, Reg.FB_STAT_STALE p, Reg.FB_STAT_ENC_WARN p, Reg.FB_STAT_VALID p])) ∧
  (∀ (s : State) (p : Fin 16) (c : Fin 6) (out : Bool), ∃ t, exec (.lineWindowLeave p c out) s = .next t ∧
    (c.val ∈ (t.fbX p).outside.map Prod.fst ↔ out = true) ∧
    (∀ q, q.1 ≠ c.val → (q ∈ (t.fbX p).outside ↔ q ∈ (s.fbX p).outside)) ∧
    (out = true → s.live = true → relative (s.get (Reg.FB_CFG_TYPE p)) = true → c.val ∉ (s.fbX p).outside.map Prod.fst →
      t.get (Reg.FB_STAT_REF_LOST p) = 1 ∧ (c.val, s.clk) ∈ (t.fbX p).outside) ∧
    (s.live = true → relative (s.get (Reg.FB_CFG_TYPE p)) = true → t.get (Reg.FB_STAT_LINE_BAD p) = (t.fbX p).bad % 64) ∧
    Only [.regs, .fb] s t ∧ OtherPortsKept s t p ∧ RegsKept s t [Reg.FB_STAT_REF_LOST p, Reg.FB_STAT_LINE_BAD p]) ∧
  (∀ (s : State) (p : Fin 16), (s.get (Reg.FB_CFG_TYPE p) = fbInc ∨ s.get (Reg.FB_CFG_TYPE p) = fbHall) → s.up = true →
    (∃ q ∈ (s.fbX p).outside, q.2 + 64 ≤ s.clk) → s.flag (Reg.FB_STAT_FAULT p) = false →
    ∃ t, exec (.lineFaultTimeout p) s = .next t ∧ PortFaulted s t p 1) ∧
  (∀ (s : State) (p : Fin 16), (∀ q ∈ (s.fbX p).outside, s.clk < q.2 + 64) → exec (.lineFaultTimeout p) s = .next s)

/-- R37, R384-R397, R401, R402, R405-R409: a cycle of the field link without a valid answer is counted, and the third in a row takes the link
down; a valid exchange delivers inputs, status, analogue samples and commands. Silence puts every output set into its safe state, and resumption out of it. Supply,
input, output, analogue and pulse events change what their rules name. -/
def Obligations.FieldEvents : Prop :=
  (∀ (s : State) (ok : Bool) (f : Option FieldFrame), s.awake = false → exec (.fieldLinkCycle ok f) s = .next s) ∧
  (∀ (s : State) (ok : Bool) (f : Option FieldFrame), s.awake = true → (∀ c ∈ s.field.cmds, c.sent = true ∨ s.ntime ≤ c.at_) →
    (s.field.powered = false ∨ ok = false ∧ f = none) →
    ∃ t, exec (.fieldLinkCycle ok f) s = .next t ∧ Counted s t Reg.FIELD_LINK_ERR ∧ t.field.missRun = s.field.missRun + 1 ∧
      t.field.validRun = 0 ∧ (s.field.powered = true → t.field.fieldRun = 0) ∧
      if s.field.missRun = 2 ∧ s.flag Reg.FIELD_LINK_STAT_UP = true then
        t.get Reg.FIELD_LINK_STAT_UP = 0 ∧ t.get Reg.FIELD_DI_VALID = 0 ∧ (∀ k, k < 4 → t.get (Reg.FIELD_AI_VAL_VALID k) = 0) ∧
        t.get Reg.FIELD_DI_STATE = s.get Reg.FIELD_DI_STATE ∧
        (s.live = true → ∀ n, n < 16 → (s.get (Reg.GRP_OWN_DI n) ≠ 0 ∨ s.get (Reg.GRP_OWN_DO n) ≠ 0 ∨ s.get (Reg.GRP_OWN_IO_AI n) ≠ 0) →
          Raised s t n 0x15)
      else t.field.cmds = s.field.cmds ∧ Only [.regs, .field] s t ∧ RegsKept s t [Reg.FIELD_LINK_ERR]) ∧
  (∀ (s : State) (f : FieldFrame), s.awake = true → s.field.powered = true →
    (∀ c ∈ s.field.cmds, c.set_ < 16 ∧ (c.sent = true ∨ s.ntime ≤ c.at_)) →
    ∃ t, exec (.fieldLinkCycle true (some f)) s = .next t ∧ t.field.missRun = 0 ∧ t.field.validRun = s.field.validRun + 1 ∧
      t.field.fieldRun = s.field.fieldRun + 1 ∧ t.field.silent = false ∧ t.field.release = [] ∧ t.field.edges = [] ∧ t.field.trips = [] ∧
      t.field.ai = none ∧ t.field.hot = f.hot.toNat ∧ t.get Reg.FIELD_VFIELD_MV = f.vfieldMv.toNat ∧
      (∀ j : Fin 16, t.get (Reg.FIELD_DO_STAT_MA j) = f.ma[j].toNat) ∧
      (s.field.trips = [] → ∀ c ∈ s.field.cmds, { c with sent := true } ∈ t.field.cmds) ∧
      (s.field.trips = [] → ∀ c ∈ s.field.cmds, c.clave.isSome → c.sent = false → (∀ d ∈ s.field.cmds, d.set_ = c.set_ → d = c) →
        t.get (Reg.FIELD_DO_OUT c.set_) = if c.on then 1 else 0) ∧
      ((s.flag Reg.FIELD_LINK_STAT_UP = true ∨ 100 ≤ s.field.validRun + 1) →
        t.flag Reg.FIELD_LINK_STAT_UP = true ∧ t.get Reg.FIELD_DI_STATE = s.field.di % 2 ^ 32 ∧ t.get Reg.FIELD_DI_VALID = 1 ∧
        (∀ i, i < 32 → t.flag (Reg.FIELD_DI_STAT_LEVEL i) = bit s.field.di i) ∧
        ∀ codes ovr tt, s.field.ai = some (codes, ovr, tt) → ∀ k, k < 4 → s.flag (Reg.FIELD_AI_CFG k) = true →
          t.get (Reg.FIELD_AI_VAL_CODE k) = codes.getD k 0 % 2 ^ 16 ∧ t.flag (Reg.FIELD_AI_VAL_OVR k) = bit ovr k ∧
          t.get (Reg.FIELD_AI_STAMP k) = tt % 2 ^ 64 ∧ t.get (Reg.FIELD_AI_VAL_VALID k) = 1) ∧
      (∀ i level stamp, s.field.trips = [] → s.live = true → s.field.edges = [(i, level, stamp)] → EdgeServes s t 3 i (s.clockOf stamp) level none) ∧
      (∀ b n, s.live = true → s.field.trips = [b] → s.doGroup b = some n → Raised s t n 0x17)) ∧
  (∀ s : State, s.field.powered = true → s.field.silent = false →
    ∃ t, exec .fieldSilenceTimeout s = .next t ∧ t.field = { s.field with silent := true, fieldRun := 0 } ∧ Counted s t Reg.FIELD_SAFE_COUNT ∧
      t.get Reg.FIELD_LINK_STAT_ANY_SAFE = 1 ∧
      (∀ j, j < 16 → t.get (Reg.FIELD_DO_STAT_SAFE_ACTIVE (s.doBase j)) = 1 ∧
        t.get (Reg.FIELD_DO_STAT_OUT j) =
          if s.flag (Reg.FIELD_DO_STAT_TRIPPED (s.doBase j)) = true ∨ s.get (Reg.FIELD_DO_CFG_SAFE (s.doBase j)) = 2 then s.get (Reg.FIELD_DO_STAT_OUT j)
          else if s.get (Reg.FIELD_DO_CFG_SAFE (s.doBase j)) = 1 then 1 else 0) ∧
      Only [.regs, .field] s t ∧ RegsKept s t ([Reg.FIELD_SAFE_COUNT, Reg.FIELD_LINK_STAT_ANY_SAFE] ++ outFlds)) ∧
  (∀ s : State, (s.field.powered = false ∨ s.field.silent = true) → exec .fieldSilenceTimeout s = .next s) ∧
  (∀ s : State, s.field.powered = true → s.flag Reg.FIELD_SILENCE_AUTO_RESUME = true → 1000 ≤ s.field.fieldRun →
    ∃ t, exec .autoResume s = .next t ∧
      (∀ j, j < 16 → t.get (Reg.FIELD_DO_STAT_SAFE_ACTIVE (s.doBase j)) = 0 ∧
        t.get (Reg.FIELD_DO_STAT_OUT j) =
          if s.flag (Reg.FIELD_DO_STAT_SAFE_ACTIVE (s.doBase j)) = true ∧ s.flag (Reg.FIELD_DO_STAT_TRIPPED (s.doBase j)) = false
          then (if s.flag (Reg.FIELD_DO_OUT (s.doBase j)) then 1 else 0) else s.get (Reg.FIELD_DO_STAT_OUT j)) ∧
      OnlyRegs s t (Reg.FIELD_LINK_STAT_ANY_SAFE :: outFlds)) ∧
  (∀ s : State, (s.field.powered = false ∨ s.flag Reg.FIELD_SILENCE_AUTO_RESUME = false ∨ s.field.fieldRun < 1000) → exec .autoResume s = .next s) ∧
  (∀ s : State, ∃ t, exec .vfieldLoss s = .next t ∧ t.field.powered = false ∧ t.field.silent = false ∧ t.field.fieldRun = 0 ∧ t.field.edges = [] ∧
    t.field.trips = [] ∧ t.field.ai = none ∧
    (∀ j, j < 16 → t.get (Reg.FIELD_DO_STAT_OUT j) = 0 ∧ t.get (Reg.FIELD_DO_STAT_SAFE_ACTIVE j) = 0) ∧
    (∀ k, k < 4 → s.live = true → s.flag (Reg.FIELD_PU_CFG_DIFF k) = true → t.get (Reg.FIELD_PU_STAT k) = 1)) ∧
  (∀ s : State, exec .vfieldReturn s = .next { s with field := { s.field with powered := true } }) ∧
  (∀ (s : State) (i : Fin 32) (high : Bool) (stamp : BitVec 64), s.field.powered = true →
    ∃ t v, exec (.diEdge i [high] stamp) s = .next t ∧
      v = (if high then min (s.get (Reg.FIELD_DI_CFG_LIMIT i)) (s.get (Reg.FIELD_DI_STAT_INTEG i) + 1) else s.get (Reg.FIELD_DI_STAT_INTEG i) - 1) ∧
      t.get (Reg.FIELD_DI_STAT_INTEG i) = v % 2 ^ 12 ∧ Only [.regs, .field] s t ∧
      RegsKept s t [Reg.FIELD_DI_STAT_INTEG i, Reg.FIELD_DI_STAT_MERGED i] ∧
      (∀ level : Bool, v = (if level then s.get (Reg.FIELD_DI_CFG_LIMIT i) else 0) →
        bit s.field.di i ≠ level → bit t.field.di i = level ∧
        (if (s.field.edges.filter (fun e => decide (e.1 = i.val))).length < 8 then
          t.field.edges = s.field.edges ++ [(i.val, level, stamp.toNat - 1000 * s.get (Reg.FIELD_DI_CFG_LIMIT i))]
        else t.field.edges = s.field.edges ∧ Counted s t (Reg.FIELD_DI_STAT_MERGED i))) ∧
      (v ≠ s.get (Reg.FIELD_DI_CFG_LIMIT i) → v ≠ 0 → t.field = s.field)) ∧
  (∀ (s : State) (i : Fin 32) (high : Bool) (l : List Bool) (stamp : BitVec 64),
    ∃ u, exec (.diEdge i [high] (BitVec.ofNat 64 (stamp.toNat - 1000 * l.length))) s = .next u ∧
      exec (.diEdge i (high :: l) stamp) s = exec (.diEdge i l stamp) u) ∧
  (∀ (s : State) (i : Fin 32), s.field.powered = true → s.flag (Reg.FIELD_DI_CFG_WB_EN i) = true → s.flag (Reg.FIELD_DI_STAT_BROKEN i) = false →
    ∃ t, exec (.diBroken i) s = .next t ∧ t.get (Reg.FIELD_DI_STAT_BROKEN i) = 1 ∧
      (∀ n, s.up = true → s.diGroup i = some n → Raised s t n 0x16) ∧
      ((s.up = false ∨ s.diGroup i = none) → OnlyRegs s t [Reg.FIELD_DI_STAT_BROKEN i])) ∧
  (∀ (s : State) (i : Fin 32), s.flag (Reg.FIELD_DI_CFG_WB_EN i) = true →
    ∃ t, exec (.diBrokenClear i) s = .next t ∧ t.get (Reg.FIELD_DI_STAT_BROKEN i) = 0 ∧ OnlyRegs s t [Reg.FIELD_DI_STAT_BROKEN i]) ∧
  (∀ (s : State) (i : Nat) (c : DoCmd), s.field.cmds[i]? = some c → c.sent = true → c.at_ ≤ s.ntime →
    (∀ j d, s.field.cmds[j]? = some d → d.sent = true → d.at_ ≤ s.ntime → c.at_ < d.at_ ∨ c.at_ = d.at_ ∧ i ≤ j) →
    ∃ t, exec .doApply s = .next t ∧ t.field = { s.field with cmds := s.field.cmds.eraseIdx i } ∧
      (∀ j, j < 16 → t.get (Reg.FIELD_DO_STAT_OUT j) =
        if s.doBase j = c.set_ ∧ s.doFree c.set_ = true then (if c.on then 1 else 0) else s.get (Reg.FIELD_DO_STAT_OUT j)) ∧
      Only [.regs, .field] s t ∧ RegsKept s t ((List.range 16).map Reg.FIELD_DO_STAT_OUT)) ∧
  (∀ (s : State) (j : Fin 16) (hot : Bool), s.field.powered = true → s.flag (Reg.FIELD_DO_STAT_TRIPPED (s.doBase j)) = false →
    ∃ t, exec (.doTrip j hot) s = .next t ∧ (∀ k, k < 16 → t.get (Reg.FIELD_DO_STAT_OUT k) = if s.doBase k = s.doBase j then 0 else s.get (Reg.FIELD_DO_STAT_OUT k)) ∧
      t.get (Reg.FIELD_DO_STAT_TRIPPED (s.doBase j)) = 1 ∧ t.get (Reg.FIELD_DO_STAT_CAUSE (s.doBase j)) = (if hot then 2 else 1) ∧
      t.field.trips = s.field.trips ++ [s.doBase j] ∧ t.field.cmds = s.field.cmds ∧ Only [.regs, .field] s t ∧
      RegsKept s t ([Reg.FIELD_DO_STAT_TRIPPED (s.doBase j), Reg.FIELD_DO_STAT_CAUSE (s.doBase j)] ++ (List.range 16).map Reg.FIELD_DO_STAT_OUT)) ∧
  (∀ (s : State) (v0 v1 v2 v3 : Int), s.field.powered = true →
    ∃ t codes ovr, exec (.aiSample v0 v1 v2 v3) s = .next t ∧
      t = { s with field := { s.field with ai := some (codes, ovr, s.ntime / 20000 * 20000) } } ∧ codes.length = 4 ∧
      ∀ q ∈ [(0, v0), (1, v1), (2, v2), (3, v3)], (bit ovr q.1 = true ↔ (10000000 : Int) < |q.2|) ∧
        ∃ r : Int, NearestTo (q.2 * 32768 / 10000000) r ∧ codes[q.1]? = some (ofInt 16 (max (-32768) (min 32767 r)))) ∧
  (∀ (s : State) (k : Fin 4) (p q : Bool) (hp hq : Nat), s.field.powered = true → s.up = true → (s.puX k).lines < 4 →
    s.get (Reg.FIELD_PU_CFG_FILT k) < min hp hq →
    ∃ t, exec (.puEdge k p q hp hq false false) s = .next t ∧ (t.puX k).lines = b2n p + 2 * b2n q ∧ (t.puX k).fault = 0 ∧
      t.get (Reg.FIELD_PU_STAT k) = 0 ∧
      (s.get (Reg.FIELD_PU_CFG_MODE k) = 1 → (t.puX k).cnt = (s.puX k).cnt +
        if p = true ∧ (s.puX k).lines % 2 = 0 then (if q = s.flag (Reg.FIELD_PU_CFG_DIR k) then 1 else -1) else 0) ∧
      (s.get (Reg.FIELD_PU_CFG_MODE k) = 2 →
        ∀ d, d = (quadPos (2 * b2n p + b2n q) + 4 - quadPos ((s.puX k).lines % 2 * 2 + (s.puX k).lines / 2)) % 4 →
        (t.puX k).cnt = (s.puX k).cnt + (if d = 1 then 1 else if d = 3 then -1 else 0) * (if s.flag (Reg.FIELD_PU_CFG_DIR k) then -1 else 1) ∧
        (d = 2 → Counted s t (Reg.FIELD_PU_ILLEGAL k)))) ∧
  (∀ (s : State) (k : Fin 4) (p q : Bool) (hp hq : Nat) (fp fq : Bool), s.field.powered = true → s.live = true → s.awake = true →
    s.flag (Reg.FIELD_PU_CFG_DIFF k) = true → ∃ t, exec (.puEdge k p q hp hq fp fq) s = .next t ∧
      t.get (Reg.FIELD_PU_STAT k) = (if fp || fq then 1 else 0)) ∧
  (∀ s : State, s.field.powered = false → (∀ i, exec (.diBroken i) s = .next s) ∧ (∀ j hot, exec (.doTrip j hot) s = .next s) ∧
    (∀ v0 v1 v2 v3, exec (.aiSample v0 v1 v2 v3) s = .next s) ∧ ∀ k p q hp hq fp fq, exec (.puEdge k p q hp hq fp fq) s = .next s)

/-- R411-R422, R431-R436, R444, R445: the switch counts and drops bad frames, forwards and learns; ARP and echo requests for the module are
answered; a port with a link transmits its highest class first; gate lists change at a cycle boundary; a link that comes up holds transmission and sends one
ARP request, and one that goes down empties its port. -/
def Obligations.EthernetEvents : Prop :=
  (∀ (s : State) (p : Fin 2), (s.ethRuns p = false ∨ s.flag (Reg.ETH_PORT_STAT_LINK p) = false) →
    (∀ l ok b, exec (.ethFrameReceive p l ok b) s = .next s) ∧ (∀ a b c, exec (.arpRequest p a b c) s = .next s) ∧
    ∀ a b c d, exec (.icmpEchoRequest p a b c d) s = .next s) ∧
  (∀ (s : State) (p : Fin 2) (l : List Byte) (ok : Bool) (b : Nat), s.ethRuns p = true → s.flag (Reg.ETH_PORT_STAT_LINK p) = true →
    (ok = false ∨ l.length < 60 ∨ 1518 < l.length ∨ beAt l 12 2 = 0x8808) →
    ∃ t, exec (.ethFrameReceive p l ok b) s = .next t ∧ Counted s t (Reg.ETH_PORT_RX_FRAMES p) ∧ Counted s t (Reg.ETH_PORT_RX_DROP_FCS p) ∧
      OnlyRegs s t [Reg.ETH_PORT_RX_FRAMES p, Reg.ETH_PORT_RX_DROP_FCS p]) ∧
  (∀ (s : State) (p : Fin 2) (l : List Byte) (b : Nat), s.up = true → s.flag (Reg.ETH_PORT_STAT_LINK p) = true → s.flag Reg.ETH_POLICE = false →
    60 ≤ l.length → l.length ≤ 1518 → beAt l 12 2 ≠ 0x8808 → beAt l 6 6 ≠ s.ownMac → beAt l 0 6 ≠ s.ownMac → beAt l 0 6 ≠ 0x0180C200000E →
    (if bit (byteAt l 0) 0 then ¬ (beAt l 0 6 = 0xFFFFFFFFFFFF ∧ (typeOf l).2 = 0x0806)
      else beAt l 0 6 ≠ beAt l 6 6 ∧ ∀ q ∈ s.eth.macs, q.1 ≠ beAt l 0 6) →
    b + l.length + 4 ≤ 262144 → s.HasRoom (1 - p) (pcpOf l) (l.length + 4) →
    ∃ t, exec (.ethFrameReceive p l true b) s = .next t ∧ Queued s t (1 - p) (pcpOf l) l none ∧ t.ethX p = s.ethX p ∧
      (bit (byteAt l 6) 0 = false → s.eth.macs.length < 1024 → (beAt l 6 6, p.val, s.clk) ∈ t.eth.macs) ∧ Only [.regs, .eth] s t ∧
      RegsKept s t [Reg.ETH_PORT_RX_FRAMES p, Reg.ETH_PORT_BUF_PEAK_RX p, Reg.ETH_PORT_BUF_PEAK_TX (1 - p)]) ∧
  (∀ (s : State) (p : Fin 2) (l : List Byte) (b : Nat), s.ethRuns p = true → s.flag (Reg.ETH_PORT_STAT_LINK p) = true →
    s.flag Reg.ETH_POLICE = false → 60 ≤ l.length → l.length ≤ 1518 → beAt l 12 2 ≠ 0x8808 → beAt l 6 6 = s.ownMac →
    ∃ t, exec (.ethFrameReceive p l true b) s = .next t ∧ Counted s t Reg.ETH_DUP_SELF_SRC ∧ t.eth.ports = s.eth.ports) ∧
  (∀ (s : State) (p : Fin 2) (mac : BitVec 48) (ip target : BitVec 32), s.ethRuns p = true → s.flag (Reg.ETH_PORT_STAT_LINK p) = true →
    target.toNat = s.ownIp → ∃ t, exec (.arpRequest p mac ip target) s = .next t ∧
      (ip.toNat = s.ownIp → mac.toNat ≠ s.ownMac → t.get Reg.ETH_DUP_IP_CONFLICT = 1) ∧
      ∀ k ∈ s.portsTo mac.toNat, k < 2 → s.HasRoom k s.mgmtClass 1600 →
        Queued s t k s.mgmtClass (s.frameOf mac.toNat s.mgmtTag 0x0806 (s.arpOf 2 mac.toNat ip.toNat)) none) ∧
  (∀ (s : State) (p : Fin 2) (mac : BitVec 48) (ip target : BitVec 32), target.toNat ≠ s.ownIp → ip.toNat ≠ s.ownIp →
    exec (.arpRequest p mac ip target) s = .next s) ∧
  (∀ (s : State) (p : Fin 2) (mac : BitVec 48) (ip dst : BitVec 32) (data : List Byte), s.ethRuns p = true → s.flag (Reg.ETH_PORT_STAT_LINK p) = true →
    dst.toNat = s.ownIp → ∃ t, exec (.icmpEchoRequest p mac ip dst data) s = .next t ∧
      if 1476 < data.length ∨ s.eth.echoS = s.ntime / 1000000000 ∧ 100 ≤ s.eth.echoN then
        Counted s t (Reg.ETH_PORT_RX_DROP_IP p) ∧ OnlyRegs s t [Reg.ETH_PORT_RX_DROP_IP p]
      else t.eth.ipId = (s.eth.ipId + 1) % 65536 ∧ t.eth.echoS = s.ntime / 1000000000 ∧
        t.eth.echoN = (if s.eth.echoS = s.ntime / 1000000000 then s.eth.echoN else 0) + 1 ∧
        ∀ k ∈ s.portsTo mac.toNat, k < 2 → s.HasRoom k s.mgmtClass 1600 →
          Queued s t k s.mgmtClass (s.frameOf mac.toNat s.mgmtTag 0x0800
            (s.ipOf ip.toNat 1 (u8s [0, 0] ++ beBytes 2 (inetSum (u8s [0, 0, 0, 0] ++ data)) ++ data))) none) ∧
  (∀ (s : State) (p : Fin 2) (a b : List TxFrame) (f : TxFrame), s.ethRuns p = true → s.flag (Reg.ETH_PORT_STAT_LINK p) = true →
    s.get (Reg.ETH_GCL_CTL_MODE p) = 0 → s.flag (Reg.ETH_PORT_STAT_TX_HELD p) = false → (s.ethX p).busy ≤ s.clk →
    (s.ethX p).queue = a ++ f :: b → f.cls < 8 → (∀ g ∈ a, g.cls ≠ f.cls) → (∀ g ∈ a ++ b, g.cls < 8 → g.cls ≤ f.cls) →
    f.blk = none → f.follow = none →
    ∃ t, exec (.ethFrameTransmit p) s = .next t ∧ t.ethX p = { s.ethX p with
        queue := a ++ b, busy := s.clk + ((f.len + 20) * (if s.flag (Reg.ETH_PORT_STAT_G1000 p) then 16 else 160) + 4) / 5 } ∧
      t.ethX (1 - p) = s.ethX (1 - p) ∧ Counted s t (Reg.ETH_PORT_TX_FRAMES p) ∧ Only [.regs, .eth] s t ∧
      RegsKept s t [Reg.ETH_PORT_TX_FRAMES p, Reg.ETH_PORT_TX_DROP p, Reg.ETH_GCL_GATES p]) ∧
  (∀ (s : State) (p : Fin 2), (s.ethRuns p = false ∧ s.draining = false ∨ s.flag (Reg.ETH_PORT_STAT_LINK p) = false) →
    exec (.ethFrameTransmit p) s = .next s) ∧
  (∀ (s : State) (p : Fin 2), s.ethRuns p = true → ∃ t, exec (.gateChange p) s = .next t ∧
    t.get (Reg.ETH_GCL_GATES p) = s.gateMask p % 256 ∧ (s.get (Reg.ETH_GCL_CTL_MODE p) = 0 → t.get (Reg.ETH_GCL_GATES p) = 0xFF) ∧
    OnlyRegs s t [Reg.ETH_GCL_GATES p, Reg.ETH_PORT_STAT_TX_HELD p]) ∧
  (∀ (s : State) (p : Fin 2), s.ethRuns p = false → exec (.gateChange p) s = .next s) ∧
  (∀ (s : State) (p : Fin 2) (T b : Nat), s.ethRuns p = true → (s.ethX p).change = some T → b ≤ s.ntime → T ≤ b →
    (if T ≤ s.get (Reg.ETH_GCL_OPER_BASE p) then b = s.get (Reg.ETH_GCL_OPER_BASE p)
      else if s.get (Reg.ETH_GCL_OPER_CYCLE p) = 0 then b = T
      else ∃ n, b = s.get (Reg.ETH_GCL_OPER_BASE p) + n * s.get (Reg.ETH_GCL_OPER_CYCLE p) ∧ b < T + s.get (Reg.ETH_GCL_OPER_CYCLE p)) →
    ∃ t, exec (.gclChangeApply p) s = .next t ∧ (∀ i, i < 1024 → t.rdByte (operAt p + i) = s.rdByte (adminAt p + i)) ∧
      MemKept s t (operAt p) 1024 ∧ t.get (Reg.ETH_GCL_OPER_COUNT p) = s.get (Reg.ETH_GCL_ADMIN_COUNT p) % 2 ^ 8 ∧
      t.get (Reg.ETH_GCL_OPER_CYCLE p) = s.get (Reg.ETH_GCL_ADMIN_CYCLE p) % 2 ^ 32 ∧ t.get (Reg.ETH_GCL_OPER_BASE p) = b ∧
      t.get (Reg.ETH_GCL_CHANGE_TIME p) = b ∧ t.get (Reg.ETH_GCL_CTL_PENDING p) = 0 ∧ (t.ethX p).change = none ∧
      (t.ethX p).queue = (s.ethX p).queue ∧ t.ethX (1 - p) = s.ethX (1 - p) ∧ Only [.regs, .mem, .eth] s t ∧
      RegsKept s t [Reg.ETH_GCL_OPER_COUNT p, Reg.ETH_GCL_OPER_CYCLE p, Reg.ETH_GCL_OPER_BASE p, Reg.ETH_GCL_CHANGE_TIME p,
        Reg.ETH_GCL_CTL_PENDING p, Reg.ETH_GCL_GATES p]) ∧
  (∀ (s : State) (p : Fin 2), (s.ethRuns p = false ∨ ∀ T, (s.ethX p).change = some T → s.ntime < T) → exec (.gclChangeApply p) s = .next s) ∧
  (∀ (s : State) (p : Fin 2) (g : Bool), s.ethRuns p = true → s.flag (Reg.ETH_PORT_CTL_EN p) = true → s.flag (Reg.ETH_PORT_STAT_LINK p) = false →
    ∃ t, exec (.ethLinkUp p g) s = .next t ∧ t.get (Reg.ETH_PORT_STAT_LINK p) = 1 ∧
      t.flag (Reg.ETH_PORT_STAT_G1000 p) = (g && !s.flag (Reg.ETH_PORT_CTL_CAP100 p)) ∧
      t.flag (Reg.ETH_PORT_STAT_TX_HELD p) = (s.gates p).isSome ∧
      (∃ f, (t.ethX p).queue = [f] ∧ f.cls = s.mgmtClass ∧ f.bytes = s.frameOf 0xFFFFFFFFFFFF s.mgmtTag 0x0806 (s.arpOf 1 0 s.ownIp)) ∧
      t.ethX (1 - p) = s.ethX (1 - p) ∧ Only [.regs, .eth] s t ∧
      RegsKept s t [Reg.ETH_PORT_STAT_LINK p, Reg.ETH_PORT_STAT_G1000 p, Reg.ETH_PORT_STAT_TX_HELD p, Reg.ETH_PORT_BUF_PEAK_TX p]) ∧
  (∀ (s : State) (p : Fin 2) (g : Bool), (s.ethRuns p = false ∨ s.flag (Reg.ETH_PORT_CTL_EN p) = false ∨ s.flag (Reg.ETH_PORT_STAT_LINK p) = true) →
    exec (.ethLinkUp p g) s = .next s) ∧
  (∀ (s : State) (p : Fin 2), s.ethRuns p = true → s.flag (Reg.ETH_PORT_STAT_LINK p) = true → (∀ f ∈ (s.ethX p).queue, f.blk = none ∧ f.event = none) →
    ∃ t, exec (.ethLinkDown p) s = .next t ∧ t.get (Reg.ETH_PORT_STAT_LINK p) = 0 ∧ t.get (Reg.ETH_PORT_STAT_TX_HELD p) = 0 ∧
      t.get (Reg.ETH_PORT_STAT_G1000 p) = 0 ∧ t.get (Reg.ETH_PORT_STAT_AS_CAPABLE p) = 0 ∧ (t.ethX p).queue = [] ∧
      Counted s t (Reg.ETH_PORT_LINK_DOWNS p) ∧
      t.get (Reg.ETH_PORT_TX_DROP p) = (s.addSat (Reg.ETH_PORT_TX_DROP p) (s.ethX p).queue.length).get (Reg.ETH_PORT_TX_DROP p) ∧
      t.eth.macs = s.eth.macs.filter (fun q => decide (q.2.1 ≠ p.val)) ∧ t.ethX (1 - p) = s.ethX (1 - p) ∧
      if s.get Reg.ETH_PTP_STAT_SLAVE_PORT = p.val + 1 then
        t.get Reg.ETH_PTP_STAT_SLAVE_PORT = 0 ∧ t.flag Reg.ETH_PTP_STAT_SYNC = false ∧ t.eth.best = none
      else Only [.regs, .eth] s t ∧
        RegsKept s t [Reg.ETH_PORT_STAT_LINK p, Reg.ETH_PORT_STAT_TX_HELD p, Reg.ETH_PORT_STAT_G1000 p, Reg.ETH_PORT_STAT_AS_CAPABLE p,
          Reg.ETH_PORT_LINK_DOWNS p, Reg.ETH_PORT_TX_DROP p]) ∧
  (∀ (s : State) (p : Fin 2), (s.ethRuns p = false ∨ s.flag (Reg.ETH_PORT_STAT_LINK p) = false) → exec (.ethLinkDown p) s = .next s) ∧
  (∀ (s : State) (mac : BitVec 48), exec (.macAgeing mac) s =
    .next { s with eth := { s.eth with macs := s.eth.macs.filter (fun q => decide (q.1 ≠ mac.toNat) || decide (s.clk < q.2.2 + 120000000000)) } })

/-- R424-R428: the 802.1AS messages. A message with the module's own clock identity is counted. A Sync from the master port sets OFFSET and RATE,
steps NTIME by STEP_NS, moves SYNC, and is passed on; a Pdelay_Req is answered and a measured delay makes its port asCapable; an Announce moves the choice of the
grandmaster by ROLE; intervals send their messages; three missing Syncs end SYNC. -/
def Obligations.TimeMessages : Prop :=
  (∀ (s : State) (p : Fin 2), s.ptpTakes p = false → (∀ x, exec (.syncReceived p x) s = .next s) ∧ (∀ x, exec (.pdelayReqReceived p x) s = .next s) ∧
    (∀ x, exec (.announceReceived p x) s = .next s) ∧ ∀ k, exec (.ptpInterval p k) s = .next s) ∧
  (∀ (s : State) (p : Fin 2), s.ptpTakes p = true →
    (∀ x : PtpSync, s.ownSource x.source = true → CountsOnly s (.syncReceived p x) Reg.ETH_PTP_STAT_SELF_ID) ∧
    (∀ x q, s.ownSource x = true → CountsOnly s (.pdelayReqReceived p (.request x q)) Reg.ETH_PTP_STAT_SELF_ID) ∧
    ∀ x : PtpAnnounce, s.ownSource x.source = true → CountsOnly s (.announceReceived p x) Reg.ETH_PTP_STAT_SELF_ID) ∧
  (∀ (s : State) (p : Fin 2) (x : PtpSync), s.ptpTakes p = true → s.ownSource x.source = false →
    s.flag (Reg.ETH_PORT_STAT_AS_CAPABLE p) = true → s.get Reg.ETH_PTP_STAT_SLAVE_PORT = p.val + 1 →
    ∃ t, exec (.syncReceived p x) s = .next t ∧ t.getI Reg.ETH_PTP_OFFSET = max (-(2 ^ 31)) (min (2 ^ 31 - 1) x.offset.toInt) ∧
      t.getI Reg.ETH_PTP_RATE = max (-s.rateLim) (min s.rateLim x.rate.toInt) ∧
      (t.flag Reg.ETH_PTP_STAT_RATE_CLAMP = true ↔ s.rateLim < |x.rate.toInt|) ∧
      t.ntimeH = (if s.get Reg.ETH_PTP_STEP_NS ≠ 0 ∧ s.get Reg.ETH_PTP_STEP_NS < x.offset.toInt.natAbs
        then ((s.ntimeH : Int) - 2 * x.offset.toInt).toNat else s.ntimeH) ∧
      (s.get Reg.ETH_PTP_STEP_NS ≠ 0 → s.get Reg.ETH_PTP_STEP_NS < x.offset.toInt.natAbs → Counted s t Reg.ETH_PTP_STEPS) ∧
      t.eth.okRun = (if x.offset.toInt.natAbs < 1000 then s.eth.okRun + 1 else 0) ∧
      t.flag Reg.ETH_PTP_STAT_SYNC = (if s.rateLim < |x.rate.toInt| ∨ 1000 ≤ x.offset.toInt.natAbs then false
        else if 7 ≤ s.eth.okRun then true else s.flag Reg.ETH_PTP_STAT_SYNC) ∧
      (s.flag (Reg.ETH_PORT_STAT_AS_CAPABLE (1 - p)) = true → ∃ up : PtpUp, up.origin = x.origin.toNat ∧ up.corr = x.corr.toInt ∧
        up.info = x.info.toNat ∧ SendsPtp s t (1 - p) 0 (s.ethX (1 - p)).seqSync (some (.followUp (s.ethX (1 - p)).seqSync (some up)))) ∧
      (s.flag (Reg.ETH_PORT_STAT_AS_CAPABLE (1 - p)) = false → t.eth.ports = s.eth.ports)) ∧
  (∀ (s : State) (p : Fin 2) (x : PtpSync), s.ownSource x.source = false →
    (s.flag (Reg.ETH_PORT_STAT_AS_CAPABLE p) = false ∨ s.get Reg.ETH_PTP_STAT_SLAVE_PORT ≠ p.val + 1) → exec (.syncReceived p x) s = .next s) ∧
  (∀ (s : State) (p : Fin 2) (x : BitVec 80) (q : BitVec 16) (ns : BitVec 32), s.ptpTakes p = true → s.ownSource x = false →
    (∃ t, exec (.pdelayReqReceived p (.request x q)) s = .next t ∧ SendsPtp s t p 3 q.toNat (some (.response q.toNat x.toNat)) ∧
      t.ethX (1 - p) = s.ethX (1 - p)) ∧
    ∃ t, exec (.pdelayReqReceived p (.measured x ns)) s = .next t ∧ t.get (Reg.ETH_PTP_PDELAY p) = ns.toNat ∧
      t.get (Reg.ETH_PORT_STAT_AS_CAPABLE p) = 1 ∧ OnlyRegs s t [Reg.ETH_PTP_PDELAY p, Reg.ETH_PORT_STAT_AS_CAPABLE p]) ∧
  (∀ (s : State) (p : Fin 2) (x : PtpAnnounce) (own their : List Nat), s.ptpTakes p = true → s.ownSource x.source = false →
    s.flag (Reg.ETH_PORT_STAT_AS_CAPABLE p) = true → x.steps.toNat < 255 → s.get Reg.ETH_PTP_ID ∉ x.path.map BitVec.toNat →
    x.gm.toNat ≠ s.get Reg.ETH_PTP_ID →
    own = [s.get Reg.ETH_PTP_CFG_PRIORITY1, s.get Reg.ETH_PTP_CFG_CLOCK_CLASS, 0xFE, 0x436A, s.get Reg.ETH_PTP_CFG_PRIORITY2,
      s.get Reg.ETH_PTP_ID, 0, 0, 0] →
    their = [x.priority1.toNat, x.clockClass.toNat, x.accuracy.toNat, x.variance.toNat, x.priority2.toNat, x.gm.toNat, x.steps.toNat,
      x.source.toNat, p.val + 1] →
    (s.get Reg.ETH_PTP_CFG_ROLE = 2 → better their own = true → CountsOnly s (.announceReceived p x) Reg.ETH_PTP_STAT_FOREIGN_GM) ∧
    (s.get Reg.ETH_PTP_CFG_ROLE = 2 → better their own = false → exec (.announceReceived p x) s = .next s) ∧
    (s.get Reg.ETH_PTP_CFG_ROLE ≠ 2 → (∀ q, s.eth.best = some q → q.port = p.val + 1 ∨ better their q.key = true) →
      ∃ t, exec (.announceReceived p x) s = .next t ∧ (∃ q, t.eth.best = some q ∧ q.key = their) ∧ t.eth.ports = s.eth.ports ∧
        if s.get Reg.ETH_PTP_CFG_ROLE = 1 ∧ better own their = true then
          t.get Reg.ETH_PTP_STAT_IS_GM = 1 ∧ t.get Reg.ETH_PTP_STAT_SLAVE_PORT = 0 ∧ t.get Reg.ETH_PTP_GM_ID = s.get Reg.ETH_PTP_ID % 2 ^ 64 ∧
            t.flag Reg.ETH_PTP_STAT_SYNC = true
        else t.get Reg.ETH_PTP_STAT_SLAVE_PORT = p.val + 1 ∧ t.get Reg.ETH_PTP_GM_ID = x.gm.toNat ∧
          (s.get Reg.ETH_PTP_GM_ID ≠ x.gm.toNat → t.get Reg.ETH_PTP_STAT_IS_GM = 0))) ∧
  (∀ (s : State) (p : Fin 2), s.ptpTakes p = true →
    (∃ t, exec (.ptpInterval p .pdelay) s = .next t ∧ SendsPtp s t p 2 (s.ethX p).seqPd none ∧ (t.ethX p).seqPd = ((s.ethX p).seqPd + 1) % 65536) ∧
    (s.flag Reg.ETH_PTP_STAT_IS_GM = true → s.flag (Reg.ETH_PORT_STAT_AS_CAPABLE p) = true →
      (∃ t, exec (.ptpInterval p .sync) s = .next t ∧ SendsPtp s t p 0 (s.ethX p).seqSync (some (.followUp (s.ethX p).seqSync none)) ∧
        (t.ethX p).seqSync = ((s.ethX p).seqSync + 1) % 65536) ∧
      ∃ t, exec (.ptpInterval p .announce) s = .next t ∧ SendsPtp s t p 11 (s.ethX p).seqAnn none ∧
        (t.ethX p).seqAnn = ((s.ethX p).seqAnn + 1) % 65536) ∧
    (∀ k, (s.get Reg.ETH_PTP_CFG_ROLE = 2 ∨ s.get Reg.ETH_PTP_CFG_ROLE = 1 ∧ s.eth.best = none) →
      ∃ t, exec (.ptpInterval p k) s = .next t ∧ (s.flag Reg.ETH_PTP_STAT_IS_GM = false → t.get Reg.ETH_PTP_STAT_IS_GM = 1 ∧
        t.get Reg.ETH_PTP_STAT_SLAVE_PORT = 0 ∧ t.get Reg.ETH_PTP_GM_ID = s.get Reg.ETH_PTP_ID % 2 ^ 64 ∧ t.flag Reg.ETH_PTP_STAT_SYNC = true)) ∧
    (s.flag (Reg.ETH_PORT_STAT_AS_CAPABLE p) = false → s.flag Reg.ETH_PTP_STAT_IS_GM = true →
      exec (.ptpInterval p .sync) s = .next s ∧ exec (.ptpInterval p .announce) s = .next s)) ∧
  (∀ s : State, s.up = true → s.flag Reg.ETH_PTP_STAT_IS_GM = false →
    ∃ t, exec .syncTimeout s = .next t ∧ t.flag Reg.ETH_PTP_STAT_SYNC = false ∧ t.get Reg.ETH_PTP_STAT_SLAVE_PORT = 0 ∧ t.eth.best = none ∧
      t.eth.okRun = 0 ∧ t.eth.ports = s.eth.ports ∧
      (s.flag Reg.ETH_PTP_STAT_SYNC = true → Posted s t (s.evNow 255 clsInfo 0x0009 false (u8s [1]))) ∧ Only [.regs, .led, .eth] s t ∧
      RegsKept s t ([Reg.ETH_PTP_STAT_SYNC, Reg.ETH_PTP_STAT_SLAVE_PORT] ++ (List.range 16).map Reg.CLAVE_STAT_TIME_UNSYNC ++ ledgerFlds)) ∧
  (∀ s : State, (s.up = false ∨ s.flag Reg.ETH_PTP_STAT_IS_GM = true) → exec .syncTimeout s = .next s)

/-- R449-R475, R517, R519: a received CAN frame goes by its first matching filter element to a FIFO, to a mailbox, or is rejected; what a channel
cannot receive is counted. The offer with the lowest identifier is transmitted and counts TEC down, with the delay compensation of R453-R455; errors
count up by ISO 11898-1 and move the state by Table CAN-6; recovery and integration end; an open reassembly that goes 100 ms without a fragment is answered FRAG_ERROR. -/
def Obligations.CanEvents : Prop :=
  (∀ (s : State) (c : Fin 2) (f : CanFrame), (s.canRuns c = false ∨ s.canState c ∉ [canListen, canActive, canPassive]) →
    exec (.canFrameReceive c f) s = .next s) ∧
  (∀ (s : State) (c : Fin 2) (f : CanFrame), s.up = true → s.canState c ∈ [canListen, canActive, canPassive] → f.fd = true →
    s.flag (Reg.CAN_FMT_FD c) = false → ∃ t, exec (.canFrameReceive c f) s = .next t ∧ Counted s t (Reg.CAN_PXE c) ∧
      t.canState c = canListen ∧ OnlyRegs s t [Reg.CAN_PXE c, Reg.CAN_STAT_STATE c]) ∧
  (∀ (s : State) (c : Fin 2) (f : CanFrame), s.up = true → s.canState c ∈ [canListen, canActive, canPassive] →
    (f.fd = true → s.flag (Reg.CAN_FMT_FD c) = true) → s.get (Reg.CAN_ERRCNT_REC c) ≤ 127 →
    (f.rtr = true → ∃ t, exec (.canFrameReceive c f) s = .next t ∧ Counted s t (Reg.CAN_RX_REMOTE c) ∧ Counted s t (Reg.CAN_RX_FRAMES c) ∧
      OnlyRegs s t [Reg.CAN_RX_REMOTE c, Reg.CAN_RX_FRAMES c, Reg.CAN_ERRCNT_REC c]) ∧
    (f.rtr = false → (s.flag (Reg.CAN_FMT_BEXIC_EN c) = false ∨ f.xtd ≠ s.flag (Reg.CAN_FMT_XTD_BASE c) ∨
        f.id.toNat < s.get (Reg.CAN_BEXIC_BASE c) ∨ s.get (Reg.CAN_BEXIC_BASE c) + 33 < f.id.toNat) →
      ∃ t, exec (.canFrameReceive c f) s = .next t ∧ Counted s t (Reg.CAN_RX_FRAMES c) ∧
        t.get (Reg.CAN_ERRCNT_REC c) = s.get (Reg.CAN_ERRCNT_REC c) - (if s.canState c = canListen then 0 else 1) ∧ t.canState c = s.canState c ∧
        (∀ i, s.canMatch c f = some i → (s.canElem c i).act = 3 → s.flag (Reg.CAN_MBX_MAP_VALID c i) = true →
          ∃ a, a = 0x20130200 + s.get (Reg.CAN_MBX_MAP_GROUP c i) * 0x400 + s.get (Reg.CAN_MBX_MAP_SLOT c i) * 0x80 ∧
            t.rdLE a 4 = (s.rdLE a 4 + 2 + s.rdLE a 4 % 2) % 2 ^ 32 ∧ t.rdBytes (a + 16) 80 = canRecord c i f ∧ MemKept s t a 128 ∧
            Only [.regs, .mem] s t ∧ RegsKept s t [Reg.CAN_RX_FRAMES c, Reg.CAN_ERRCNT_REC c]) ∧
        ((s.canMatch c f = none ∧ s.get (if f.xtd then Reg.CAN_DEFAULT_EXT c else Reg.CAN_DEFAULT_STD c) ∉ [1, 2] ∨
            ∃ i, s.canMatch c f = some i ∧ ((s.canElem c i).act = 0 ∨ (s.canElem c i).act = 3 ∧ s.flag (Reg.CAN_MBX_MAP_VALID c i) = false)) →
          Counted s t (Reg.CAN_RX_REJECT c) ∧ OnlyRegs s t [Reg.CAN_RX_FRAMES c, Reg.CAN_ERRCNT_REC c, Reg.CAN_RX_REJECT c]) ∧
        ∀ e k, k < 2 → (s.canMatch c f = none ∧ e = 0xFF ∧ s.get (if f.xtd then Reg.CAN_DEFAULT_EXT c else Reg.CAN_DEFAULT_STD c) = k + 1 ∨
            s.canMatch c f = some e ∧ (s.canElem c e).act = k + 1) →
          if ((s.canX c).fifo k).length < 64 then
            (t.canX c).fifo k = (s.canX c).fifo k ++ [canRecord c e f] ∧ t.get (Reg.CAN_RXF_STAT_LEVEL c k) = ((s.canX c).fifo k).length + 1 ∧
            (t.canX c).fifo (1 - k) = (s.canX c).fifo (1 - k) ∧ (∀ d, d ≠ c.val → t.canX d = s.canX d) ∧ Only [.regs, .can] s t ∧
            RegsKept s t ([Reg.CAN_RX_FRAMES c, Reg.CAN_ERRCNT_REC c, Reg.CAN_RXF_STAT_LEVEL c k] ++ (List.range 20).map (Reg.CAN_RXF_HEAD c k))
          else Counted s t (Reg.CAN_RXF_STAT_OVF c k) ∧ OnlyRegs s t [Reg.CAN_RX_FRAMES c, Reg.CAN_ERRCNT_REC c, Reg.CAN_RXF_STAT_OVF c k])) ∧
  (∀ (s : State) (c : Fin 2) (d : BitVec 16) (u : BitVec 256) (b : Bool) (bex : Bool) (f : CanFrame) (pre post : List CanMsg) (m : CanMsg),
    s.canRuns c = true → s.canState c ∈ [canActive, canPassive] → s.get (Reg.CAN_ERRCNT_TEC c) ≤ 256 → s.get (Reg.CAN_ERRCNT_REC c) ≤ 127 →
    (if bex then (s.canX c).tx = pre ++ m :: post ∧ m.frames.head? = some f ∧ m.blk = none ∧
        (∀ g ∈ pre, arbKey m.xtd m.id < arbKey g.xtd g.id) ∧ (∀ g ∈ post, arbKey m.xtd m.id ≤ arbKey g.xtd g.id) ∧
        (s.flag (Reg.CAN_TXCTL_BUSY c) = true → arbKey m.xtd m.id ≤ arbKey (s.txbFrame c).xtd (s.txbFrame c).id.toNat)
      else s.flag (Reg.CAN_TXCTL_BUSY c) = true ∧ f = s.txbFrame c ∧ ∀ g ∈ (s.canX c).tx, arbKey f.xtd f.id.toNat < arbKey g.xtd g.id) →
    ∃ t tdco, exec (.canFrameTransmit c true d u b) s = .next t ∧
      tdco = (if s.flag (Reg.CAN_TDC_MODE c) then s.get (Reg.CAN_TDC_TDCO c)
        else min 127 (s.get (Reg.CAN_DBT_BRP c) * (1 + s.get (Reg.CAN_DBT_TSEG1 c)))) ∧
      (s.tdcOn c f = true → t.get (Reg.CAN_TDC_TDCV c) = min 127 d.toNat ∧ (127 < d.toNat → t.get (Reg.CAN_STAT_TDC_SAT c) = 1)) ∧
      if s.tdcOn c f = true ∧ u.getLsbD (min 127 d.toNat + tdco) = true then
        t.get (Reg.CAN_LEC_DATA c) = (if b then 4 else 5) ∧ (s.get (Reg.CAN_ERRCNT_TEC c) < 248 →
          t.get (Reg.CAN_ERRCNT_TEC c) = s.get (Reg.CAN_ERRCNT_TEC c) + 8 ∧ t.can = s.can ∧
          t.flag (Reg.CAN_TXCTL_BUSY c) = s.flag (Reg.CAN_TXCTL_BUSY c))
      else Counted s t (Reg.CAN_TX_FRAMES c) ∧ t.get (Reg.CAN_ERRCNT_TEC c) = s.get (Reg.CAN_ERRCNT_TEC c) - 1 ∧
        t.canState c = (if 127 < s.get (Reg.CAN_ERRCNT_TEC c) - 1 then canPassive else canActive) ∧
        (if bex then (t.canX c).tx = pre ++ (if m.frames.length = 1 then post else { m with frames := m.frames.tail } :: post)
          else t.get (Reg.CAN_TXCTL_BUSY c) = 0 ∧ t.can = s.can) ∧ (∀ k, k ≠ c.val → t.canX k = s.canX k) ∧ Only [.regs, .led, .can] s t ∧
        RegsKept s t ([Reg.CAN_TX_FRAMES c, Reg.CAN_ERRCNT_TEC c, Reg.CAN_STAT_STATE c, Reg.CAN_TXCTL_BUSY c, Reg.CAN_TDC_TDCV c,
          Reg.CAN_STAT_TDC_SAT c] ++ ledgerFlds)) ∧
  (∀ (s : State) (c : Fin 2) (won : Bool) (d : BitVec 16) (u : BitVec 256) (b : Bool),
    (s.canRuns c = false ∧ s.draining = false ∨ s.canState c ∉ [canActive, canPassive] ∨ won = false ∨
      s.flag (Reg.CAN_TXCTL_BUSY c) = false ∧ (s.canX c).tx = []) → exec (.canFrameTransmit c won d u b) s = .next s) ∧
  (∀ (s : State) (c : Fin 2) (k : CanErr), s.canRuns c = true → k.lec ≠ 0 → k.lec ≠ 7 →
    (s.canState c = canListen → CountsOnly s (.canError c k) (Reg.CAN_LISTEN_ERR c)) ∧
    (s.canState c ∈ [canActive, canPassive] → (∀ m ∈ (s.canX c).tx, m.blk = none) →
      ∃ t tec rec_, exec (.canError c k) s = .next t ∧
        tec = (if k.transmitter = true ∧ ¬ (s.canState c = canPassive ∧ k.lec = 3) then min 511 (s.get (Reg.CAN_ERRCNT_TEC c) + 8)
          else s.get (Reg.CAN_ERRCNT_TEC c)) ∧
        rec_ = (if k.transmitter then s.get (Reg.CAN_ERRCNT_REC c) else min 511 (s.get (Reg.CAN_ERRCNT_REC c) + 1)) ∧
        t.get (Reg.CAN_ERRCNT_TEC c) = tec ∧ t.get (Reg.CAN_ERRCNT_REC c) = rec_ ∧
        t.get (if k.dataPhase then Reg.CAN_LEC_DATA c else Reg.CAN_LEC_NOMINAL c) = k.lec.toNat ∧
        t.canState c = (if 255 < tec then (if s.mode = modeFallback then canRecovering else canBusOff)
          else if 127 < tec ∨ 127 < rec_ then canPassive else canActive) ∧
        (if 255 < tec then (t.canX c).tx = [] ∧ t.get (Reg.CAN_TXCTL_BUSY c) = 0 ∧ Counted s t (Reg.CAN_BUSOFF_COUNT c) ∧
            t.get (Reg.CAN_TX_DROP c) = (s.addSat (Reg.CAN_TX_DROP c) ((s.canX c).tx.length + s.get (Reg.CAN_TXCTL_BUSY c))).get (Reg.CAN_TX_DROP c)
          else t.can = s.can) ∧ Only [.regs, .led, .can] s t ∧
        RegsKept s t ([Reg.CAN_ERRCNT_TEC c, Reg.CAN_ERRCNT_REC c, Reg.CAN_LEC_DATA c, Reg.CAN_LEC_NOMINAL c, Reg.CAN_STAT_STATE c,
          Reg.CAN_TXCTL_BUSY c, Reg.CAN_TX_DROP c, Reg.CAN_BUSOFF_COUNT c] ++ ledgerFlds))) ∧
  (∀ (s : State) (c : Fin 2) (k : CanErr), (s.canRuns c = false ∨ k.lec = 0 ∨ k.lec = 7 ∨ s.canState c ∉ [canListen, canActive, canPassive]) →
    exec (.canError c k) s = .next s) ∧
  (∀ (s : State) (c : Fin 2), s.canRuns c = true →
    (s.canState c = canRecovering → ∃ t, exec (.canRecoveryDone c) s = .next t ∧ t.canState c = canListen ∧ t.get (Reg.CAN_ERRCNT_TEC c) = 0 ∧
      t.get (Reg.CAN_ERRCNT_REC c) = 0 ∧ OnlyRegs s t [Reg.CAN_STAT_STATE c, Reg.CAN_ERRCNT_TEC c, Reg.CAN_ERRCNT_REC c]) ∧
    (s.canState c ≠ canRecovering → exec (.canRecoveryDone c) s = .next s) ∧
    (s.canState c = canListen → s.get (Reg.CAN_ERRCNT_TEC c) ≤ 255 →
      ∃ t, exec (.canIntegrationEnd c) s = .next t ∧ t.canState c =
        (if 127 < s.get (Reg.CAN_ERRCNT_TEC c) ∨ 127 < s.get (Reg.CAN_ERRCNT_REC c) then canPassive else canActive) ∧
        Only [.regs, .led] s t ∧ RegsKept s t (Reg.CAN_STAT_STATE c :: ledgerFlds)) ∧
    (s.canState c ≠ canListen → exec (.canIntegrationEnd c) s = .next s)) ∧
  (∀ (s : State) (id : Fin 34) (part : CanPart) (c : Fin 2) (ep : Fin 17), s.awake = true → id.val = 17 * c.val + ep.val →
    (s.canX c).part ep = some part →
    ∃ t o, exec (.reassemblyTimeout id.castSucc) s = .next t ∧ (t.canX c).part ep = none ∧
      (∀ e, e ≠ ep.val → (t.canX c).part e = (s.canX c).part e) ∧ t.outbox = o :: s.outbox ∧ o.dst = .can c ∧ o.ep = ep ∧
      o.opcode = byteAt part.head 3 ||| 0x80 ∧ o.seq = leAt part.head 4 4 ∧ o.payload = u8s [0x0D, 0, 0, 0]) ∧
  (∀ (s : State) (l : List Byte) (n k : Nat), s.awake = true → (s.canX 0).fb = some (l, n, k) →
    ∃ t o, exec (.reassemblyTimeout 34) s = .next t ∧ (t.canX 0).fb = none ∧ t.outbox = o :: s.outbox ∧ o.dst = .can 0 ∧
      o.seq = (if l.length < 8 then 0 else leAt l 4 4) ∧ o.payload = u8s [0x0D, 0, 0, 0]) ∧
  (∀ (s : State) (c : Fin 2) (ep : Fin 17) (id : Fin 35), id.val = 17 * c.val + ep.val → (s.awake = false ∨ (s.canX c).part ep = none) →
    exec (.reassemblyTimeout id) s = .next s)
end

