-- ==== Sys2Proof/Laws/Only.lean ====
section
/-!
SUPPORT. Laws/Only.lean: sets of components as numbers. `OnlyN m r s`: from `r` to `s` nothing has changed but the components whose
bit of `m` is 1.
-/
namespace Sys2Proof.Machine

/-- The bit of a component. -/
def Comp.num : Comp → Nat
  | .pending => 0
  | .regs => 1
  | .mem => 2
  | .clk => 3
  | .ntimeH => 4
  | .drawn => 5
  | .outbox => 6
  | .readOut => 7
  | .awaiting => 8
  | .tick_ => 9
  | .bk => 10
  | .start => 11
  | .flash => 12
  | .pool => 13
  | .led => 14
  | .flt => 15
  | .sess => 16
  | .holds => 17
  | .eng => 18
  | .grp => 19
  | .axis => 20
  | .cur => 21
  | .clave => 22
  | .ho => 23
  | .snare => 24
  | .fb => 25
  | .echo => 26
  | .field => 27
  | .eth => 28
  | .can => 29
  | .i2c => 30

/-- The mask of a list of components. -/
def maskOf : List Comp → Nat
  | [] => 0
  | c :: l => 2 ^ c.num ||| maskOf l

/-- Every bit of `a` is one of `b`. -/
def Within (a b : Nat) : Prop := a &&& b = a

theorem Within.refl (a : Nat) : Within a a := Nat.and_self a

theorem Within.trans {a b c : Nat} (h : a &&& b = a) (g : Within b c) : Within a c := by
  unfold Within at *
  rw [← h, Nat.and_assoc, g]

theorem Within.bit {a b i : Nat} (h : Within a b) (g : a.testBit i = true) : b.testBit i = true := by
  unfold Within at h
  rw [← h, Nat.testBit_and, Bool.and_eq_true] at g
  exact g.2

/-- From `r` to `s` nothing has changed but the components whose bit of `m` is 1. -/
structure OnlyN (m : Nat) (r s : State) : Prop where
  pending : m.testBit 0 = false → s.pending = r.pending
  regs : m.testBit 1 = false → s.regs = r.regs
  mem : m.testBit 2 = false → s.mem = r.mem
  clk : m.testBit 3 = false → s.clk = r.clk
  ntimeH : m.testBit 4 = false → s.ntimeH = r.ntimeH
  drawn : m.testBit 5 = false → s.drawn = r.drawn
  outbox : m.testBit 6 = false → s.outbox = r.outbox
  readOut : m.testBit 7 = false → s.readOut = r.readOut
  awaiting : m.testBit 8 = false → s.awaiting = r.awaiting
  tick_ : m.testBit 9 = false → s.tick_ = r.tick_
  bk : m.testBit 10 = false → s.bk = r.bk
  start : m.testBit 11 = false → s.start = r.start
  flash : m.testBit 12 = false → s.flash = r.flash
  pool : m.testBit 13 = false → s.pool = r.pool
  led : m.testBit 14 = false → s.led = r.led
  flt : m.testBit 15 = false → s.flt = r.flt
  sess : m.testBit 16 = false → s.sess = r.sess
  holds : m.testBit 17 = false → s.holds = r.holds
  eng : m.testBit 18 = false → s.eng = r.eng
  grp : m.testBit 19 = false → s.grp = r.grp
  axis : m.testBit 20 = false → s.axis = r.axis
  cur : m.testBit 21 = false → s.cur = r.cur
  clave : m.testBit 22 = false → s.clave = r.clave
  ho : m.testBit 23 = false → s.ho = r.ho
  snare : m.testBit 24 = false → s.snare = r.snare
  fb : m.testBit 25 = false → s.fb = r.fb
  echo : m.testBit 26 = false → s.echo = r.echo
  field : m.testBit 27 = false → s.field = r.field
  eth : m.testBit 28 = false → s.eth = r.eth
  can : m.testBit 29 = false → s.can = r.can
  i2c : m.testBit 30 = false → s.i2c = r.i2c

theorem maskOf_bit (l : List Comp) (c : Comp) : (maskOf l).testBit c.num = true → c ∈ l := by
  induction l with
  | nil => simp [maskOf]
  | cons d l ih =>
    simp only [maskOf, Nat.testBit_or, Bool.or_eq_true, Nat.testBit_two_pow, decide_eq_true_eq, List.mem_cons]
    rintro (h | h)
    · left; revert h; cases c <;> cases d <;> simp [Comp.num]
    · exact Or.inr (ih h)

theorem OnlyN.only {r s : State} (l : List Comp) (h : OnlyN (maskOf l) r s) : Only l r s := by
  intro c hc
  have hb : (maskOf l).testBit c.num = false := by
    cases hb : (maskOf l).testBit c.num
    · rfl
    · exact absurd (maskOf_bit l c hb) hc
  cases c
  all_goals first
    | exact h.pending hb
    | exact h.regs hb
    | exact h.mem hb
    | exact h.clk hb
    | exact h.ntimeH hb
    | exact h.drawn hb
    | exact h.outbox hb
    | exact h.readOut hb
    | exact h.awaiting hb
    | exact h.tick_ hb
    | exact h.bk hb
    | exact h.start hb
    | exact h.flash hb
    | exact h.pool hb
    | exact h.led hb
    | exact h.flt hb
    | exact h.sess hb
    | exact h.holds hb
    | exact h.eng hb
    | exact h.grp hb
    | exact h.axis hb
    | exact h.cur hb
    | exact h.clave hb
    | exact h.ho hb
    | exact h.snare hb
    | exact h.fb hb
    | exact h.echo hb
    | exact h.field hb
    | exact h.eth hb
    | exact h.can hb
    | exact h.i2c hb

variable {m : Nat} {r s : State}

theorem OnlyN.refl (m : Nat) (s : State) : OnlyN m s s := by constructor <;> intro _ <;> rfl

/-- A component that may change. -/
theorem OnlyN.free {a i : Nat} {P : Prop} (h : Within a m) (hb : a.testBit i = true) : m.testBit i = false → P := by
  intro hf; rw [h.bit hb] at hf; cases hf

end Sys2Proof.Machine
end

