-- ==== Sys2Proof/Laws/SMap.lean ====
section
/-!
SUPPORT. Laws/SMap.lean: reading a sparse table after a write, and that a write keeps the canonical form.
-/
namespace Sys2Proof.Machine

variable {α : Type}

@[simp] theorem SMap.get_nil (d : Nat → α) (k : Nat) : SMap.get d [] k = d k := rfl

theorem SMap.get_erase (d : Nat → α) (m : SMap α) (k j : Nat) :
    SMap.get d (SMap.erase k m) j = if j = k then d k else SMap.get d m j := by
  induction m with
  | nil => by_cases h : j = k <;> simp [SMap.erase, SMap.get, h]
  | cons p r ih =>
    obtain ⟨i, v⟩ := p
    by_cases hi : i = k
    · subst hi
      simp only [SMap.erase, if_true, ih, SMap.get]
      by_cases hj : j = i <;> simp [hj, eq_comm]
    · simp only [SMap.erase, hi, if_false, SMap.get, ih]
      by_cases hij : i = j
      · subst hij; simp [hi]
      · simp [hij]

theorem SMap.get_insert (d : Nat → α) (m : SMap α) (k j : Nat) (v : α) :
    SMap.get d (SMap.insert k v m) j = if j = k then v else SMap.get d m j := by
  induction m with
  | nil => 
    by_cases h : j = k
    · simp [SMap.insert, SMap.get, h]
    · simp [SMap.insert, SMap.get, h, Ne.symm h]
  | cons p r ih =>
    obtain ⟨i, w⟩ := p
    simp only [SMap.insert]
    by_cases h1 : k < i
    · simp only [h1, if_true, SMap.get]
      by_cases hj : j = k
      · simp [hj]
      · simp [hj, Ne.symm hj]
    · simp only [h1, if_false]
      by_cases h2 : i = k
      · subst h2
        simp only [if_true, SMap.get]
        by_cases hj : j = i <;> simp [hj, eq_comm]
      · simp only [h2, if_false, SMap.get, ih]
        by_cases hij : i = j
        · subst hij; simp [h2]
        · simp [hij]

/-- Reading after a write: the written index holds the value, every other index is unchanged. -/
theorem SMap.get_set [DecidableEq α] (d : Nat → α) (m : SMap α) (k j : Nat) (v : α) :
    SMap.get d (SMap.set d m k v) j = if j = k then v else SMap.get d m j := by
  unfold SMap.set
  by_cases h : v = d k
  · rw [if_pos h, SMap.get_erase, h]
  · rw [if_neg h, SMap.get_insert]

@[simp] theorem SMap.get_set_same [DecidableEq α] (d : Nat → α) (m : SMap α) (k : Nat) (v : α) :
    SMap.get d (SMap.set d m k v) k = v := by simp [SMap.get_set]

theorem SMap.get_set_ne [DecidableEq α] (d : Nat → α) (m : SMap α) {k j : Nat} (v : α) (h : j ≠ k) :
    SMap.get d (SMap.set d m k v) j = SMap.get d m j := by simp [SMap.get_set, h]

theorem SMap.wfFrom_weaken [DecidableEq α] (d : Nat → α) (m : SMap α) (a b : Nat) (hab : a ≤ b)
    (h : SMap.wfFrom d (some b) m = true) : SMap.wfFrom d (some a) m = true := by
  cases m with
  | nil => rfl
  | cons p r =>
    obtain ⟨i, v⟩ := p
    simp only [SMap.wfFrom, Bool.and_eq_true, decide_eq_true_eq] at h ⊢
    exact ⟨⟨by omega, h.1.2⟩, h.2⟩

theorem SMap.wfFrom_erase [DecidableEq α] (d : Nat → α) (k : Nat) (m : SMap α) (b : Option Nat)
    (h : SMap.wfFrom d b m = true) : SMap.wfFrom d b (SMap.erase k m) = true := by
  induction m generalizing b with
  | nil => rfl
  | cons p r ih =>
    obtain ⟨i, v⟩ := p
    simp only [SMap.wfFrom, Bool.and_eq_true] at h
    by_cases hi : i = k
    · simp only [SMap.erase, hi, if_true]
      have := ih (some i) h.2
      cases b with
      | none =>
        revert this; cases hE : SMap.erase k r with
        | nil => intro _; rfl
        | cons q s => intro this; simp only [SMap.wfFrom, Bool.and_eq_true] at this ⊢; exact ⟨⟨trivial, this.1.2⟩, this.2⟩
      | some b => exact SMap.wfFrom_weaken d _ b i (by have := h.1.1; simp at this; omega) this
    · simp only [SMap.erase, hi, if_false, SMap.wfFrom, Bool.and_eq_true]
      exact ⟨h.1, ih _ h.2⟩

theorem SMap.wfFrom_insert [DecidableEq α] (d : Nat → α) (k : Nat) (v : α) (hv : v ≠ d k) (m : SMap α) (b : Option Nat)
    (hb : ∀ b', b = some b' → b' < k)
    (h : SMap.wfFrom d b m = true) : SMap.wfFrom d b (SMap.insert k v m) = true := by
  induction m generalizing b with
  | nil => cases b <;> simp [SMap.insert, SMap.wfFrom, hv]; exact hb _ rfl
  | cons p r ih =>
    obtain ⟨i, w⟩ := p
    simp only [SMap.wfFrom, Bool.and_eq_true] at h
    simp only [SMap.insert]
    by_cases h1 : k < i
    · simp only [h1, if_true, SMap.wfFrom, Bool.and_eq_true, decide_eq_true_eq]
      refine ⟨⟨?_, hv⟩, ⟨trivial, by simpa using h.1.2⟩, h.2⟩
      cases b with
      | none => trivial
      | some b => simpa using hb b rfl
    · simp only [h1, if_false]
      by_cases h2 : i = k
      · subst h2
        simp only [if_true, SMap.wfFrom, Bool.and_eq_true, decide_eq_true_eq]
        exact ⟨⟨h.1.1, hv⟩, h.2⟩
      · simp only [h2, if_false, SMap.wfFrom, Bool.and_eq_true]
        exact ⟨h.1, ih _ (by intro b' hb'; cases hb'; omega) h.2⟩

/-- A write keeps the canonical form. -/
theorem SMap.wf_set [DecidableEq α] (d : Nat → α) (m : SMap α) (k : Nat) (v : α) (h : SMap.wf d m = true) :
    SMap.wf d (SMap.set d m k v) = true := by
  unfold SMap.set
  split
  · exact SMap.wfFrom_erase d k m none h
  · exact SMap.wfFrom_insert d k v ‹_› m none (by simp) h

@[simp] theorem SMap.wf_nil [DecidableEq α] (d : Nat → α) : SMap.wf d ([] : SMap α) = true := rfl

end Sys2Proof.Machine
end

