-- ==== Sys2Proof/Laws/Confined.lean ====
section
/-!
SUPPORT. Laws/Confined.lean: what every operation of the model does to the state as a whole. `Confined m r s`: from `r` to `s` nothing
has changed but the components whose bit of `m` is 1, and the invariant has been kept. The lemmas of the basic updates and of the
operations over operations stand here; the other Confined files give one lemma per operation and command.
-/
namespace Sys2Proof.Machine

/-- From `r` to `s` only the components of `m` have changed, and the invariant has been kept. -/
structure Confined (m : Nat) (r s : State) : Prop where
  only : OnlyN m r s
  inv : r.Inv → s.Inv

/-- An outcome that is a next state so confined. -/
def ConfinedOut (m : Nat) (r : State) (o : Out) : Prop := ∃ t, o = .next t ∧ Confined m r t

variable {m : Nat} {r s : State}

theorem Confined.refl (m : Nat) (s : State) : Confined m s s := ⟨.refl m s, id⟩

theorem ConfinedOut.next {t : State} (h : Confined m r t) : ConfinedOut m r (.next t) := ⟨t, rfl, h⟩

/-- A command so confined, in a state that has the invariant, changes only the listed components and keeps the invariant. -/
theorem ConfinedOut.answers {s : State} {o : Out} (l : List Comp) (h : ConfinedOut m s o) (hl : m = maskOf l) (hi : s.Inv) :
    ∃ t, o = .next t ∧ Only l s t ∧ t.Inv := by
  obtain ⟨t, ho, h⟩ := h
  subst hl
  exact ⟨t, ho, h.only.only, h.inv hi⟩

theorem Confined.cut {P Q : Prop} (h : P) (f : P → Q) : Q := f h
theorem Confined.fst {α : Type} {x : State × α} {t : State} {a : α} (h : x = (t, a)) (hx : Confined m r x.1) : Confined m r t := by
  rw [h] at hx; exact hx

/-! ### Basic updates -/

theorem State.setEng_confined (h : Confined m r s) (hm : Within 262144 m) (k : Nat) (x : EngX) : Confined m r (s.setEng k x) :=
  ⟨{ h.only with eng := OnlyN.free hm (by decide) }, fun q => { h.inv q with eng := SMap.wf_set _ _ _ _ (h.inv q).eng }⟩
theorem State.setGrp_confined (h : Confined m r s) (hm : Within 524288 m) (k : Nat) (x : GroupX) : Confined m r (s.setGrp k x) :=
  ⟨{ h.only with grp := OnlyN.free hm (by decide) }, fun q => { h.inv q with grp := SMap.wf_set _ _ _ _ (h.inv q).grp }⟩
theorem State.setAxis_confined (h : Confined m r s) (hm : Within 1048576 m) (k : Nat) (x : AxisX) : Confined m r (s.setAxis k x) :=
  ⟨{ h.only with axis := OnlyN.free hm (by decide) }, fun q => { h.inv q with axis := SMap.wf_set _ _ _ _ (h.inv q).axis }⟩
theorem State.setCur_confined (h : Confined m r s) (hm : Within 2097152 m) (k : Nat) (x : CurX) : Confined m r (s.setCur k x) :=
  ⟨{ h.only with cur := OnlyN.free hm (by decide) }, fun q => { h.inv q with cur := SMap.wf_set _ _ _ _ (h.inv q).cur }⟩
theorem State.setClave_confined (h : Confined m r s) (hm : Within 4194304 m) (k : Nat) (x : ClaveX) : Confined m r (s.setClave k x) :=
  ⟨{ h.only with clave := OnlyN.free hm (by decide) }, fun q => { h.inv q with clave := SMap.wf_set _ _ _ _ (h.inv q).clave }⟩
theorem State.setHo_confined (h : Confined m r s) (hm : Within 8388608 m) (k : Nat) (x : HoX) : Confined m r (s.setHo k x) :=
  ⟨{ h.only with ho := OnlyN.free hm (by decide) }, fun q => { h.inv q with ho := SMap.wf_set _ _ _ _ (h.inv q).ho }⟩
theorem State.setSnare_confined (h : Confined m r s) (hm : Within 16777216 m) (k : Nat) (x : SnareX) : Confined m r (s.setSnare k x) :=
  ⟨{ h.only with snare := OnlyN.free hm (by decide) }, fun q => { h.inv q with snare := SMap.wf_set _ _ _ _ (h.inv q).snare }⟩
theorem State.setFb_confined (h : Confined m r s) (hm : Within 33554432 m) (k : Nat) (x : FbX) : Confined m r (s.setFb k x) :=
  ⟨{ h.only with fb := OnlyN.free hm (by decide) }, fun q => { h.inv q with fb := SMap.wf_set _ _ _ _ (h.inv q).fb }⟩
theorem State.setEcho_confined (h : Confined m r s) (hm : Within 67108864 m) (k : Nat) (x : EchoX) : Confined m r (s.setEcho k x) :=
  ⟨{ h.only with echo := OnlyN.free hm (by decide) }, fun q => { h.inv q with echo := SMap.wf_set _ _ _ _ (h.inv q).echo }⟩
theorem State.setCan_confined (h : Confined m r s) (hm : Within 536870912 m) (k : Nat) (x : CanX) : Confined m r (s.setCan k x) :=
  ⟨{ h.only with can := OnlyN.free hm (by decide) }, fun q => { h.inv q with can := SMap.wf_set _ _ _ _ (h.inv q).can }⟩
theorem State.setSess_confined (h : Confined m r s) (hm : Within 65536 m) (k : Nat) (x : Session) : Confined m r (s.setSess k x) :=
  ⟨{ h.only with sess := OnlyN.free hm (by decide) }, fun q => { h.inv q with sess := SMap.wf_set _ _ _ _ (h.inv q).sess }⟩
theorem State.setHold_confined (h : Confined m r s) (hm : Within 131072 m) (k : Nat) (x : PairHold) : Confined m r (s.setHold k x) :=
  ⟨{ h.only with holds := OnlyN.free hm (by decide) }, fun q => { h.inv q with holds := SMap.wf_set _ _ _ _ (h.inv q).holds }⟩
theorem State.set_confined (h : Confined m r s) (hm : Within 2 m) (f : Fld) (v : Nat) : Confined m r (s.set f v) :=
  ⟨{ h.only with regs := OnlyN.free hm (by decide) }, fun q => { h.inv q with regs := SMap.wf_set _ _ _ _ (h.inv q).regs }⟩
theorem State.wrByte_confined (h : Confined m r s) (hm : Within 4 m) (a : Nat) (b : Byte) : Confined m r (s.wrByte a b) :=
  ⟨{ h.only with mem := OnlyN.free hm (by decide) }, fun q => { h.inv q with mem := SMap.wf_set _ _ _ _ (h.inv q).mem }⟩

theorem SMap.wfFrom_filter {α : Type} [DecidableEq α] (d : Nat → α) (c : Nat × α → Bool) (m : SMap α) (b : Option Nat)
    (h : SMap.wfFrom d b m = true) : SMap.wfFrom d b (m.filter c) = true := by
  induction m generalizing b with
  | nil => exact h
  | cons q r ih =>
    obtain ⟨i, v⟩ := q
    simp only [SMap.wfFrom, Bool.and_eq_true] at h
    by_cases hc : c (i, v) = true
    · simp only [List.filter_cons, hc, if_true, SMap.wfFrom, Bool.and_eq_true]
      exact ⟨h.1, ih _ h.2⟩
    · simp only [List.filter_cons, hc, Bool.false_eq_true, if_false]
      have := ih (some i) h.2
      revert this
      cases hE : r.filter c with
      | nil => intro _; cases b <;> rfl
      | cons z zs =>
        intro this
        simp only [SMap.wfFrom, Bool.and_eq_true] at this ⊢
        refine ⟨⟨?_, this.1.2⟩, this.2⟩
        cases b with
        | none => trivial
        | some b => have h1 := h.1.1; have h2 := this.1.1; simp at h1 h2 ⊢; omega

theorem State.clearRange_confined (h : Confined m r s) (hm : Within 4 m) (a b : Nat) : Confined m r (s.clearRange a b) :=
  ⟨{ h.only with mem := OnlyN.free hm (by decide) }, fun q => { h.inv q with mem := SMap.wfFrom_filter _ _ _ _ (h.inv q).mem }⟩

theorem State.wrBytes_confined (h : Confined m r s) (hm : Within 4 m) (a : Nat) (l : List Byte) : Confined m r (s.wrBytes a l) := by
  induction l generalizing s a with
  | nil => exact h
  | cons b l ih => exact ih (State.wrByte_confined h hm a b) _

theorem Confined.upd_clk (h : Confined m r s) (hm : Within 8 m) (x : Nat) :
    Confined m r { s with clk := x } :=
  ⟨{ h.only with clk := OnlyN.free hm (by decide) }, fun q => { h.inv q with }⟩
theorem Confined.upd_ntimeH (h : Confined m r s) (hm : Within 16 m) (x : Nat) :
    Confined m r { s with ntimeH := x } :=
  ⟨{ h.only with ntimeH := OnlyN.free hm (by decide) }, fun q => { h.inv q with }⟩
theorem Confined.upd_drawn (h : Confined m r s) (hm : Within 32 m) (x : Nat) :
    Confined m r { s with drawn := x } :=
  ⟨{ h.only with drawn := OnlyN.free hm (by decide) }, fun q => { h.inv q with }⟩
theorem Confined.upd_outbox (h : Confined m r s) (hm : Within 64 m) (x : List OutMsg) :
    Confined m r { s with outbox := x } :=
  ⟨{ h.only with outbox := OnlyN.free hm (by decide) }, fun q => { h.inv q with }⟩
theorem Confined.upd_readOut (h : Confined m r s) (hm : Within 128 m) (x : List Nat) :
    Confined m r { s with readOut := x } :=
  ⟨{ h.only with readOut := OnlyN.free hm (by decide) }, fun q => { h.inv q with }⟩
theorem Confined.upd_awaiting (h : Confined m r s) (hm : Within 256 m) (x : List Await) :
    Confined m r { s with awaiting := x } :=
  ⟨{ h.only with awaiting := OnlyN.free hm (by decide) }, fun q => { h.inv q with }⟩
theorem Confined.upd_tick_ (h : Confined m r s) (hm : Within 512 m) (x : TickCtl) :
    Confined m r { s with tick_ := x } :=
  ⟨{ h.only with tick_ := OnlyN.free hm (by decide) }, fun q => { h.inv q with }⟩
theorem Confined.upd_bk (h : Confined m r s) (hm : Within 1024 m) (x : Backup)
    (hx : s.Inv → x.fifo.length ≤ 8) :
    Confined m r { s with bk := x } :=
  ⟨{ h.only with bk := OnlyN.free hm (by decide) }, fun q => { h.inv q with fifo := hx (h.inv q) }⟩
theorem Confined.upd_start (h : Confined m r s) (hm : Within 2048 m) (x : StartCtl) :
    Confined m r { s with start := x } :=
  ⟨{ h.only with start := OnlyN.free hm (by decide) }, fun q => { h.inv q with }⟩
theorem Confined.upd_flash (h : Confined m r s) (hm : Within 4096 m) (x : FlashCtl)
    (hx : s.Inv → SMap.wf (fun _ => 255) x.cells = true) :
    Confined m r { s with flash := x } :=
  ⟨{ h.only with flash := OnlyN.free hm (by decide) }, fun q => { h.inv q with cells := hx (h.inv q) }⟩
theorem Confined.upd_pool (h : Confined m r s) (hm : Within 8192 m) (x : PoolCtl)
    (hx : s.Inv → SMap.wf (fun _ => holderFree) x.owner = true ∧ SMap.wf (fun _ => 0) x.grants = true ∧ SMap.wf (fun _ => 0) x.written = true) :
    Confined m r { s with pool := x } :=
  ⟨{ h.only with pool := OnlyN.free hm (by decide) }, fun q => { h.inv q with owner := (hx (h.inv q)).1, grants := (hx (h.inv q)).2.1, written := (hx (h.inv q)).2.2 }⟩
theorem Confined.upd_led (h : Confined m r s) (hm : Within 16384 m) (x : LedgerCtl)
    (hx : s.Inv → evqUsed x.evq ≤ 1022 ∧ (∀ u, x.turn = some u → evqUsed u.base.evq ≤ 1022)) :
    Confined m r { s with led := x } :=
  ⟨{ h.only with led := OnlyN.free hm (by decide) }, fun q => { h.inv q with evq := (hx (h.inv q)).1, turn := (hx (h.inv q)).2 }⟩
theorem Confined.upd_flt (h : Confined m r s) (hm : Within 32768 m) (x : FaultCtl) :
    Confined m r { s with flt := x } :=
  ⟨{ h.only with flt := OnlyN.free hm (by decide) }, fun q => { h.inv q with }⟩
theorem Confined.upd_field (h : Confined m r s) (hm : Within 134217728 m) (x : FieldX)
    (hx : s.Inv → SMap.wf (fun _ => {}) x.pu = true) :
    Confined m r { s with field := x } :=
  ⟨{ h.only with field := OnlyN.free hm (by decide) }, fun q => { h.inv q with pu := hx (h.inv q) }⟩
theorem Confined.upd_eth (h : Confined m r s) (hm : Within 268435456 m) (x : EthX)
    (hx : s.Inv → SMap.wf (fun _ => {}) x.ports = true ∧ SMap.wf bucketReset x.bucket = true) :
    Confined m r { s with eth := x } :=
  ⟨{ h.only with eth := OnlyN.free hm (by decide) }, fun q => { h.inv q with ports := (hx (h.inv q)).1, bucket := (hx (h.inv q)).2 }⟩
theorem Confined.upd_i2c (h : Confined m r s) (hm : Within 1073741824 m) (x : I2cX) :
    Confined m r { s with i2c := x } :=
  ⟨{ h.only with i2c := OnlyN.free hm (by decide) }, fun q => { h.inv q with }⟩
theorem Confined.upd_bk_start_flt (h : Confined m r s) (hm : Within 35840 m) (x : Backup) (y : StartCtl) (z : FaultCtl)
    (hx : s.Inv → x.fifo.length ≤ 8) : Confined m r { s with bk := x, start := y, flt := z } :=
  ⟨{ h.only with bk := OnlyN.free hm (by decide), start := OnlyN.free hm (by decide), flt := OnlyN.free hm (by decide) },
    fun q => { h.inv q with fifo := hx (h.inv q) }⟩
theorem Confined.upd_start_flt (h : Confined m r s) (hm : Within 34816 m) (y : StartCtl) (z : FaultCtl) :
    Confined m r { s with start := y, flt := z } :=
  ⟨{ h.only with start := OnlyN.free hm (by decide), flt := OnlyN.free hm (by decide) }, fun q => { h.inv q with }⟩
theorem Confined.upd_ntimeH_flash_flt_field (h : Confined m r s) (hm : Within 134254608 m) (n : Nat) (x : FlashCtl) (y : FaultCtl)
    (z : FieldX) (hx : s.Inv → SMap.wf (fun _ => 255) x.cells = true ∧ SMap.wf (fun _ => {}) z.pu = true) :
    Confined m r { s with ntimeH := n, flash := x, flt := y, field := z } :=
  ⟨{ h.only with ntimeH := OnlyN.free hm (by decide), flash := OnlyN.free hm (by decide), flt := OnlyN.free hm (by decide),
                 field := OnlyN.free hm (by decide) },
    fun q => { h.inv q with cells := (hx (h.inv q)).1, pu := (hx (h.inv q)).2 }⟩

/-! ### Operations over operations -/

theorem Confined.ite {c : Prop} [Decidable c] {a b : State} (ha : c → Confined m r a) (hb : ¬c → Confined m r b) :
    Confined m r (if c then a else b) := by
  by_cases h : c
  · rw [if_pos h]; exact ha h
  · rw [if_neg h]; exact hb h

theorem Confined.ite_s {c : Prop} [Decidable c] {a b : Reply} (ha : c → Confined m r a.s) (hb : ¬c → Confined m r b.s) :
    Confined m r (if c then a else b).s := by
  by_cases h : c
  · rw [if_pos h]; exact ha h
  · rw [if_neg h]; exact hb h

theorem ConfinedOut.ite {c : Prop} [Decidable c] {a b : Out} (ha : c → ConfinedOut m r a) (hb : ¬c → ConfinedOut m r b) :
    ConfinedOut m r (if c then a else b) := by
  by_cases h : c
  · rw [if_pos h]; exact ha h
  · rw [if_neg h]; exact hb h

theorem Confined.ite_fst {α : Type} {c : Prop} [Decidable c] {a b : State × α} (ha : c → Confined m r a.1) (hb : ¬c → Confined m r b.1) :
    Confined m r (if c then a else b).1 := by
  by_cases h : c
  · rw [if_pos h]; exact ha h
  · rw [if_neg h]; exact hb h

theorem State.when_confined (h : Confined m r s) (c : Bool) (f : State → State) (hf : ∀ t, Confined m r t → Confined m r (f t)) :
    Confined m r (s.when c f) := by
  unfold State.when; split
  · exact hf _ h
  · exact h

theorem State.each_confined (h : Confined m r s) (n : Nat) (f : Nat → State → State)
    (hf : ∀ k t, Confined m r t → Confined m r (f k t)) : Confined m r (s.each n f) := by
  induction n with
  | zero => exact h
  | succ n ih => exact hf _ _ ih

theorem Confined.foldl {α : Type} (l : List α) (f : State → α → State) (h : Confined m r s)
    (hf : ∀ t a, Confined m r t → Confined m r (f t a)) : Confined m r (l.foldl f s) := by
  induction l generalizing s with
  | nil => exact h
  | cons a l ih => exact ih (hf _ _ h)

theorem State.forAll_confined (h : Confined m r s) (l : List Nat) (f : State → Nat → State)
    (hf : ∀ t a, Confined m r t → Confined m r (f t a)) : Confined m r (s.forAll l f) := Confined.foldl l f h hf

theorem Confined.foldl_fst {α β : Type} (l : List α) (f : State × β → α → State × β) (b : State × β) (h : Confined m r b.1)
    (hf : ∀ t a, Confined m r t.1 → Confined m r (f t a).1) : Confined m r (l.foldl f b).1 := by
  induction l generalizing b with
  | nil => exact h
  | cons a l ih => exact ih _ (hf _ _ h)

theorem Confined.foldr {α : Type} (l : List α) (f : α → State → State) (h : Confined m r s)
    (hf : ∀ a t, Confined m r t → Confined m r (f a t)) : Confined m r (l.foldr f s) := by
  induction l with
  | nil => exact h
  | cons a l ih => exact hf _ _ ih

end Sys2Proof.Machine
end

