-- ==== Sys2Proof/Laws/ConfinedUnits.lean ====
section
/-!
SUPPORT. Laws/ConfinedUnits.lean: one lemma per operation and command of the units, faults and power: the components of the state that it can
change, and that it keeps the invariant (`Confined`).
-/
namespace Sys2Proof.Machine

set_option linter.unusedTactic false
set_option linter.unreachableTactic false
set_option linter.unusedVariables false
set_option linter.tactic.unusedName false

variable {m : Nat} {r s : State}

/-! ### Ops -/

theorem State.modSess_confined (h : Confined m r s) (hm : Within 65536 m) (a0 : Nat) (a1 : Session → Session) :
    Confined m r (State.modSess s a0 a1) := by
  unfold State.modSess
  repeat' first | with_reducible (first | assumption | apply State.setSess_confined) | exact Within.trans (by decide) hm | intro _

theorem State.offerTo_confined (h : Confined m r s) (hm : Within 65536 m) (a0 : Nat) (a1 : Nat) (a2 : Item) :
    Confined m r (State.offerTo s a0 a1 a2) := by
  unfold State.offerTo
  repeat' first
    | with_reducible first
      | assumption | apply Confined.ite | apply State.modSess_confined
    | exact Within.trans (by decide) hm | intro _

theorem State.offer_confined (h : Confined m r s) (hm : Within 65536 m) (a0 : Nat) (a1 : Nat) (a2 : Item) :
    Confined m r (State.offer s a0 a1 a2) := by
  unfold State.offer
  repeat' first
    | with_reducible first
      | assumption | apply Confined.ite | apply State.offerTo_confined
    | exact Within.trans (by decide) hm | intro _

theorem State.setGState_confined (h : Confined m r s) (hm : Within 65538 m) (a0 : Nat) (a1 : Nat) :
    Confined m r (State.setGState s a0 a1) := by
  unfold State.setGState
  repeat' first
    | with_reducible first
      | assumption | apply Confined.ite | apply State.offer_confined | apply State.set_confined
    | exact Within.trans (by decide) hm | intro _

theorem State.modGrp_confined (h : Confined m r s) (hm : Within 524288 m) (a0 : Nat) (a1 : GroupX → GroupX) :
    Confined m r (State.modGrp s a0 a1) := by
  unfold State.modGrp
  repeat' first | with_reducible (first | assumption | apply State.setGrp_confined) | exact Within.trans (by decide) hm | intro _

theorem State.modClave_confined (h : Confined m r s) (hm : Within 4194304 m) (a0 : Nat) (a1 : ClaveX → ClaveX) :
    Confined m r (State.modClave s a0 a1) := by
  unfold State.modClave
  repeat' first | with_reducible (first | assumption | apply State.setClave_confined) | exact Within.trans (by decide) hm | intro _

theorem State.put_confined (h : Confined m r s) (hm : Within 2 m) (a0 : Fld) (a1 : Bool) :
    Confined m r (State.put s a0 a1) := by
  unfold State.put
  repeat' first | with_reducible (first | assumption | apply State.set_confined) | exact Within.trans (by decide) hm | intro _

theorem State.addSat_confined (h : Confined m r s) (hm : Within 2 m) (a0 : Fld) (a1 : Nat) :
    Confined m r (State.addSat s a0 a1) := by
  unfold State.addSat
  repeat' first | with_reducible (first | assumption | apply State.set_confined) | exact Within.trans (by decide) hm | intro _

theorem State.inc_confined (h : Confined m r s) (hm : Within 2 m) (a0 : Fld) :
    Confined m r (State.inc s a0) := by
  unfold State.inc
  repeat' first | with_reducible (first | assumption | apply State.addSat_confined) | exact Within.trans (by decide) hm | intro _

theorem State.modAxis_confined (h : Confined m r s) (hm : Within 1048576 m) (a0 : Nat) (a1 : AxisX → AxisX) :
    Confined m r (State.modAxis s a0 a1) := by
  unfold State.modAxis
  repeat' first | with_reducible (first | assumption | apply State.setAxis_confined) | exact Within.trans (by decide) hm | intro _

theorem State.modCur_confined (h : Confined m r s) (hm : Within 2097152 m) (a0 : Nat) (a1 : CurX → CurX) :
    Confined m r (State.modCur s a0 a1) := by
  unfold State.modCur
  repeat' first | with_reducible (first | assumption | apply State.setCur_confined) | exact Within.trans (by decide) hm | intro _

theorem State.syncEvq_confined (h : Confined m r s) (hm : Within 2 m)  :
    Confined m r (State.syncEvq s) := by
  unfold State.syncEvq
  repeat' first
    | with_reducible first
      | assumption | apply State.put_confined | apply State.set_confined
    | exact Within.trans (by decide) hm | intro _

theorem evqUsed_append (l : List Ev) (e : Ev) : evqUsed (l ++ [e]) = evqUsed l + e.entries := by
  simp [evqUsed]

theorem mergeEv_used (e : Ev) (l r : List Ev) (h : mergeEv e l = some r) : evqUsed r = evqUsed l := by
  induction l generalizing r with
  | nil => simp [mergeEv] at h
  | cons q l ih =>
    simp only [mergeEv] at h
    split at h
    · cases h; simp only [evqUsed, List.map_cons, List.sum_cons] at ih ⊢; rw [ih _ ‹_›]
    · split at h
      · cases h; rfl
      · cases h

/-- However an event is placed, the queue stays within its bound (R527). -/
theorem EvqPart.place_used (now : Nat) (p : EvqPart) (e : Ev) (h : evqUsed p.evq ≤ 1022) : evqUsed (p.place now e).evq ≤ 1022 := by
  unfold EvqPart.place
  split
  · rw [evqUsed_append]; assumption
  · split
    · rename_i hq; rw [mergeEv_used _ _ _ hq]; exact h
    · exact h

theorem EvqPart.foldl_place_used (now : Nat) (l : List Ev) (p : EvqPart) (h : evqUsed p.evq ≤ 1022) :
    evqUsed (l.foldl (EvqPart.place now) p).evq ≤ 1022 := by
  induction l generalizing p with
  | nil => exact h
  | cons e l ih => exact ih _ (EvqPart.place_used now p e h)

/-- The queue that the present clock found is within its bound. -/
theorem State.Inv.evqTurn_used (h : s.Inv) : evqUsed s.evqTurn.base.evq ≤ 1022 := by
  unfold State.evqTurn
  split
  · rename_i t ht
    split
    · exact h.turn t ht
    · exact h.evq
  · exact h.evq

theorem State.post_confined (h : Confined m r s) (hm : Within 16386 m) (e : Ev) : Confined m r (s.post e) := by
  have hs : Within 2 m := Within.trans (by decide) hm
  unfold State.post
  split
  · exact h
  · extract_lets t l p0 p q s1 s2
    have h1 : Confined m r s1 := State.syncEvq_confined (Confined.upd_led h (Within.trans (by decide) hm) _ fun hi =>
      ⟨EvqPart.foldl_place_used _ _ _ hi.evqTurn_used, fun u hu => by injection hu with hu; rw [← hu]; exact hi.evqTurn_used⟩) hs
    have h2 : Confined m r s2 := Confined.ite (fun _ => h1) (fun _ => State.set_confined h1 hs _ _)
    exact Confined.ite (fun _ => h2) (fun _ => State.forAll_confined h2 _ _ fun _ _ h => State.set_confined h hs _ _)

theorem State.event_confined (h : Confined m r s) (hm : Within 16386 m) (a0 : Nat) (a1 : Nat) (a2 : Nat) (a3 : Bool) (a4 : List Byte) :
    Confined m r (State.event s a0 a1 a2 a3 a4) := by
  unfold State.event
  repeat' first | with_reducible (first | assumption | apply State.post_confined) | exact Within.trans (by decide) hm | intro _

theorem State.wrLE_confined (h : Confined m r s) (hm : Within 4 m) (a0 : Nat) (a1 : Nat) (a2 : Nat) :
    Confined m r (State.wrLE s a0 a1 a2) := by
  unfold State.wrLE
  repeat' first | with_reducible (first | assumption | apply State.wrBytes_confined) | exact Within.trans (by decide) hm | intro _

theorem State.modEng_confined (h : Confined m r s) (hm : Within 262144 m) (a0 : Nat) (a1 : EngX → EngX) :
    Confined m r (State.modEng s a0 a1) := by
  unfold State.modEng
  repeat' first | with_reducible (first | assumption | apply State.setEng_confined) | exact Within.trans (by decide) hm | intro _

theorem State.warn_confined (h : Confined m r s) (hm : Within 16386 m) (a0 : Nat) (a1 : Nat) (a2 : Bool) (a3 : List Byte) :
    Confined m r (State.warn s a0 a1 a2 a3) := by
  unfold State.warn
  repeat' first | with_reducible (first | assumption | apply State.event_confined) | exact Within.trans (by decide) hm | intro _

theorem State.draw_confined (h : Confined m r s) (hm : Within 32 m)  :
    Confined m r (State.draw s) := by
  unfold State.draw
  repeat' first
    | with_reducible first
      | assumption
    | exact Within.trans (by decide) hm | intro _ | with_reducible apply Confined.upd_drawn

theorem State.modHo_confined (h : Confined m r s) (hm : Within 8388608 m) (a0 : Nat) (a1 : HoX → HoX) :
    Confined m r (State.modHo s a0 a1) := by
  unfold State.modHo
  repeat' first | with_reducible (first | assumption | apply State.setHo_confined) | exact Within.trans (by decide) hm | intro _

theorem State.info_confined (h : Confined m r s) (hm : Within 16386 m) (a0 : Nat) (a1 : Nat) (a2 : Bool) (a3 : List Byte) :
    Confined m r (State.info s a0 a1 a2 a3) := by
  unfold State.info
  repeat' first | with_reducible (first | assumption | apply State.event_confined) | exact Within.trans (by decide) hm | intro _

theorem State.modCan_confined (h : Confined m r s) (hm : Within 536870912 m) (a0 : Nat) (a1 : CanX → CanX) :
    Confined m r (State.modCan s a0 a1) := by
  unfold State.modCan
  repeat' first | with_reducible (first | assumption | apply State.setCan_confined) | exact Within.trans (by decide) hm | intro _

theorem State.modFb_confined (h : Confined m r s) (hm : Within 33554432 m) (a0 : Nat) (a1 : FbX → FbX) :
    Confined m r (State.modFb s a0 a1) := by
  unfold State.modFb
  repeat' first | with_reducible (first | assumption | apply State.setFb_confined) | exact Within.trans (by decide) hm | intro _

theorem State.eccHeal_confined (h : Confined m r s) (hm : Within 32768 m) (a0 : Nat) (a1 : Nat) :
    Confined m r (State.eccHeal s a0 a1) := by
  unfold State.eccHeal
  repeat' first
    | with_reducible first
      | assumption
    | exact Within.trans (by decide) hm | intro _ | with_reducible apply Confined.upd_flt

theorem State.modSnare_confined (h : Confined m r s) (hm : Within 16777216 m) (a0 : Nat) (a1 : SnareX → SnareX) :
    Confined m r (State.modSnare s a0 a1) := by
  unfold State.modSnare
  repeat' first | with_reducible (first | assumption | apply State.setSnare_confined) | exact Within.trans (by decide) hm | intro _

theorem State.setI_confined (h : Confined m r s) (hm : Within 2 m) (a0 : Fld) (a1 : Int) :
    Confined m r (State.setI s a0 a1) := by
  unfold State.setI
  repeat' first | with_reducible (first | assumption | apply State.set_confined) | exact Within.trans (by decide) hm | intro _

theorem State.setBk_confined (h : Confined m r s) (hm : Within 2 m) (a0 : Nat) (a1 : Nat) :
    Confined m r (State.setBk s a0 a1) := by
  unfold State.setBk
  repeat' first
    | with_reducible first
      | assumption | apply Confined.ite | apply State.set_confined
    | exact Within.trans (by decide) hm | intro _

theorem State.sealEvq_confined (h : Confined m r s) (hm : Within 16384 m) : Confined m r s.sealEvq :=
  Confined.upd_led h hm _ fun hi => ⟨hi.evq, fun _ hu => by cases hu⟩

theorem State.hold30_confined (h : Confined m r s) (hm : Within 2050 m)  :
    Confined m r (State.hold30 s) := by
  unfold State.hold30
  repeat' first
    | with_reducible first
      | assumption | apply Confined.ite | apply State.set_confined
    | exact Within.trans (by decide) hm | intro _ | with_reducible apply Confined.upd_start

theorem State.tick_confined (h : Confined m r s) (hm : Within 268438554 m) : Confined m r s.tick := by
  have h0 : Confined m r { s with bk := s.bk.tick } := Confined.upd_bk h (Within.trans (by decide) hm) _ fun hi => by
    unfold Backup.tick; split <;> exact hi.fifo
  unfold State.tick
  refine Confined.ite (fun _ => ?_) (fun _ => h0)
  have h1 := State.hold30_confined h0 (Within.trans (by decide) hm)
  exact ⟨{ h1.only with
    clk := OnlyN.free hm (by decide), ntimeH := OnlyN.free hm (by decide), eth := OnlyN.free hm (by decide) },
    fun q => { h1.inv q with ports := (h1.inv q).ports, bucket := (h1.inv q).bucket }⟩

/-! ### Units -/

theorem State.hoPut_confined (h : Confined m r s) (hm : Within 2 m) (a0 : Nat) (a1 : Bool) :
    Confined m r (State.hoPut s a0 a1) := by
  unfold State.hoPut
  repeat' first
    | with_reducible first
      | assumption | apply Confined.ite | apply State.put_confined | apply State.set_confined
    | exact Within.trans (by decide) hm | intro _
    | (extract_lets +onlyGivenNames x; first | (refine Confined.cut (?_ : Confined m r x) ?_; subst x; rotate_left; intro hx; clear_value x) | (have hx := x; clear hx))
    | split

theorem State.hoTurnOff_confined (h : Confined m r s) (hm : Within 8388610 m) (a0 : Nat) :
    Confined m r (State.hoTurnOff s a0) := by
  unfold State.hoTurnOff
  repeat' first
    | with_reducible first
      | assumption | apply State.setHo_confined | apply State.hoPut_confined
    | exact Within.trans (by decide) hm | intro _

theorem State.setDoOn_confined (h : Confined m r s) (hm : Within 4194304 m) (a0 : Nat) (a1 : Nat) (a2 : Bool) :
    Confined m r (State.setDoOn s a0 a1 a2) := by
  unfold State.setDoOn
  repeat' first | with_reducible (first | assumption | apply State.modClave_confined) | exact Within.trans (by decide) hm | intro _

theorem State.doSend_confined (h : Confined m r s) (hm : Within 138412034 m) (a0 : Nat) (a1 : Bool) (a2 : Option Nat) :
    Confined m r (State.doSend s a0 a1 a2) := by
  unfold State.doSend
  extract_lets c
  split
  · exact Confined.upd_field (State.put_confined h (Within.trans (by decide) hm) _ _) (Within.trans (by decide) hm) _ fun hi => hi.pu
  · refine Confined.ite (fun _ => ?_) (fun _ => State.inc_confined h (Within.trans (by decide) hm) _)
    exact Confined.upd_field (State.setDoOn_confined h (Within.trans (by decide) hm) _ _ _) (Within.trans (by decide) hm) _ fun hi => hi.pu

theorem State.claveOff_confined (h : Confined m r s) (hm : Within 146800642 m) (a0 : Nat) :
    Confined m r (State.claveOff s a0) := by
  unfold State.claveOff
  repeat' first
    | with_reducible first
      | assumption | apply Confined.ite | apply State.modClave_confined | apply State.forAll_confined | apply State.set_confined
      | apply State.hoTurnOff_confined | apply State.doSend_confined
    | exact Within.trans (by decide) hm | intro _

theorem State.dropFollow_confined (h : Confined m r s) (hm : Within 1048578 m) (a0 : Nat) :
    Confined m r (State.dropFollow s a0) := by
  unfold State.dropFollow
  repeat' first
    | with_reducible first
      | assumption | apply State.modAxis_confined | apply State.set_confined
    | exact Within.trans (by decide) hm | intro _

theorem State.dropCoupling_confined (h : Confined m r s) (hm : Within 1048578 m) (a0 : Nat) :
    Confined m r (State.dropCoupling s a0) := by
  unfold State.dropCoupling
  repeat' first
    | with_reducible first
      | assumption | apply State.modAxis_confined | apply State.set_confined
    | exact Within.trans (by decide) hm | intro _

theorem State.dropPlans_confined (h : Confined m r s) (hm : Within 1048578 m) (a0 : Nat) :
    Confined m r (State.dropPlans s a0) := by
  unfold State.dropPlans
  repeat' first
    | with_reducible first
      | assumption | apply State.modAxis_confined | apply State.set_confined | apply State.dropFollow_confined
      | apply State.dropCoupling_confined
    | exact Within.trans (by decide) hm | intro _

theorem State.unpower_confined (h : Confined m r s) (hm : Within 1048578 m) (a0 : Nat) :
    Confined m r (State.unpower s a0) := by
  unfold State.unpower
  repeat' first
    | with_reducible first
      | assumption | apply State.dropPlans_confined | apply State.set_confined
    | exact Within.trans (by decide) hm | intro _

theorem State.setEnable_confined (h : Confined m r s) (hm : Within 2 m) (a0 : Nat) (a1 : Bool) :
    Confined m r (State.setEnable s a0 a1) := by
  unfold State.setEnable
  repeat' first | with_reducible (first | assumption | apply State.put_confined) | exact Within.trans (by decide) hm | intro _

theorem State.setPwm_confined (h : Confined m r s) (hm : Within 2097152 m) (a0 : Nat) (a1 : Nat) :
    Confined m r (State.setPwm s a0 a1) := by
  unfold State.setPwm
  repeat' first | with_reducible (first | assumption | apply State.modCur_confined) | exact Within.trans (by decide) hm | intro _

theorem State.guardEnd_confined (h : Confined m r s) (hm : Within 3145730 m) (a0 : Nat) :
    Confined m r (State.guardEnd s a0) := by
  unfold State.guardEnd
  repeat' first
    | with_reducible first
      | assumption | apply State.modAxis_confined | apply State.set_confined | apply State.setEnable_confined
      | apply State.setPwm_confined
    | exact Within.trans (by decide) hm | intro _

theorem State.cellToOff_confined (h : Confined m r s) (hm : Within 2097154 m) (a0 : Nat) :
    Confined m r (State.cellToOff s a0) := by
  unfold State.cellToOff
  repeat' first
    | with_reducible first
      | assumption | apply Confined.ite | apply State.modCur_confined | apply State.set_confined
    | exact Within.trans (by decide) hm | intro _

theorem State.guardLocal_confined (h : Confined m r s) (hm : Within 3145730 m) (a0 : Nat) (a1 : Nat) :
    Confined m r (State.guardLocal s a0 a1) := by
  unfold State.guardLocal
  repeat' first
    | with_reducible first
      | assumption | apply Confined.ite | apply State.guardEnd_confined | apply State.setEnable_confined | apply State.setPwm_confined
      | apply State.cellToOff_confined | apply State.unpower_confined | apply State.modAxis_confined
    | exact Within.trans (by decide) hm | intro _

theorem State.guardAxis_confined (h : Confined m r s) (hm : Within 3145730 m) (a0 : Nat) :
    Confined m r (State.guardAxis s a0) := by
  unfold State.guardAxis
  repeat' first
    | with_reducible first
      | assumption | apply Confined.ite | apply State.unpower_confined | apply State.guardLocal_confined
    | exact Within.trans (by decide) hm | intro _

theorem State.dropPath_confined (h : Confined m r s) (hm : Within 524290 m) (a0 : Nat) :
    Confined m r (State.dropPath s a0) := by
  unfold State.dropPath
  repeat' first
    | with_reducible first
      | assumption | apply State.set_confined | apply State.modGrp_confined
    | exact Within.trans (by decide) hm | intro _

theorem State.discard_confined (h : Confined m r s) (hm : Within 1572866 m) (a0 : Nat) :
    Confined m r (State.discard s a0) := by
  unfold State.discard
  repeat' first
    | with_reducible first
      | assumption | apply State.dropPath_confined | apply State.forAll_confined | apply State.dropPlans_confined
    | exact Within.trans (by decide) hm | intro _

theorem State.disarmSnare_confined (h : Confined m r s) (hm : Within 16777218 m) (a0 : Nat) :
    Confined m r (State.disarmSnare s a0) := by
  unfold State.disarmSnare
  repeat' first
    | with_reducible first
      | assumption | apply Confined.ite | apply State.inc_confined | apply State.setSnare_confined | apply State.set_confined
    | exact Within.trans (by decide) hm | intro _

theorem State.addCause_confined (h : Confined m r s) (hm : Within 2 m) (a0 : Nat) (a1 : Nat) :
    Confined m r (State.addCause s a0 a1) := by
  unfold State.addCause
  repeat' first | with_reducible (first | assumption | apply State.set_confined) | exact Within.trans (by decide) hm | intro _

theorem State.raiseCause_confined (h : Confined m r s) (hm : Within 2 m) (a0 : Nat) (a1 : Nat) :
    Confined m r (State.raiseCause s a0 a1) := by
  unfold State.raiseCause
  repeat' first
    | with_reducible first
      | assumption | apply Confined.ite | apply State.addCause_confined
    | exact Within.trans (by decide) hm | intro _
    | (extract_lets +onlyGivenNames x; first | (refine Confined.cut (?_ : Confined m r x) ?_; subst x; rotate_left; intro hx; clear_value x) | (have hx := x; clear hx))
    | split

theorem State.hoTurnOn_confined (h : Confined m r s) (hm : Within 8388610 m) (a0 : Nat) (a1 : Int) (a2 : Bool) :
    Confined m r (State.hoTurnOn s a0 a1 a2) := by
  unfold State.hoTurnOn
  repeat' first
    | with_reducible first
      | assumption | apply State.setHo_confined | apply State.hoPut_confined
    | exact Within.trans (by decide) hm | intro _

theorem State.armSnare_confined (h : Confined m r s) (hm : Within 16777218 m) (a0 : Nat) (a1 : Bool) :
    Confined m r (State.armSnare s a0 a1) := by
  unfold State.armSnare
  repeat' first
    | with_reducible first
      | assumption | apply Confined.ite | apply State.put_confined | apply State.set_confined | apply State.modSnare_confined
    | exact Within.trans (by decide) hm | intro _

theorem State.powerUpEnd_confined (h : Confined m r s) (hm : Within 1048578 m) (a0 : Nat) :
    Confined m r (State.powerUpEnd s a0) := by
  unfold State.powerUpEnd
  repeat' first
    | with_reducible first
      | assumption | apply State.modAxis_confined | apply State.set_confined
    | exact Within.trans (by decide) hm | intro _

theorem State.cellEnterRun_confined (h : Confined m r s) (hm : Within 3145730 m) (a0 : Nat) :
    Confined m r (State.cellEnterRun s a0) := by
  unfold State.cellEnterRun
  repeat' first
    | with_reducible first
      | assumption | apply Confined.ite | apply State.powerUpEnd_confined | apply State.modAxis_confined | apply State.set_confined
      | apply State.modCur_confined | apply State.setPwm_confined
    | exact Within.trans (by decide) hm | intro _

theorem State.powerUp_confined (h : Confined m r s) (hm : Within 3145730 m) (a0 : Nat) :
    Confined m r (State.powerUp s a0) := by
  unfold State.powerUp
  repeat' first
    | with_reducible first
      | assumption | apply Confined.ite | apply State.put_confined | apply State.cellEnterRun_confined | apply State.modAxis_confined
      | apply State.setPwm_confined | apply State.set_confined | apply State.setEnable_confined
    | exact Within.trans (by decide) hm | intro _

theorem State.powerDownEnd_confined (h : Confined m r s) (hm : Within 3145730 m) (a0 : Nat) :
    Confined m r (State.powerDownEnd s a0) := by
  unfold State.powerDownEnd
  repeat' first
    | with_reducible first
      | assumption | apply State.modAxis_confined | apply State.setEnable_confined | apply State.setPwm_confined
      | apply State.cellToOff_confined
    | exact Within.trans (by decide) hm | intro _

theorem State.powerDown_confined (h : Confined m r s) (hm : Within 3145730 m) (a0 : Nat) :
    Confined m r (State.powerDown s a0) := by
  unfold State.powerDown
  repeat' first
    | with_reducible first
      | assumption | apply Confined.ite | apply State.unpower_confined | apply State.powerDownEnd_confined
      | apply State.modAxis_confined | apply State.set_confined
    | exact Within.trans (by decide) hm | intro _

/-! ### Faults -/

theorem State.enterFault_confined (h : Confined m r s) (hm : Within 165216258 m) (a0 : Nat) :
    Confined m r (State.enterFault s a0) := by
  unfold State.enterFault
  repeat' first
    | with_reducible first
      | assumption | apply State.modGrp_confined | apply State.set_confined | apply State.forAll_confined
      | apply State.claveOff_confined | apply State.discard_confined | apply State.setGState_confined | apply State.disarmSnare_confined
    | exact Within.trans (by decide) hm | intro _

theorem State.guardGroup_confined (h : Confined m r s) (hm : Within 167313410 m) (a0 : Nat) :
    Confined m r (State.guardGroup s a0) := by
  unfold State.guardGroup
  repeat' first
    | with_reducible first
      | assumption | apply State.set_confined | apply State.enterFault_confined | apply State.forAll_confined
      | apply State.guardAxis_confined
    | exact Within.trans (by decide) hm | intro _

theorem State.stopGroup_confined (h : Confined m r s) (hm : Within 589826 m) (a0 : Nat) (a1 : Nat) :
    Confined m r (State.stopGroup s a0 a1) := by
  unfold State.stopGroup
  repeat' first
    | with_reducible first
      | assumption | apply State.modGrp_confined | apply State.set_confined | apply State.setGState_confined
    | exact Within.trans (by decide) hm | intro _

theorem State.react_confined (h : Confined m r s) (hm : Within 167313410 m) (a0 : Nat) (a1 : Nat) :
    Confined m r (State.react s a0 a1) := by
  unfold State.react
  repeat' first
    | with_reducible first
      | assumption | apply Confined.ite | apply State.modGrp_confined | apply State.set_confined | apply State.forAll_confined
      | apply State.guardAxis_confined | apply State.guardGroup_confined | apply State.stopGroup_confined
    | exact Within.trans (by decide) hm | intro _

theorem State.safeHold_confined (h : Confined m r s) (hm : Within 167313410 m) (a0 : Nat) :
    Confined m r (State.safeHold s a0) := by
  unfold State.safeHold
  repeat' first
    | with_reducible first
      | assumption | apply State.forAll_confined | apply State.set_confined | apply State.claveOff_confined | apply State.react_confined
    | exact Within.trans (by decide) hm | intro _

theorem State.history_confined (h : Confined m r s) (hm : Within 2 m) (a0 : Nat) :
    Confined m r (State.history s a0) := by
  unfold State.history
  repeat' first | with_reducible (first | assumption | apply State.set_confined) | exact Within.trans (by decide) hm | intro _

theorem State.firstDevice_confined (h : Confined m r s) (hm : Within 2 m) (a0 : Nat) :
    Confined m r (State.firstDevice s a0) := by
  unfold State.firstDevice
  repeat' first
    | with_reducible first
      | assumption | apply Confined.ite | apply State.set_confined
    | exact Within.trans (by decide) hm | intro _

theorem State.recordDevice_confined (h : Confined m r s) (hm : Within 16386 m) (a0 : Nat) (a1 : Nat) (a2 : Nat) :
    Confined m r (State.recordDevice s a0 a1 a2) := by
  unfold State.recordDevice
  repeat' first
    | with_reducible first
      | assumption | apply State.event_confined | apply State.history_confined | apply State.set_confined
      | apply State.firstDevice_confined | apply State.inc_confined
    | exact Within.trans (by decide) hm | intro _

theorem State.raiseDevice_confined (h : Confined m r s) (hm : Within 167329794 m) (a0 : Nat) (a1 : Nat) :
    Confined m r (State.raiseDevice s a0 a1) := by
  unfold State.raiseDevice
  repeat' first
    | with_reducible first
      | assumption | apply Confined.ite | apply State.safeHold_confined | apply State.recordDevice_confined
    | exact Within.trans (by decide) hm | intro _

theorem State.firstGroup_confined (h : Confined m r s) (hm : Within 2 m) (a0 : Nat) (a1 : Nat) (a2 : Nat) (a3 : Nat) :
    Confined m r (State.firstGroup s a0 a1 a2 a3) := by
  unfold State.firstGroup
  repeat' first
    | with_reducible first
      | assumption | apply Confined.ite | apply State.set_confined
    | exact Within.trans (by decide) hm | intro _

theorem State.recordGroup_confined (h : Confined m r s) (hm : Within 16386 m) (a0 : Nat) (a1 : Nat) (a2 : Nat) (a3 : Nat) (a4 : Nat) :
    Confined m r (State.recordGroup s a0 a1 a2 a3 a4) := by
  unfold State.recordGroup
  repeat' first
    | with_reducible first
      | assumption | apply Confined.ite | apply State.event_confined | apply State.set_confined | apply State.firstGroup_confined
      | apply State.inc_confined
    | exact Within.trans (by decide) hm | intro _

theorem State.raiseGroup_confined (h : Confined m r s) (hm : Within 167329794 m) (a0 : Nat) (a1 : Nat) (a2 : Nat) (a3 : Nat) :
    Confined m r (State.raiseGroup s a0 a1 a2 a3) := by
  unfold State.raiseGroup
  repeat' first
    | with_reducible first
      | assumption | apply State.react_confined | apply State.recordGroup_confined
    | exact Within.trans (by decide) hm | intro _

theorem State.raiseFor_confined (h : Confined m r s) (hm : Within 167329794 m) (a0 : Option Nat) (a1 : Nat) (a2 : Nat) (a3 : Nat) :
    Confined m r (State.raiseFor s a0 a1 a2 a3) := by
  unfold State.raiseFor
  repeat' first
    | with_reducible first
      | assumption | apply Confined.ite | apply State.raiseGroup_confined
    | exact Within.trans (by decide) hm | intro _ | split

theorem State.syncValid_confined (h : Confined m r s) (hm : Within 2 m) (a0 : Nat) :
    Confined m r (State.syncValid s a0) := by
  unfold State.syncValid
  repeat' first | with_reducible (first | assumption | apply State.put_confined) | exact Within.trans (by decide) hm | intro _

theorem State.clearPort_confined (h : Confined m r s) (hm : Within 33554434 m) (a0 : Nat) :
    Confined m r (State.clearPort s a0) := by
  unfold State.clearPort
  repeat' first
    | with_reducible first
      | assumption | apply Confined.ite | apply State.syncValid_confined | apply State.modFb_confined | apply State.set_confined
    | exact Within.trans (by decide) hm | intro _

theorem State.doLevel_confined (h : Confined m r s) (hm : Within 2 m) (a0 : Nat) (a1 : Bool) :
    Confined m r (State.doLevel s a0 a1) := by
  unfold State.doLevel
  repeat' first
    | with_reducible first
      | assumption | apply State.forAll_confined | apply State.put_confined
    | exact Within.trans (by decide) hm | intro _

theorem State.clearTrip_confined (h : Confined m r s) (hm : Within 2 m) (a0 : Nat) :
    Confined m r (State.clearTrip s a0) := by
  unfold State.clearTrip
  repeat' first
    | with_reducible first
      | assumption | apply Confined.ite | apply State.doLevel_confined | apply State.set_confined
    | exact Within.trans (by decide) hm | intro _

theorem State.clearFree_confined (h : Confined m r s) (hm : Within 33554434 m)  :
    Confined m r (State.clearFree s) := by
  unfold State.clearFree
  repeat' first
    | with_reducible first
      | assumption | apply State.forAll_confined | apply State.clearPort_confined | apply State.clearTrip_confined
    | exact Within.trans (by decide) hm | intro _

theorem State.enterDisabled_confined (h : Confined m r s) (hm : Within 18415618 m) (a0 : Nat) :
    Confined m r (State.enterDisabled s a0) := by
  unfold State.enterDisabled
  repeat' first
    | with_reducible first
      | assumption | apply State.modGrp_confined | apply State.set_confined | apply State.forAll_confined | apply State.discard_confined
      | apply State.setGState_confined | apply State.disarmSnare_confined
    | exact Within.trans (by decide) hm | intro _

theorem State.clearCell_confined (h : Confined m r s) (hm : Within 2 m) (a0 : Nat) :
    Confined m r (State.clearCell s a0) := by
  unfold State.clearCell
  repeat' first
    | with_reducible first
      | assumption | apply Confined.ite | apply State.forAll_confined | apply State.set_confined
    | exact Within.trans (by decide) hm | intro _

theorem State.clearGroup_confined (h : Confined m r s) (hm : Within 51970050 m) (a0 : Nat) :
    Confined m r (State.clearGroup s a0) := by
  unfold State.clearGroup
  repeat' first
    | with_reducible first
      | assumption | apply Confined.ite | apply State.enterDisabled_confined | apply State.forAll_confined | apply State.set_confined
      | apply State.clearCell_confined | apply State.clearPort_confined | apply State.clearTrip_confined
    | exact Within.trans (by decide) hm | intro _

theorem State.sourceLoss_confined (h : Confined m r s) (hm : Within 167329794 m) (a0 : Nat) :
    Confined m r (State.sourceLoss s a0) := by
  unfold State.sourceLoss
  repeat' first
    | with_reducible first
      | assumption | apply Confined.ite | apply State.raiseGroup_confined | apply State.modClave_confined
      | apply State.claveOff_confined | apply State.set_confined
    | exact Within.trans (by decide) hm | intro _

theorem State.sourceLossAll_confined (h : Confined m r s) (hm : Within 167329794 m)  :
    Confined m r (State.sourceLossAll s) := by
  unfold State.sourceLossAll
  repeat' first
    | with_reducible first
      | assumption | apply State.forAll_confined | apply State.sourceLoss_confined
    | exact Within.trans (by decide) hm | intro _

/-! ### Power -/

theorem State.enginesOff_confined (h : Confined m r s) (hm : Within 262146 m)  :
    Confined m r (State.enginesOff s) := by
  unfold State.enginesOff
  repeat' first
    | with_reducible first
      | assumption | apply State.forAll_confined | apply State.modEng_confined | apply State.set_confined
    | exact Within.trans (by decide) hm | intro _

theorem State.outputsOff_confined (h : Confined m r s) (hm : Within 11534338 m)  :
    Confined m r (State.outputsOff s) := by
  unfold State.outputsOff
  repeat' first
    | with_reducible first
      | assumption | apply State.forAll_confined | apply State.modAxis_confined | apply State.modCur_confined | apply State.set_confined
      | apply State.setHo_confined | apply State.hoPut_confined
    | exact Within.trans (by decide) hm | intro _

theorem execSupplyLow_confined (h : Confined m r s) (hm : Within 167362562 m) (a0 : BitVec 16) :
    ConfinedOut m r (execSupplyLow a0 s) := by
  unfold execSupplyLow
  repeat' first
    | with_reducible first
      | assumption | apply Confined.ite | apply ConfinedOut.ite | apply ConfinedOut.next | apply State.raiseDevice_confined
      | apply State.set_confined
    | exact Within.trans (by decide) hm | intro _ | with_reducible apply Confined.upd_flt

theorem execSupplyLowEnd_confined (h : Confined m r s) (hm : Within 32770 m) (a0 : BitVec 16) :
    ConfinedOut m r (execSupplyLowEnd a0 s) := by
  unfold execSupplyLowEnd
  repeat' first
    | with_reducible first
      | assumption | apply Confined.ite | apply ConfinedOut.ite | apply ConfinedOut.next | apply State.set_confined
    | exact Within.trans (by decide) hm | intro _ | with_reducible apply Confined.upd_flt

theorem execVmainSample_confined (h : Confined m r s) (hm : Within 32770 m) (a0 : BitVec 16) :
    ConfinedOut m r (execVmainSample a0 s) := by
  unfold execVmainSample
  repeat' first
    | with_reducible first
      | assumption | apply Confined.ite | apply ConfinedOut.ite | apply ConfinedOut.next | apply State.put_confined
      | apply State.set_confined
    | exact Within.trans (by decide) hm | intro _ | with_reducible apply Confined.upd_flt

theorem State.bkPush_confined (h : Confined m r s) (hm : Within 1026 m) (a0 : Nat) (a1 : Bool) :
    Confined m r (State.bkPush s a0 a1) := by
  unfold State.bkPush
  refine Confined.ite (fun hf => ?_) (fun _ => State.inc_confined h (Within.trans (by decide) hm) _)
  exact Confined.upd_bk h (Within.trans (by decide) hm) _ fun _ => by simpa using hf

theorem State.wakeEnd_confined (h : Confined m r s) (hm : Within 2 m)  :
    Confined m r (State.wakeEnd s) := by
  unfold State.wakeEnd
  repeat' first | with_reducible (first | assumption | apply State.set_confined) | exact Within.trans (by decide) hm | intro _

theorem execRailFall_confined (h : Confined m r s) (hm : Within 11832322 m)  :
    ConfinedOut m r (execRailFall s) := by
  unfold execRailFall
  repeat' first
    | with_reducible first
      | assumption | apply Confined.ite | apply ConfinedOut.ite | apply ConfinedOut.next | apply State.bkPush_confined
      | apply State.set_confined | apply State.enginesOff_confined | apply State.outputsOff_confined | apply State.wakeEnd_confined
    | exact Within.trans (by decide) hm
    | with_reducible (first | exact fun (h : State.Inv _) => h.fifo)
    | intro _ | with_reducible apply Confined.upd_bk_start_flt

theorem execRailReturn_confined (h : Confined m r s) (hm : Within 1026 m)  :
    ConfinedOut m r (execRailReturn s) := by
  unfold execRailReturn
  repeat' first
    | with_reducible first
      | assumption | apply Confined.ite | apply ConfinedOut.ite | apply ConfinedOut.next | apply State.bkPush_confined
    | exact Within.trans (by decide) hm
    | with_reducible (first | exact fun (h : State.Inv _) => h.fifo)
    | intro _ | with_reducible apply Confined.upd_bk

theorem State.vbakShow_confined (h : Confined m r s) (hm : Within 2 m) (a0 : Nat) :
    Confined m r (State.vbakShow s a0) := by
  unfold State.vbakShow
  repeat' first
    | with_reducible first
      | assumption | apply State.put_confined | apply State.set_confined
    | exact Within.trans (by decide) hm | intro _

theorem execVbakMeasure_confined (h : Confined m r s) (hm : Within 16386 m) (a0 : BitVec 16) :
    ConfinedOut m r (execVbakMeasure a0 s) := by
  unfold execVbakMeasure
  repeat' first
    | with_reducible first
      | assumption | apply Confined.ite | apply ConfinedOut.ite | apply ConfinedOut.next | apply State.warn_confined
      | apply State.vbakShow_confined
    | exact Within.trans (by decide) hm | intro _

theorem execRtcLoadTick_confined (h : Confined m r s) (hm : Within 1026 m)  :
    ConfinedOut m r (execRtcLoadTick s) := by
  unfold execRtcLoadTick
  repeat' first
    | with_reducible first
      | assumption | apply Confined.ite | apply ConfinedOut.ite | apply ConfinedOut.next | apply State.set_confined
    | exact Within.trans (by decide) hm
    | with_reducible (first | exact fun (h : State.Inv _) => h.fifo)
    | intro _ | with_reducible apply Confined.upd_bk

theorem execRtcSync_confined (h : Confined m r s) (hm : Within 1024 m)  :
    ConfinedOut m r (execRtcSync s) := by
  unfold execRtcSync
  repeat' first
    | with_reducible first
      | assumption | apply Confined.ite | apply ConfinedOut.ite | apply ConfinedOut.next
    | exact Within.trans (by decide) hm
    | with_reducible (first | exact fun (h : State.Inv _) => h.fifo)
    | intro _ | with_reducible apply Confined.upd_bk

theorem State.strobe_confined (h : Confined m r s) (hm : Within 1026 m) (a0 : Nat) (a1 : Bool) :
    Confined m r (State.strobe s a0 a1) := by
  have hs : Within 2 m := Within.trans (by decide) hm
  have hb : Within 1024 m := Within.trans (by decide) hm
  have hc : ∀ c, Confined m r { s with bk := { s.bk with cand := s.bk.cand.set a0 c } } := fun _ => Confined.upd_bk h hb _ fun q => q.fifo
  unfold State.strobe
  refine Confined.ite (fun _ => hc _) fun _ => Confined.ite (fun _ => hc _) fun _ => Confined.ite (fun _ => ?_) fun _ => hc _
  have hp := State.put_confined (hc none) hs (Reg.SYS_CMP_CFG_STATE a0) a1
  refine Confined.ite (fun _ => ?_) fun _ => hp
  have hk := State.bkPush_confined hp hm a0 a1
  exact Confined.ite (fun _ => State.set_confined hk hs _ _) fun _ => hk

theorem execComparatorStrobe_confined (h : Confined m r s) (hm : Within 1026 m) (a0 : BitVec 4) :
    ConfinedOut m r (execComparatorStrobe a0 s) := by
  unfold execComparatorStrobe
  repeat' first
    | with_reducible first
      | assumption | apply ConfinedOut.next | apply State.forAll_confined | apply State.strobe_confined
    | exact Within.trans (by decide) hm | intro _

theorem execSeqWatchdog_confined (h : Confined m r s) (hm : Within 11798530 m)  :
    ConfinedOut m r (execSeqWatchdog s) := by
  unfold execSeqWatchdog
  repeat' first
    | with_reducible first
      | assumption | apply Confined.ite | apply ConfinedOut.ite | apply ConfinedOut.next | apply State.set_confined
      | apply State.enginesOff_confined | apply State.outputsOff_confined | apply State.history_confined | apply State.inc_confined
    | exact Within.trans (by decide) hm | intro _ | with_reducible apply Confined.upd_start

theorem execClockLoss_confined (h : Confined m r s) (hm : Within 167348226 m)  :
    ConfinedOut m r (execClockLoss s) := by
  unfold execClockLoss
  repeat' first
    | with_reducible first
      | assumption | apply Confined.ite | apply ConfinedOut.ite | apply ConfinedOut.next | apply State.history_confined
      | apply State.safeHold_confined | apply State.set_confined | apply State.firstDevice_confined | apply State.inc_confined
      | apply State.forAll_confined | apply State.guardLocal_confined
    | exact Within.trans (by decide) hm | intro _
    | with_reducible (first | apply Confined.upd_flt | apply Confined.upd_start_flt)

theorem execOverTemp_confined (h : Confined m r s) (hm : Within 167362562 m) (a0 : BitVec 16) :
    ConfinedOut m r (execOverTemp a0 s) := by
  unfold execOverTemp
  repeat' first
    | with_reducible first
      | assumption | apply Confined.ite | apply ConfinedOut.ite | apply ConfinedOut.next | apply State.raiseDevice_confined
      | apply State.put_confined | apply State.set_confined
    | exact Within.trans (by decide) hm | intro _ | with_reducible apply Confined.upd_flt

theorem State.hwCut_confined (h : Confined m r s) (hm : Within 2097154 m)  :
    Confined m r (State.hwCut s) := by
  unfold State.hwCut
  repeat' first
    | with_reducible first
      | assumption | apply State.forAll_confined | apply State.set_confined | apply State.setPwm_confined
      | apply State.setEnable_confined
    | exact Within.trans (by decide) hm | intro _

theorem State.setDe_confined (h : Confined m r s) (hm : Within 2 m) (a0 : Bool) :
    Confined m r (State.setDe s a0) := by
  unfold State.setDe
  repeat' first | with_reducible (first | assumption | apply State.put_confined) | exact Within.trans (by decide) hm | intro _

theorem execDriveEnableLost_confined (h : Confined m r s) (hm : Within 167329794 m)  :
    ConfinedOut m r (execDriveEnableLost s) := by
  unfold execDriveEnableLost
  repeat' first
    | with_reducible first
      | assumption | apply Confined.ite | apply ConfinedOut.ite | apply ConfinedOut.next | apply State.hwCut_confined
      | apply State.raiseDevice_confined | apply State.setDe_confined
    | exact Within.trans (by decide) hm | intro _

theorem State.hwCutEnd_confined (h : Confined m r s) (hm : Within 2097154 m)  :
    Confined m r (State.hwCutEnd s) := by
  unfold State.hwCutEnd
  repeat' first
    | with_reducible first
      | assumption | apply State.forAll_confined | apply State.set_confined | apply State.setPwm_confined
      | apply State.setEnable_confined
    | exact Within.trans (by decide) hm | intro _

theorem execDriveEnableRise_confined (h : Confined m r s) (hm : Within 2097154 m)  :
    ConfinedOut m r (execDriveEnableRise s) := by
  unfold execDriveEnableRise
  repeat' first
    | with_reducible first
      | assumption | apply Confined.ite | apply ConfinedOut.ite | apply ConfinedOut.next | apply State.hwCutEnd_confined
      | apply State.setDe_confined
    | exact Within.trans (by decide) hm | intro _

theorem execDriveEnableHwCut_confined (h : Confined m r s) (hm : Within 2097154 m)  :
    ConfinedOut m r (execDriveEnableHwCut s) := by
  unfold execDriveEnableHwCut
  repeat' first
    | with_reducible first
      | assumption | apply Confined.ite | apply ConfinedOut.ite | apply ConfinedOut.next | apply State.hwCut_confined
    | exact Within.trans (by decide) hm | intro _

theorem State.stoLevel_confined (h : Confined m r s) (hm : Within 32 m) (a0 : Nat) :
    Confined m r (State.stoLevel s a0).1 := by
  unfold State.stoLevel
  repeat' first
    | with_reducible first
      | assumption | apply Confined.ite | apply Confined.ite_fst | apply State.draw_confined
    | exact Within.trans (by decide) hm | intro _

theorem execStoActive_confined (h : Confined m r s) (hm : Within 167329826 m) (a0 : Fin 16) (a1 : BitVec 16) :
    ConfinedOut m r (execStoActive a0 a1 s) := by
  unfold execStoActive
  repeat' first
    | with_reducible first
      | assumption | apply Confined.ite | apply ConfinedOut.ite | apply ConfinedOut.next | apply State.stoLevel_confined
      | apply State.raiseFor_confined | apply State.guardAxis_confined | apply State.set_confined
    | exact Within.trans (by decide) hm | intro _

theorem execBdPowerOn_confined (h : Confined m r s) (hm : Within 1026 m)  :
    ConfinedOut m r (execBdPowerOn s) := by
  have hs : Within 2 m := Within.trans (by decide) hm
  unfold execBdPowerOn
  refine ConfinedOut.ite (fun _ => ?_) (fun _ => .next h)
  have h1 := Confined.upd_bk h (Within.trans (by decide) hm) { onVbak := true, lost := true, awake := false } (fun _ => by decide)
  have h2 := State.forAll_confined h1 (List.range 16) (fun s i => s.setBk i 0) (fun _ _ k => State.setBk_confined k hs _ _)
  refine .next ?_
  iterate 6 refine State.set_confined ?_ hs _ _
  exact State.forAll_confined h2 _ _ fun _ _ k => State.set_confined (State.set_confined (State.set_confined k hs _ _) hs _ _) hs _ _

theorem execClockReturn_confined (h : Confined m r s) (hm : Within 49154 m)  :
    ConfinedOut m r (execClockReturn s) := by
  unfold execClockReturn
  refine ConfinedOut.ite (fun _ => ?_) (fun _ => .next h)
  have h1 := Confined.upd_flt h (Within.trans (by decide) hm) { s.flt with clockLost := false, clockRec := none }
  cases s.flt.clockRec with
  | none => exact .next h1
  | some q => exact .next (State.event_confined h1 (Within.trans (by decide) hm) _ _ _ _ _)

/-! ### RegWord -/

theorem State.pokeFld_confined (h : Confined m r s) (hm : Within 2 m) (a0 : Fld) (a1 : Bool) (a2 : Nat) :
    Confined m r (State.pokeFld s a0 a1 a2) := by
  unfold State.pokeFld
  repeat' first
    | with_reducible first
      | assumption | apply Confined.ite | apply State.set_confined
    | exact Within.trans (by decide) hm | intro _

theorem State.pokeWord_confined (h : Confined m r s) (hm : Within 2 m) (a0 : Nat) (a1 : Nat) :
    Confined m r (State.pokeWord s a0 a1) := by
  unfold State.pokeWord
  repeat' first
    | with_reducible first
      | assumption | apply Confined.foldl | apply State.pokeFld_confined
    | exact Within.trans (by decide) hm | intro _

end Sys2Proof.Machine
end

