-- ==== Sys2Proof/Laws/ConfinedMotion.lean ====
section
/-!
SUPPORT. Laws/ConfinedMotion.lean: one lemma per operation and command of the reply, setpoint generation and motion commands: the components of the state that it can
change, and that it keeps the invariant (`Confined`).
-/
namespace Sys2Proof.Machine

set_option linter.unusedTactic false
set_option linter.unreachableTactic false
set_option linter.unusedVariables false
set_option linter.tactic.unusedName false

variable {m : Nat} {r s : State}

/-! ### Reply -/

theorem State.nak_confined (h : Confined m r s) (a0 : Nat) :
    Confined m r (State.nak s a0).s := by
  unfold State.nak
  repeat' first | with_reducible (first | assumption | apply Confined.ite_s) | intro _

theorem State.ok_confined (h : Confined m r s) (a0 : List Byte) :
    Confined m r (State.ok s a0).s := by
  unfold State.ok
  repeat' first | with_reducible (first | assumption | apply Confined.ite_s) | intro _

theorem State.limit_confined (h : Confined m r s) (a0 : Nat) :
    Confined m r (State.limit s a0).s := by
  unfold State.limit
  repeat' first | with_reducible (first | assumption | apply Confined.ite_s) | intro _

/-! ### Profile -/

theorem State.showHeld_confined (h : Confined m r s) (hm : Within 2 m) (a0 : Nat) (a1 : PlanKind) :
    Confined m r (State.showHeld s a0 a1) := by
  unfold State.showHeld
  repeat' first
    | with_reducible first
      | assumption | apply Confined.ite | apply State.set_confined
    | exact Within.trans (by decide) hm | intro _

theorem State.setPlan_confined (h : Confined m r s) (hm : Within 1048578 m) (a0 : Nat) (a1 : Plan) :
    Confined m r (State.setPlan s a0 a1) := by
  unfold State.setPlan
  repeat' first
    | with_reducible first
      | assumption | apply State.modAxis_confined | apply State.put_confined
    | exact Within.trans (by decide) hm | intro _

theorem State.brake_confined (h : Confined m r s) (hm : Within 1048578 m) (a0 : Nat) (a1 : Int) (a2 : Int) :
    Confined m r (State.brake s a0 a1 a2) := by
  unfold State.brake
  repeat' first | with_reducible (first | assumption | apply State.setPlan_confined) | exact Within.trans (by decide) hm | intro _

theorem State.planJog_confined (h : Confined m r s) (hm : Within 1048578 m) (a0 : Nat) (a1 : Int) (a2 : Int) (a3 : Int) (a4 : Int) :
    Confined m r (State.planJog s a0 a1 a2 a3 a4) := by
  unfold State.planJog
  repeat' first
    | with_reducible first
      | assumption | apply State.setPlan_confined | apply State.setI_confined | apply State.set_confined
    | exact Within.trans (by decide) hm | intro _

theorem State.planMove_confined (h : Confined m r s) (hm : Within 1048578 m) (a0 : Nat) (a1 : Int) (a2 : Int) (a3 : Int) (a4 : Int) (a5 : Int) :
    Confined m r (State.planMove s a0 a1 a2 a3 a4 a5) := by
  unfold State.planMove
  repeat' first
    | with_reducible first
      | assumption | apply State.setPlan_confined | apply State.setI_confined | apply State.set_confined
    | exact Within.trans (by decide) hm | intro _

theorem State.softRefuse_confined (h : Confined m r s) (hm : Within 16386 m) (a0 : Nat) (a1 : Nat) (a2 : Nat) (a3 : Nat) (a4 : Int) :
    Confined m r (State.softRefuse s a0 a1 a2 a3 a4).s := by
  unfold State.softRefuse
  repeat' first
    | with_reducible first
      | assumption | apply Confined.ite_s | apply State.limit_confined | apply State.warn_confined
    | exact Within.trans (by decide) hm | intro _

theorem State.moveEffect_confined (h : Confined m r s) (hm : Within 1064962 m) (a0 : Nat) (a1 : Nat) (a2 : Nat) (a3 : Bool) (a4 : Int) (a5 : Int) (a6 : Int) (a7 : Int) (a8 : Int) :
    Confined m r (State.moveEffect s a0 a1 a2 a3 a4 a5 a6 a7 a8).s := by
  unfold State.moveEffect
  repeat' first
    | with_reducible first
      | assumption | apply Confined.ite | apply Confined.ite_s | apply State.softRefuse_confined | apply State.nak_confined
      | apply State.ok_confined | apply State.info_confined | apply State.setI_confined | apply State.inc_confined
      | apply State.planMove_confined
    | exact Within.trans (by decide) hm | intro _

theorem effMove_confined (h : Confined m r s) (hm : Within 1064962 m) (a0 : Bool) (a1 : Msg) :
    Confined m r (effMove a0 a1 s).s := by
  unfold effMove
  repeat' first
    | with_reducible first
      | assumption | apply Confined.ite | apply Confined.ite_s | apply State.nak_confined | apply State.limit_confined
      | apply State.moveEffect_confined
    | exact Within.trans (by decide) hm | intro _

theorem effJog_confined (h : Confined m r s) (hm : Within 1048578 m) (a0 : Msg) :
    Confined m r (effJog a0 s).s := by
  unfold effJog
  repeat' first
    | with_reducible first
      | assumption | apply Confined.ite | apply Confined.ite_s | apply State.nak_confined | apply State.ok_confined
      | apply State.planJog_confined
    | exact Within.trans (by decide) hm | intro _

theorem State.restAt_confined (h : Confined m r s) (hm : Within 1048578 m) (a0 : Nat) (a1 : Int) :
    Confined m r (State.restAt s a0 a1) := by
  unfold State.restAt
  repeat' first
    | with_reducible first
      | assumption | apply State.modAxis_confined | apply State.set_confined | apply State.setI_confined
    | exact Within.trans (by decide) hm | intro _

theorem State.planStep_confined (h : Confined m r s) (hm : Within 1048578 m) (a0 : Nat) (a1 : Plan) :
    Confined m r (State.planStep s a0 a1) := by
  unfold State.planStep
  repeat' first
    | with_reducible first
      | assumption | apply Confined.ite | apply State.showHeld_confined | apply State.restAt_confined | apply State.modAxis_confined
      | apply State.put_confined | apply State.setI_confined
    | exact Within.trans (by decide) hm | intro _

/-! ### PathRun -/

theorem State.stopPath_confined (h : Confined m r s) (hm : Within 524288 m) (a0 : Nat) (a1 : Nat) :
    Confined m r (State.stopPath s a0 a1) := by
  unfold State.stopPath
  repeat' first | with_reducible (first | assumption | apply State.modGrp_confined) | exact Within.trans (by decide) hm | intro _

theorem State.syncPath_confined (h : Confined m r s) (hm : Within 2 m) (a0 : Nat) :
    Confined m r (State.syncPath s a0) := by
  unfold State.syncPath
  repeat' first
    | with_reducible first
      | assumption | apply Confined.ite | apply State.set_confined | apply State.setI_confined
    | exact Within.trans (by decide) hm | intro _
    | (extract_lets +onlyGivenNames x; first | (refine Confined.cut (?_ : Confined m r x) ?_; subst x; rotate_left; intro hx; clear_value x) | (have hx := x; clear hx))
    | split

theorem State.pathOut_confined (h : Confined m r s) (hm : Within 1048578 m) (a0 : Nat) :
    Confined m r (State.pathOut s a0) := by
  unfold State.pathOut
  repeat' first
    | with_reducible first
      | assumption | apply Confined.ite | apply State.forAll_confined | apply State.modAxis_confined | apply State.setI_confined
    | exact Within.trans (by decide) hm | intro _

theorem State.pathDry_confined (h : Confined m r s) (hm : Within 1589250 m) (a0 : Nat) (a1 : Bool) :
    Confined m r (State.pathDry s a0 a1) := by
  unfold State.pathDry
  repeat' first
    | with_reducible first
      | assumption | apply Confined.ite | apply State.info_confined | apply State.warn_confined | apply State.inc_confined
      | apply State.set_confined | apply State.modGrp_confined | apply State.pathOut_confined
    | exact Within.trans (by decide) hm | intro _

theorem State.flushPath_confined (h : Confined m r s) (hm : Within 1589250 m) (a0 : Nat) :
    Confined m r (State.flushPath s a0) := by
  unfold State.flushPath
  repeat' first
    | with_reducible first
      | assumption | apply Confined.ite | apply State.syncPath_confined | apply State.setI_confined | apply State.modGrp_confined
      | apply State.pathDry_confined
    | exact Within.trans (by decide) hm | intro _
    | (extract_lets +onlyGivenNames x; first | (refine Confined.cut (?_ : Confined m r x) ?_; subst x; rotate_left; intro hx; clear_value x) | (have hx := x; clear hx))
    | split

theorem State.pathMotions_confined (h : Confined m r s) (hm : Within 1572864 m) (a0 : Nat) :
    Confined m r (State.pathMotions s a0) := by
  unfold State.pathMotions
  repeat' first
    | with_reducible first
      | assumption | apply Confined.ite | apply State.forAll_confined | apply State.modGrp_confined | apply State.modAxis_confined
    | exact Within.trans (by decide) hm | intro _

theorem State.pathStart_confined (h : Confined m r s) (hm : Within 524290 m) (a0 : Nat) :
    Confined m r (State.pathStart s a0) := by
  unfold State.pathStart
  repeat' first
    | with_reducible first
      | assumption | apply Confined.ite | apply State.modGrp_confined | apply State.set_confined | apply State.forAll_confined
    | exact Within.trans (by decide) hm | intro _

theorem State.pathRested_confined (h : Confined m r s) (hm : Within 1589250 m) (a0 : Nat) :
    Confined m r (State.pathRested s a0) := by
  unfold State.pathRested
  repeat' first
    | with_reducible first
      | assumption | apply Confined.ite | apply State.modGrp_confined | apply State.pathDry_confined | apply State.pathOut_confined
    | exact Within.trans (by decide) hm | intro _

theorem State.popPath_confined (h : Confined m r s) (hm : Within 1589250 m) (a0 : Nat) :
    Confined m r (State.popPath s a0) := by
  unfold State.popPath
  repeat' first
    | with_reducible first
      | assumption | apply Confined.ite | apply State.pathRested_confined | apply State.modGrp_confined | apply State.pathDry_confined
    | exact Within.trans (by decide) hm | intro _ | split

theorem State.pathWait_confined (h : Confined m r s) (hm : Within 524288 m) (a0 : Nat) (a1 : Rat) :
    Confined m r (State.pathWait s a0 a1) := by
  unfold State.pathWait
  repeat' first | with_reducible (first | assumption | apply State.modGrp_confined) | exact Within.trans (by decide) hm | intro _

theorem State.pathGo_confined (h : Confined m r s) (hm : Within 524288 m) (a0 : Nat) (a1 : Rat) (a2 : Rat) (a3 : Rat) :
    Confined m r (State.pathGo s a0 a1 a2 a3) := by
  unfold State.pathGo
  repeat' first | with_reducible (first | assumption | apply State.modGrp_confined) | exact Within.trans (by decide) hm | intro _

theorem State.pathCoast_confined (h : Confined m r s) (hm : Within 524288 m) (a0 : Nat) (a1 : Rat) :
    Confined m r (State.pathCoast s a0 a1).1 := by
  unfold State.pathCoast
  repeat' first
    | with_reducible first
      | assumption | apply Confined.ite | apply Confined.ite_fst | apply State.pathWait_confined | apply State.modGrp_confined
      | apply State.pathGo_confined
    | exact Within.trans (by decide) hm | intro _
    | (extract_lets +onlyGivenNames x; first | (refine Confined.cut (?_ : Confined m r x) ?_; subst x; rotate_left; intro hx; clear_value x) | (have hx := x; clear hx))
    | split

theorem State.endDwell_confined (h : Confined m r s) (hm : Within 1589250 m) (a0 : Nat) :
    Confined m r (State.endDwell s a0) := by
  unfold State.endDwell
  repeat' first
    | with_reducible first
      | assumption | apply Confined.ite | apply State.pathDry_confined | apply State.modGrp_confined
    | exact Within.trans (by decide) hm | intro _
    | (extract_lets +onlyGivenNames x; first | (refine Confined.cut (?_ : Confined m r x) ?_; subst x; rotate_left; intro hx; clear_value x) | (have hx := x; clear hx))
    | split

theorem State.replanPath_confined (h : Confined m r s) (hm : Within 524288 m) (a0 : Nat) :
    Confined m r (State.replanPath s a0) := by
  unfold State.replanPath
  repeat' first
    | with_reducible first
      | assumption | apply Confined.ite | apply State.modGrp_confined
    | exact Within.trans (by decide) hm | intro _
    | (extract_lets +onlyGivenNames x; first | (refine Confined.cut (?_ : Confined m r x) ?_; subst x; rotate_left; intro hx; clear_value x) | (have hx := x; clear hx))
    | split

theorem State.pathMove_confined (h : Confined m r s) (hm : Within 1589250 m) (a0 : Nat) (a1 : Rat) (a2 : Nat) :
    Confined m r (State.pathMove s a0 a1 a2) := by
  induction a2 generalizing s a0 a1 with
  | zero => exact h
  | succ _ ih =>
    unfold State.pathMove
    repeat' first
      | with_reducible first
        | assumption | apply Confined.ite | apply State.pathWait_confined | apply State.pathRested_confined
        | apply State.pathCoast_confined | apply State.modGrp_confined | apply State.endDwell_confined | apply State.pathGo_confined
        | apply State.replanPath_confined | apply ih
      | exact Within.trans (by decide) hm | intro _ | split

theorem State.pathStep_confined (h : Confined m r s) (hm : Within 1589250 m) (a0 : Nat) :
    Confined m r (State.pathStep s a0) := by
  unfold State.pathStep
  repeat' first
    | with_reducible first
      | assumption | apply Confined.ite | apply State.syncPath_confined | apply State.popPath_confined | apply State.pathOut_confined
      | apply State.pathMove_confined
    | exact Within.trans (by decide) hm | intro _

/-! ### PathCmd -/

theorem State.storePath_confined (h : Confined m r s) (hm : Within 557060 m) (a0 : Nat) (a1 : List (List Byte)) :
    Confined m r (State.storePath s a0 a1) := by
  induction a1 generalizing s a0 with
  | nil => exact h
  | cons _ _ ih =>
    unfold State.storePath
    repeat' first
      | with_reducible first
        | assumption | apply State.modGrp_confined | apply State.wrBytes_confined | apply State.eccHeal_confined | apply ih
      | exact Within.trans (by decide) hm | intro _

theorem effPathAppend_confined (h : Confined m r s) (hm : Within 573446 m) (a0 : Msg) :
    Confined m r (effPathAppend a0 s).s := by
  unfold effPathAppend
  repeat' first
    | with_reducible first
      | assumption | apply Confined.ite | apply Confined.ite_s | apply State.limit_confined | apply State.nak_confined
      | apply State.limit_confined | apply State.softRefuse_confined | apply State.ok_confined | apply State.syncPath_confined
      | apply State.setI_confined | apply State.storePath_confined | apply State.modGrp_confined | (apply Confined.fst; assumption)
    | exact Within.trans (by decide) hm | intro _
    | (extract_lets +onlyGivenNames x; first | (refine Confined.cut (?_ : Confined m r x) ?_; subst x; rotate_left; intro hx; clear_value x) | (refine Confined.cut (?_ : Confined m r x.s) ?_; subst x; rotate_left; intro hx; clear_value x)| (have hx : _ → _ := x; clear hx; subst x) | (have hx := x; clear hx))
    | dsimp -zeta only | split

theorem State.flushAnswer_confined (h : Confined m r s) (a0 : Nat) :
    Confined m r (State.flushAnswer s a0).s := by
  unfold State.flushAnswer
  repeat' first | with_reducible (first | assumption | apply Confined.ite_s | apply State.ok_confined) | intro _

theorem effPathFlush_confined (h : Confined m r s) (hm : Within 1589250 m) (a0 : Msg) :
    Confined m r (effPathFlush a0 s).s := by
  unfold effPathFlush
  repeat' first
    | with_reducible first
      | assumption | apply Confined.ite_s | apply State.flushAnswer_confined | apply State.flushPath_confined
    | exact Within.trans (by decide) hm | intro _

/-! ### Couple -/

theorem effFollow_confined (h : Confined m r s) (hm : Within 1048578 m) (a0 : Msg) :
    Confined m r (effFollow a0 s).s := by
  unfold effFollow
  repeat' first
    | with_reducible first
      | assumption | apply Confined.ite | apply Confined.ite_s | apply State.nak_confined | apply State.ok_confined
      | apply State.modAxis_confined | apply State.set_confined | apply State.setI_confined | apply State.dropCoupling_confined
    | exact Within.trans (by decide) hm | intro _

theorem State.showCpl_confined (h : Confined m r s) (hm : Within 2 m) (a0 : Nat) (a1 : Cpl) :
    Confined m r (State.showCpl s a0 a1) := by
  unfold State.showCpl
  repeat' first
    | with_reducible first
      | assumption | apply Confined.ite | apply State.set_confined | apply State.setI_confined | apply State.put_confined
    | exact Within.trans (by decide) hm | intro _

theorem State.engage_confined (h : Confined m r s) (hm : Within 1048578 m) (a0 : Nat) (a1 : Nat) (a2 : Cpl) (a3 : Bool) :
    Confined m r (State.engage s a0 a1 a2 a3) := by
  unfold State.engage
  repeat' first
    | with_reducible first
      | assumption | apply Confined.ite | apply State.setAxis_confined | apply State.setI_confined | apply State.set_confined
      | apply State.showCpl_confined
    | exact Within.trans (by decide) hm | intro _

theorem effGear_confined (h : Confined m r s) (hm : Within 1048578 m) (a0 : Msg) :
    Confined m r (effGear a0 s).s := by
  unfold effGear
  repeat' first
    | with_reducible first
      | assumption | apply Confined.ite | apply Confined.ite_s | apply State.limit_confined | apply State.nak_confined
      | apply State.ok_confined | apply State.engage_confined
    | exact Within.trans (by decide) hm | intro _

theorem effCam_confined (h : Confined m r s) (hm : Within 1048578 m) (a0 : Msg) :
    Confined m r (effCam a0 s).s := by
  unfold effCam
  repeat' first
    | with_reducible first
      | assumption | apply Confined.ite | apply Confined.ite_s | apply State.limit_confined | apply State.nak_confined
      | apply State.ok_confined | apply State.modAxis_confined | apply State.engage_confined
    | exact Within.trans (by decide) hm | intro _

theorem State.clutchDone_confined (h : Confined m r s) (hm : Within 1048578 m) (a0 : Nat) (a1 : CplRun) :
    Confined m r (State.clutchDone s a0 a1) := by
  unfold State.clutchDone
  repeat' first
    | with_reducible first
      | assumption | apply Confined.ite | apply State.set_confined | apply State.dropCoupling_confined | apply State.modAxis_confined
    | exact Within.trans (by decide) hm | intro _

theorem State.putFollow_confined (h : Confined m r s) (hm : Within 167329794 m) (a0 : Nat) (a1 : Nat) (a2 : KSt) (a3 : Bool) :
    Confined m r (State.putFollow s a0 a1 a2 a3) := by
  unfold State.putFollow
  repeat' first
    | with_reducible first
      | assumption | apply Confined.ite | apply State.raiseGroup_confined | apply State.modAxis_confined | apply State.setI_confined
    | exact Within.trans (by decide) hm | intro _

theorem State.coupleOut_confined (h : Confined m r s) (hm : Within 167329794 m) (a0 : Nat) (a1 : Nat) (a2 : CplRun) :
    Confined m r (State.coupleOut s a0 a1 a2) := by
  unfold State.coupleOut
  repeat' first
    | with_reducible first
      | assumption | apply Confined.ite | apply State.clutchDone_confined | apply State.modAxis_confined
      | apply State.putFollow_confined | apply State.set_confined
    | exact Within.trans (by decide) hm | intro _

theorem State.camSwitch_confined (h : Confined m r s) (hm : Within 1048578 m) (a0 : Nat) (a1 : Nat) (a2 : Cpl) (a3 : Bool) :
    Confined m r (State.camSwitch s a0 a1 a2 a3) := by
  unfold State.camSwitch
  repeat' first | with_reducible (first | assumption | apply State.engage_confined) | exact Within.trans (by decide) hm | intro _

theorem State.coupleStep_confined (h : Confined m r s) (hm : Within 167329794 m) (a0 : Nat) (a1 : Nat) :
    Confined m r (State.coupleStep s a0 a1) := by
  unfold State.coupleStep
  repeat' first
    | with_reducible first
      | assumption | apply Confined.ite | apply State.restAt_confined | apply State.modAxis_confined | apply State.coupleOut_confined
      | apply State.camSwitch_confined | apply State.setI_confined
    | exact Within.trans (by decide) hm | intro _
    | (extract_lets +onlyGivenNames x; first | (refine Confined.cut (?_ : Confined m r x) ?_; subst x; rotate_left; intro hx; clear_value x) | (have hx := x; clear hx))
    | split

theorem State.folStep_confined (h : Confined m r s) (hm : Within 167329794 m) (a0 : Nat) (a1 : Nat) (a2 : Bool) :
    Confined m r (State.folStep s a0 a1 a2) := by
  unfold State.folStep
  repeat' first
    | with_reducible first
      | assumption | apply Confined.ite | apply State.set_confined | apply State.modAxis_confined | apply State.putFollow_confined
    | exact Within.trans (by decide) hm | intro _

/-! ### Motion -/

theorem effArm_confined (h : Confined m r s) (hm : Within 2 m)  :
    Confined m r (effArm s).s := by
  unfold effArm
  repeat' first
    | with_reducible first
      | assumption | apply Confined.ite | apply Confined.ite_s | apply State.nak_confined | apply State.ok_confined
      | apply State.set_confined
    | exact Within.trans (by decide) hm | intro _

theorem effDisarm_confined (h : Confined m r s) (hm : Within 2 m)  :
    Confined m r (effDisarm s).s := by
  unfold effDisarm
  repeat' first
    | with_reducible first
      | assumption | apply Confined.ite | apply Confined.ite_s | apply State.nak_confined | apply State.ok_confined
      | apply State.set_confined
    | exact Within.trans (by decide) hm | intro _

theorem State.clearDevice_confined (h : Confined m r s) (hm : Within 2 m)  :
    Confined m r (State.clearDevice s) := by
  unfold State.clearDevice
  repeat' first | with_reducible (first | assumption | apply State.set_confined) | exact Within.trans (by decide) hm | intro _

theorem effClearDevice_confined (h : Confined m r s) (hm : Within 51970050 m)  :
    Confined m r (effClearDevice s).s := by
  unfold effClearDevice
  repeat' first
    | with_reducible first
      | assumption | apply Confined.ite | apply Confined.ite_s | apply State.nak_confined | apply State.ok_confined
      | apply State.set_confined | apply State.forAll_confined | apply State.clearFree_confined | apply State.clearDevice_confined
      | apply State.clearGroup_confined | apply State.enterDisabled_confined
    | exact Within.trans (by decide) hm | intro _

theorem effClearGroup_confined (h : Confined m r s) (hm : Within 51970050 m) (a0 : Nat) :
    Confined m r (effClearGroup a0 s).s := by
  unfold effClearGroup
  repeat' first
    | with_reducible first
      | assumption | apply Confined.ite | apply Confined.ite_s | apply State.nak_confined | apply State.ok_confined
      | apply State.clearGroup_confined
    | exact Within.trans (by decide) hm | intro _

theorem effClearFault_confined (h : Confined m r s) (hm : Within 51970050 m) (a0 : Msg) :
    Confined m r (effClearFault a0 s).s := by
  unfold effClearFault
  repeat' first
    | with_reducible first
      | assumption | apply Confined.ite | apply Confined.ite_s | apply effClearDevice_confined | apply effClearGroup_confined
    | exact Within.trans (by decide) hm | intro _

theorem effGroupEnable_confined (h : Confined m r s) (hm : Within 3670018 m) (a0 : Msg) :
    Confined m r (effGroupEnable a0 s).s := by
  unfold effGroupEnable
  repeat' first
    | with_reducible first
      | assumption | apply Confined.ite | apply Confined.ite_s | apply State.nak_confined | apply State.ok_confined
      | apply State.forAll_confined | apply State.modGrp_confined | apply State.set_confined | apply State.powerUp_confined
    | exact Within.trans (by decide) hm | intro _

theorem effGroupDisable_confined (h : Confined m r s) (hm : Within 3670018 m) (a0 : Msg) :
    Confined m r (effGroupDisable a0 s).s := by
  unfold effGroupDisable
  repeat' first
    | with_reducible first
      | assumption | apply Confined.ite | apply Confined.ite_s | apply State.ok_confined | apply State.forAll_confined
      | apply State.modGrp_confined | apply State.set_confined | apply State.powerDown_confined
    | exact Within.trans (by decide) hm | intro _

theorem State.pathHeld_confined (h : Confined m r s) (hm : Within 2 m) (a0 : Nat) :
    Confined m r (State.pathHeld s a0) := by
  unfold State.pathHeld
  repeat' first
    | with_reducible first
      | assumption | apply Confined.ite | apply State.forAll_confined | apply State.set_confined
    | exact Within.trans (by decide) hm | intro _

theorem State.settleBrakes_confined (h : Confined m r s) (hm : Within 1048578 m) (a0 : Nat) :
    Confined m r (State.settleBrakes s a0) := by
  unfold State.settleBrakes
  repeat' first
    | with_reducible first
      | assumption | apply Confined.ite | apply State.forAll_confined | apply State.showHeld_confined | apply State.set_confined
      | apply State.modAxis_confined
    | exact Within.trans (by decide) hm | intro _ | split

theorem State.holdAxis_confined (h : Confined m r s) (hm : Within 1048578 m) (a0 : Nat) (a1 : Nat) :
    Confined m r (State.holdAxis s a0 a1) := by
  unfold State.holdAxis
  repeat' first
    | with_reducible first
      | assumption | apply Confined.ite | apply State.brake_confined | apply State.set_confined | apply State.modAxis_confined
    | exact Within.trans (by decide) hm | intro _ | split

theorem State.holdAll_confined (h : Confined m r s) (hm : Within 1572866 m) (a0 : Nat) :
    Confined m r (State.holdAll s a0) := by
  unfold State.holdAll
  repeat' first
    | with_reducible first
      | assumption | apply Confined.ite | apply State.pathHeld_confined | apply State.settleBrakes_confined
      | apply State.stopPath_confined | apply State.forAll_confined | apply State.holdAxis_confined
    | exact Within.trans (by decide) hm | intro _

theorem effHold_confined (h : Confined m r s) (hm : Within 1638402 m) (a0 : Msg) :
    Confined m r (effHold a0 s).s := by
  unfold effHold
  repeat' first
    | with_reducible first
      | assumption | apply Confined.ite | apply Confined.ite_s | apply State.ok_confined | apply State.holdAll_confined
      | apply State.modGrp_confined | apply State.setGState_confined
    | exact Within.trans (by decide) hm | intro _

theorem State.resumeAxis_confined (h : Confined m r s) (hm : Within 1048578 m) (a0 : Nat) (a1 : Nat) :
    Confined m r (State.resumeAxis s a0 a1) := by
  unfold State.resumeAxis
  repeat' first
    | with_reducible first
      | assumption | apply Confined.ite | apply State.modAxis_confined | apply State.planJog_confined | apply State.set_confined
      | apply State.planMove_confined
    | exact Within.trans (by decide) hm | intro _
    | (extract_lets +onlyGivenNames x; first | (refine Confined.cut (?_ : Confined m r x) ?_; subst x; rotate_left; intro hx; clear_value x) | (have hx := x; clear hx))
    | split

theorem effResume_confined (h : Confined m r s) (hm : Within 1638402 m) (a0 : Msg) :
    Confined m r (effResume a0 s).s := by
  unfold effResume
  repeat' first
    | with_reducible first
      | assumption | apply Confined.ite_s | apply State.ok_confined | apply State.setGState_confined | apply State.modGrp_confined
      | apply State.forAll_confined | apply State.resumeAxis_confined
    | exact Within.trans (by decide) hm | intro _

theorem State.stopDone_confined (h : Confined m r s) (hm : Within 1654786 m) (a0 : Nat) :
    Confined m r (State.stopDone s a0) := by
  unfold State.stopDone
  repeat' first
    | with_reducible first
      | assumption | apply Confined.ite | apply State.modGrp_confined | apply State.setGState_confined | apply State.info_confined
      | apply State.dropPath_confined | apply State.forAll_confined | apply State.dropPlans_confined
    | exact Within.trans (by decide) hm | intro _

theorem effStop_confined (h : Confined m r s) (hm : Within 1654786 m) (a0 : Msg) :
    Confined m r (effStop a0 s).s := by
  unfold effStop
  repeat' first
    | with_reducible first
      | assumption | apply Confined.ite | apply Confined.ite_s | apply State.ok_confined | apply State.stopDone_confined
      | apply State.modGrp_confined | apply State.setGState_confined | apply State.flushPath_confined | apply State.holdAll_confined
    | exact Within.trans (by decide) hm | intro _

theorem effMotion_confined (h : Confined m r s) (hm : Within 3784710 m) (a0 : Nat) (a1 : Msg) :
    Confined m r (effMotion a0 a1 s).s := by
  unfold effMotion
  repeat' first
    | with_reducible first
      | assumption | apply Confined.ite | apply Confined.ite_s | apply effGroupEnable_confined | apply effGroupDisable_confined
      | apply effHold_confined | apply effResume_confined | apply effStop_confined | apply effMove_confined | apply effJog_confined
      | apply effPathAppend_confined | apply effPathFlush_confined | apply effFollow_confined | apply effGear_confined
      | apply effCam_confined | apply State.flushAnswer_confined | apply State.ok_confined | apply State.nak_confined
    | exact Within.trans (by decide) hm | intro _
    | (extract_lets +onlyGivenNames x; first | (refine Confined.cut (?_ : Confined m r x) ?_; subst x; rotate_left; intro hx; clear_value x) | (have hx := x; clear hx))
    | split

theorem State.gearMotion_confined (h : Confined m r s) (hm : Within 1048576 m) (a0 : Nat) (a1 : Nat) :
    Confined m r (State.gearMotion s a0 a1) := by
  unfold State.gearMotion
  repeat' first
    | with_reducible first
      | assumption | apply Confined.ite | apply State.modAxis_confined
    | exact Within.trans (by decide) hm | intro _ | split

theorem State.fixMotions_confined (h : Confined m r s) (hm : Within 1572864 m) (a0 : Nat) :
    Confined m r (State.fixMotions s a0) := by
  unfold State.fixMotions
  repeat' first
    | with_reducible first
      | assumption | apply State.forAll_confined | apply State.pathMotions_confined | apply State.gearMotion_confined
    | exact Within.trans (by decide) hm | intro _

theorem State.settleAfter_confined (h : Confined m r s) (hm : Within 1638402 m) (a0 : Nat) :
    Confined m r (State.settleAfter s a0) := by
  unfold State.settleAfter
  repeat' first
    | with_reducible first
      | assumption | apply Confined.ite | apply State.setGState_confined | apply State.forAll_confined | apply State.fixMotions_confined
      | apply State.pathStart_confined | apply State.put_confined
    | exact Within.trans (by decide) hm | intro _

theorem State.followAct_confined (h : Confined m r s) (hm : Within 1048578 m) (a0 : Nat) :
    Confined m r (State.followAct s a0) := by
  unfold State.followAct
  repeat' first | with_reducible (first | assumption | apply State.restAt_confined) | exact Within.trans (by decide) hm | intro _

theorem State.axisStep_confined (h : Confined m r s) (hm : Within 167329794 m) (a0 : Nat) (a1 : Nat) :
    Confined m r (State.axisStep s a0 a1) := by
  unfold State.axisStep
  repeat' first
    | with_reducible first
      | assumption | apply Confined.ite | apply State.followAct_confined | apply State.planStep_confined | apply State.restAt_confined
      | apply State.coupleStep_confined | apply State.folStep_confined
    | exact Within.trans (by decide) hm | intro _ | split

theorem State.produce_confined (h : Confined m r s) (hm : Within 167329794 m) (a0 : Nat) :
    Confined m r (State.produce s a0) := by
  unfold State.produce
  repeat' first
    | with_reducible first
      | assumption | apply State.forAll_confined | apply State.pathStep_confined | apply State.axisStep_confined
    | exact Within.trans (by decide) hm | intro _

theorem State.stopFault_confined (h : Confined m r s) (hm : Within 167313410 m) (a0 : Nat) :
    Confined m r (State.stopFault s a0) := by
  unfold State.stopFault
  repeat' first
    | with_reducible first
      | assumption | apply State.enterFault_confined | apply State.forAll_confined | apply State.powerDown_confined
    | exact Within.trans (by decide) hm | intro _

theorem State.planReaction_confined (h : Confined m r s) (hm : Within 1572866 m) (a0 : Nat) :
    Confined m r (State.planReaction s a0) := by
  unfold State.planReaction
  repeat' first
    | with_reducible first
      | assumption | apply Confined.ite | apply State.modGrp_confined | apply State.settleBrakes_confined
      | apply State.stopPath_confined | apply State.forAll_confined | apply State.modAxis_confined | apply State.dropFollow_confined
      | apply State.dropCoupling_confined | apply State.brake_confined
    | exact Within.trans (by decide) hm | intro _

theorem State.dropRested_confined (h : Confined m r s) (hm : Within 1048578 m) (a0 : Nat) :
    Confined m r (State.dropRested s a0) := by
  unfold State.dropRested
  repeat' first
    | with_reducible first
      | assumption | apply State.forAll_confined | apply State.dropPlans_confined
    | exact Within.trans (by decide) hm | intro _

theorem State.settleBefore_confined (h : Confined m r s) (hm : Within 167329794 m) (a0 : Nat) :
    Confined m r (State.settleBefore s a0) := by
  unfold State.settleBefore
  repeat' first
    | with_reducible first
      | assumption | apply Confined.ite | apply State.modGrp_confined | apply State.set_confined | apply State.setGState_confined
      | apply State.enterDisabled_confined | apply State.stopFault_confined | apply State.planReaction_confined
      | apply State.stopDone_confined | apply State.dropRested_confined | apply State.pathHeld_confined
    | exact Within.trans (by decide) hm | intro _

theorem execStopMaxExpiry_confined (h : Confined m r s) (hm : Within 167313410 m) (a0 : Fin 16) :
    ConfinedOut m r (execStopMaxExpiry a0 s) := by
  unfold execStopMaxExpiry
  repeat' first
    | with_reducible first
      | assumption | apply Confined.ite | apply ConfinedOut.ite | apply ConfinedOut.next | apply State.react_confined
    | exact Within.trans (by decide) hm | intro _

end Sys2Proof.Machine
end

