-- ==== Sys2Proof/Laws/ConfinedCells.lean ====
section
/-!
SUPPORT. Laws/ConfinedCells.lean: one lemma per operation and command of the control cells, feedback, buffer pool and Snare: the components of the state that it can
change, and that it keeps the invariant (`Confined`).
-/
namespace Sys2Proof.Machine

set_option linter.unusedTactic false
set_option linter.unreachableTactic false
set_option linter.unusedVariables false
set_option linter.tactic.unusedName false

variable {m : Nat} {r s : State}

/-! ### Current -/

theorem State.loopBit_confined (h : Confined m r s) (hm : Within 167329794 m) (a0 : Nat) (a1 : Nat) (a2 : Nat) (a3 : Nat) (a4 : Fld) :
    Confined m r (State.loopBit s a0 a1 a2 a3 a4) := by
  unfold State.loopBit
  repeat' first
    | with_reducible first
      | assumption | apply Confined.ite | apply State.raiseFor_confined | apply State.set_confined
    | exact Within.trans (by decide) hm | intro _

theorem State.loopFlt_confined (h : Confined m r s) (hm : Within 167329794 m) (a0 : Nat) (a1 : Nat) :
    Confined m r (State.loopFlt s a0 a1) := by
  unfold State.loopFlt
  repeat' first
    | with_reducible first
      | assumption | apply State.loopBit_confined | apply State.set_confined
    | exact Within.trans (by decide) hm | intro _

theorem State.putAxisCoef_confined (h : Confined m r s) (hm : Within 2 m) (a0 : Nat) (a1 : Nat) (a2 : Nat) :
    Confined m r (State.putAxisCoef s a0 a1 a2) := by
  unfold State.putAxisCoef
  repeat' first
    | with_reducible first
      | assumption | apply Confined.ite | apply State.set_confined
    | exact Within.trans (by decide) hm | intro _
    | (extract_lets +onlyGivenNames x; first | (refine Confined.cut (?_ : Confined m r x) ?_; subst x; rotate_left; intro hx; clear_value x) | (have hx := x; clear hx))
    | split

theorem State.putCurCoef_confined (h : Confined m r s) (hm : Within 2 m) (a0 : Nat) (a1 : Nat) (a2 : Nat) :
    Confined m r (State.putCurCoef s a0 a1 a2) := by
  unfold State.putCurCoef
  repeat' first
    | with_reducible first
      | assumption | apply Confined.ite | apply State.set_confined
    | exact Within.trans (by decide) hm | intro _
    | (extract_lets +onlyGivenNames x; first | (refine Confined.cut (?_ : Confined m r x) ?_; subst x; rotate_left; intro hx; clear_value x) | (have hx := x; clear hx))
    | split

theorem State.askSwap_confined (h : Confined m r s) (hm : Within 524290 m) (a0 : Nat) :
    Confined m r (State.askSwap s a0) := by
  unfold State.askSwap
  repeat' first
    | with_reducible first
      | assumption | apply Confined.ite | apply State.modGrp_confined | apply State.set_confined
    | exact Within.trans (by decide) hm | intro _

theorem effCoefSwap_confined (h : Confined m r s) (a0 : Msg) :
    Confined m r (effCoefSwap a0 s).s := by
  unfold effCoefSwap
  repeat' first
    | with_reducible first
      | assumption | apply Confined.ite | apply Confined.ite_s | apply State.nak_confined | apply State.ok_confined
    | intro _

theorem runCoefWrite_confined (h : Confined m r s) (hm : Within 2 m) (a0 : Msg) :
    Confined m r (runCoefWrite a0 s).s := by
  unfold runCoefWrite
  repeat' first
    | with_reducible first
      | assumption | apply Confined.ite | apply Confined.ite_s | apply State.ok_confined | apply State.forAll_confined
      | apply State.putCurCoef_confined | apply State.putAxisCoef_confined
    | exact Within.trans (by decide) hm | intro _

theorem State.cellFast_confined (h : Confined m r s) (hm : Within 3145730 m) (a0 : State) (a1 : Nat) :
    Confined m r (State.cellFast a0 s a1) := by
  unfold State.cellFast
  repeat' first
    | with_reducible first
      | assumption | apply Confined.ite | apply State.setCur_confined | apply State.modAxis_confined | apply State.setI_confined
      | apply State.set_confined
    | exact Within.trans (by decide) hm | intro _ | split

theorem State.driveLost_confined (h : Confined m r s) (hm : Within 167329794 m) (a0 : Nat) :
    Confined m r (State.driveLost s a0) := by
  unfold State.driveLost
  repeat' first
    | with_reducible first
      | assumption | apply State.sourceLossAll_confined | apply State.raiseFor_confined | apply State.guardAxis_confined
      | apply State.set_confined
    | exact Within.trans (by decide) hm | intro _

theorem State.driveMiss_confined (h : Confined m r s) (hm : Within 167329794 m) (a0 : Nat) :
    Confined m r (State.driveMiss s a0) := by
  unfold State.driveMiss
  repeat' first
    | with_reducible first
      | assumption | apply Confined.ite | apply State.set_confined | apply State.modAxis_confined | apply State.inc_confined
      | apply State.driveLost_confined
    | exact Within.trans (by decide) hm | intro _
    | (extract_lets +onlyGivenNames x; first | (refine Confined.cut (?_ : Confined m r x) ?_; subst x; rotate_left; intro hx; clear_value x) | (have hx := x; clear hx))
    | split

theorem State.netCycle_confined (h : Confined m r s) (hm : Within 167329794 m) (a0 : Nat) :
    Confined m r (State.netCycle s a0) := by
  unfold State.netCycle
  repeat' first
    | with_reducible first
      | assumption | apply Confined.ite | apply State.modAxis_confined | apply State.driveMiss_confined
    | exact Within.trans (by decide) hm | intro _

theorem State.netPresent_confined (h : Confined m r s) (hm : Within 2 m) (a0 : Nat) :
    Confined m r (State.netPresent s a0) := by
  unfold State.netPresent
  repeat' first
    | with_reducible first
      | assumption | apply Confined.ite | apply State.setI_confined
    | exact Within.trans (by decide) hm | intro _
    | (extract_lets +onlyGivenNames x; first | (refine Confined.cut (?_ : Confined m r x) ?_; subst x; rotate_left; intro hx; clear_value x) | (have hx := x; clear hx))
    | split

theorem State.takeSwap_confined (h : Confined m r s) (hm : Within 2097154 m) (a0 : Nat) :
    Confined m r (State.takeSwap s a0) := by
  unfold State.takeSwap
  repeat' first
    | with_reducible first
      | assumption | apply Confined.ite | apply State.set_confined | apply State.inc_confined | apply State.put_confined
      | apply State.forAll_confined | apply State.modCur_confined
    | exact Within.trans (by decide) hm | intro _

theorem State.cellSlow_confined (h : Confined m r s) (hm : Within 2097154 m) (a0 : Nat) :
    Confined m r (State.cellSlow s a0) := by
  unfold State.cellSlow
  repeat' first
    | with_reducible first
      | assumption | apply Confined.ite | apply State.setCur_confined | apply State.set_confined
    | exact Within.trans (by decide) hm | intro _

theorem State.claveSwap_confined (h : Confined m r s) (hm : Within 524290 m) (a0 : Nat) :
    Confined m r (State.claveSwap s a0) := by
  unfold State.claveSwap
  repeat' first
    | with_reducible first
      | assumption | apply Confined.ite | apply State.inc_confined | apply State.set_confined | apply State.askSwap_confined
    | exact Within.trans (by decide) hm | intro _

theorem State.driveFrame_confined (h : Confined m r s) (hm : Within 167329794 m) (a0 : Nat) (a1 : DriveFb) :
    Confined m r (State.driveFrame s a0 a1) := by
  unfold State.driveFrame
  repeat' first
    | with_reducible first
      | assumption | apply Confined.ite | apply State.modAxis_confined | apply State.set_confined | apply State.driveLost_confined
    | exact Within.trans (by decide) hm | intro _
    | (extract_lets +onlyGivenNames x; first | (refine Confined.cut (?_ : Confined m r x) ?_; subst x; rotate_left; intro hx; clear_value x) | (have hx := x; clear hx))
    | split

theorem State.driveJudge_confined (h : Confined m r s) (hm : Within 167329794 m) (a0 : Nat) (a1 : Option DriveFb) :
    Confined m r (State.driveJudge s a0 a1) := by
  unfold State.driveJudge
  repeat' first
    | with_reducible first
      | assumption | apply Confined.ite | apply State.driveFrame_confined | apply State.driveMiss_confined
    | exact Within.trans (by decide) hm | intro _ | split

theorem State.hallCell_confined (h : Confined m r s) (hm : Within 167329794 m) (a0 : Nat) (a1 : Nat) :
    Confined m r (State.hallCell s a0 a1) := by
  unfold State.hallCell
  repeat' first
    | with_reducible first
      | assumption | apply Confined.ite | apply State.raiseFor_confined | apply State.set_confined | apply State.setCur_confined
    | exact Within.trans (by decide) hm | intro _

theorem State.hallCode_confined (h : Confined m r s) (hm : Within 167329794 m) (a0 : Nat) (a1 : Nat) :
    Confined m r (State.hallCode s a0 a1) := by
  unfold State.hallCode
  repeat' first
    | with_reducible first
      | assumption | apply State.forAll_confined | apply State.hallCell_confined
    | exact Within.trans (by decide) hm | intro _

theorem State.trip_confined (h : Confined m r s) (hm : Within 167329794 m) (a0 : Nat) (a1 : Fld) (a2 : Nat) (a3 : Nat) :
    Confined m r (State.trip s a0 a1 a2 a3) := by
  unfold State.trip
  repeat' first
    | with_reducible first
      | assumption | apply Confined.ite | apply State.raiseFor_confined | apply State.guardAxis_confined | apply State.modCur_confined
      | apply State.inc_confined | apply State.setEnable_confined | apply State.setPwm_confined | apply State.set_confined
    | exact Within.trans (by decide) hm | intro _

theorem execBrakeEngDelayExpiry_confined (h : Confined m r s) (hm : Within 3145730 m) (a0 : Fin 16) :
    ConfinedOut m r (execBrakeEngDelayExpiry a0 s) := by
  unfold execBrakeEngDelayExpiry
  repeat' first
    | with_reducible first
      | assumption | apply Confined.ite | apply ConfinedOut.ite | apply ConfinedOut.next | apply State.powerDownEnd_confined
    | exact Within.trans (by decide) hm | intro _

theorem execBrakeRelDelayExpiry_confined (h : Confined m r s) (hm : Within 1048578 m) (a0 : Fin 16) :
    ConfinedOut m r (execBrakeRelDelayExpiry a0 s) := by
  unfold execBrakeRelDelayExpiry
  repeat' first
    | with_reducible first
      | assumption | apply Confined.ite | apply ConfinedOut.ite | apply ConfinedOut.next | apply State.powerUpEnd_confined
    | exact Within.trans (by decide) hm | intro _

theorem execCellMeasurementReady_confined (h : Confined m r s) (hm : Within 167329794 m) (a0 : Fin 16) (a1 : BitVec 768) (a2 : BitVec 768) (a3 : BitVec 768) (a4 : Bool) (a5 : Bool) :
    ConfinedOut m r (execCellMeasurementReady a0 a1 a2 a3 a4 a5 s) := by
  unfold execCellMeasurementReady
  repeat' first
    | with_reducible first
      | assumption | apply Confined.ite | apply ConfinedOut.ite | apply ConfinedOut.next | apply State.trip_confined
      | apply State.modCur_confined | apply State.put_confined | apply State.setI_confined | apply State.setCur_confined
      | apply State.modAxis_confined
    | exact Within.trans (by decide) hm | intro _

theorem execCellTrip_confined (h : Confined m r s) (hm : Within 167329794 m) (a0 : Fin 16) (a1 : TripCause) (a2 : BitVec 32) :
    ConfinedOut m r (execCellTrip a0 a1 a2 s) := by
  unfold execCellTrip
  repeat' first
    | with_reducible first
      | assumption | apply Confined.ite | apply ConfinedOut.ite | apply ConfinedOut.next | apply State.trip_confined
      | apply State.set_confined | apply State.modCur_confined
    | exact Within.trans (by decide) hm | intro _ | split

theorem execDriveFeedbackFrame_confined (h : Confined m r s) (hm : Within 167329794 m) (a0 : Fin 16) (a1 : Option DriveFb) :
    ConfinedOut m r (execDriveFeedbackFrame a0 a1 s) := by
  unfold execDriveFeedbackFrame
  repeat' first
    | with_reducible first
      | assumption | apply Confined.ite | apply ConfinedOut.ite | apply ConfinedOut.next | apply State.driveJudge_confined
    | exact Within.trans (by decide) hm | intro _

theorem execEnDelayExpiry_confined (h : Confined m r s) (hm : Within 3145730 m) (a0 : Fin 16) :
    ConfinedOut m r (execEnDelayExpiry a0 s) := by
  unfold execEnDelayExpiry
  repeat' first
    | with_reducible first
      | assumption | apply Confined.ite | apply ConfinedOut.ite | apply ConfinedOut.next | apply State.cellEnterRun_confined
    | exact Within.trans (by decide) hm | intro _

theorem execGtimeExpiry_confined (h : Confined m r s) (hm : Within 3145730 m) (a0 : Fin 16) :
    ConfinedOut m r (execGtimeExpiry a0 s) := by
  unfold execGtimeExpiry
  repeat' first
    | with_reducible first
      | assumption | apply Confined.ite | apply ConfinedOut.ite | apply ConfinedOut.next | apply State.guardEnd_confined
    | exact Within.trans (by decide) hm | intro _

/-! ### Feedback -/

theorem State.askOffset_confined (h : Confined m r s) (hm : Within 33554434 m) (a0 : Nat) (a1 : Nat) :
    Confined m r (State.askOffset s a0 a1) := by
  unfold State.askOffset
  repeat' first
    | with_reducible first
      | assumption | apply State.modFb_confined | apply State.set_confined
    | exact Within.trans (by decide) hm | intro _

theorem State.noteWrap_confined (h : Confined m r s) (hm : Within 16386 m) (a0 : Nat) (a1 : Int) (a2 : Int) :
    Confined m r (State.noteWrap s a0 a1 a2) := by
  unfold State.noteWrap
  repeat' first
    | with_reducible first
      | assumption | apply Confined.ite | apply State.warn_confined | apply State.set_confined
    | exact Within.trans (by decide) hm | intro _

theorem State.serveAxis_confined (h : Confined m r s) (hm : Within 33570818 m) (a0 : Nat) :
    Confined m r (State.serveAxis s a0) := by
  unfold State.serveAxis
  repeat' first
    | with_reducible first
      | assumption | apply Confined.ite | apply State.setI_confined | apply State.modFb_confined | apply State.noteWrap_confined
    | exact Within.trans (by decide) hm | intro _

theorem State.present_confined (h : Confined m r s) (hm : Within 33570818 m) (a0 : Nat) :
    Confined m r (State.present s a0) := by
  unfold State.present
  repeat' first
    | with_reducible first
      | assumption | apply Confined.ite | apply State.modFb_confined | apply State.serveAxis_confined | apply State.set_confined
      | apply State.setI_confined | apply State.noteWrap_confined
    | exact Within.trans (by decide) hm | intro _

theorem State.presentAll_confined (h : Confined m r s) (hm : Within 33570818 m)  :
    Confined m r (State.presentAll s) := by
  unfold State.presentAll
  repeat' first
    | with_reducible first
      | assumption | apply State.forAll_confined | apply State.syncValid_confined | apply State.present_confined
    | exact Within.trans (by decide) hm | intro _

theorem State.echoStep_confined (h : Confined m r s) (hm : Within 67108866 m) (a0 : Nat) :
    Confined m r (State.echoStep s a0) := by
  unfold State.echoStep
  repeat' first
    | with_reducible first
      | assumption | apply Confined.ite | apply State.setEcho_confined | apply State.addSat_confined
    | exact Within.trans (by decide) hm | intro _
    | (extract_lets +onlyGivenNames x; first | (refine Confined.cut (?_ : Confined m r x) ?_; subst x; rotate_left; intro hx; clear_value x) | (have hx := x; clear hx))
    | split

theorem State.takeOffset_confined (h : Confined m r s) (hm : Within 33570818 m) (a0 : Nat) :
    Confined m r (State.takeOffset s a0) := by
  unfold State.takeOffset
  repeat' first
    | with_reducible first
      | assumption | apply Confined.ite | apply State.serveAxis_confined | apply State.modFb_confined | apply State.set_confined
    | exact Within.trans (by decide) hm | intro _ | split

theorem State.fbBegin_confined (h : Confined m r s) (hm : Within 33554434 m) (a0 : Nat) :
    Confined m r (State.fbBegin s a0) := by
  unfold State.fbBegin
  repeat' first
    | with_reducible first
      | assumption | apply Confined.ite | apply State.put_confined | apply State.set_confined | apply State.setFb_confined
    | exact Within.trans (by decide) hm | intro _

theorem State.echoHold_confined (h : Confined m r s) (hm : Within 67108864 m) (a0 : Nat) :
    Confined m r (State.echoHold s a0) := by
  unfold State.echoHold
  repeat' first
    | with_reducible first
      | assumption | apply State.forAll_confined | apply State.setEcho_confined
    | exact Within.trans (by decide) hm | intro _

theorem State.fbFault_confined (h : Confined m r s) (hm : Within 234438658 m) (a0 : Nat) (a1 : Nat) (a2 : Nat) :
    Confined m r (State.fbFault s a0 a1 a2) := by
  unfold State.fbFault
  repeat' first
    | with_reducible first
      | assumption | apply Confined.ite | apply State.sourceLossAll_confined | apply State.raiseGroup_confined
      | apply State.forAll_confined | apply State.set_confined | apply State.inc_confined | apply State.echoHold_confined
      | apply State.guardAxis_confined
    | exact Within.trans (by decide) hm | intro _
    | (extract_lets +onlyGivenNames x; first | (refine Confined.cut (?_ : Confined m r x) ?_; subst x; rotate_left; intro hx; clear_value x) | (have hx := x; clear hx))
    | split

theorem State.fbIllegal_confined (h : Confined m r s) (hm : Within 267993090 m) (a0 : Nat) :
    Confined m r (State.fbIllegal s a0) := by
  unfold State.fbIllegal
  repeat' first
    | with_reducible first
      | assumption | apply Confined.ite | apply State.fbFault_confined | apply State.modFb_confined | apply State.inc_confined
    | exact Within.trans (by decide) hm | intro _

theorem State.countEdge_confined (h : Confined m r s) (hm : Within 50331650 m) (a0 : Nat) (a1 : Bool) :
    Confined m r (State.countEdge s a0 a1) := by
  unfold State.countEdge
  repeat' first
    | with_reducible first
      | assumption | apply Confined.ite | apply State.setI_confined | apply State.forAll_confined | apply State.setFb_confined
      | apply State.modSnare_confined
    | exact Within.trans (by decide) hm | intro _

theorem State.incEdge_confined (h : Confined m r s) (hm : Within 267993090 m) (a0 : Nat) (a1 : Nat) (a2 : Nat) :
    Confined m r (State.incEdge s a0 a1 a2) := by
  unfold State.incEdge
  repeat' first
    | with_reducible first
      | assumption | apply Confined.ite | apply State.fbIllegal_confined | apply State.countEdge_confined
    | exact Within.trans (by decide) hm | intro _

theorem State.hallEdge_confined (h : Confined m r s) (hm : Within 267993090 m) (a0 : Nat) (a1 : Nat) (a2 : Nat) :
    Confined m r (State.hallEdge s a0 a1 a2) := by
  unfold State.hallEdge
  repeat' first
    | with_reducible first
      | assumption | apply Confined.ite | apply State.hallCode_confined | apply State.fbIllegal_confined
      | apply State.countEdge_confined
    | exact Within.trans (by decide) hm | intro _ | split

theorem execFbLineEdge_confined (h : Confined m r s) (hm : Within 267993090 m) (a0 : Fin 16) (a1 : BitVec 3) (a2 : Nat) (a3 : Nat) (a4 : Nat) :
    ConfinedOut m r (execFbLineEdge a0 a1 a2 a3 a4 s) := by
  unfold execFbLineEdge
  repeat' first
    | with_reducible first
      | assumption | apply Confined.ite | apply ConfinedOut.ite | apply ConfinedOut.next | apply State.modFb_confined
      | apply State.incEdge_confined | apply State.set_confined | apply State.hallEdge_confined
    | exact Within.trans (by decide) hm | intro _

theorem State.scCount_confined (h : Confined m r s) (hm : Within 267993090 m) (a0 : Nat) (a1 : Int × Int) :
    Confined m r (State.scCount s a0 a1) := by
  unfold State.scCount
  repeat' first
    | with_reducible first
      | assumption | apply Confined.ite | apply State.fbFault_confined | apply State.setFb_confined
    | exact Within.trans (by decide) hm | intro _

theorem State.scWindows_confined (h : Confined m r s) (hm : Within 267993090 m) (a0 : Nat) (a1 : Nat) (a2 : Nat) :
    Confined m r (State.scWindows s a0 a1 a2) := by
  unfold State.scWindows
  repeat' first
    | with_reducible first
      | assumption | apply Confined.ite | apply State.fbFault_confined | apply State.setFb_confined | apply State.warn_confined
      | apply State.set_confined
    | exact Within.trans (by decide) hm | intro _

theorem State.scChecks_confined (h : Confined m r s) (hm : Within 267993090 m) (a0 : Nat) (a1 : Bool) :
    Confined m r (State.scChecks s a0 a1) := by
  unfold State.scChecks
  repeat' first
    | with_reducible first
      | assumption | apply Confined.ite | apply State.scWindows_confined | apply State.set_confined | apply State.modFb_confined
    | exact Within.trans (by decide) hm | intro _ | split

theorem State.setLine_confined (h : Confined m r s) (hm : Within 33554434 m) (a0 : Nat) (a1 : Nat) (a2 : Bool) :
    Confined m r (State.setLine s a0 a1 a2) := by
  unfold State.setLine
  repeat' first
    | with_reducible first
      | assumption | apply Confined.ite | apply State.set_confined | apply State.modFb_confined
    | exact Within.trans (by decide) hm | intro _

theorem execSincosConversion_confined (h : Confined m r s) (hm : Within 267993090 m) (a0 : Fin 16) (a1 : BitVec 16) (a2 : BitVec 16) (a3 : BitVec 6) :
    ConfinedOut m r (execSincosConversion a0 a1 a2 a3 s) := by
  unfold execSincosConversion
  repeat' first
    | with_reducible first
      | assumption | apply Confined.ite | apply ConfinedOut.ite | apply ConfinedOut.next | apply State.modFb_confined
      | apply State.scCount_confined | apply State.forAll_confined | apply State.set_confined | apply State.scChecks_confined
      | apply State.setLine_confined
    | exact Within.trans (by decide) hm | intro _

theorem State.readFail_confined (h : Confined m r s) (hm : Within 267993090 m) (a0 : Nat) (a1 : Bool) :
    Confined m r (State.readFail s a0 a1) := by
  unfold State.readFail
  repeat' first
    | with_reducible first
      | assumption | apply Confined.ite | apply State.fbFault_confined | apply State.modFb_confined | apply State.inc_confined
      | apply State.set_confined
    | exact Within.trans (by decide) hm | intro _

theorem execSerialReadStart_confined (h : Confined m r s) (hm : Within 267993090 m) (a0 : Fin 16) :
    ConfinedOut m r (execSerialReadStart a0 s) := by
  unfold execSerialReadStart
  repeat' first
    | with_reducible first
      | assumption | apply Confined.ite | apply ConfinedOut.ite | apply ConfinedOut.next | apply State.modFb_confined
      | apply State.readFail_confined
    | exact Within.trans (by decide) hm | intro _

theorem execSerialReadDone_confined (h : Confined m r s) (hm : Within 267993090 m) (a0 : Fin 16) (a1 : BitVec 64) (a2 : BitVec 16) (a3 : BitVec 13) (a4 : Bool) :
    ConfinedOut m r (execSerialReadDone a0 a1 a2 a3 a4 s) := by
  unfold execSerialReadDone
  repeat' first
    | with_reducible first
      | assumption | apply Confined.ite | apply ConfinedOut.ite | apply ConfinedOut.next | apply State.readFail_confined
      | apply State.set_confined | apply State.syncValid_confined | apply State.setFb_confined
    | exact Within.trans (by decide) hm | intro _ | split

theorem execSerialReadTimeout_confined (h : Confined m r s) (hm : Within 267993090 m) (a0 : Fin 16) :
    ConfinedOut m r (execSerialReadTimeout a0 s) := by
  unfold execSerialReadTimeout
  repeat' first
    | with_reducible first
      | assumption | apply Confined.ite | apply ConfinedOut.ite | apply ConfinedOut.next | apply State.readFail_confined
    | exact Within.trans (by decide) hm | intro _ | split

theorem State.showLines_confined (h : Confined m r s) (hm : Within 2 m) (a0 : Nat) :
    Confined m r (State.showLines s a0) := by
  unfold State.showLines
  repeat' first
    | with_reducible first
      | assumption | apply Confined.ite | apply State.set_confined
    | exact Within.trans (by decide) hm | intro _

theorem execLineWindowLeave_confined (h : Confined m r s) (hm : Within 33554434 m) (a0 : Fin 16) (a1 : Fin 6) (a2 : Bool) :
    ConfinedOut m r (execLineWindowLeave a0 a1 a2 s) := by
  unfold execLineWindowLeave
  repeat' first
    | with_reducible first
      | assumption | apply ConfinedOut.next | apply State.showLines_confined | apply State.setLine_confined
    | exact Within.trans (by decide) hm | intro _

theorem execLineFaultTimeout_confined (h : Confined m r s) (hm : Within 234438658 m) (a0 : Fin 16) :
    ConfinedOut m r (execLineFaultTimeout a0 s) := by
  unfold execLineFaultTimeout
  repeat' first
    | with_reducible first
      | assumption | apply Confined.ite | apply ConfinedOut.ite | apply ConfinedOut.next | apply State.fbFault_confined
    | exact Within.trans (by decide) hm | intro _

theorem State.fbChecks_confined (h : Confined m r s) (hm : Within 267993090 m)  :
    Confined m r (State.fbChecks s) := by
  unfold State.fbChecks
  repeat' first
    | with_reducible first
      | assumption | apply Confined.ite | apply State.forAll_confined | apply State.scChecks_confined
    | exact Within.trans (by decide) hm | intro _

/-! ### Pool -/

theorem State.poolPut_confined (h : Confined m r s) (hm : Within 8196 m) (a0 : Nat) (a1 : Byte) :
    Confined m r (State.poolPut s a0 a1) := by
  unfold State.poolPut
  repeat' first
    | with_reducible first
      | assumption | apply State.wrByte_confined
    | exact Within.trans (by decide) hm
    | with_reducible (first | exact fun (h : State.Inv _) => ⟨h.owner, h.grants, h.written⟩ | exact fun (h : State.Inv _) => ⟨SMap.wf_set _ _ _ _ h.owner, h.grants, h.written⟩ | exact fun (h : State.Inv _) => ⟨SMap.wf_set _ _ _ _ h.owner, SMap.wf_set _ _ _ _ h.grants, h.written⟩ | exact fun (h : State.Inv _) => ⟨h.owner, SMap.wf_set _ _ _ _ h.grants, h.written⟩ | exact fun (h : State.Inv _) => ⟨h.owner, h.grants, SMap.wf_set _ _ _ _ h.written⟩)
    | intro _ | with_reducible apply Confined.upd_pool

theorem State.poolPuts_confined (h : Confined m r s) (hm : Within 8196 m) (a0 : Nat) (a1 : List Byte) :
    Confined m r (State.poolPuts s a0 a1) := by
  induction a1 generalizing s a0 with
  | nil => exact h
  | cons _ _ ih =>
    unfold State.poolPuts
    repeat' first
      | with_reducible first
        | assumption | apply State.poolPut_confined | apply ih
      | exact Within.trans (by decide) hm | intro _

theorem State.syncPool_confined (h : Confined m r s) (hm : Within 24578 m)  :
    Confined m r (State.syncPool s) := by
  unfold State.syncPool
  repeat' first
    | with_reducible first
      | assumption | apply Confined.ite | apply State.warn_confined | apply State.put_confined | apply State.set_confined
    | exact Within.trans (by decide) hm
    | with_reducible (first | exact fun (h : State.Inv _) => ⟨h.owner, h.grants, h.written⟩ | exact fun (h : State.Inv _) => ⟨SMap.wf_set _ _ _ _ h.owner, h.grants, h.written⟩ | exact fun (h : State.Inv _) => ⟨SMap.wf_set _ _ _ _ h.owner, SMap.wf_set _ _ _ _ h.grants, h.written⟩ | exact fun (h : State.Inv _) => ⟨h.owner, SMap.wf_set _ _ _ _ h.grants, h.written⟩ | exact fun (h : State.Inv _) => ⟨h.owner, h.grants, SMap.wf_set _ _ _ _ h.written⟩)
    | intro _ | with_reducible apply Confined.upd_pool

theorem State.takeBlock_confined (h : Confined m r s) (hm : Within 8226 m) (a0 : Nat) :
    Confined m r (State.takeBlock s a0).1 := by
  unfold State.takeBlock
  repeat' first
    | with_reducible first
      | assumption | apply Confined.ite | apply Confined.ite_fst | apply State.set_confined | apply State.draw_confined
      | (apply Confined.fst; assumption)
    | exact Within.trans (by decide) hm
    | with_reducible (first | exact fun (h : State.Inv _) => ⟨h.owner, h.grants, h.written⟩ | exact fun (h : State.Inv _) => ⟨SMap.wf_set _ _ _ _ h.owner, h.grants, h.written⟩ | exact fun (h : State.Inv _) => ⟨SMap.wf_set _ _ _ _ h.owner, SMap.wf_set _ _ _ _ h.grants, h.written⟩ | exact fun (h : State.Inv _) => ⟨h.owner, SMap.wf_set _ _ _ _ h.grants, h.written⟩ | exact fun (h : State.Inv _) => ⟨h.owner, h.grants, SMap.wf_set _ _ _ _ h.written⟩)
    | intro _
    | (extract_lets +onlyGivenNames x; first | (refine Confined.cut (?_ : Confined m r x) ?_; subst x; rotate_left; intro hx; clear_value x) | (refine Confined.cut (?_ : Confined m r x.s) ?_; subst x; rotate_left; intro hx; clear_value x)| (have hx : _ → _ := x; clear hx; subst x) | (have hx := x; clear hx))
    | dsimp -zeta only | split | with_reducible apply Confined.upd_pool

theorem State.takeBlocks_confined (h : Confined m r s) (hm : Within 8226 m) (a0 : Nat) (a1 : Nat) :
    Confined m r (State.takeBlocks s a0 a1).1 := by
  induction a1 generalizing s a0 with
  | zero => exact h
  | succ _ ih =>
    unfold State.takeBlocks
    repeat' first
      | with_reducible first
        | assumption | apply Confined.ite_fst | apply State.takeBlock_confined | apply ih
      | exact Within.trans (by decide) hm | intro _

theorem State.freeBlock_confined (h : Confined m r s) (hm : Within 24578 m) (a0 : Nat) (a1 : Nat) :
    Confined m r (State.freeBlock s a0 a1) := by
  unfold State.freeBlock
  repeat' first
    | with_reducible first
      | assumption | apply Confined.ite | apply State.syncPool_confined | apply State.set_confined
    | exact Within.trans (by decide) hm
    | with_reducible (first | exact fun (h : State.Inv _) => ⟨h.owner, h.grants, h.written⟩ | exact fun (h : State.Inv _) => ⟨SMap.wf_set _ _ _ _ h.owner, h.grants, h.written⟩ | exact fun (h : State.Inv _) => ⟨SMap.wf_set _ _ _ _ h.owner, SMap.wf_set _ _ _ _ h.grants, h.written⟩ | exact fun (h : State.Inv _) => ⟨h.owner, SMap.wf_set _ _ _ _ h.grants, h.written⟩ | exact fun (h : State.Inv _) => ⟨h.owner, h.grants, SMap.wf_set _ _ _ _ h.written⟩)
    | intro _ | with_reducible apply Confined.upd_pool

theorem State.poolSettle_confined (h : Confined m r s) (hm : Within 24578 m)  :
    Confined m r (State.poolSettle s) := by
  unfold State.poolSettle
  repeat' first
    | with_reducible first
      | assumption | apply Confined.foldl | apply State.freeBlock_confined
    | exact Within.trans (by decide) hm
    | with_reducible (first | exact fun (h : State.Inv _) => ⟨h.owner, h.grants, h.written⟩ | exact fun (h : State.Inv _) => ⟨SMap.wf_set _ _ _ _ h.owner, h.grants, h.written⟩ | exact fun (h : State.Inv _) => ⟨SMap.wf_set _ _ _ _ h.owner, SMap.wf_set _ _ _ _ h.grants, h.written⟩ | exact fun (h : State.Inv _) => ⟨h.owner, SMap.wf_set _ _ _ _ h.grants, h.written⟩ | exact fun (h : State.Inv _) => ⟨h.owner, h.grants, SMap.wf_set _ _ _ _ h.written⟩)
    | intro _ | with_reducible apply Confined.upd_pool

theorem State.noBuf_confined (h : Confined m r s) (hm : Within 16386 m) (a0 : Nat) (a1 : Nat) :
    Confined m r (State.noBuf s a0 a1) := by
  unfold State.noBuf
  repeat' first
    | with_reducible first
      | assumption | apply Confined.ite | apply State.warn_confined | apply State.inc_confined
    | exact Within.trans (by decide) hm | intro _

theorem State.poolAlloc_confined (h : Confined m r s) (hm : Within 24610 m) (a0 : Nat) (a1 : Nat) (a2 : Nat) :
    Confined m r (State.poolAlloc s a0 a1 a2).1 := by
  unfold State.poolAlloc
  repeat' first
    | with_reducible first
      | assumption | apply Confined.ite | apply Confined.ite_fst | apply State.syncPool_confined | apply State.takeBlocks_confined
      | apply State.poolSettle_confined | apply State.noBuf_confined
    | exact Within.trans (by decide) hm | intro _

theorem State.poolFree_confined (h : Confined m r s) (hm : Within 8192 m) (a0 : Nat) (a1 : Nat) :
    Confined m r (State.poolFree s a0 a1) := by
  unfold State.poolFree
  repeat' first
    | with_reducible first
      | assumption | apply Confined.ite
    | exact Within.trans (by decide) hm
    | with_reducible (first | exact fun (h : State.Inv _) => ⟨h.owner, h.grants, h.written⟩ | exact fun (h : State.Inv _) => ⟨SMap.wf_set _ _ _ _ h.owner, h.grants, h.written⟩ | exact fun (h : State.Inv _) => ⟨SMap.wf_set _ _ _ _ h.owner, SMap.wf_set _ _ _ _ h.grants, h.written⟩ | exact fun (h : State.Inv _) => ⟨h.owner, SMap.wf_set _ _ _ _ h.grants, h.written⟩ | exact fun (h : State.Inv _) => ⟨h.owner, h.grants, SMap.wf_set _ _ _ _ h.written⟩)
    | intro _ | with_reducible apply Confined.upd_pool

theorem runBufAlloc_confined (h : Confined m r s) (hm : Within 24610 m) (a0 : Msg) :
    Confined m r (runBufAlloc a0 s).s := by
  unfold runBufAlloc
  repeat' first
    | with_reducible first
      | assumption | apply Confined.ite | apply Confined.ite_fst | apply Confined.ite_s | apply State.poolAlloc_confined
      | apply State.ok_confined | apply State.nak_confined | (apply Confined.fst; assumption)
    | exact Within.trans (by decide) hm | intro _
    | (extract_lets +onlyGivenNames x; first | (refine Confined.cut (?_ : Confined m r x) ?_; subst x; rotate_left; intro hx; clear_value x) | (have hx := x; clear hx))
    | split

theorem runBufFree_confined (h : Confined m r s) (hm : Within 8192 m) (a0 : Msg) :
    Confined m r (runBufFree a0 s).s := by
  unfold runBufFree
  repeat' first
    | with_reducible first
      | assumption | apply Confined.ite_s | apply State.ok_confined | apply Confined.foldl | apply State.poolFree_confined
    | exact Within.trans (by decide) hm | intro _

/-! ### Snare -/

theorem effSnareArm_confined (h : Confined m r s) (hm : Within 16777218 m) (a0 : Msg) :
    Confined m r (effSnareArm a0 s).s := by
  unfold effSnareArm
  repeat' first
    | with_reducible first
      | assumption | apply Confined.ite | apply Confined.ite_s | apply State.ok_confined | apply State.disarmSnare_confined
      | apply State.armSnare_confined
    | exact Within.trans (by decide) hm | intro _

theorem State.syncSnare_confined (h : Confined m r s) (hm : Within 2 m) (a0 : Nat) :
    Confined m r (State.syncSnare s a0) := by
  unfold State.syncSnare
  repeat' first | with_reducible (first | assumption | apply State.set_confined) | exact Within.trans (by decide) hm | intro _

theorem State.snareFree_confined (h : Confined m r s) (hm : Within 16785408 m) (a0 : Nat) (a1 : Nat) (a2 : Nat) :
    Confined m r (State.snareFree s a0 a1 a2) := by
  unfold State.snareFree
  repeat' first
    | with_reducible first
      | assumption | apply Confined.ite | apply State.poolFree_confined | apply State.setSnare_confined
    | exact Within.trans (by decide) hm | intro _ | split

theorem runSnareRead_confined (h : Confined m r s) (hm : Within 16785410 m) (a0 : Msg) :
    Confined m r (runSnareRead a0 s).s := by
  unfold runSnareRead
  repeat' first
    | with_reducible first
      | assumption | apply Confined.ite_s | apply State.ok_confined | apply State.syncSnare_confined | apply Confined.foldl
      | apply State.snareFree_confined | apply State.modSnare_confined
    | exact Within.trans (by decide) hm | intro _

theorem State.latchAct_confined (h : Confined m r s) (hm : Within 1048576 m) (a0 : Bool) :
    Confined m r (State.latchAct s a0) := by
  unfold State.latchAct
  repeat' first
    | with_reducible first
      | assumption | apply State.forAll_confined | apply State.modAxis_confined
    | exact Within.trans (by decide) hm | intro _

theorem State.afterCapture_confined (h : Confined m r s) (hm : Within 16777218 m) (a0 : Nat) (a1 : Nat) :
    Confined m r (State.afterCapture s a0 a1) := by
  unfold State.afterCapture
  repeat' first
    | with_reducible first
      | assumption | apply Confined.ite | apply State.setSnare_confined | apply State.set_confined
    | exact Within.trans (by decide) hm | intro _

theorem State.capture_confined (h : Confined m r s) (hm : Within 16777218 m) (a0 : Nat) (a1 : Nat) (a2 : Bool) (a3 : Option Int) :
    Confined m r (State.capture s a0 a1 a2 a3) := by
  unfold State.capture
  repeat' first
    | with_reducible first
      | assumption | apply Confined.ite | apply State.inc_confined | apply State.afterCapture_confined | apply State.set_confined
      | apply State.setSnare_confined
    | exact Within.trans (by decide) hm | intro _ | split

theorem State.edgeTo_confined (h : Confined m r s) (hm : Within 16777218 m) (a0 : Nat) (a1 : Nat) (a2 : Nat) (a3 : Bool) (a4 : Option Int) :
    Confined m r (State.edgeTo s a0 a1 a2 a3 a4) := by
  unfold State.edgeTo
  repeat' first
    | with_reducible first
      | assumption | apply State.forAll_confined | apply State.capture_confined
    | exact Within.trans (by decide) hm | intro _

theorem execHiEdge_confined (h : Confined m r s) (hm : Within 16777218 m) (a0 : Fin 8) (a1 : Bool) (a2 : Bool) :
    ConfinedOut m r (execHiEdge a0 a1 a2 s) := by
  unfold execHiEdge
  repeat' first
    | with_reducible first
      | assumption | apply Confined.ite | apply ConfinedOut.ite | apply ConfinedOut.next | apply State.set_confined
      | apply State.edgeTo_confined
    | exact Within.trans (by decide) hm | intro _

theorem State.snareRoom_confined (h : Confined m r s) (hm : Within 24610 m) (a0 : Nat) (a1 : Nat) :
    Confined m r (State.snareRoom s a0 a1).1 := by
  unfold State.snareRoom
  repeat' first
    | with_reducible first
      | assumption | apply Confined.ite | apply Confined.ite_fst | apply State.poolAlloc_confined | (apply Confined.fst; assumption)
    | exact Within.trans (by decide) hm | intro _
    | (extract_lets +onlyGivenNames x; first | (refine Confined.cut (?_ : Confined m r x) ?_; subst x; rotate_left; intro hx; clear_value x) | (have hx := x; clear hx))
    | split

theorem State.storeRecord_confined (h : Confined m r s) (hm : Within 16867366 m) (a0 : Nat) (a1 : Nat) (a2 : SnEdge) (a3 : List Int) :
    Confined m r (State.storeRecord s a0 a1 a2 a3) := by
  unfold State.storeRecord
  repeat' first
    | with_reducible first
      | assumption | apply Confined.ite | apply Confined.ite_fst | apply State.inc_confined | apply State.snareRoom_confined
      | apply State.offer_confined | apply State.raiseCause_confined | apply State.setI_confined | apply State.set_confined
      | apply State.modSnare_confined | apply State.poolPuts_confined | (apply Confined.fst; assumption)
    | exact Within.trans (by decide) hm | intro _
    | (extract_lets +onlyGivenNames x; first | (refine Confined.cut (?_ : Confined m r x) ?_; subst x; rotate_left; intro hx; clear_value x) | (have hx := x; clear hx))
    | split

theorem execSnareRecordComplete_confined (h : Confined m r s) (hm : Within 16867366 m) (a0 : Fin 32) :
    ConfinedOut m r (execSnareRecordComplete a0 s) := by
  unfold execSnareRecordComplete
  repeat' first
    | with_reducible first
      | assumption | apply Confined.ite | apply ConfinedOut.ite | apply ConfinedOut.next | apply State.syncSnare_confined
      | apply State.storeRecord_confined | apply State.modSnare_confined
    | exact Within.trans (by decide) hm | intro _ | split

theorem execFbIndexEdge_confined (h : Confined m r s) (hm : Within 50331650 m) (a0 : Fin 16) (a1 : Bool) (a2 : Nat) :
    ConfinedOut m r (execFbIndexEdge a0 a1 a2 s) := by
  unfold execFbIndexEdge
  repeat' first
    | with_reducible first
      | assumption | apply Confined.ite | apply ConfinedOut.ite | apply ConfinedOut.next | apply State.modFb_confined
      | apply State.edgeTo_confined | apply State.setI_confined | apply State.set_confined
    | exact Within.trans (by decide) hm | intro _

end Sys2Proof.Machine
end

