-- ==== Sys2Proof/Laws/ConfinedClave.lean ====
section
/-!
SUPPORT. Laws/ConfinedClave.lean: one lemma per operation and command of Clave and the field link: the components of the state that it can
change, and that it keeps the invariant (`Confined`).
-/
namespace Sys2Proof.Machine

set_option linter.unusedTactic false
set_option linter.unreachableTactic false
set_option linter.unusedVariables false
set_option linter.tactic.unusedName false

variable {m : Nat} {r s : State}

/-! ### Clave -/

theorem State.hoMode_confined (h : Confined m r s) (hm : Within 8388610 m) (a0 : Nat) (a1 : Nat) :
    Confined m r (State.hoMode s a0 a1) := by
  unfold State.hoMode
  repeat' first
    | with_reducible first
      | assumption | apply Confined.ite | apply State.hoTurnOff_confined | apply State.set_confined | apply State.modHo_confined
      | apply State.hoTurnOn_confined
    | exact Within.trans (by decide) hm | intro _ | split

theorem State.syncClave_confined (h : Confined m r s) (hm : Within 2 m) (a0 : Nat) :
    Confined m r (State.syncClave s a0) := by
  unfold State.syncClave
  repeat' first | with_reducible (first | assumption | apply State.set_confined) | exact Within.trans (by decide) hm | intro _

theorem State.storeEntries_confined (h : Confined m r s) (hm : Within 4227076 m) (a0 : Nat) (a1 : List ClEntry) :
    Confined m r (State.storeEntries s a0 a1) := by
  induction a1 generalizing s a0 with
  | nil => exact h
  | cons _ _ ih =>
    unfold State.storeEntries
    repeat' first
      | with_reducible first
        | assumption | apply State.modClave_confined | apply State.wrBytes_confined | apply State.eccHeal_confined | apply ih
      | exact Within.trans (by decide) hm | intro _

theorem effClaveAppend_confined (h : Confined m r s) (hm : Within 4227078 m) (a0 : Msg) :
    Confined m r (effClaveAppend a0 s).s := by
  unfold effClaveAppend
  repeat' first
    | with_reducible first
      | assumption | apply Confined.ite | apply Confined.ite_s | apply State.nak_confined | apply State.ok_confined
      | apply State.syncClave_confined | apply State.storeEntries_confined | apply State.setClave_confined
    | exact Within.trans (by decide) hm | intro _

theorem effClaveFlush_confined (h : Confined m r s) (hm : Within 12582914 m) (a0 : Msg) :
    Confined m r (effClaveFlush a0 s).s := by
  unfold effClaveFlush
  repeat' first
    | with_reducible first
      | assumption | apply Confined.ite | apply Confined.ite_s | apply State.ok_confined | apply State.syncClave_confined
      | apply State.setClave_confined | apply State.forAll_confined | apply State.hoTurnOff_confined
    | exact Within.trans (by decide) hm | intro _

theorem State.claveValid_confined (h : Confined m r s) (hm : Within 167329794 m) (a0 : Nat) :
    Confined m r (State.claveValid s a0) := by
  unfold State.claveValid
  repeat' first
    | with_reducible first
      | assumption | apply Confined.ite | apply State.set_confined | apply State.sourceLoss_confined
    | exact Within.trans (by decide) hm | intro _

theorem State.claveLatch_confined (h : Confined m r s) (hm : Within 4194304 m) (a0 : Nat) :
    Confined m r (State.claveLatch s a0) := by
  unfold State.claveLatch
  repeat' first | with_reducible (first | assumption | apply State.modClave_confined) | exact Within.trans (by decide) hm | intro _

theorem State.claveFast_confined (h : Confined m r s) (hm : Within 167329794 m) (a0 : Nat) (a1 : Nat) :
    Confined m r (State.claveFast s a0 a1) := by
  unfold State.claveFast
  repeat' first
    | with_reducible first
      | assumption | apply Confined.ite | apply State.modClave_confined | apply State.claveValid_confined
      | apply State.claveLatch_confined
    | exact Within.trans (by decide) hm | intro _

theorem State.fireRoom_confined (h : Confined m r s) (hm : Within 4218914 m) (a0 : Nat) :
    Confined m r (State.fireRoom s a0).1 := by
  unfold State.fireRoom
  repeat' first
    | with_reducible first
      | assumption | apply Confined.ite | apply Confined.ite_fst | apply State.poolAlloc_confined | apply State.modClave_confined
      | (apply Confined.fst; assumption)
    | exact Within.trans (by decide) hm | intro _
    | (extract_lets +onlyGivenNames x; first | (refine Confined.cut (?_ : Confined m r x) ?_; subst x; rotate_left; intro hx; clear_value x) | (have hx := x; clear hx))
    | split

theorem State.fireRecord_confined (h : Confined m r s) (hm : Within 4284454 m) (a0 : Nat) (a1 : ClEntry) (a2 : Nat) (a3 : Nat) :
    Confined m r (State.fireRecord s a0 a1 a2 a3) := by
  unfold State.fireRecord
  repeat' first
    | with_reducible first
      | assumption | apply Confined.ite | apply Confined.ite_fst | apply State.fireRoom_confined | apply State.offer_confined
      | apply State.modClave_confined | apply State.inc_confined | apply State.poolPuts_confined | apply State.poolFree_confined
      | (apply Confined.fst; assumption)
    | exact Within.trans (by decide) hm | intro _
    | (extract_lets +onlyGivenNames x; first | (refine Confined.cut (?_ : Confined m r x) ?_; subst x; rotate_left; intro hx; clear_value x) | (have hx := x; clear hx))
    | split

theorem State.refill_confined (h : Confined m r s) (hm : Within 4284454 m) (a0 : Nat) (a1 : Nat) :
    Confined m r (State.refill s a0 a1) := by
  induction a1 generalizing s a0 with
  | zero => exact h
  | succ _ ih =>
    unfold State.refill
    repeat' first
      | with_reducible first
        | assumption | apply Confined.ite | apply State.fireRecord_confined | apply State.post_confined | apply State.inc_confined
        | apply State.setClave_confined | apply State.modClave_confined | apply ih
      | exact Within.trans (by decide) hm | intro _
      | (extract_lets +onlyGivenNames x; first | (refine Confined.cut (?_ : Confined m r x) ?_; subst x; rotate_left; intro hx; clear_value x) | (have hx := x; clear hx))
      | split

theorem State.claveRefill_confined (h : Confined m r s) (hm : Within 4317222 m) (a0 : Nat) :
    Confined m r (State.claveRefill s a0) := by
  unfold State.claveRefill
  repeat' first
    | with_reducible first
      | assumption | apply State.syncClave_confined | apply State.refill_confined | apply State.modClave_confined
      | apply State.storeEntries_confined
    | exact Within.trans (by decide) hm | intro _

theorem State.claveSlow_confined (h : Confined m r s) (hm : Within 4194306 m) (a0 : Nat) :
    Confined m r (State.claveSlow s a0) := by
  unfold State.claveSlow
  repeat' first
    | with_reducible first
      | assumption | apply Confined.ite | apply State.setI_confined | apply State.modClave_confined | apply State.claveLatch_confined
    | exact Within.trans (by decide) hm | intro _

theorem State.blocked_confined (h : Confined m r s) (hm : Within 2 m) (a0 : Nat) :
    Confined m r (State.blocked s a0).1 := by
  unfold State.blocked
  repeat' first
    | with_reducible first
      | assumption | apply Confined.ite_fst | apply State.inc_confined
    | exact Within.trans (by decide) hm | intro _

theorem State.countAct_confined (h : Confined m r s) (hm : Within 4194304 m) (a0 : Nat) :
    Confined m r (State.countAct s a0) := by
  unfold State.countAct
  repeat' first | with_reducible (first | assumption | apply State.modClave_confined) | exact Within.trans (by decide) hm | intro _

theorem State.doAct_confined (h : Confined m r s) (hm : Within 138412034 m) (a0 : Nat) (a1 : Nat) (a2 : Bool) :
    Confined m r (State.doAct s a0 a1 a2).1 := by
  unfold State.doAct
  repeat' first
    | with_reducible first
      | assumption | apply Confined.ite | apply Confined.ite_fst | apply State.blocked_confined | apply State.doSend_confined
    | exact Within.trans (by decide) hm | intro _

theorem State.moveOn_confined (h : Confined m r s) (hm : Within 4194306 m) (a0 : Nat) (a1 : List Nat) :
    Confined m r (State.moveOn s a0 a1) := by
  unfold State.moveOn
  repeat' first
    | with_reducible first
      | assumption | apply Confined.ite | apply State.inc_confined | apply State.setClave_confined
    | exact Within.trans (by decide) hm | intro _

theorem State.retire_confined (h : Confined m r s) (hm : Within 4284454 m) (a0 : Nat) (a1 : Nat) (a2 : WEntry) (a3 : Nat) :
    Confined m r (State.retire s a0 a1 a2 a3) := by
  unfold State.retire
  repeat' first
    | with_reducible first
      | assumption | apply Confined.ite | apply State.fireRecord_confined | apply State.warn_confined | apply State.set_confined
      | apply State.inc_confined | apply State.syncClave_confined | apply State.modClave_confined
    | exact Within.trans (by decide) hm | intro _

theorem State.fire_confined (h : Confined m r s) (hm : Within 4284454 m) (a0 : Nat) (a1 : Nat) (a2 : Nat) (a3 : State → ClEntry → State × Nat) (hf : ∀ t x1, Confined m r t → Confined m r (a3 t x1).1) :
    Confined m r (State.fire s a0 a1 a2 a3) := by
  unfold State.fire
  repeat' first
    | with_reducible first
      | assumption | apply Confined.ite | apply State.moveOn_confined | apply State.retire_confined | apply State.countAct_confined
      | (apply Confined.fst; assumption) | apply hf
    | exact Within.trans (by decide) hm | intro _
    | (extract_lets +onlyGivenNames x; first | (refine Confined.cut (?_ : Confined m r x) ?_; subst x; rotate_left; intro hx; clear_value x) | (refine Confined.cut (?_ : Confined m r x.s) ?_; subst x; rotate_left; intro hx; clear_value x)| (have hx : _ → _ := x; clear hx; subst x) | (have hx := x; clear hx))
    | dsimp -zeta only | split

theorem State.hoGate_confined (h : Confined m r s) (hm : Within 8388610 m) (a0 : Nat) (a1 : Nat) (a2 : List HoAct) :
    Confined m r (State.hoGate s a0 a1 a2).1 := by
  unfold State.hoGate
  repeat' first
    | with_reducible first
      | assumption | apply Confined.ite | apply Confined.ite_fst | apply State.hoTurnOn_confined | apply State.inc_confined
      | apply State.modHo_confined | apply State.setHo_confined | apply State.hoTurnOff_confined
    | exact Within.trans (by decide) hm | intro _ | split

theorem State.hoRun_confined (h : Confined m r s) (hm : Within 12582914 m) (a0 : Nat) (a1 : Nat) :
    Confined m r (State.hoRun s a0 a1) := by
  unfold State.hoRun
  repeat' first
    | with_reducible first
      | assumption | apply State.modHo_confined | apply State.modClave_confined | apply State.hoGate_confined | apply Confined.foldl
      | apply State.inc_confined
    | exact Within.trans (by decide) hm | intro _

theorem State.fireHo_confined (h : Confined m r s) (hm : Within 12673062 m) (a0 : Nat) (a1 : Nat) (a2 : Nat) :
    Confined m r (State.fireHo s a0 a1 a2) := by
  unfold State.fireHo
  repeat' first
    | with_reducible first
      | assumption | apply Confined.ite | apply State.retire_confined | apply State.moveOn_confined | apply State.hoRun_confined
      | apply State.countAct_confined
    | exact Within.trans (by decide) hm | intro _ | split

theorem State.hoLimit_confined (h : Confined m r s) (hm : Within 167329794 m) (a0 : Nat) (a1 : Nat) (a2 : Nat) (a3 : Nat) :
    Confined m r (State.hoLimit s a0 a1 a2 a3) := by
  unfold State.hoLimit
  repeat' first
    | with_reducible first
      | assumption | apply State.raiseGroup_confined | apply State.set_confined | apply State.hoTurnOff_confined
    | exact Within.trans (by decide) hm | intro _

theorem execClaveCoefSwap_confined (h : Confined m r s) (hm : Within 4808742 m) (a0 : Fin 16) (a1 : Fin 1024) :
    ConfinedOut m r (execClaveCoefSwap a0 a1 s) := by
  unfold execClaveCoefSwap
  repeat' first
    | with_reducible first
      | assumption | apply ConfinedOut.next | apply State.fire_confined | apply State.claveSwap_confined
    | exact Within.trans (by decide) hm | intro _

theorem execClaveDeferredOff_confined (h : Confined m r s) (hm : Within 12582914 m) (a0 : Fin 16) (a1 : Fin 8) :
    ConfinedOut m r (execClaveDeferredOff a0 a1 s) := by
  unfold execClaveDeferredOff
  repeat' first
    | with_reducible first
      | assumption | apply Confined.ite | apply ConfinedOut.ite | apply ConfinedOut.next | apply State.hoRun_confined
      | apply State.inc_confined | apply State.setHo_confined | apply State.countAct_confined
    | exact Within.trans (by decide) hm | intro _

theorem execClaveDoOff_confined (h : Confined m r s) (hm : Within 138502182 m) (a0 : Fin 16) (a1 : Fin 1024) :
    ConfinedOut m r (execClaveDoOff a0 a1 s) := by
  unfold execClaveDoOff
  repeat' first
    | with_reducible first
      | assumption | apply ConfinedOut.next | apply State.fire_confined | apply State.doAct_confined
    | exact Within.trans (by decide) hm | intro _

theorem execClaveDoOn_confined (h : Confined m r s) (hm : Within 138502182 m) (a0 : Fin 16) (a1 : Fin 1024) :
    ConfinedOut m r (execClaveDoOn a0 a1 s) := by
  unfold execClaveDoOn
  repeat' first
    | with_reducible first
      | assumption | apply ConfinedOut.next | apply State.fire_confined | apply State.doAct_confined
    | exact Within.trans (by decide) hm | intro _

theorem execClaveEngineEvent_confined (h : Confined m r s) (hm : Within 4284454 m) (a0 : Fin 16) (a1 : Fin 1024) :
    ConfinedOut m r (execClaveEngineEvent a0 a1 s) := by
  unfold execClaveEngineEvent
  repeat' first
    | with_reducible first
      | assumption | apply ConfinedOut.next | apply State.fire_confined | apply State.raiseCause_confined
    | exact Within.trans (by decide) hm | intro _

theorem execClaveHoOff_confined (h : Confined m r s) (hm : Within 12673062 m) (a0 : Fin 16) (a1 : Fin 1024) :
    ConfinedOut m r (execClaveHoOff a0 a1 s) := by
  unfold execClaveHoOff
  repeat' first
    | with_reducible first
      | assumption | apply ConfinedOut.next | apply State.fireHo_confined
    | exact Within.trans (by decide) hm | intro _

theorem execClaveHoOn_confined (h : Confined m r s) (hm : Within 12673062 m) (a0 : Fin 16) (a1 : Fin 1024) :
    ConfinedOut m r (execClaveHoOn a0 a1 s) := by
  unfold execClaveHoOn
  repeat' first
    | with_reducible first
      | assumption | apply ConfinedOut.next | apply State.fireHo_confined
    | exact Within.trans (by decide) hm | intro _

theorem execClaveHoPulse_confined (h : Confined m r s) (hm : Within 12673062 m) (a0 : Fin 16) (a1 : Fin 1024) :
    ConfinedOut m r (execClaveHoPulse a0 a1 s) := by
  unfold execClaveHoPulse
  repeat' first
    | with_reducible first
      | assumption | apply ConfinedOut.next | apply State.fireHo_confined
    | exact Within.trans (by decide) hm | intro _

theorem execClaveMark_confined (h : Confined m r s) (hm : Within 4284454 m) (a0 : Fin 16) (a1 : Fin 1024) :
    ConfinedOut m r (execClaveMark a0 a1 s) := by
  unfold execClaveMark
  repeat' first
    | with_reducible first
      | assumption | apply ConfinedOut.next | apply State.fire_confined | apply State.post_confined
    | exact Within.trans (by decide) hm | intro _

theorem execClaveNop_confined (h : Confined m r s) (hm : Within 4284454 m) (a0 : Fin 16) (a1 : Fin 1024) :
    ConfinedOut m r (execClaveNop a0 a1 s) := by
  unfold execClaveNop
  repeat' first
    | with_reducible first
      | assumption | apply ConfinedOut.next | apply State.fire_confined
    | exact Within.trans (by decide) hm | intro _

theorem execClaveNotify_confined (h : Confined m r s) (hm : Within 4284454 m) (a0 : Fin 16) (a1 : Fin 1024) :
    ConfinedOut m r (execClaveNotify a0 a1 s) := by
  unfold execClaveNotify
  repeat' first
    | with_reducible first
      | assumption | apply ConfinedOut.next | apply State.fire_confined
    | exact Within.trans (by decide) hm | intro _

theorem execClavePrediction_confined (h : Confined m r s) (hm : Within 4194304 m) (a0 : Fin 16) :
    ConfinedOut m r (execClavePrediction a0 s) := by
  unfold execClavePrediction
  repeat' first
    | with_reducible first
      | assumption | apply Confined.ite | apply ConfinedOut.ite | apply ConfinedOut.next | apply State.setClave_confined
    | exact Within.trans (by decide) hm | intro _
    | (extract_lets +onlyGivenNames x; first | (refine Confined.cut (?_ : Confined m r x) ?_; subst x; rotate_left; intro hx; clear_value x) | (have hx := x; clear hx))
    | split

theorem execClaveSnareArm_confined (h : Confined m r s) (hm : Within 21061670 m) (a0 : Fin 16) (a1 : Fin 1024) :
    ConfinedOut m r (execClaveSnareArm a0 a1 s) := by
  unfold execClaveSnareArm
  repeat' first
    | with_reducible first
      | assumption | apply ConfinedOut.next | apply State.fire_confined | apply State.armSnare_confined
    | exact Within.trans (by decide) hm | intro _

theorem execClaveSnareDisarm_confined (h : Confined m r s) (hm : Within 21061670 m) (a0 : Fin 16) (a1 : Fin 1024) :
    ConfinedOut m r (execClaveSnareDisarm a0 a1 s) := by
  unfold execClaveSnareDisarm
  repeat' first
    | with_reducible first
      | assumption | apply ConfinedOut.next | apply State.fire_confined | apply State.disarmSnare_confined
    | exact Within.trans (by decide) hm | intro _

theorem execClaveSnareTrigger_confined (h : Confined m r s) (hm : Within 21061670 m) (a0 : Fin 16) (a1 : Fin 1024) :
    ConfinedOut m r (execClaveSnareTrigger a0 a1 s) := by
  unfold execClaveSnareTrigger
  repeat' first
    | with_reducible first
      | assumption | apply Confined.ite | apply ConfinedOut.ite | apply ConfinedOut.next | apply State.fire_confined
      | apply State.capture_confined
    | exact Within.trans (by decide) hm | intro _

theorem execHoMaxOn_confined (h : Confined m r s) (hm : Within 167329794 m) (a0 : Fin 8) :
    ConfinedOut m r (execHoMaxOn a0 s) := by
  unfold execHoMaxOn
  repeat' first
    | with_reducible first
      | assumption | apply Confined.ite | apply ConfinedOut.ite | apply ConfinedOut.next | apply State.hoLimit_confined
    | exact Within.trans (by decide) hm | intro _ | split

theorem execHoMaxSpan_confined (h : Confined m r s) (hm : Within 167329794 m) (a0 : Fin 8) :
    ConfinedOut m r (execHoMaxSpan a0 s) := by
  unfold execHoMaxSpan
  repeat' first
    | with_reducible first
      | assumption | apply Confined.ite | apply ConfinedOut.ite | apply ConfinedOut.next | apply State.hoLimit_confined
    | exact Within.trans (by decide) hm | intro _ | split

/-! ### Field -/

theorem runFieldResume_confined (h : Confined m r s) (hm : Within 134217728 m) (a0 : Msg) :
    Confined m r (runFieldResume a0 s).s := by
  unfold runFieldResume
  repeat' first
    | with_reducible first
      | assumption | apply Confined.ite | apply Confined.ite_s | apply State.nak_confined | apply State.ok_confined
    | exact Within.trans (by decide) hm
    | with_reducible (first | exact fun (h : State.Inv _) => h.pu | exact fun (h : State.Inv _) => SMap.wf_set _ _ _ _ h.pu)
    | intro _ | with_reducible apply Confined.upd_field

theorem State.presentPu_confined (h : Confined m r s) (hm : Within 2 m)  :
    Confined m r (State.presentPu s) := by
  unfold State.presentPu
  repeat' first
    | with_reducible first
      | assumption | apply State.forAll_confined | apply State.setI_confined
    | exact Within.trans (by decide) hm | intro _

theorem State.setPu_confined (h : Confined m r s) (hm : Within 134217728 m) (a0 : Nat) (a1 : PuX) :
    Confined m r (State.setPu s a0 a1) := by
  unfold State.setPu
  repeat' first
    | with_reducible first
      | assumption
    | exact Within.trans (by decide) hm
    | with_reducible (first | exact fun (h : State.Inv _) => h.pu | exact fun (h : State.Inv _) => SMap.wf_set _ _ _ _ h.pu)
    | intro _ | with_reducible apply Confined.upd_field

theorem State.syncPu_confined (h : Confined m r s) (hm : Within 2 m) (a0 : Nat) :
    Confined m r (State.syncPu s a0) := by
  unfold State.syncPu
  repeat' first | with_reducible (first | assumption | apply State.put_confined) | exact Within.trans (by decide) hm | intro _

theorem State.diDeliver_confined (h : Confined m r s) (hm : Within 16777218 m) (a0 : Nat × Bool × Nat) :
    Confined m r (State.diDeliver s a0) := by
  unfold State.diDeliver
  repeat' first | with_reducible (first | assumption | apply State.edgeTo_confined) | exact Within.trans (by decide) hm | intro _

theorem State.syncVfield_confined (h : Confined m r s) (hm : Within 2 m)  :
    Confined m r (State.syncVfield s) := by
  unfold State.syncVfield
  repeat' first | with_reducible (first | assumption | apply State.put_confined) | exact Within.trans (by decide) hm | intro _

theorem State.fromField_confined (h : Confined m r s) (hm : Within 167329794 m) (a0 : FieldFrame) :
    Confined m r (State.fromField s a0) := by
  have hs : Within 2 m := Within.trans (by decide) hm
  have hset : ∀ {t : State} (f : Fld) (v : Nat), Confined m r t → Confined m r (t.set f v) := fun f v k => State.set_confined k hs f v
  have hput : ∀ {t : State} (f : Fld) (v : Bool), Confined m r t → Confined m r (t.put f v) := fun f v k => State.put_confined k hs f v
  unfold State.fromField
  extract_lets x t0 t1 t2 t3 t4 u v t5 t6
  have h0 : Confined m r t0 := Confined.upd_field h (Within.trans (by decide) hm) _ fun q => q.pu
  have h1 : Confined m r t1 := State.when_confined h0 _ _ fun _ k => hset _ _ k
  have h3 : Confined m r t3 := State.syncVfield_confined (hset _ _ h1) hs
  have h4 : Confined m r t4 := State.forAll_confined h3 _ _ fun _ _ k => hset _ _ k
  have hv : Confined m r v := State.forAll_confined (hset _ _ (hset _ _ h4)) _ _ fun _ _ k => hput _ _ k
  have h5 : Confined m r t5 := by
    refine Confined.ite (fun _ => ?_) (fun _ => h4)
    split
    · exact State.forAll_confined hv _ _ fun _ _ k =>
        Confined.ite (fun _ => hset _ _ (hset _ _ (hput _ _ (hset _ _ k)))) (fun _ => k)
    · exact hv
  have h6 : Confined m r t6 := Confined.foldl _ _ h5 fun _ _ k => State.diDeliver_confined k (Within.trans (by decide) hm) _
  exact Confined.foldl _ _ h6 fun _ _ k => Confined.ite (fun _ => State.raiseFor_confined k (Within.trans (by decide) hm) _ _ _ _) fun _ => k

theorem State.doLost_confined (h : Confined m r s) (hm : Within 4194306 m) (a0 : DoCmd) :
    Confined m r (State.doLost s a0) := by
  unfold State.doLost
  repeat' first
    | with_reducible first
      | assumption | apply Confined.ite | apply State.inc_confined | apply State.setDoOn_confined
    | exact Within.trans (by decide) hm | intro _ | split

theorem State.doExpire_confined (h : Confined m r s) (hm : Within 138412034 m)  :
    Confined m r (State.doExpire s) := by
  unfold State.doExpire
  repeat' first
    | with_reducible first
      | assumption | apply Confined.foldl | apply State.doLost_confined
    | exact Within.trans (by decide) hm
    | with_reducible (first | exact fun (h : State.Inv _) => h.pu | exact fun (h : State.Inv _) => SMap.wf_set _ _ _ _ h.pu)
    | intro _ | with_reducible apply Confined.upd_field

theorem State.syncSafe_confined (h : Confined m r s) (hm : Within 2 m)  :
    Confined m r (State.syncSafe s) := by
  unfold State.syncSafe
  repeat' first | with_reducible (first | assumption | apply State.put_confined) | exact Within.trans (by decide) hm | intro _

theorem State.doRelease_confined (h : Confined m r s) (hm : Within 2 m) (a0 : Nat) :
    Confined m r (State.doRelease s a0) := by
  unfold State.doRelease
  repeat' first
    | with_reducible first
      | assumption | apply Confined.ite | apply State.syncSafe_confined | apply State.doLevel_confined | apply State.set_confined
    | exact Within.trans (by decide) hm | intro _

theorem State.doArrive_confined (h : Confined m r s) (hm : Within 2 m) (a0 : DoCmd) :
    Confined m r (State.doArrive s a0) := by
  unfold State.doArrive
  repeat' first
    | with_reducible first
      | assumption | apply Confined.ite | apply State.put_confined
    | exact Within.trans (by decide) hm | intro _

theorem State.toField_confined (h : Confined m r s) (hm : Within 134217730 m)  :
    Confined m r (State.toField s) := by
  unfold State.toField
  repeat' first
    | with_reducible first
      | assumption | apply Confined.foldl | apply State.doRelease_confined | apply State.doArrive_confined
    | exact Within.trans (by decide) hm
    | with_reducible (first | exact fun (h : State.Inv _) => h.pu | exact fun (h : State.Inv _) => SMap.wf_set _ _ _ _ h.pu)
    | intro _ | with_reducible apply Confined.upd_field

theorem State.linkDown_confined (h : Confined m r s) (hm : Within 167329794 m)  :
    Confined m r (State.linkDown s) := by
  unfold State.linkDown
  repeat' first
    | with_reducible first
      | assumption | apply Confined.ite | apply State.forAll_confined | apply State.syncVfield_confined | apply State.set_confined
      | apply State.raiseGroup_confined
    | exact Within.trans (by decide) hm | intro _

theorem State.linkMiss_confined (h : Confined m r s) (hm : Within 167329794 m)  :
    Confined m r (State.linkMiss s) := by
  unfold State.linkMiss
  repeat' first
    | with_reducible first
      | assumption | apply Confined.ite | apply State.linkDown_confined | apply State.inc_confined
    | exact Within.trans (by decide) hm
    | with_reducible (first | exact fun (h : State.Inv _) => h.pu | exact fun (h : State.Inv _) => SMap.wf_set _ _ _ _ h.pu)
    | intro _ | with_reducible apply Confined.upd_field

theorem execFieldLinkCycle_confined (h : Confined m r s) (hm : Within 167329794 m) (a0 : Bool) (a1 : Option FieldFrame) :
    ConfinedOut m r (execFieldLinkCycle a0 a1 s) := by
  unfold execFieldLinkCycle
  refine ConfinedOut.ite (fun _ => .next h) (fun _ => ?_)
  extract_lets t0 x t1
  have h0 : Confined m r t0 := State.doExpire_confined h (Within.trans (by decide) hm)
  have h1 : Confined m r t1 := Confined.ite (fun _ => h0) fun _ => Confined.ite
    (fun _ => State.toField_confined h0 (Within.trans (by decide) hm))
    (fun _ => Confined.upd_field h0 (Within.trans (by decide) hm) _ fun q => q.pu)
  have hl := State.linkMiss_confined h1 (Within.trans (by decide) hm)
  clear_value t1
  refine .next ?_
  cases a1 with
  | none => exact hl
  | some q => exact Confined.ite (fun _ => State.fromField_confined h1 (Within.trans (by decide) hm) _) (fun _ => hl)

theorem State.doSafe_confined (h : Confined m r s) (hm : Within 2 m) (a0 : Nat) :
    Confined m r (State.doSafe s a0) := by
  unfold State.doSafe
  repeat' first
    | with_reducible first
      | assumption | apply Confined.ite | apply State.set_confined | apply State.doLevel_confined
    | exact Within.trans (by decide) hm | intro _ | split

theorem execFieldSilenceTimeout_confined (h : Confined m r s) (hm : Within 134217730 m)  :
    ConfinedOut m r (execFieldSilenceTimeout s) := by
  unfold execFieldSilenceTimeout
  repeat' first
    | with_reducible first
      | assumption | apply Confined.ite | apply ConfinedOut.ite | apply ConfinedOut.next | apply State.inc_confined
      | apply State.syncSafe_confined | apply State.forAll_confined | apply State.doSafe_confined
    | exact Within.trans (by decide) hm
    | with_reducible (first | exact fun (h : State.Inv _) => h.pu | exact fun (h : State.Inv _) => SMap.wf_set _ _ _ _ h.pu)
    | intro _ | with_reducible apply Confined.upd_field

theorem execAutoResume_confined (h : Confined m r s) (hm : Within 2 m)  :
    ConfinedOut m r (execAutoResume s) := by
  unfold execAutoResume
  repeat' first
    | with_reducible first
      | assumption | apply Confined.ite | apply ConfinedOut.ite | apply ConfinedOut.next | apply State.forAll_confined
      | apply State.doRelease_confined
    | exact Within.trans (by decide) hm | intro _

theorem execVfieldLoss_confined (h : Confined m r s) (hm : Within 167329794 m)  :
    ConfinedOut m r (execVfieldLoss s) := by
  unfold execVfieldLoss
  repeat' first
    | with_reducible first
      | assumption | apply Confined.ite | apply ConfinedOut.ite | apply ConfinedOut.next | apply State.sourceLossAll_confined
      | apply State.forAll_confined | apply Confined.foldl | apply State.doLost_confined | apply State.syncSafe_confined
      | apply State.set_confined | apply State.syncPu_confined | apply State.setPu_confined
    | exact Within.trans (by decide) hm
    | with_reducible (first | exact fun (h : State.Inv _) => h.pu | exact fun (h : State.Inv _) => SMap.wf_set _ _ _ _ h.pu)
    | intro _ | with_reducible apply Confined.upd_field

theorem State.diEdge_confined (h : Confined m r s) (hm : Within 134217730 m) (a0 : Nat) (a1 : Nat) (a2 : Bool) :
    Confined m r (State.diEdge s a0 a1 a2) := by
  unfold State.diEdge
  repeat' first
    | with_reducible first
      | assumption | apply Confined.ite | apply State.inc_confined
    | exact Within.trans (by decide) hm
    | with_reducible (first | exact fun (h : State.Inv _) => h.pu | exact fun (h : State.Inv _) => SMap.wf_set _ _ _ _ h.pu)
    | intro _ | with_reducible apply Confined.upd_field

theorem State.diSample_confined (h : Confined m r s) (hm : Within 134217730 m) (a0 : Nat) (a1 : Nat) (a2 : Bool) :
    Confined m r (State.diSample s a0 a1 a2) := by
  unfold State.diSample
  repeat' first
    | with_reducible first
      | assumption | apply Confined.ite | apply State.diEdge_confined | apply State.set_confined
    | exact Within.trans (by decide) hm | intro _

theorem execDiEdge_confined (h : Confined m r s) (hm : Within 134217730 m) (a0 : Fin 32) (a1 : List Bool) (a2 : BitVec 64) :
    ConfinedOut m r (execDiEdge a0 a1 a2 s) := by
  unfold execDiEdge
  repeat' first
    | with_reducible first
      | assumption | apply Confined.ite | apply ConfinedOut.ite | apply ConfinedOut.next | apply Confined.foldl
      | apply State.diSample_confined
    | exact Within.trans (by decide) hm | intro _

theorem execDiBroken_confined (h : Confined m r s) (hm : Within 167329794 m) (a0 : Fin 32) :
    ConfinedOut m r (execDiBroken a0 s) := by
  unfold execDiBroken
  repeat' first
    | with_reducible first
      | assumption | apply Confined.ite | apply ConfinedOut.ite | apply ConfinedOut.next | apply State.raiseFor_confined
      | apply State.set_confined
    | exact Within.trans (by decide) hm | intro _

theorem execDiBrokenClear_confined (h : Confined m r s) (hm : Within 2 m) (a0 : Fin 32) :
    ConfinedOut m r (execDiBrokenClear a0 s) := by
  unfold execDiBrokenClear
  repeat' first
    | with_reducible first
      | assumption | apply Confined.ite | apply ConfinedOut.ite | apply ConfinedOut.next | apply State.set_confined
    | exact Within.trans (by decide) hm | intro _

theorem execDoApply_confined (h : Confined m r s) (hm : Within 134217730 m)  :
    ConfinedOut m r (execDoApply s) := by
  unfold execDoApply
  repeat' first
    | with_reducible first
      | assumption | apply Confined.ite | apply ConfinedOut.ite | apply ConfinedOut.next | apply State.doLevel_confined
    | exact Within.trans (by decide) hm
    | with_reducible (first | exact fun (h : State.Inv _) => h.pu | exact fun (h : State.Inv _) => SMap.wf_set _ _ _ _ h.pu)
    | intro _ | split | with_reducible apply Confined.upd_field

theorem execDoTrip_confined (h : Confined m r s) (hm : Within 134217730 m) (a0 : Fin 16) (a1 : Bool) :
    ConfinedOut m r (execDoTrip a0 a1 s) := by
  unfold execDoTrip
  repeat' first
    | with_reducible first
      | assumption | apply Confined.ite | apply ConfinedOut.ite | apply ConfinedOut.next | apply State.set_confined
      | apply State.doLevel_confined
    | exact Within.trans (by decide) hm
    | with_reducible (first | exact fun (h : State.Inv _) => h.pu | exact fun (h : State.Inv _) => SMap.wf_set _ _ _ _ h.pu)
    | intro _ | with_reducible apply Confined.upd_field

theorem execAiSample_confined (h : Confined m r s) (hm : Within 134217728 m) (a0 : Int) (a1 : Int) (a2 : Int) (a3 : Int) :
    ConfinedOut m r (execAiSample a0 a1 a2 a3 s) := by
  unfold execAiSample
  repeat' first
    | with_reducible first
      | assumption | apply Confined.ite | apply ConfinedOut.ite | apply ConfinedOut.next
    | exact Within.trans (by decide) hm
    | with_reducible (first | exact fun (h : State.Inv _) => h.pu | exact fun (h : State.Inv _) => SMap.wf_set _ _ _ _ h.pu)
    | intro _ | with_reducible apply Confined.upd_field

theorem State.puCount_confined (h : Confined m r s) (hm : Within 134217730 m) (a0 : Nat) (a1 : Nat) :
    Confined m r (State.puCount s a0 a1) := by
  unfold State.puCount
  repeat' first
    | with_reducible first
      | assumption | apply Confined.ite | apply State.setPu_confined | apply State.inc_confined
    | exact Within.trans (by decide) hm | intro _
    | (extract_lets +onlyGivenNames x; first | (refine Confined.cut (?_ : Confined m r x) ?_; subst x; rotate_left; intro hx; clear_value x) | (have hx := x; clear hx))
    | split

theorem execPuEdge_confined (h : Confined m r s) (hm : Within 167329794 m) (a0 : Fin 4) (a1 : Bool) (a2 : Bool) (a3 : Nat) (a4 : Nat) (a5 : Bool) (a6 : Bool) :
    ConfinedOut m r (execPuEdge a0 a1 a2 a3 a4 a5 a6 s) := by
  unfold execPuEdge
  repeat' first
    | with_reducible first
      | assumption | apply Confined.ite | apply ConfinedOut.ite | apply ConfinedOut.next | apply State.sourceLossAll_confined
      | apply State.puCount_confined | apply State.syncPu_confined | apply State.setPu_confined
    | exact Within.trans (by decide) hm | intro _

theorem execVfieldReturn_confined (h : Confined m r s) (hm : Within 134217728 m)  :
    ConfinedOut m r (execVfieldReturn s) := by
  unfold execVfieldReturn
  repeat' first
    | with_reducible first
      | assumption | apply ConfinedOut.next
    | exact Within.trans (by decide) hm
    | with_reducible (first | exact fun (h : State.Inv _) => h.pu | exact fun (h : State.Inv _) => SMap.wf_set _ _ _ _ h.pu)
    | intro _ | with_reducible apply Confined.upd_field

end Sys2Proof.Machine
end

