-- ==== Sys2Proof/Laws/ConfinedNet.lean ====
section
/-!
SUPPORT. Laws/ConfinedNet.lean: one lemma per operation and command of the ledger, Ethernet, CAN and I2C: the components of the state that it can
change, and that it keeps the invariant (`Confined`).
-/
namespace Sys2Proof.Machine

set_option linter.unusedTactic false
set_option linter.unreachableTactic false
set_option linter.unusedVariables false
set_option linter.tactic.unusedName false

variable {m : Nat} {r s : State}

/-! ### Ledger -/

theorem State.ringWord_confined (h : Confined m r s) (hm : Within 32 m) (a0 : Nat) :
    Confined m r (State.ringWord s a0).1 := by
  unfold State.ringWord
  repeat' first
    | with_reducible first
      | assumption | apply Confined.ite | apply Confined.ite_fst | apply State.draw_confined
    | exact Within.trans (by decide) hm | intro _ | split

theorem runLedgerRead_confined (h : Confined m r s) (a0 : Msg) :
    Confined m r (runLedgerRead a0 s).s := by
  unfold runLedgerRead
  repeat' first | with_reducible (first | assumption | apply Confined.ite_s | apply State.ok_confined) | intro _

theorem State.nextClaim_used {q : Ev × LedgerCtl} (h : s.nextClaim = some q) : evqUsed q.2.evq ≤ evqUsed s.led.evq := by
  unfold State.nextClaim at h
  split at h
  · cases h; exact Nat.le_refl _
  · rename_i hq hn
    cases h
    rw [hq]
    simp only [evqUsed, List.map_cons, List.sum_cons]
    omega
  · cases h

theorem execLedgerClaim_confined (h : Confined m r s) (hm : Within 16386 m)  :
    ConfinedOut m r (execLedgerClaim s) := by
  have hs : Within 2 m := Within.trans (by decide) hm
  unfold execLedgerClaim
  refine ConfinedOut.ite (fun _ => ?_) (fun _ => .next h)
  split
  · exact .next h
  · rename_i hq
    refine ConfinedOut.ite (fun _ => .next h) (fun _ => .next (State.set_confined (State.syncEvq_confined ?_ hs) hs _ _))
    exact Confined.upd_led h (Within.trans (by decide) hm) _ fun q =>
      ⟨Nat.le_trans (State.nextClaim_used hq) q.evq, fun _ hu => by cases hu⟩

theorem State.countRate_confined (h : Confined m r s) (hm : Within 16386 m)  :
    Confined m r (State.countRate s) := by
  unfold State.countRate
  repeat' first
    | with_reducible first
      | assumption | apply Confined.ite | apply State.set_confined
    | exact Within.trans (by decide) hm
    | with_reducible (first | exact fun (h : State.Inv _) => ⟨h.evq, h.turn⟩)
    | intro _ | with_reducible apply Confined.upd_led

theorem execLedgerCommit_confined (h : Confined m r s) (hm : Within 114690 m)  :
    ConfinedOut m r (execLedgerCommit s) := by
  unfold execLedgerCommit
  repeat' first
    | with_reducible first
      | assumption | apply Confined.ite | apply ConfinedOut.ite | apply ConfinedOut.next | apply State.offer_confined
      | apply State.inc_confined | apply State.countRate_confined | apply State.set_confined | apply State.eccHeal_confined
    | exact Within.trans (by decide) hm
    | with_reducible (first | exact fun (h : State.Inv _) => ⟨h.evq, h.turn⟩)
    | intro _ | split | with_reducible apply Confined.upd_led

/-! ### Eth -/

theorem State.setBucket_confined (h : Confined m r s) (hm : Within 268435458 m) (a0 : Nat) (a1 : Nat) :
    Confined m r (State.setBucket s a0 a1) := by
  unfold State.setBucket
  repeat' first
    | with_reducible first
      | assumption | apply State.set_confined
    | exact Within.trans (by decide) hm
    | with_reducible (first | exact fun (h : State.Inv _) => ⟨h.ports, h.bucket⟩ | exact fun (h : State.Inv _) => ⟨SMap.wf_set _ _ _ _ h.ports, h.bucket⟩ | exact fun (h : State.Inv _) => ⟨h.ports, SMap.wf_set _ _ _ _ h.bucket⟩)
    | intro _ | with_reducible apply Confined.upd_eth

theorem State.settleMeter_confined (h : Confined m r s) (hm : Within 268435458 m) (a0 : Nat) :
    Confined m r (State.settleMeter s a0) := by
  unfold State.settleMeter
  repeat' first | with_reducible (first | assumption | apply State.setBucket_confined) | exact Within.trans (by decide) hm | intro _

theorem State.setSync_confined (h : Confined m r s) (hm : Within 16386 m) (a0 : Bool) (a1 : Nat) :
    Confined m r (State.setSync s a0 a1) := by
  unfold State.setSync
  repeat' first
    | with_reducible first
      | assumption | apply Confined.ite | apply State.info_confined | apply State.forAll_confined | apply State.put_confined
    | exact Within.trans (by decide) hm | intro _

theorem State.freeFrame_confined (h : Confined m r s) (hm : Within 8192 m) (a0 : TxFrame) :
    Confined m r (State.freeFrame s a0) := by
  unfold State.freeFrame
  repeat' first
    | with_reducible first
      | assumption | apply Confined.ite | apply State.poolFree_confined
    | exact Within.trans (by decide) hm | intro _ | split

theorem State.dropFrame_confined (h : Confined m r s) (hm : Within 8194 m) (a0 : TxFrame) :
    Confined m r (State.dropFrame s a0) := by
  unfold State.dropFrame
  repeat' first
    | with_reducible first
      | assumption | apply Confined.ite | apply State.inc_confined | apply State.freeFrame_confined
    | exact Within.trans (by decide) hm | intro _ | split

theorem State.setEth_confined (h : Confined m r s) (hm : Within 268435456 m) (a0 : Nat) (a1 : EthPortX) :
    Confined m r (State.setEth s a0 a1) := by
  unfold State.setEth
  repeat' first
    | with_reducible first
      | assumption
    | exact Within.trans (by decide) hm
    | with_reducible (first | exact fun (h : State.Inv _) => ⟨h.ports, h.bucket⟩ | exact fun (h : State.Inv _) => ⟨SMap.wf_set _ _ _ _ h.ports, h.bucket⟩ | exact fun (h : State.Inv _) => ⟨h.ports, SMap.wf_set _ _ _ _ h.bucket⟩)
    | intro _ | with_reducible apply Confined.upd_eth

theorem State.modEth_confined (h : Confined m r s) (hm : Within 268435456 m) (a0 : Nat) (a1 : EthPortX → EthPortX) :
    Confined m r (State.modEth s a0 a1) := by
  unfold State.modEth
  repeat' first | with_reducible (first | assumption | apply State.setEth_confined) | exact Within.trans (by decide) hm | intro _

theorem State.linkLost_confined (h : Confined m r s) (hm : Within 268460034 m) (a0 : Nat) :
    Confined m r (State.linkLost s a0) := by
  unfold State.linkLost
  repeat' first
    | with_reducible first
      | assumption | apply Confined.ite | apply State.set_confined | apply State.setSync_confined | apply Confined.foldl
      | apply State.dropFrame_confined | apply State.addSat_confined | apply State.modEth_confined | apply State.inc_confined
    | exact Within.trans (by decide) hm
    | with_reducible (first | exact fun (h : State.Inv _) => ⟨h.ports, h.bucket⟩ | exact fun (h : State.Inv _) => ⟨SMap.wf_set _ _ _ _ h.ports, h.bucket⟩ | exact fun (h : State.Inv _) => ⟨h.ports, SMap.wf_set _ _ _ _ h.bucket⟩)
    | intro _ | with_reducible apply Confined.upd_eth

theorem State.portEnable_confined (h : Confined m r s) (hm : Within 268460034 m) (a0 : Nat) (a1 : Bool) :
    Confined m r (State.portEnable s a0 a1) := by
  unfold State.portEnable
  repeat' first
    | with_reducible first
      | assumption | apply Confined.ite | apply State.put_confined | apply State.linkLost_confined
    | exact Within.trans (by decide) hm | intro _

theorem State.gclChange_confined (h : Confined m r s) (hm : Within 268435458 m) (a0 : Nat) :
    Confined m r (State.gclChange s a0) := by
  unfold State.gclChange
  repeat' first
    | with_reducible first
      | assumption | apply Confined.ite | apply State.modEth_confined | apply State.set_confined
    | exact Within.trans (by decide) hm | intro _

theorem State.unblock_confined (h : Confined m r s) (hm : Within 2 m) (a0 : Nat) (a1 : Nat) :
    Confined m r (State.unblock s a0 a1) := by
  unfold State.unblock
  repeat' first | with_reducible (first | assumption | apply State.set_confined) | exact Within.trans (by decide) hm | intro _

theorem State.enqueue_confined (h : Confined m r s) (hm : Within 268460066 m) (a0 : Nat) (a1 : Nat) (a2 : Nat) (a3 : Nat) (a4 : List Byte) (a5 : optParam (Option PtpFollow) none) :
    Confined m r (State.enqueue s a0 a1 a2 a3 a4 a5).1 := by
  unfold State.enqueue
  repeat' first
    | with_reducible first
      | assumption | apply Confined.ite | apply Confined.ite_fst | apply State.inc_confined | apply State.set_confined
      | apply State.modEth_confined | apply State.poolAlloc_confined | (apply Confined.fst; assumption)
    | exact Within.trans (by decide) hm | intro _
    | (extract_lets +onlyGivenNames x; first | (refine Confined.cut (?_ : Confined m r x) ?_; subst x; rotate_left; intro hx; clear_value x) | (refine Confined.cut (?_ : Confined m r x.s) ?_; subst x; rotate_left; intro hx; clear_value x)| (have hx : _ → _ := x; clear hx; subst x) | (have hx := x; clear hx))
    | dsimp -zeta only | split

theorem State.sendTo_confined (h : Confined m r s) (hm : Within 268460066 m) (a0 : Nat) (a1 : Nat) (a2 : Nat) (a3 : Nat) (a4 : List Byte) :
    Confined m r (State.sendTo s a0 a1 a2 a3 a4).1 := by
  unfold State.sendTo
  repeat' first
    | with_reducible first
      | assumption | apply Confined.ite | apply Confined.ite_fst | apply Confined.foldl | apply Confined.foldl_fst
      | apply State.enqueue_confined
    | exact Within.trans (by decide) hm | intro _ | split

theorem State.nextId_confined (h : Confined m r s) (hm : Within 268435456 m)  :
    Confined m r (State.nextId s) := by
  unfold State.nextId
  repeat' first
    | with_reducible first
      | assumption
    | exact Within.trans (by decide) hm
    | with_reducible (first | exact fun (h : State.Inv _) => ⟨h.ports, h.bucket⟩ | exact fun (h : State.Inv _) => ⟨SMap.wf_set _ _ _ _ h.ports, h.bucket⟩ | exact fun (h : State.Inv _) => ⟨h.ports, SMap.wf_set _ _ _ _ h.bucket⟩)
    | intro _ | with_reducible apply Confined.upd_eth

theorem State.sendUdp_confined (h : Confined m r s) (hm : Within 268460066 m) (a0 : Nat) (a1 : Nat) (a2 : Nat) (a3 : Nat) (a4 : Nat) (a5 : List Byte) :
    Confined m r (State.sendUdp s a0 a1 a2 a3 a4 a5).1 := by
  unfold State.sendUdp
  repeat' first
    | with_reducible first
      | assumption | apply Confined.ite_fst | apply State.sendTo_confined | apply State.nextId_confined
    | exact Within.trans (by decide) hm | intro _

theorem State.syncGates_confined (h : Confined m r s) (hm : Within 2 m) (a0 : Nat) :
    Confined m r (State.syncGates s a0) := by
  unfold State.syncGates
  repeat' first | with_reducible (first | assumption | apply State.set_confined) | exact Within.trans (by decide) hm | intro _

theorem State.releaseHeld_confined (h : Confined m r s) (hm : Within 2 m) (a0 : Nat) :
    Confined m r (State.releaseHeld s a0) := by
  unfold State.releaseHeld
  repeat' first
    | with_reducible first
      | assumption | apply Confined.ite | apply State.set_confined
    | exact Within.trans (by decide) hm | intro _

theorem State.becomeGm_confined (h : Confined m r s) (hm : Within 16386 m)  :
    Confined m r (State.becomeGm s) := by
  unfold State.becomeGm
  repeat' first
    | with_reducible first
      | assumption | apply State.setSync_confined | apply State.set_confined
    | exact Within.trans (by decide) hm | intro _

theorem State.claimGm_confined (h : Confined m r s) (hm : Within 16386 m)  :
    Confined m r (State.claimGm s) := by
  unfold State.claimGm
  repeat' first
    | with_reducible first
      | assumption | apply Confined.ite | apply State.becomeGm_confined
    | exact Within.trans (by decide) hm | intro _

theorem State.arpAnswer_confined (h : Confined m r s) (hm : Within 268460066 m) (a0 : Nat) (a1 : Bool) (a2 : Nat) (a3 : Nat) (a4 : Nat) :
    Confined m r (State.arpAnswer s a0 a1 a2 a3 a4) := by
  unfold State.arpAnswer
  repeat' first
    | with_reducible first
      | assumption | apply Confined.ite | apply State.sendTo_confined | apply State.warn_confined | apply State.set_confined
    | exact Within.trans (by decide) hm
    | with_reducible (first | exact fun (h : State.Inv _) => ⟨h.ports, h.bucket⟩ | exact fun (h : State.Inv _) => ⟨SMap.wf_set _ _ _ _ h.ports, h.bucket⟩ | exact fun (h : State.Inv _) => ⟨h.ports, SMap.wf_set _ _ _ _ h.bucket⟩)
    | intro _ | with_reducible apply Confined.upd_eth

theorem State.echoAnswer_confined (h : Confined m r s) (hm : Within 268460066 m) (a0 : Nat) (a1 : Nat) (a2 : Nat) (a3 : List Byte) :
    Confined m r (State.echoAnswer s a0 a1 a2 a3) := by
  unfold State.echoAnswer
  repeat' first
    | with_reducible first
      | assumption | apply Confined.ite | apply State.inc_confined | apply State.sendTo_confined | apply State.nextId_confined
    | exact Within.trans (by decide) hm
    | with_reducible (first | exact fun (h : State.Inv _) => ⟨h.ports, h.bucket⟩ | exact fun (h : State.Inv _) => ⟨SMap.wf_set _ _ _ _ h.ports, h.bucket⟩ | exact fun (h : State.Inv _) => ⟨h.ports, SMap.wf_set _ _ _ _ h.bucket⟩)
    | intro _ | with_reducible apply Confined.upd_eth

theorem State.meter_confined (h : Confined m r s) (hm : Within 268435458 m) (a0 : Nat) (a1 : Nat) :
    Confined m r (State.meter s a0 a1).1 := by
  have h1 : ∀ v, Confined m r ((s.setBucket a0 v).inc (Reg.ETH_MTR_GREEN a0)) := fun v =>
    State.inc_confined (State.setBucket_confined h hm a0 v) (Within.trans (by decide) hm) _
  have h2 : ∀ v, Confined m r ((s.setBucket a0 v).inc (Reg.ETH_MTR_RED a0)) := fun v =>
    State.inc_confined (State.setBucket_confined h hm a0 v) (Within.trans (by decide) hm) _
  unfold State.meter
  generalize (16000000000 : Nat) = c
  by_cases hc : (!bit (s.rdByte (meterAt a0 + 8)).toNat 0) = true
  · rw [if_pos hc]; exact h
  · rw [if_neg hc]
    generalize s.bucket a0 = b
    by_cases hb : a1 * c ≤ b
    · simp only [hb, if_true]; exact h1 _
    · simp only [hb, if_false]; exact h2 _

theorem State.police_confined (h : Confined m r s) (hm : Within 268435458 m) (a0 : Nat) (a1 : List Byte) (a2 : Nat) :
    Confined m r (State.police s a0 a1 a2).1 := by
  unfold State.police
  repeat' first
    | with_reducible first
      | assumption | apply Confined.ite | apply Confined.ite_fst | apply State.inc_confined | apply State.set_confined
      | apply State.meter_confined
    | exact Within.trans (by decide) hm | intro _ | split

theorem State.rxStore_confined (h : Confined m r s) (hm : Within 24610 m) (a0 : Nat) (a1 : List Byte) (a2 : Nat) (a3 : Nat) :
    Confined m r (State.rxStore s a0 a1 a2 a3).1 := by
  unfold State.rxStore
  repeat' first
    | with_reducible first
      | assumption | apply Confined.ite | apply Confined.ite_fst | apply State.set_confined | apply State.inc_confined
      | apply State.poolAlloc_confined | (apply Confined.fst; assumption)
    | exact Within.trans (by decide) hm | intro _
    | (extract_lets +onlyGivenNames x; first | (refine Confined.cut (?_ : Confined m r x) ?_; subst x; rotate_left; intro hx; clear_value x) | (have hx := x; clear hx))
    | split

theorem State.portZeroIp_confined (h : Confined m r s) (hm : Within 2 m) (a0 : Nat) (a1 : List Byte) (a2 : Nat) :
    Confined m r (State.portZeroIp s a0 a1 a2).1 := by
  unfold State.portZeroIp
  repeat' first
    | with_reducible first
      | assumption | apply Confined.ite | apply Confined.ite_fst | apply State.inc_confined
    | exact Within.trans (by decide) hm | intro _ | split

theorem State.portZero_confined (h : Confined m r s) (hm : Within 2 m) (a0 : Nat) (a1 : List Byte) :
    Confined m r (State.portZero s a0 a1).1 := by
  unfold State.portZero
  repeat' first
    | with_reducible first
      | assumption | apply Confined.ite | apply Confined.ite_fst | apply State.portZeroIp_confined | apply State.inc_confined
    | exact Within.trans (by decide) hm | intro _

theorem State.learn_confined (h : Confined m r s) (hm : Within 268435456 m) (a0 : Nat) (a1 : Nat) :
    Confined m r (State.learn s a0 a1) := by
  unfold State.learn
  repeat' first
    | with_reducible first
      | assumption | apply Confined.ite
    | exact Within.trans (by decide) hm
    | with_reducible (first | exact fun (h : State.Inv _) => ⟨h.ports, h.bucket⟩ | exact fun (h : State.Inv _) => ⟨SMap.wf_set _ _ _ _ h.ports, h.bucket⟩ | exact fun (h : State.Inv _) => ⟨h.ports, SMap.wf_set _ _ _ _ h.bucket⟩)
    | intro _ | with_reducible apply Confined.upd_eth

theorem State.forward_confined (h : Confined m r s) (hm : Within 268460066 m) (a0 : Nat) (a1 : List Byte) :
    Confined m r (State.forward s a0 a1) := by
  unfold State.forward
  repeat' first | with_reducible (first | assumption | apply State.enqueue_confined) | exact Within.trans (by decide) hm | intro _

theorem State.switch_confined (h : Confined m r s) (hm : Within 268460066 m) (a0 : Nat) (a1 : List Byte) :
    Confined m r (State.switch s a0 a1).1 := by
  unfold State.switch
  repeat' first
    | with_reducible first
      | assumption | apply Confined.ite | apply Confined.ite_fst | apply State.portZero_confined | apply State.learn_confined
      | apply State.forward_confined | (apply Confined.fst; assumption)
    | exact Within.trans (by decide) hm | intro _
    | (extract_lets +onlyGivenNames x; first | (refine Confined.cut (?_ : Confined m r x) ?_; subst x; rotate_left; intro hx; clear_value x) | (refine Confined.cut (?_ : Confined m r x.s) ?_; subst x; rotate_left; intro hx; clear_value x)| (have hx : _ → _ := x; clear hx; subst x) | (have hx := x; clear hx))
    | dsimp -zeta only | split

theorem State.ethReceive_confined (h : Confined m r s) (hm : Within 268460066 m) (a0 : Nat) (a1 : List Byte) (a2 : Bool) (a3 : Nat) :
    Confined m r (State.ethReceive s a0 a1 a2 a3).1 := by
  have hs : Within 2 m := Within.trans (by decide) hm
  unfold State.ethReceive
  refine Confined.ite_fst (fun _ => h) fun _ => ?_
  extract_lets n t q u v
  have ht : Confined m r t := State.inc_confined h hs _
  have hu : Confined m r u := Confined.ite_fst (fun _ => State.police_confined ht (Within.trans (by decide) hm) _ _ _) (fun _ => ht)
  have hv : Confined m r v := State.inc_confined hu hs _
  clear_value u v q
  refine Confined.ite_fst (fun _ => State.inc_confined ht hs _) fun _ => Confined.ite_fst (fun _ => hu) fun _ =>
    Confined.ite_fst (fun _ => ?_) (fun _ => ?_)
  · have hw := Confined.upd_eth hv (Within.trans (by decide) hm) { v.eth with selfAt := some v.ntime } fun k => ⟨k.ports, k.bucket⟩
    dsimp -zeta only
    generalize v.oncePerMin v.eth.selfAt = b
    split
    · exact State.warn_confined hw (Within.trans (by decide) hm) _ _ _ _
    · exact hv
  · have hx := State.rxStore_confined hu (Within.trans (by decide) hm) a0 a1 n a3
    generalize u.rxStore a0 a1 n a3 = w at hx ⊢
    obtain ⟨t, b, k⟩ := w
    cases b
    · exact hx
    · exact State.switch_confined hx (Within.trans (by decide) hm) _ _

theorem execArpRequest_confined (h : Confined m r s) (hm : Within 268460066 m) (a0 : Fin 2) (a1 : BitVec 48) (a2 : BitVec 32) (a3 : BitVec 32) :
    ConfinedOut m r (execArpRequest a0 a1 a2 a3 s) := by
  unfold execArpRequest
  repeat' first
    | with_reducible first
      | assumption | apply Confined.ite | apply ConfinedOut.ite | apply ConfinedOut.next | apply State.arpAnswer_confined
    | exact Within.trans (by decide) hm | intro _

theorem execIcmpEchoRequest_confined (h : Confined m r s) (hm : Within 268460066 m) (a0 : Fin 2) (a1 : BitVec 48) (a2 : BitVec 32) (a3 : BitVec 32) (a4 : List Byte) :
    ConfinedOut m r (execIcmpEchoRequest a0 a1 a2 a3 a4 s) := by
  unfold execIcmpEchoRequest
  repeat' first
    | with_reducible first
      | assumption | apply Confined.ite | apply ConfinedOut.ite | apply ConfinedOut.next | apply State.echoAnswer_confined
    | exact Within.trans (by decide) hm | intro _

theorem State.dropLong_confined (h : Confined m r s) (hm : Within 268443650 m) (a0 : Nat) :
    Confined m r (State.dropLong s a0) := by
  unfold State.dropLong
  repeat' first
    | with_reducible first
      | assumption | apply Confined.foldl | apply State.dropFrame_confined | apply State.addSat_confined | apply State.setEth_confined
    | exact Within.trans (by decide) hm | intro _

theorem State.sendPtp_confined (h : Confined m r s) (hm : Within 268460066 m) (a0 : Nat) (a1 : List Byte) (a2 : optParam (Option PtpFollow) none) :
    Confined m r (State.sendPtp s a0 a1 a2) := by
  unfold State.sendPtp
  repeat' first | with_reducible (first | assumption | apply State.enqueue_confined) | exact Within.trans (by decide) hm | intro _

theorem State.sendFollow_confined (h : Confined m r s) (hm : Within 268460066 m) (a0 : Nat) (a1 : PtpFollow) :
    Confined m r (State.sendFollow s a0 a1) := by
  unfold State.sendFollow
  repeat' first
    | with_reducible first
      | assumption | apply Confined.ite | apply State.sendPtp_confined
    | exact Within.trans (by decide) hm | intro _ | split

theorem execEthFrameTransmit_confined (h : Confined m r s) (hm : Within 268460066 m) (a0 : Fin 2) :
    ConfinedOut m r (execEthFrameTransmit a0 s) := by
  unfold execEthFrameTransmit
  repeat' first
    | with_reducible first
      | assumption | apply Confined.ite | apply ConfinedOut.ite | apply ConfinedOut.next | apply State.dropLong_confined
      | apply State.syncGates_confined | apply State.releaseHeld_confined | apply State.sendFollow_confined
      | apply State.freeFrame_confined | apply State.inc_confined | apply State.modEth_confined
    | exact Within.trans (by decide) hm | intro _
    | (extract_lets +onlyGivenNames x; first | (refine Confined.cut (?_ : Confined m r x) ?_; subst x; rotate_left; intro hx; clear_value x) | (have hx := x; clear hx))
    | split

theorem execGateChange_confined (h : Confined m r s) (hm : Within 2 m) (a0 : Fin 2) :
    ConfinedOut m r (execGateChange a0 s) := by
  unfold execGateChange
  repeat' first
    | with_reducible first
      | assumption | apply Confined.ite | apply ConfinedOut.ite | apply ConfinedOut.next | apply State.syncGates_confined
      | apply State.releaseHeld_confined
    | exact Within.trans (by decide) hm | intro _

theorem execGclChangeApply_confined (h : Confined m r s) (hm : Within 268435462 m) (a0 : Fin 2) :
    ConfinedOut m r (execGclChangeApply a0 s) := by
  unfold execGclChangeApply
  repeat' first
    | with_reducible first
      | assumption | apply Confined.ite | apply ConfinedOut.ite | apply ConfinedOut.next | apply State.syncGates_confined
      | apply State.modEth_confined | apply State.set_confined | apply State.wrBytes_confined
    | exact Within.trans (by decide) hm | intro _
    | (extract_lets +onlyGivenNames x; first | (refine Confined.cut (?_ : Confined m r x) ?_; subst x; rotate_left; intro hx; clear_value x) | (have hx := x; clear hx))
    | split

theorem execEthLinkUp_confined (h : Confined m r s) (hm : Within 268460066 m) (a0 : Fin 2) (a1 : Bool) :
    ConfinedOut m r (execEthLinkUp a0 a1 s) := by
  unfold execEthLinkUp
  repeat' first
    | with_reducible first
      | assumption | apply Confined.ite | apply ConfinedOut.ite | apply ConfinedOut.next | apply State.enqueue_confined
      | apply State.modEth_confined | apply State.put_confined | apply State.set_confined
    | exact Within.trans (by decide) hm | intro _

theorem execEthLinkDown_confined (h : Confined m r s) (hm : Within 268460034 m) (a0 : Fin 2) :
    ConfinedOut m r (execEthLinkDown a0 s) := by
  unfold execEthLinkDown
  repeat' first
    | with_reducible first
      | assumption | apply Confined.ite | apply ConfinedOut.ite | apply ConfinedOut.next | apply State.linkLost_confined
    | exact Within.trans (by decide) hm | intro _

theorem State.sendSync_confined (h : Confined m r s) (hm : Within 268460066 m) (a0 : Nat) (a1 : Option PtpUp) :
    Confined m r (State.sendSync s a0 a1) := by
  unfold State.sendSync
  repeat' first
    | with_reducible first
      | assumption | apply State.sendPtp_confined | apply State.modEth_confined
    | exact Within.trans (by decide) hm | intro _

theorem State.stepTime_confined (h : Confined m r s) (hm : Within 16402 m) (a0 : Int) :
    Confined m r (State.stepTime s a0) := by
  unfold State.stepTime
  repeat' first
    | with_reducible first
      | assumption | apply State.info_confined | apply State.inc_confined
    | exact Within.trans (by decide) hm | intro _ | with_reducible apply Confined.upd_ntimeH

theorem execSyncReceived_confined (h : Confined m r s) (hm : Within 268460082 m) (a0 : Fin 2) (a1 : PtpSync) :
    ConfinedOut m r (execSyncReceived a0 a1 s) := by
  unfold execSyncReceived
  repeat' first
    | with_reducible first
      | assumption | apply Confined.ite | apply ConfinedOut.ite | apply ConfinedOut.next | apply State.inc_confined
      | apply State.sendSync_confined | apply State.setSync_confined | apply State.put_confined | apply State.setI_confined
      | apply State.stepTime_confined
    | exact Within.trans (by decide) hm
    | with_reducible (first | exact fun (h : State.Inv _) => ⟨h.ports, h.bucket⟩ | exact fun (h : State.Inv _) => ⟨SMap.wf_set _ _ _ _ h.ports, h.bucket⟩ | exact fun (h : State.Inv _) => ⟨h.ports, SMap.wf_set _ _ _ _ h.bucket⟩)
    | intro _ | with_reducible apply Confined.upd_eth

theorem State.sendPdelayResp_confined (h : Confined m r s) (hm : Within 268460066 m) (a0 : Nat) (a1 : Nat) (a2 : Nat) :
    Confined m r (State.sendPdelayResp s a0 a1 a2) := by
  unfold State.sendPdelayResp
  repeat' first | with_reducible (first | assumption | apply State.sendPtp_confined) | exact Within.trans (by decide) hm | intro _

theorem execPdelayReqReceived_confined (h : Confined m r s) (hm : Within 268460066 m) (a0 : Fin 2) (a1 : PtpPdelay) :
    ConfinedOut m r (execPdelayReqReceived a0 a1 s) := by
  unfold execPdelayReqReceived
  repeat' first
    | with_reducible first
      | assumption | apply Confined.ite | apply ConfinedOut.ite | apply ConfinedOut.next | apply State.inc_confined
      | apply State.sendPdelayResp_confined | apply State.set_confined
    | exact Within.trans (by decide) hm | intro _ | split

theorem State.becomeSlave_confined (h : Confined m r s) (hm : Within 268451842 m) (a0 : PtpBest) :
    Confined m r (State.becomeSlave s a0) := by
  unfold State.becomeSlave
  repeat' first
    | with_reducible first
      | assumption | apply Confined.ite | apply State.set_confined | apply State.setSync_confined
    | exact Within.trans (by decide) hm
    | with_reducible (first | exact fun (h : State.Inv _) => ⟨h.ports, h.bucket⟩ | exact fun (h : State.Inv _) => ⟨SMap.wf_set _ _ _ _ h.ports, h.bucket⟩ | exact fun (h : State.Inv _) => ⟨h.ports, SMap.wf_set _ _ _ _ h.bucket⟩)
    | intro _ | with_reducible apply Confined.upd_eth

theorem execAnnounceReceived_confined (h : Confined m r s) (hm : Within 268451842 m) (a0 : Fin 2) (a1 : PtpAnnounce) :
    ConfinedOut m r (execAnnounceReceived a0 a1 s) := by
  unfold execAnnounceReceived
  repeat' first
    | with_reducible first
      | assumption | apply Confined.ite | apply ConfinedOut.ite | apply ConfinedOut.next | apply State.inc_confined
      | apply State.becomeGm_confined | apply State.becomeSlave_confined
    | exact Within.trans (by decide) hm
    | with_reducible (first | exact fun (h : State.Inv _) => ⟨h.ports, h.bucket⟩ | exact fun (h : State.Inv _) => ⟨SMap.wf_set _ _ _ _ h.ports, h.bucket⟩ | exact fun (h : State.Inv _) => ⟨h.ports, SMap.wf_set _ _ _ _ h.bucket⟩)
    | intro _ | with_reducible apply Confined.upd_eth

theorem State.sendPdelayReq_confined (h : Confined m r s) (hm : Within 268460066 m) (a0 : Nat) :
    Confined m r (State.sendPdelayReq s a0) := by
  unfold State.sendPdelayReq
  repeat' first
    | with_reducible first
      | assumption | apply State.sendPtp_confined | apply State.modEth_confined
    | exact Within.trans (by decide) hm | intro _

theorem State.sendAnnounce_confined (h : Confined m r s) (hm : Within 268460066 m) (a0 : Nat) :
    Confined m r (State.sendAnnounce s a0) := by
  unfold State.sendAnnounce
  repeat' first
    | with_reducible first
      | assumption | apply Confined.ite | apply State.sendPtp_confined | apply State.modEth_confined | apply State.draw_confined
    | exact Within.trans (by decide) hm | intro _

theorem execPtpInterval_confined (h : Confined m r s) (hm : Within 268460066 m) (a0 : Fin 2) (a1 : PtpKind) :
    ConfinedOut m r (execPtpInterval a0 a1 s) := by
  unfold execPtpInterval
  repeat' first
    | with_reducible first
      | assumption | apply Confined.ite | apply ConfinedOut.ite | apply ConfinedOut.next | apply State.sendSync_confined
      | apply State.claimGm_confined | apply State.sendPdelayReq_confined | apply State.sendAnnounce_confined
    | exact Within.trans (by decide) hm | intro _ | split

theorem execSyncTimeout_confined (h : Confined m r s) (hm : Within 268451842 m)  :
    ConfinedOut m r (execSyncTimeout s) := by
  unfold execSyncTimeout
  repeat' first
    | with_reducible first
      | assumption | apply Confined.ite | apply ConfinedOut.ite | apply ConfinedOut.next | apply State.set_confined
      | apply State.setSync_confined
    | exact Within.trans (by decide) hm
    | with_reducible (first | exact fun (h : State.Inv _) => ⟨h.ports, h.bucket⟩ | exact fun (h : State.Inv _) => ⟨SMap.wf_set _ _ _ _ h.ports, h.bucket⟩ | exact fun (h : State.Inv _) => ⟨h.ports, SMap.wf_set _ _ _ _ h.bucket⟩)
    | intro _ | with_reducible apply Confined.upd_eth

theorem execMacAgeing_confined (h : Confined m r s) (hm : Within 268435456 m) (a0 : BitVec 48) :
    ConfinedOut m r (execMacAgeing a0 s) := by
  unfold execMacAgeing
  repeat' first
    | with_reducible first
      | assumption | apply ConfinedOut.next
    | exact Within.trans (by decide) hm
    | with_reducible (first | exact fun (h : State.Inv _) => ⟨h.ports, h.bucket⟩ | exact fun (h : State.Inv _) => ⟨SMap.wf_set _ _ _ _ h.ports, h.bucket⟩ | exact fun (h : State.Inv _) => ⟨h.ports, SMap.wf_set _ _ _ _ h.bucket⟩)
    | intro _ | with_reducible apply Confined.upd_eth

/-! ### Can -/

theorem State.canEnable_confined (h : Confined m r s) (hm : Within 536870914 m) (a0 : Nat) (a1 : Bool) :
    Confined m r (State.canEnable s a0 a1) := by
  unfold State.canEnable
  repeat' first
    | with_reducible first
      | assumption | apply Confined.ite | apply State.set_confined | apply State.put_confined | apply State.modCan_confined
    | exact Within.trans (by decide) hm | intro _

theorem State.syncFifo_confined (h : Confined m r s) (hm : Within 2 m) (a0 : Nat) (a1 : Nat) :
    Confined m r (State.syncFifo s a0 a1) := by
  unfold State.syncFifo
  repeat' first
    | with_reducible first
      | assumption | apply State.forAll_confined | apply State.set_confined
    | exact Within.trans (by decide) hm | intro _

theorem State.canPop_confined (h : Confined m r s) (hm : Within 536870914 m) (a0 : Nat) (a1 : Nat) :
    Confined m r (State.canPop s a0 a1) := by
  unfold State.canPop
  repeat' first
    | with_reducible first
      | assumption | apply State.syncFifo_confined | apply State.modCan_confined
    | exact Within.trans (by decide) hm | intro _

theorem State.canAbort_confined (h : Confined m r s) (hm : Within 2 m) (a0 : Nat) :
    Confined m r (State.canAbort s a0) := by
  unfold State.canAbort
  repeat' first | with_reducible (first | assumption | apply State.set_confined) | exact Within.trans (by decide) hm | intro _

theorem State.canSend_confined (h : Confined m r s) (hm : Within 2 m) (a0 : Nat) :
    Confined m r (State.canSend s a0) := by
  unfold State.canSend
  repeat' first
    | with_reducible first
      | assumption | apply Confined.ite | apply State.set_confined
    | exact Within.trans (by decide) hm | intro _

theorem State.freeBlk_confined (h : Confined m r s) (hm : Within 8192 m) (a0 : Option (Nat × Nat)) :
    Confined m r (State.freeBlk s a0) := by
  unfold State.freeBlk
  repeat' first
    | with_reducible first
      | assumption | apply Confined.ite | apply State.poolFree_confined
    | exact Within.trans (by decide) hm | intro _ | split

theorem State.canQueue_confined (h : Confined m r s) (hm : Within 536870912 m) (a0 : Nat) (a1 : OutMsg) (a2 : Option (Nat × Nat)) :
    Confined m r (State.canQueue s a0 a1 a2) := by
  unfold State.canQueue
  repeat' first | with_reducible (first | assumption | apply State.modCan_confined) | exact Within.trans (by decide) hm | intro _

theorem runCanRecover_confined (h : Confined m r s) (hm : Within 2 m) (a0 : Msg) :
    Confined m r (runCanRecover a0 s).s := by
  unfold runCanRecover
  repeat' first
    | with_reducible first
      | assumption | apply Confined.ite | apply Confined.ite_s | apply State.ok_confined | apply State.set_confined
    | exact Within.trans (by decide) hm | intro _

theorem State.dropCanMsg_confined (h : Confined m r s) (hm : Within 8194 m) (a0 : CanMsg) :
    Confined m r (State.dropCanMsg s a0) := by
  unfold State.dropCanMsg
  repeat' first
    | with_reducible first
      | assumption | apply Confined.ite | apply State.inc_confined | apply State.poolFree_confined
    | exact Within.trans (by decide) hm | intro _ | split

theorem State.canOff_confined (h : Confined m r s) (hm : Within 536895490 m) (a0 : Nat) :
    Confined m r (State.canOff s a0) := by
  unfold State.canOff
  repeat' first
    | with_reducible first
      | assumption | apply State.set_confined | apply State.warn_confined | apply State.inc_confined | apply State.addSat_confined
      | apply Confined.foldl | apply State.dropCanMsg_confined | apply State.modCan_confined
    | exact Within.trans (by decide) hm | intro _

theorem State.canConfine_confined (h : Confined m r s) (hm : Within 536895490 m) (a0 : Nat) :
    Confined m r (State.canConfine s a0) := by
  unfold State.canConfine
  repeat' first
    | with_reducible first
      | assumption | apply Confined.ite | apply State.canOff_confined | apply State.warn_confined | apply State.set_confined
    | exact Within.trans (by decide) hm | intro _

theorem State.canDup_confined (h : Confined m r s) (hm : Within 536887298 m) (a0 : Nat) (a1 : Nat) :
    Confined m r (State.canDup s a0 a1) := by
  unfold State.canDup
  repeat' first
    | with_reducible first
      | assumption | apply Confined.ite | apply State.warn_confined | apply State.modCan_confined | apply State.inc_confined
    | exact Within.trans (by decide) hm | intro _

theorem State.canFault_confined (h : Confined m r s) (hm : Within 536895490 m) (a0 : Nat) (a1 : CanErr) :
    Confined m r (State.canFault s a0 a1) := by
  unfold State.canFault
  repeat' first
    | with_reducible first
      | assumption | apply Confined.ite | apply State.canConfine_confined | apply State.set_confined | apply State.addSat_confined
      | apply State.inc_confined
    | exact Within.trans (by decide) hm | intro _

theorem State.canPush_confined (h : Confined m r s) (hm : Within 536870914 m) (a0 : Nat) (a1 : Nat) (a2 : List Byte) :
    Confined m r (State.canPush s a0 a1 a2) := by
  unfold State.canPush
  repeat' first
    | with_reducible first
      | assumption | apply Confined.ite | apply State.inc_confined | apply State.syncFifo_confined | apply State.modCan_confined
    | exact Within.trans (by decide) hm | intro _

theorem State.canMail_confined (h : Confined m r s) (hm : Within 4 m) (a0 : Nat) (a1 : Nat) (a2 : List Byte) :
    Confined m r (State.canMail s a0 a1 a2) := by
  unfold State.canMail
  repeat' first
    | with_reducible first
      | assumption | apply State.wrBytes_confined | apply State.wrLE_confined
    | exact Within.trans (by decide) hm | intro _

theorem State.canFilter_confined (h : Confined m r s) (hm : Within 536870918 m) (a0 : Nat) (a1 : CanFrame) :
    Confined m r (State.canFilter s a0 a1) := by
  unfold State.canFilter
  repeat' first
    | with_reducible first
      | assumption | apply Confined.ite | apply State.canPush_confined | apply State.inc_confined | apply State.canMail_confined
      | (apply Confined.fst; assumption)
    | exact Within.trans (by decide) hm | intro _
    | (extract_lets +onlyGivenNames x; first | (refine Confined.cut (?_ : Confined m r x) ?_; subst x; rotate_left; intro hx; clear_value x) | (refine Confined.cut (?_ : Confined m r x.s) ?_; subst x; rotate_left; intro hx; clear_value x)| (have hx : _ → _ := x; clear hx; subst x) | (have hx := x; clear hx))
    | dsimp -zeta only | split

theorem State.canGood_confined (h : Confined m r s) (hm : Within 536895522 m) (a0 : Nat) :
    Confined m r (State.canGood s a0) := by
  unfold State.canGood
  repeat' first
    | with_reducible first
      | assumption | apply Confined.ite | apply State.canConfine_confined | apply State.draw_confined | apply State.set_confined
    | exact Within.trans (by decide) hm | intro _

theorem State.canReceive_confined (h : Confined m r s) (hm : Within 536895526 m) (a0 : Nat) (a1 : CanFrame) :
    Confined m r (State.canReceive s a0 a1).1 := by
  unfold State.canReceive
  repeat' first
    | with_reducible first
      | assumption | apply Confined.ite | apply Confined.ite_fst | apply State.inc_confined | apply State.set_confined
      | apply State.canGood_confined | apply State.canDup_confined | apply State.canFilter_confined
    | exact Within.trans (by decide) hm | intro _

theorem State.canSent_confined (h : Confined m r s) (hm : Within 536879104 m) (a0 : Nat) :
    Confined m r (State.canSent s a0) := by
  unfold State.canSent
  repeat' first
    | with_reducible first
      | assumption | apply Confined.ite | apply State.freeBlk_confined | apply State.setCan_confined
    | exact Within.trans (by decide) hm | intro _
    | (extract_lets +onlyGivenNames x; first | (refine Confined.cut (?_ : Confined m r x) ?_; subst x; rotate_left; intro hx; clear_value x) | (have hx := x; clear hx))
    | split

theorem State.tdcMeasure_confined (h : Confined m r s) (hm : Within 2 m) (a0 : Nat) (a1 : CanFrame) (a2 : Nat) :
    Confined m r (State.tdcMeasure s a0 a1 a2) := by
  unfold State.tdcMeasure
  repeat' first
    | with_reducible first
      | assumption | apply Confined.ite | apply State.set_confined
    | exact Within.trans (by decide) hm | intro _

theorem execCanError_confined (h : Confined m r s) (hm : Within 536895490 m) (a0 : Fin 2) (a1 : CanErr) :
    ConfinedOut m r (execCanError a0 a1 s) := by
  unfold execCanError
  repeat' first
    | with_reducible first
      | assumption | apply Confined.ite | apply ConfinedOut.ite | apply ConfinedOut.next | apply State.inc_confined
      | apply State.canFault_confined
    | exact Within.trans (by decide) hm | intro _

theorem execCanFrameTransmit_confined (h : Confined m r s) (hm : Within 536895490 m) (a0 : Fin 2) (a1 : Bool) (a2 : BitVec 16) (a3 : BitVec 256) (a4 : Bool) :
    ConfinedOut m r (execCanFrameTransmit a0 a1 a2 a3 a4 s) := by
  unfold execCanFrameTransmit
  repeat' first
    | with_reducible first
      | assumption | apply Confined.ite | apply ConfinedOut.ite | apply ConfinedOut.next | apply State.canFault_confined
      | apply State.tdcMeasure_confined | apply State.canConfine_confined | apply State.canSent_confined | apply State.set_confined
      | apply State.inc_confined
    | exact Within.trans (by decide) hm | intro _ | split

theorem execCanIntegrationEnd_confined (h : Confined m r s) (hm : Within 536895490 m) (a0 : Fin 2) :
    ConfinedOut m r (execCanIntegrationEnd a0 s) := by
  unfold execCanIntegrationEnd
  repeat' first
    | with_reducible first
      | assumption | apply Confined.ite | apply ConfinedOut.ite | apply ConfinedOut.next | apply State.canConfine_confined
      | apply State.set_confined
    | exact Within.trans (by decide) hm | intro _

theorem execCanRecoveryDone_confined (h : Confined m r s) (hm : Within 2 m) (a0 : Fin 2) :
    ConfinedOut m r (execCanRecoveryDone a0 s) := by
  unfold execCanRecoveryDone
  repeat' first
    | with_reducible first
      | assumption | apply Confined.ite | apply ConfinedOut.ite | apply ConfinedOut.next | apply State.set_confined
    | exact Within.trans (by decide) hm | intro _

/-! ### I2c -/

theorem State.bkPop_confined (h : Confined m r s) (hm : Within 1024 m)  :
    Confined m r (State.bkPop s) := by
  exact Confined.upd_bk h hm _ fun q => by have := q.fifo; simp only [List.length_tail]; omega

theorem State.syncOutq_confined (h : Confined m r s) (hm : Within 2 m)  :
    Confined m r (State.syncOutq s) := by
  unfold State.syncOutq
  repeat' first | with_reducible (first | assumption | apply State.set_confined) | exact Within.trans (by decide) hm | intro _

theorem State.i2cHold_confined (h : Confined m r s) (hm : Within 1073741826 m) (a0 : List Byte) :
    Confined m r (State.i2cHold s a0) := by
  unfold State.i2cHold
  repeat' first
    | with_reducible first
      | assumption | apply State.syncOutq_confined
    | exact Within.trans (by decide) hm | intro _ | with_reducible apply Confined.upd_i2c

theorem State.syncXfer_confined (h : Confined m r s) (hm : Within 2 m)  :
    Confined m r (State.syncXfer s) := by
  unfold State.syncXfer
  repeat' first
    | with_reducible first
      | assumption | apply State.put_confined | apply State.set_confined
    | exact Within.trans (by decide) hm | intro _

theorem State.xferQueue_confined (h : Confined m r s) (hm : Within 1073741826 m) (a0 : Msg) :
    Confined m r (State.xferQueue s a0) := by
  unfold State.xferQueue
  repeat' first
    | with_reducible first
      | assumption | apply State.syncXfer_confined
    | exact Within.trans (by decide) hm | intro _ | with_reducible apply Confined.upd_i2c

theorem State.xferTaken_confined (h : Confined m r s) (hm : Within 1073741824 m) (a0 : Nat) (q : I2cJob × State) (hq : s.xferTaken a0 = some q) :
    Confined m r q.2 := by
  unfold State.xferTaken at hq
  extract_lets fit at hq
  split at hq
  · split at hq
    · cases hq; exact Confined.upd_i2c h hm _
    · cases hq
  · split at hq
    · cases hq; exact Confined.upd_i2c h hm _
    · cases hq
  · cases hq

theorem State.i2cLines_confined (h : Confined m r s) (hm : Within 2 m) (a0 : Nat) (a1 : Bool) (a2 : Bool) :
    Confined m r (State.i2cLines s a0 a1 a2) := by
  unfold State.i2cLines
  repeat' first
    | with_reducible first
      | assumption | apply Confined.ite | apply State.put_confined
    | exact Within.trans (by decide) hm | intro _

theorem State.xferLines_confined (h : Confined m r s) (hm : Within 2 m) (a0 : Nat) (a1 : Nat) :
    Confined m r (State.xferLines s a0 a1) := by
  unfold State.xferLines
  repeat' first
    | with_reducible first
      | assumption | apply Confined.ite | apply State.set_confined | apply State.i2cLines_confined
    | exact Within.trans (by decide) hm | intro _ | split

theorem State.xferEnd_confined (h : Confined m r s) (hm : Within 1073741826 m) (a0 : Nat) (a1 : Nat) (a2 : Nat) (a3 : Nat) (a4 : List Byte) :
    Confined m r (State.xferEnd s a0 a1 a2 a3 a4).1 := by
  have hs : Within 2 m := Within.trans (by decide) hm
  unfold State.xferEnd
  split
  · exact h
  · rename_i j t hj
    have h0 : Confined m r t := State.xferTaken_confined h (Within.trans (by decide) hm) _ _ hj
    extract_lets rec_ retry t1 t2 t3
    have h1 : Confined m r t1 := State.xferLines_confined (State.syncXfer_confined h0 (Within.trans (by decide) hm)) hs _ _
    have h2 : Confined m r t2 :=
      Confined.ite (fun _ => State.inc_confined h1 hs _) (fun _ => State.addSat_confined h1 hs _ _)
    exact Confined.ite (fun _ => State.inc_confined h2 hs _) (fun _ => h2)

theorem State.xferBoundary_confined (h : Confined m r s) (hm : Within 1073741824 m)  :
    Confined m r (State.xferBoundary s) := by
  unfold State.xferBoundary
  repeat' first
    | with_reducible first
      | assumption
    | exact Within.trans (by decide) hm | intro _ | with_reducible apply Confined.upd_i2c

theorem State.handOut_confined (h : Confined m r s) (hm : Within 128 m) (a0 : List Byte) :
    Confined m r (State.handOut s a0) := by
  unfold State.handOut
  repeat' first
    | with_reducible first
      | assumption
    | exact Within.trans (by decide) hm | intro _ | with_reducible apply Confined.upd_readOut

theorem State.i2cByte_confined (h : Confined m r s) (hm : Within 1073742850 m) (a0 : Bool) (a1 : Nat) (a2 : Nat) :
    Confined m r (State.i2cByte s a0 a1 a2).1 := by
  unfold State.i2cByte
  refine Confined.ite_fst (fun _ => h) fun _ => ?_
  split
  · exact h
  · have h0 : ∀ x, Confined m r { s with i2c := x } := fun x => Confined.upd_i2c h (Within.trans (by decide) hm) x
    exact Confined.ite (fun _ => State.bkPop_confined (h0 _) (Within.trans (by decide) hm)) fun _ =>
      Confined.ite (fun _ => State.set_confined (h0 _) (Within.trans (by decide) hm) _ _) fun _ => h0 _

theorem State.i2cBytes_confined (h : Confined m r s) (hm : Within 1073742850 m) (a0 : Bool) (a1 : Nat) (a2 : Nat) (a3 : List Byte) (a4 : Nat) :
    Confined m r (State.i2cBytes s a0 a1 a2 a3 a4).1 := by
  induction a4 generalizing s a0 a1 a2 a3 with
  | zero => exact h
  | succ _ ih =>
    unfold State.i2cBytes
    repeat' first
      | with_reducible first
        | assumption | apply Confined.ite | apply Confined.ite_fst | apply State.i2cByte_confined | (apply Confined.fst; assumption)
        | apply ih
      | exact Within.trans (by decide) hm | intro _
      | (extract_lets +onlyGivenNames x; first | (refine Confined.cut (?_ : Confined m r x) ?_; subst x; rotate_left; intro hx; clear_value x) | (refine Confined.cut (?_ : Confined m r x.s) ?_; subst x; rotate_left; intro hx; clear_value x)| (have hx : _ → _ := x; clear hx; subst x) | (have hx := x; clear hx))
      | dsimp -zeta only | split

theorem State.i2cStore_confined (h : Confined m r s) (hm : Within 2 m) (a0 : Nat) (a1 : List Byte) :
    Confined m r (State.i2cStore s a0 a1) := by
  unfold State.i2cStore
  repeat' first
    | with_reducible first
      | assumption | apply Confined.ite | apply State.forAll_confined | apply State.set_confined
    | exact Within.trans (by decide) hm | intro _

theorem State.wakeServe_confined (h : Confined m r s) (hm : Within 1073742978 m) (a0 : List Byte) (a1 : Nat) :
    Confined m r (State.wakeServe s a0 a1) := by
  have hb : Within 1024 m := Within.trans (by decide) hm
  have hp : ∀ {t : State}, Confined m r t → ∀ k, Confined m r { t with bk := { t.bk with ptr := k } } := fun k _ =>
    Confined.upd_bk k hb _ fun q => q.fifo
  unfold State.wakeServe
  extract_lets t p
  have ht : Confined m r t := by
    unfold t
    split
    · exact hp (State.i2cStore_confined h (Within.trans (by decide) hm) _ _) _
    · exact h
  have hq := State.i2cBytes_confined ht (Within.trans (by decide) hm) false p 0 [] a1
  generalize t.i2cBytes false p 0 [] a1 = q at hq ⊢
  exact State.handOut_confined (hp hq _) (Within.trans (by decide) hm) _

theorem execDormantResponderTransaction_confined (h : Confined m r s) (hm : Within 1073742978 m) (a0 : BitVec 7) (a1 : List Byte) (a2 : BitVec 8) :
    ConfinedOut m r (execDormantResponderTransaction a0 a1 a2 s) := by
  unfold execDormantResponderTransaction
  repeat' first
    | with_reducible first
      | assumption | apply Confined.ite | apply ConfinedOut.ite | apply ConfinedOut.next | apply State.handOut_confined
      | apply State.set_confined | apply State.wakeServe_confined
    | exact Within.trans (by decide) hm
    | with_reducible (first | exact fun (h : State.Inv _) => h.fifo)
    | intro _ | with_reducible apply Confined.upd_bk

theorem execDormantResponderSleep_confined (h : Confined m r s) (hm : Within 1024 m)  :
    ConfinedOut m r (execDormantResponderSleep s) := by
  unfold execDormantResponderSleep
  repeat' first
    | with_reducible first
      | assumption | apply Confined.ite | apply ConfinedOut.ite | apply ConfinedOut.next
    | exact Within.trans (by decide) hm
    | with_reducible (first | exact fun (h : State.Inv _) => h.fifo)
    | intro _ | with_reducible apply Confined.upd_bk

theorem execI2cSHandover_confined (h : Confined m r s) (hm : Within 1073741826 m)  :
    ConfinedOut m r (execI2cSHandover s) := by
  unfold execI2cSHandover
  repeat' first
    | with_reducible first
      | assumption | apply Confined.ite | apply ConfinedOut.ite | apply ConfinedOut.next | apply State.set_confined
      | apply State.i2cLines_confined
    | exact Within.trans (by decide) hm | intro _ | with_reducible apply Confined.upd_i2c

theorem State.i2cIn_confined (h : Confined m r s) (hm : Within 1073741826 m) (a0 : List Byte) :
    Confined m r (State.i2cIn s a0).1 := by
  have hw : ∀ p l x, Confined m r { s.i2cStore p l with i2c := x } := fun p l x =>
    Confined.upd_i2c (State.i2cStore_confined h (Within.trans (by decide) hm) p l) (Within.trans (by decide) hm) x
  unfold State.i2cIn
  split
  · exact Confined.ite_fst (fun _ => State.inc_confined h (Within.trans (by decide) hm) _) fun _ =>
      Confined.ite_fst (fun _ => hw _ _ _) fun _ => hw _ _ _
  · exact h

theorem State.i2cWrite_confined (h : Confined m r s) (hm : Within 1073741826 m) (a0 : Nat) (a1 : List Byte) :
    Confined m r (State.i2cWrite s a0 a1).1 := by
  unfold State.i2cWrite
  repeat' first
    | with_reducible first
      | assumption | apply Confined.ite | apply Confined.ite_fst | apply State.i2cIn_confined | apply State.i2cLines_confined
    | exact Within.trans (by decide) hm | intro _

theorem State.i2cOut_confined (h : Confined m r s) (hm : Within 1073742850 m) (a0 : Nat) :
    Confined m r (State.i2cOut s a0).1 := by
  unfold State.i2cOut
  repeat' first
    | with_reducible first
      | assumption | apply Confined.ite_fst | apply State.i2cBytes_confined
    | exact Within.trans (by decide) hm | intro _ | with_reducible apply Confined.upd_i2c

theorem execI2cSRead_confined (h : Confined m r s) (hm : Within 1073742978 m) (a0 : BitVec 7) (a1 : BitVec 16) :
    ConfinedOut m r (execI2cSRead a0 a1 s) := by
  unfold execI2cSRead
  repeat' first
    | with_reducible first
      | assumption | apply Confined.ite | apply ConfinedOut.ite | apply ConfinedOut.next | apply State.i2cOut_confined
      | apply State.i2cLines_confined | apply State.handOut_confined | apply State.syncOutq_confined
    | exact Within.trans (by decide) hm | intro _ | with_reducible apply Confined.upd_i2c

theorem State.responderCut_confined (h : Confined m r s) (hm : Within 1073742978 m) (a0 : I2cPart) :
    Confined m r (State.responderCut s a0) := by
  unfold State.responderCut
  repeat' first
    | with_reducible first
      | assumption | apply Confined.ite | apply State.wakeServe_confined
    | exact Within.trans (by decide) hm | intro _ | split

theorem State.i2cStuck_confined (h : Confined m r s) (hm : Within 16386 m) (a0 : Nat) (a1 : Nat) (a2 : Fld) :
    Confined m r (State.i2cStuck s a0 a1 a2) := by
  unfold State.i2cStuck
  repeat' first
    | with_reducible first
      | assumption | apply Confined.ite | apply State.warn_confined | apply State.set_confined
    | exact Within.trans (by decide) hm | intro _

theorem State.targetCut_confined (h : Confined m r s) (hm : Within 1073742978 m) (a0 : I2cPart) :
    Confined m r (State.targetCut s a0) := by
  unfold State.targetCut
  repeat' first
    | with_reducible first
      | assumption | apply Confined.ite | apply State.i2cIn_confined | apply State.i2cOut_confined | apply State.handOut_confined
    | exact Within.trans (by decide) hm | intro _ | split

theorem execSclLowTimeout_confined (h : Confined m r s) (hm : Within 1073759362 m) (a0 : Fin 2) (a1 : I2cPart) (a2 : Bool) :
    ConfinedOut m r (execSclLowTimeout a0 a1 a2 s) := by
  unfold execSclLowTimeout
  repeat' first
    | with_reducible first
      | assumption | apply Confined.ite | apply ConfinedOut.ite | apply ConfinedOut.next | apply State.responderCut_confined
      | apply State.i2cStuck_confined | apply State.i2cLines_confined | apply State.targetCut_confined
    | exact Within.trans (by decide) hm | intro _

theorem execSdaLowTimeout_confined (h : Confined m r s) (hm : Within 16386 m) (a0 : Fin 2) :
    ConfinedOut m r (execSdaLowTimeout a0 s) := by
  unfold execSdaLowTimeout
  repeat' first
    | with_reducible first
      | assumption | apply Confined.ite | apply ConfinedOut.ite | apply ConfinedOut.next | apply State.i2cStuck_confined
      | apply State.i2cLines_confined
    | exact Within.trans (by decide) hm | intro _

theorem execI2cTransferStart_confined (h : Confined m r s) (hm : Within 1073741826 m)  :
    ConfinedOut m r (execI2cTransferStart s) := by
  unfold execI2cTransferStart
  repeat' first
    | with_reducible first
      | assumption | apply Confined.ite | apply ConfinedOut.ite | apply ConfinedOut.next | apply State.syncXfer_confined
      | apply State.i2cLines_confined
    | exact Within.trans (by decide) hm | intro _ | split | with_reducible apply Confined.upd_i2c

end Sys2Proof.Machine
end

