-- ==== Sys2Proof/Laws/ConfinedStart.lean ====
section
/-!
SUPPORT. Laws/ConfinedStart.lean: one lemma per operation and command of the image and the start sequence: the components of the state that it can
change, and that it keeps the invariant (`Confined`).
-/
namespace Sys2Proof.Machine

set_option linter.unusedTactic false
set_option linter.unreachableTactic false
set_option linter.unusedVariables false
set_option linter.tactic.unusedName false

variable {m : Nat} {r s : State}

theorem SMap.wfFrom_append {α : Type} [DecidableEq α] (d : Nat → α) (m n : SMap α) (b : Option Nat) (c : Nat)
    (hm : SMap.wfFrom d b m = true) (hmc : ∀ q ∈ m, q.1 < c) (hb : ∀ b', b = some b' → b' < c)
    (hn : SMap.wfFrom d none n = true) (hnc : ∀ q ∈ n, c ≤ q.1) : SMap.wfFrom d b (m ++ n) = true := by
  induction m generalizing b with
  | nil =>
    cases n with
    | nil => cases b <;> rfl
    | cons q r =>
      simp only [List.nil_append, SMap.wfFrom, Bool.and_eq_true] at hn ⊢
      refine ⟨⟨?_, hn.1.2⟩, hn.2⟩
      cases b with
      | none => trivial
      | some b' =>
        have h1 := hb b' rfl
        have h2 := hnc q (by simp)
        simp only [decide_eq_true_eq]; omega
  | cons q r ih =>
    simp only [List.cons_append, SMap.wfFrom, Bool.and_eq_true] at hm ⊢
    refine ⟨hm.1, ih _ hm.2 (fun x hx => hmc x (by simp [hx])) ?_⟩
    intro b' hb'; cases hb'; exact hmc q (by simp)

theorem SMap.wf_splice {α : Type} [DecidableEq α] (d : Nat → α) (m x : SMap α) (a n : Nat) (hm : SMap.wf d m = true)
    (hx : SMap.wf d x = true) (hr : ∀ q ∈ x, a ≤ q.1 ∧ q.1 < a + n) :
    SMap.wf d (m.filter (fun c => decide (c.1 < a)) ++ x ++ m.filter (fun c => decide (a + n ≤ c.1))) = true := by
  refine SMap.wfFrom_append d _ _ none (a + n) ?_ ?_ (by simp) (SMap.wfFrom_filter _ _ _ _ hm) ?_
  · refine SMap.wfFrom_append d _ _ none a (SMap.wfFrom_filter _ _ _ _ hm) ?_ (by simp) hx (fun q hq => (hr q hq).1)
    intro q hq; simpa using (List.mem_filter.mp hq).2
  · intro q hq
    rcases List.mem_append.mp hq with hq | hq
    · have := (List.mem_filter.mp hq).2; simp at this; omega
    · exact (hr q hq).2
  · intro q hq; simpa using (List.mem_filter.mp hq).2

theorem flashCells_range (a : Nat) (l : List Byte) : ∀ q ∈ flashCells a l, a ≤ q.1 ∧ q.1 < a + l.length := by
  induction l generalizing a with
  | nil => simp [flashCells]
  | cons b r ih =>
    intro q hq
    simp only [flashCells] at hq
    simp only [List.length_cons]
    split at hq
    · have := ih _ q hq; omega
    · simp only [List.mem_cons] at hq
      rcases hq with rfl | hq
      · simp
      · have := ih _ q hq; omega

theorem flashCells_wf (a : Nat) (l : List Byte) : SMap.wfFrom (fun _ => 255) none (flashCells a l) = true := by
  induction l generalizing a with
  | nil => rfl
  | cons b r ih =>
    simp only [flashCells]
    split
    · exact ih _
    · rename_i hz
      have hz2 : b.toNat ≠ 255 := fun h => hz (BitVec.eq_of_toNat_eq (by simpa using h))
      have h2 := flashCells_range (a + 1) r
      have h1 := ih (a + 1)
      revert h1 h2
      cases flashCells (a + 1) r with
      | nil => intros; simp only [SMap.wfFrom, Bool.true_and, Bool.and_true]; exact decide_eq_true hz2
      | cons q t =>
        intro h2 h1
        have h3 := h2 q (by simp)
        simp only [SMap.wfFrom, Bool.and_eq_true, decide_eq_true_eq] at h1 ⊢
        refine ⟨⟨trivial, by first | exact hz2 | exact decide_eq_true hz2⟩, ⟨⟨by omega, h1.1.2⟩, h1.2⟩⟩

theorem memCells_range (a : Nat) (l : List Byte) : ∀ q ∈ memCells a l, a ≤ q.1 ∧ q.1 < a + l.length := by
  induction l generalizing a with
  | nil => simp [memCells]
  | cons b r ih =>
    intro q hq
    simp only [memCells] at hq
    simp only [List.length_cons]
    split at hq
    · have := ih _ q hq; omega
    · simp only [List.mem_cons] at hq
      rcases hq with rfl | hq
      · simp
      · have := ih _ q hq; omega

theorem memCells_wf (a : Nat) (l : List Byte) : SMap.wfFrom memReset none (memCells a l) = true := by
  induction l generalizing a with
  | nil => rfl
  | cons b r ih =>
    simp only [memCells]
    split
    · exact ih _
    · rename_i hz
      have h2 := memCells_range (a + 1) r
      have h1 := ih (a + 1)
      revert h1 h2
      cases memCells (a + 1) r with
      | nil => intros; simp only [SMap.wfFrom, Bool.true_and, Bool.and_true]; exact decide_eq_true hz
      | cons q t =>
        intro h2 h1
        have h3 := h2 q (by simp)
        simp only [SMap.wfFrom, Bool.and_eq_true, decide_eq_true_eq] at h1 ⊢
        refine ⟨⟨trivial, by first | exact hz | exact decide_eq_true hz⟩, ⟨⟨by omega, h1.1.2⟩, h1.2⟩⟩

theorem SMap.wfFrom_shift {α : Type} [DecidableEq α] (v : α) (a b : Nat) (m : SMap α) (o : Option Nat)
    (h : SMap.wfFrom (fun _ => v) o m = true) (hm : ∀ q ∈ m, a ≤ q.1) (ho : ∀ x, o = some x → a ≤ x) :
    SMap.wfFrom (fun _ => v) (o.map (fun x => x - a + b)) (m.map (fun c => (c.1 - a + b, c.2))) = true := by
  induction m generalizing o with
  | nil => cases o <;> rfl
  | cons q r ih =>
    simp only [List.map_cons, SMap.wfFrom, Bool.and_eq_true] at h ⊢
    have hq := hm q (by simp)
    refine ⟨⟨?_, h.1.2⟩, ih (some q.1) h.2 (fun x hx => hm x (by simp [hx])) (by intro x hx; cases hx; exact hq)⟩
    cases o with
    | none => trivial
    | some x =>
      have h1 := ho x rfl
      have h2 := h.1.1
      simp only [Option.map_some, decide_eq_true_eq] at h2 ⊢
      omega

/-! ### Image -/

theorem State.putRecord_confined (h : Confined m r s) (hm : Within 2 m) (a0 : Nat) (a1 : Nat) :
    Confined m r (State.putRecord s a0 a1) := by
  unfold State.putRecord
  repeat' first
    | with_reducible first
      | assumption | apply Confined.ite | apply State.pokeWord_confined
    | exact Within.trans (by decide) hm | intro _

theorem State.applyList_confined (h : Confined m r s) (hm : Within 2 m) (t : Nat) (l : List (Nat × Nat)) :
    ∀ u, s.applyList t l = some u → Confined m r u := by
  induction l generalizing s with
  | nil => intro u hu; simp only [State.applyList, Option.some.injEq] at hu; exact hu ▸ h
  | cons q l ih =>
    intro u hu
    obtain ⟨a, v⟩ := q
    simp only [State.applyList] at hu
    split at hu
    · split at hu
      · cases hu
      · exact ih (State.putRecord_confined h hm a v) u hu
    · cases hu

theorem Content.section_confined {c d : Content} (h : Confined m r c.s) (hm : Within 2 m) (l : List Byte) (e : Sect)
    (hd : c.section_ l e = some d) : Confined m r d.s := by
  unfold Content.section_ at hd
  dsimp only at hd
  split at hd
  · split at hd
    · obtain ⟨u, hu, rfl⟩ := Option.map_eq_some_iff.mp hd
      exact State.applyList_confined h hm _ _ u hu
    · cases hd
  · repeat' split at hd
    all_goals first
      | (obtain ⟨u, hu, rfl⟩ := Option.map_eq_some_iff.mp hd; exact h)
      | (cases hd; exact h)

theorem Content.sections_confined {c d : Content} (h : Confined m r c.s) (hm : Within 2 m) (l : List Byte) (i : Nat) (es : List Sect)
    (hd : c.sections l i es = .inl d) : Confined m r d.s := by
  induction es generalizing c i with
  | nil => simp only [Content.sections, Sum.inl.injEq] at hd; exact hd ▸ h
  | cons e r ih =>
    simp only [Content.sections] at hd
    split at hd
    · rename_i c2 hc
      exact ih (Content.section_confined h hm l e hc) _ hd
    · cases hd

theorem State.verifyBody_confined {s b : State} {l : List Byte} {c : Content} (h : Confined m r b) (hm : Within 2 m)
    (hc : s.verifyBody b l = .inl c) : Confined m r c.s := by
  unfold State.verifyBody at hc
  split at hc
  · cases hc
  · split at hc
    · cases hc
    · rename_i c2 h2
      have h3 := Content.sections_confined (c := { s := b }) h hm l 0 _ h2
      split at hc
      · cases hc
      · split at hc
        · cases hc
        · cases hc; exact h3

/-! ### Start -/

theorem State.memCopy_confined (h : Confined m r s) (hm : Within 4 m) (a b n : Nat) : Confined m r (s.memCopy a b n) := by
  refine ⟨{ h.only with mem := OnlyN.free hm (by decide) }, fun q => { h.inv q with mem := ?_ }⟩
  have hf := SMap.wfFrom_filter memReset (fun c => decide (a ≤ c.1) && decide (c.1 < a + n)) s.mem none (h.inv q).mem
  have hr : ∀ q ∈ s.mem.filter (fun c => decide (a ≤ c.1) && decide (c.1 < a + n)), a ≤ q.1 ∧ q.1 < a + n := by
    intro q hq; simpa using (List.mem_filter.mp hq).2
  refine SMap.wf_splice memReset s.mem _ b n (h.inv q).mem (SMap.wfFrom_shift 0 a b _ none hf (fun q hq => (hr q hq).1) (by simp)) ?_
  intro q hq
  obtain ⟨c, hc, rfl⟩ := List.mem_map.mp hq
  have := hr c hc
  constructor <;> simp only <;> omega

theorem State.keyGo_confined (h : Confined m r s) (hm : Within 20482 m) (a0 : Nat) :
    Confined m r (State.keyGo s a0) := by
  unfold State.keyGo
  repeat' first
    | with_reducible first
      | assumption | apply Confined.ite | apply State.warn_confined | apply State.set_confined
    | exact Within.trans (by decide) hm
    | with_reducible (first | exact fun (h : State.Inv _) => h.cells | exact fun (h : State.Inv _) => SMap.wf_set _ _ _ _ h.cells)
    | intro _ | with_reducible apply Confined.upd_flash

theorem State.goLoading_confined (h : Confined m r s) (hm : Within 11798530 m)  :
    Confined m r (State.goLoading s) := by
  unfold State.goLoading
  repeat' first
    | with_reducible first
      | assumption | apply State.set_confined | apply State.enginesOff_confined | apply State.outputsOff_confined
    | exact Within.trans (by decide) hm | intro _ | with_reducible apply Confined.upd_start

theorem State.concludeOk_confined (h : Confined m r s) (hm : Within 2 m)  :
    Confined m r (State.concludeOk s) := by
  unfold State.concludeOk
  repeat' first
    | with_reducible first
      | assumption | apply State.set_confined | apply State.setBk_confined
    | exact Within.trans (by decide) hm | intro _

theorem runClearStartCount_confined (h : Confined m r s) (hm : Within 2 m) (a0 : Msg) :
    Confined m r (runClearStartCount a0 s).s := by
  unfold runClearStartCount
  repeat' first
    | with_reducible first
      | assumption | apply Confined.ite | apply Confined.ite_s | apply State.ok_confined | apply State.concludeOk_confined
      | apply State.setBk_confined | apply State.nak_confined
    | exact Within.trans (by decide) hm | intro _

theorem State.flashPut_confined (h : Confined m r s) (hm : Within 4096 m) (a b : Nat) (l : List Byte) : Confined m r (s.flashPut a b l) :=
  Confined.upd_flash h hm _ fun q => by
    have hw := SMap.wf_splice (fun _ => 255) s.flash.cells _ a (max b (a + l.length) - a) q.cells (flashCells_wf a l)
      (fun q hq => ⟨(flashCells_range a l q hq).1, by have := (flashCells_range a l q hq).2; omega⟩)
    have he : a + (max b (a + l.length) - a) = max b (a + l.length) := by omega
    rwa [he] at hw

theorem runErase_confined (h : Confined m r s) (hm : Within 4096 m) (a0 : Msg) :
    Confined m r (runErase a0 s).s := by
  unfold runErase
  extract_lets k t x y
  have ht : Confined m r t := State.flashPut_confined h hm _ _ _
  clear_value t
  have hy : Confined m r y.s :=
    State.ok_confined (Confined.upd_flash ht hm { t.flash with job := .erase k, eraser := some a0 } fun q => q.cells) _
  clear_value y
  split
  · exact State.nak_confined h _
  · exact Confined.ite_s (fun _ => State.nak_confined h _) (fun _ => hy)

theorem runBegin_confined (h : Confined m r s) (hm : Within 4098 m) (a0 : Msg) :
    Confined m r (runBegin a0 s).s := by
  have hs : Within 2 m := Within.trans (by decide) hm
  have hf : Within 4096 m := Within.trans (by decide) hm
  unfold runBegin
  extract_lets k len t x u v
  have ht : Confined m r t := State.flashPut_confined h hf _ _ _
  clear_value t
  have hu : Confined m r u := Confined.upd_flash ht hf _ fun q => q.cells
  have hv : Confined m r v := State.set_confined (State.set_confined (State.set_confined hu hs _ _) hs _ _) hs _ _
  clear_value v
  split
  · exact State.nak_confined h _
  · exact Confined.ite_s (fun _ => State.nak_confined h _) (fun _ => State.ok_confined hv _)

theorem State.wrData_confined (h : Confined m r s) (hm : Within 4098 m) (a0 : Nat) (a1 : Nat) (a2 : List Byte) :
    Confined m r (State.wrData s a0 a1 a2) := by
  unfold State.wrData
  repeat' first
    | with_reducible first
      | assumption | apply Confined.ite | apply State.set_confined | apply State.flashPut_confined
    | exact Within.trans (by decide) hm
    | with_reducible (first | exact fun (h : State.Inv _) => h.cells | exact fun (h : State.Inv _) => SMap.wf_set _ _ _ _ h.cells)
    | intro _ | with_reducible apply Confined.upd_flash

theorem runData_confined (h : Confined m r s) (hm : Within 4098 m) (a0 : Msg) :
    Confined m r (runData a0 s).s := by
  unfold runData
  repeat' first
    | with_reducible first
      | assumption | apply Confined.ite | apply Confined.ite_s | apply State.nak_confined | apply State.ok_confined
      | apply State.limit_confined | apply State.wrData_confined
    | exact Within.trans (by decide) hm | intro _
    | (extract_lets +onlyGivenNames x; first | (refine Confined.cut (?_ : Confined m r x) ?_; subst x; rotate_left; intro hx; clear_value x) | (have hx := x; clear hx))
    | split

theorem runCommit_confined (h : Confined m r s) (hm : Within 4098 m) (a0 : Msg) :
    Confined m r (runCommit a0 s).s := by
  have hf : Within 4096 m := Within.trans (by decide) hm
  unfold runCommit
  extract_lets k x t y
  have ht : Confined m r t := Confined.upd_flash h hf _ fun q => q.cells
  have hy : Confined m r y.s := State.ok_confined (State.set_confined ht (Within.trans (by decide) hm) _ _) _
  clear_value y
  split
  · exact State.nak_confined h _
  · split
    · exact State.nak_confined h _
    · exact Confined.ite_s (fun _ => State.nak_confined h _) fun _ => Confined.ite_s (fun _ => State.limit_confined h _) fun _ => hy

theorem State.wrClose_confined (h : Confined m r s) (hm : Within 4098 m)  :
    Confined m r (State.wrClose s) := by
  unfold State.wrClose
  repeat' first
    | with_reducible first
      | assumption | apply State.set_confined
    | exact Within.trans (by decide) hm
    | with_reducible (first | exact fun (h : State.Inv _) => h.cells | exact fun (h : State.Inv _) => SMap.wf_set _ _ _ _ h.cells)
    | intro _ | with_reducible apply Confined.upd_flash

theorem runAbort_confined (h : Confined m r s) (hm : Within 4098 m) (a0 : Msg) :
    Confined m r (runAbort a0 s).s := by
  unfold runAbort
  extract_lets k t x u
  have ht : Confined m r t := State.wrClose_confined h hm
  clear_value t
  have hu : Confined m r u := Confined.upd_flash ht (Within.trans (by decide) hm) _ fun q => q.cells
  clear_value u
  split
  · exact State.nak_confined h _
  · split
    · exact State.ok_confined h _
    · exact Confined.ite_s (fun _ => State.nak_confined h _) fun _ => State.ok_confined hu _

theorem runImageWrite_confined (h : Confined m r s) (hm : Within 4098 m) (a0 : Msg) :
    Confined m r (runImageWrite a0 s).s := by
  unfold runImageWrite
  repeat' first
    | with_reducible first
      | assumption | apply Confined.ite | apply Confined.ite_s | apply runErase_confined | apply runBegin_confined
      | apply runData_confined | apply runCommit_confined | apply runAbort_confined
    | exact Within.trans (by decide) hm | intro _ | split

theorem runRestart_confined (h : Confined m r s) (hm : Within 4098 m) (a0 : Msg) :
    Confined m r (runRestart a0 s).s := by
  unfold runRestart
  repeat' first
    | with_reducible first
      | assumption | apply Confined.ite | apply Confined.ite_s | apply State.nak_confined | apply State.ok_confined
      | apply State.set_confined
    | exact Within.trans (by decide) hm
    | with_reducible (first | exact fun (h : State.Inv _) => h.cells | exact fun (h : State.Inv _) => SMap.wf_set _ _ _ _ h.cells)
    | intro _ | with_reducible apply Confined.upd_flash

theorem State.commitEnd_confined (h : Confined m r s) (hm : Within 4098 m) :
    Confined m r s.commitEnd.1 ∧ ∀ q x, s.commitEnd.2 = some (q, x) → Confined m r x.s := by
  have hs : Within 2 m := Within.trans (by decide) hm
  have hf : Within 4096 m := Within.trans (by decide) hm
  unfold State.commitEnd
  split
  · exact ⟨h, fun _ _ hq => by cases hq⟩
  · rename_i a b hc
    clear hc
    extract_lets x t k l g rej u w
    have ht : Confined m r t := Confined.upd_flash h hf _ fun q => q.cells
    clear_value t
    have hu : Confined m r u := State.wrClose_confined ht hm
    clear_value u rej
    have hw : Confined m r w := State.set_confined (State.flashPut_confined hu hf _ _ _) hs _ _
    clear_value w
    split
    · exact ⟨ht, fun q y hq => by cases hq; exact State.nak_confined ht _⟩
    · split
      · have hv := State.set_confined hu hs Reg.SYS_IMG_WR_STAT_LAST_REJECT (Rej.code ‹_›)
        exact ⟨hv, fun q y hq => by cases hq; exact State.limit_confined hv 0⟩
      · exact ⟨hw, fun q y hq => by cases hq; exact State.ok_confined hw _⟩

theorem State.eraseEnd_confined (h : Confined m r s) (hm : Within 4098 m) :
    Confined m r s.eraseEnd.1 ∧ ∀ q x, s.eraseEnd.2 = some (q, x) → Confined m r x.s := by
  have hf : ∀ x : FlashCtl, x.cells = s.flash.cells → Confined m r { s with flash := x } := fun x hx =>
    Confined.upd_flash h (Within.trans (by decide) hm) _ fun q => by rw [hx]; exact q.cells
  unfold State.eraseEnd
  split
  · exact ⟨h, fun _ _ hq => by cases hq⟩
  · exact ⟨State.set_confined (hf { s.flash with job := .idle } rfl) (Within.trans (by decide) hm) _ _, fun _ _ hq => by cases hq⟩
  · have he := hf { s.flash with job := .idle, eraser := none } rfl
    refine ⟨he, fun q x hq => ?_⟩
    obtain ⟨y, _, hy⟩ := Option.map_eq_some_iff.mp hq
    cases hy
    exact State.ok_confined he _

theorem State.enterFallback_confined (h : Confined m r s) (hm : Within 2050 m)  :
    Confined m r (State.enterFallback s) := by
  unfold State.enterFallback
  repeat' first
    | with_reducible first
      | assumption | apply State.set_confined | apply State.wakeEnd_confined
    | exact Within.trans (by decide) hm | intro _ | with_reducible apply Confined.upd_start

theorem State.freeFuses_confined (h : Confined m r s) (hm : Within 34 m)  :
    Confined m r (State.freeFuses s) := by
  unfold State.freeFuses
  repeat' first
    | with_reducible first
      | assumption | apply State.put_confined | apply State.forAll_confined | apply State.draw_confined | apply State.set_confined
    | exact Within.trans (by decide) hm | intro _

theorem State.cleared_confined (h : Confined m r s) (hm : Within 2147482422 m) : Confined m r s.cleared := by
  have hs : Within 2 m := Within.trans (by decide) hm
  unfold State.cleared
  extract_lets z t0 t1 t2 t3 t4 t5
  have h0 : Confined m r t0 := by
    refine ⟨{ h.only with
      regs := OnlyN.free hm (by decide), mem := OnlyN.free hm (by decide), ntimeH := OnlyN.free hm (by decide)
      awaiting := OnlyN.free hm (by decide), tick_ := OnlyN.free hm (by decide), start := OnlyN.free hm (by decide)
      flash := OnlyN.free hm (by decide), pool := OnlyN.free hm (by decide), led := OnlyN.free hm (by decide)
      flt := OnlyN.free hm (by decide), sess := OnlyN.free hm (by decide), holds := OnlyN.free hm (by decide)
      eng := OnlyN.free hm (by decide), grp := OnlyN.free hm (by decide), axis := OnlyN.free hm (by decide)
      cur := OnlyN.free hm (by decide), clave := OnlyN.free hm (by decide), ho := OnlyN.free hm (by decide)
      snare := OnlyN.free hm (by decide), fb := OnlyN.free hm (by decide), echo := OnlyN.free hm (by decide)
      field := OnlyN.free hm (by decide), eth := OnlyN.free hm (by decide), can := OnlyN.free hm (by decide)
      i2c := OnlyN.free hm (by decide) }, fun q => ?_⟩
    exact { mem := rfl, regs := rfl, eng := rfl, grp := rfl, axis := rfl, cur := rfl, clave := rfl, ho := rfl, snare := rfl, fb := rfl,
            echo := rfl, can := rfl, sess := rfl, holds := rfl, cells := (h.inv q).cells, owner := rfl, grants := rfl, written := rfl,
            pu := (h.inv q).pu, ports := rfl, bucket := rfl, evq := Nat.zero_le 1022, turn := fun _ hu => (by cases hu),
            fifo := (h.inv q).fifo }
  clear_value t0
  have h1 : Confined m r t1 := State.forAll_confined h0 _ _ fun _ _ k => State.setPu_confined k (Within.trans (by decide) hm) _ _
  have h2 : Confined m r t2 := State.forAll_confined h1 _ _ fun _ _ k => State.setFb_confined k (Within.trans (by decide) hm) _ _
  have h3 : Confined m r t3 := Confined.foldl _ _ h2 fun _ _ k => State.set_confined k hs _ _
  have h4 : Confined m r t4 := State.set_confined (State.set_confined (State.set_confined h3 hs _ _) hs _ _) hs _ _
  have h5 : Confined m r t5 := State.set_confined (State.enginesOff_confined h4 (Within.trans (by decide) hm)) hs _ _
  exact Confined.ite (fun _ => State.freeFuses_confined h5 (Within.trans (by decide) hm)) (fun _ => h5)

theorem State.attempt_confined (h : Confined m r s) (hm : Within 2 m) (a0 : Bool) :
    Confined m r (State.attempt s a0) := by
  unfold State.attempt
  repeat' first | with_reducible (first | assumption | apply State.setBk_confined) | exact Within.trans (by decide) hm | intro _

theorem State.recordFailure_confined (h : Confined m r s) (hm : Within 2 m) (a0 : Nat) (a1 : Nat) :
    Confined m r (State.recordFailure s a0 a1) := by
  unfold State.recordFailure
  repeat' first | with_reducible (first | assumption | apply State.setBk_confined) | exact Within.trans (by decide) hm | intro _

theorem State.countEntry_confined (h : Confined m r s) (hm : Within 1026 m) (a0 : Nat) :
    Confined m r (State.countEntry s a0) := by
  unfold State.countEntry
  repeat' first
    | with_reducible first
      | assumption | apply Confined.ite | apply State.attempt_confined | apply State.recordFailure_confined | apply State.put_confined
      | apply State.set_confined
    | exact Within.trans (by decide) hm
    | with_reducible (first | exact fun (h : State.Inv _) => h.fifo)
    | intro _ | with_reducible apply Confined.upd_bk

theorem State.concludeFail_confined (h : Confined m r s) (hm : Within 2050 m) (a0 : Nat) :
    Confined m r (State.concludeFail s a0) := by
  unfold State.concludeFail
  repeat' first
    | with_reducible first
      | assumption | apply Confined.ite | apply State.enterFallback_confined | apply State.attempt_confined
      | apply State.recordFailure_confined
    | exact Within.trans (by decide) hm | intro _ | with_reducible apply Confined.upd_start

theorem State.memPut_confined (h : Confined m r s) (hm : Within 4 m) (a : Nat) (l : List Byte) : Confined m r (s.memPut a l) :=
  ⟨{ h.only with mem := OnlyN.free hm (by decide) },
    fun q => { h.inv q with mem := SMap.wf_splice memReset s.mem _ a _ (h.inv q).mem (memCells_wf a l) (memCells_range a l) }⟩

theorem State.examine_confined (h : Confined m r s) (hm : Within 2054 m)  :
    Confined m r (State.examine s) := by
  have hs : Within 2 m := Within.trans (by decide) hm
  unfold State.examine
  extract_lets gen order q word t u v
  have ht : Confined m r t := State.setBk_confined (State.setBk_confined h hs _ _) hs _ _
  have hu : Confined m r u := State.set_confined (State.set_confined ht hs _ _) hs _ _
  clear_value u
  have hv : Confined m r v := Confined.foldl _ _ hu fun _ _ k =>
    Confined.ite (fun _ => k) (fun _ => State.memPut_confined k (Within.trans (by decide) hm) _ _)
  clear_value v
  split
  · exact Confined.upd_start hv (Within.trans (by decide) hm) _
  · exact State.concludeFail_confined hv (Within.trans (by decide) hm) _

theorem execLoadingEntry_confined (h : Confined m r s) (hm : Within 2147483446 m) (a0 : BitVec 4) (a1 : BitVec 16) (a2 : BitVec 8) :
    ConfinedOut m r (execLoadingEntry a0 a1 a2 s) := by
  unfold execLoadingEntry
  repeat' first
    | with_reducible first
      | assumption | apply Confined.ite | apply ConfinedOut.ite | apply ConfinedOut.next | apply State.enterFallback_confined
      | apply State.set_confined | apply State.vbakShow_confined | apply State.cleared_confined | apply State.countEntry_confined
      | apply State.concludeFail_confined | apply State.examine_confined | (apply Confined.fst; assumption)
    | exact Within.trans (by decide) hm | intro _
    | (extract_lets +onlyGivenNames x; first | (refine Confined.cut (?_ : Confined m r x) ?_; subst x; rotate_left; intro hx; clear_value x) | (refine Confined.cut (?_ : Confined m r x.s) ?_; subst x; rotate_left; intro hx; clear_value x)| (have hx : _ → _ := x; clear hx; subst x) | (have hx := x; clear hx))
    | dsimp -zeta only | split | with_reducible apply Confined.upd_start

theorem State.imageBase_confined (h : Confined m r s) (hm : Within 2 m)  :
    Confined m r (State.imageBase s) := by
  unfold State.imageBase
  repeat' first
    | with_reducible first
      | assumption | apply State.set_confined | apply State.forAll_confined
    | exact Within.trans (by decide) hm | intro _

theorem State.standbyTell_confined (h : Confined m r s) (hm : Within 16386 m) (a0 : Nat) (a1 : Nat) :
    Confined m r (State.standbyTell s a0 a1) := by
  unfold State.standbyTell
  repeat' first
    | with_reducible first
      | assumption | apply Confined.ite | apply State.claimGm_confined | apply State.warn_confined | apply State.sealEvq_confined
      | apply State.info_confined
    | exact Within.trans (by decide) hm | intro _

theorem State.standbyShow_confined (h : Confined m r s) (hm : Within 2 m) (a0 : Nat) (a1 : Nat) :
    Confined m r (State.standbyShow s a0 a1) := by
  unfold State.standbyShow
  repeat' first
    | with_reducible first
      | assumption | apply State.setBk_confined | apply State.put_confined | apply State.set_confined
    | exact Within.trans (by decide) hm | intro _

theorem State.standbyUnits_confined (h : Confined m r s) (hm : Within 33554946 m)  :
    Confined m r (State.standbyUnits s) := by
  unfold State.standbyUnits
  repeat' first
    | with_reducible first
      | assumption | apply Confined.ite | apply State.forAll_confined | apply State.set_confined | apply State.wakeEnd_confined
      | apply State.syncValid_confined | apply State.fbBegin_confined | apply State.syncPu_confined
    | exact Within.trans (by decide) hm | intro _ | with_reducible apply Confined.upd_tick_

theorem State.enterStandby_confined (h : Confined m r s) (hm : Within 33581570 m) (a0 : Nat) :
    Confined m r (State.enterStandby s a0) := by
  unfold State.enterStandby
  repeat' first
    | with_reducible first
      | assumption | apply State.syncPool_confined | apply State.set_confined | apply State.standbyTell_confined
      | apply State.standbyShow_confined | apply State.standbyUnits_confined
    | exact Within.trans (by decide) hm | intro _ | with_reducible apply Confined.upd_start

theorem State.derive_confined (h : Confined m r s) (hm : Within 270532610 m) (a0 : List Byte) :
    Confined m r (State.derive s a0) := by
  unfold State.derive
  repeat' first
    | with_reducible first
      | assumption | apply Confined.ite | apply State.forAll_confined | apply State.set_confined | apply State.modCur_confined
      | apply State.setBucket_confined
    | exact Within.trans (by decide) hm | intro _

theorem State.putGate_confined (h : Confined m r s) (hm : Within 6 m) (a0 : GateBlk) :
    Confined m r (State.putGate s a0) := by
  unfold State.putGate
  repeat' first
    | with_reducible first
      | assumption | apply State.set_confined | apply State.memPut_confined
    | exact Within.trans (by decide) hm | intro _

theorem State.putCode_confined (h : Confined m r s) (hm : Within 524294 m) (a0 : List Nat) (a1 : List LeBlk) :
    Confined m r (State.putCode s a0 a1) := by
  unfold State.putCode
  repeat' first
    | with_reducible first
      | assumption | apply Confined.foldl | apply State.modGrp_confined | apply State.memPut_confined | apply State.forAll_confined
      | apply State.set_confined
    | exact Within.trans (by decide) hm | intro _

theorem State.applyImage_confined {c : Content} (h : Confined m r c.s) (hm : Within 271056902 m) (l : List Byte) :
    Confined m r (State.applyImage c l) := by
  unfold State.applyImage
  extract_lets t0 t1 t2 t3 t4 t5 t6 t7
  have hs : Within 2 m := Within.trans (by decide) hm
  have hp : ∀ {t : State} (a : Nat) (b : List Byte), Confined m r t → Confined m r (t.memPut a b) := fun a b k =>
    State.memPut_confined k (Within.trans (by decide) hm) a b
  have h0 : Confined m r t0 := State.putCode_confined h (Within.trans (by decide) hm) _ _
  have h1 : Confined m r t1 := Confined.foldl _ _ h0 fun _ _ k => hp _ _ k
  have h2 : Confined m r t2 := Confined.foldl _ _ h1 fun _ _ k => State.putGate_confined k (Within.trans (by decide) hm) _
  have h3 : Confined m r t3 := Confined.foldl _ _ h2 fun _ _ k => hp _ _ k
  have h4 : Confined m r t4 := State.derive_confined h3 (Within.trans (by decide) hm) _
  have h5 : Confined m r t5 := State.set_confined (State.set_confined h4 hs _ _) hs _ _
  have h6 : Confined m r t6 := State.put_confined (State.set_confined h5 hs _ _) hs _ _
  exact State.set_confined (State.set_confined h6 hs _ _) hs _ _

theorem execStartSequenceComplete_confined (h : Confined m r s) (hm : Within 304638470 m)  :
    ConfinedOut m r (execStartSequenceComplete s) := by
  unfold execStartSequenceComplete
  split
  · split
    · exact .next h
    · split
      · exact .next h
      · rename_i hc
        exact .next (State.enterStandby_confined (State.applyImage_confined (State.verifyBody_confined
          (State.imageBase_confined h (Within.trans (by decide) hm)) (Within.trans (by decide) hm) hc) (Within.trans (by decide) hm) _)
          (Within.trans (by decide) hm) _)
  · exact .next h

theorem execLoadTimeout_confined (h : Confined m r s) (hm : Within 2050 m)  :
    ConfinedOut m r (execLoadTimeout s) := by
  unfold execLoadTimeout
  repeat' first
    | with_reducible first
      | assumption | apply Confined.ite | apply ConfinedOut.ite | apply ConfinedOut.next | apply State.concludeFail_confined
    | exact Within.trans (by decide) hm | intro _

theorem execStartSuccess_confined (h : Confined m r s) (hm : Within 2 m)  :
    ConfinedOut m r (execStartSuccess s) := by
  unfold execStartSuccess
  repeat' first
    | with_reducible first
      | assumption | apply Confined.ite | apply ConfinedOut.ite | apply ConfinedOut.next | apply State.set_confined
      | apply State.concludeOk_confined
    | exact Within.trans (by decide) hm | intro _

theorem execLoadingClockReturn_confined (h : Confined m r s) (hm : Within 34818 m)  :
    ConfinedOut m r (execLoadingClockReturn s) := by
  unfold execLoadingClockReturn
  repeat' first
    | with_reducible first
      | assumption | apply Confined.ite | apply ConfinedOut.ite | apply ConfinedOut.next | apply State.concludeFail_confined
      | apply State.set_confined
    | exact Within.trans (by decide) hm | intro _
    | with_reducible (first | apply Confined.upd_start | apply Confined.upd_flt)

theorem execKeyhashProgramDone_confined (h : Confined m r s) (hm : Within 4130 m) (a0 : Bool) :
    ConfinedOut m r (execKeyhashProgramDone a0 s) := by
  unfold execKeyhashProgramDone
  repeat' first
    | with_reducible first
      | assumption | apply Confined.ite | apply ConfinedOut.ite | apply ConfinedOut.next | apply State.set_confined
      | apply State.forAll_confined | apply State.put_confined | apply State.freeFuses_confined
    | exact Within.trans (by decide) hm
    | with_reducible (first | exact fun (h : State.Inv _) => h.cells | exact fun (h : State.Inv _) => SMap.wf_set _ _ _ _ h.cells)
    | intro _ | split | with_reducible apply Confined.upd_flash

end Sys2Proof.Machine
end

