-- ==== Sys2Proof/Laws/ConfinedBus.lean ====
section
/-!
SUPPORT. Laws/ConfinedBus.lean: one lemma per operation and command of register access, engines and the group view: the components of the state that it can
change, and that it keeps the invariant (`Confined`).
-/
namespace Sys2Proof.Machine

set_option linter.unusedTactic false
set_option linter.unreachableTactic false
set_option linter.unusedVariables false
set_option linter.tactic.unusedName false

variable {m : Nat} {r s : State}

/-! ### Bus -/

theorem State.zeroShown_confined (h : Confined m r s) (hm : Within 4210688 m) (a0 : Nat) :
    Confined m r (State.zeroShown s a0) := by
  unfold State.zeroShown
  repeat' first
    | with_reducible first
      | assumption | apply Confined.ite | apply State.modClave_confined
    | exact Within.trans (by decide) hm
    | with_reducible (first | exact fun (h : State.Inv _) => ⟨h.evq, h.turn⟩)
    | intro _ | with_reducible apply Confined.upd_led

theorem State.memWrite_confined (h : Confined m r s) (hm : Within 268443654 m) (a0 : Nat) (a1 : Nat) :
    Confined m r (State.memWrite s a0 a1) := by
  unfold State.memWrite
  repeat' first
    | with_reducible first
      | assumption | apply Confined.ite | apply State.poolPuts_confined | apply State.settleMeter_confined | apply State.wrLE_confined
    | exact Within.trans (by decide) hm | intro _

theorem State.xmemUe_confined (h : Confined m r s) (hm : Within 435806214 m) (a0 : Nat) :
    Confined m r (State.xmemUe s a0) := by
  unfold State.xmemUe
  repeat' first
    | with_reducible first
      | assumption | apply State.raiseDevice_confined | apply State.set_confined | apply State.zeroShown_confined
      | apply State.memWrite_confined
    | exact Within.trans (by decide) hm | intro _ | with_reducible apply Confined.upd_flt

theorem State.sramUeFor_confined (h : Confined m r s) (hm : Within 167593986 m) (a0 : Nat) (a1 : Option Nat) :
    Confined m r (State.sramUeFor s a0 a1) := by
  unfold State.sramUeFor
  repeat' first
    | with_reducible first
      | assumption | apply Confined.ite | apply State.raiseGroup_confined | apply State.modGrp_confined | apply State.set_confined
      | apply State.enginesOff_confined | apply State.outputsOff_confined | apply State.history_confined
      | (apply Confined.fst; assumption)
    | exact Within.trans (by decide) hm | intro _
    | (extract_lets +onlyGivenNames x; first | (refine Confined.cut (?_ : Confined m r x) ?_; subst x; rotate_left; intro hx; clear_value x) | (refine Confined.cut (?_ : Confined m r x.s) ?_; subst x; rotate_left; intro hx; clear_value x)| (have hx : _ → _ := x; clear hx; subst x) | (have hx := x; clear hx))
    | dsimp -zeta only | split | with_reducible apply Confined.upd_start

theorem State.sramUe_confined (h : Confined m r s) (hm : Within 167593990 m) (a0 : Nat) :
    Confined m r (State.sramUe s a0) := by
  unfold State.sramUe
  repeat' first
    | with_reducible first
      | assumption | apply State.sramUeFor_confined | apply State.set_confined | apply State.wrLE_confined
    | exact Within.trans (by decide) hm | intro _

theorem State.eccTouch_confined (h : Confined m r s) (hm : Within 436070406 m) (a0 : Nat) :
    Confined m r (State.eccTouch s a0) := by
  unfold State.eccTouch
  repeat' first
    | with_reducible first
      | assumption | apply Confined.ite | apply State.xmemUe_confined | apply State.sramUe_confined
    | exact Within.trans (by decide) hm | intro _ | with_reducible apply Confined.upd_flt

theorem State.eccPass_confined (h : Confined m r s) (hm : Within 436070406 m) (a0 : Nat) (a1 : Nat) :
    Confined m r (State.eccPass s a0 a1) := by
  unfold State.eccPass
  repeat' first
    | with_reducible first
      | assumption | apply Confined.ite | apply Confined.foldl | apply State.eccTouch_confined
    | exact Within.trans (by decide) hm | intro _

theorem State.readEffect_confined (h : Confined m r s) (hm : Within 1026 m) (a0 : Win) (a1 : Nat) :
    Confined m r (State.readEffect s a0 a1) := by
  unfold State.readEffect
  repeat' first
    | with_reducible first
      | assumption | apply Confined.ite | apply State.set_confined | apply Confined.foldl | apply State.bkPop_confined
    | exact Within.trans (by decide) hm | intro _

theorem State.regRead_confined (h : Confined m r s) (hm : Within 132098 m) (a0 : Nat) (a1 : Win) (a2 : Nat) :
    Confined m r (State.regRead s a0 a1 a2).1 := by
  unfold State.regRead
  repeat' first
    | with_reducible first
      | assumption | apply Confined.ite | apply Confined.ite_fst | apply State.setHold_confined | apply State.readEffect_confined
    | exact Within.trans (by decide) hm | intro _ | split

theorem State.memRead_confined (h : Confined m r s) (hm : Within 32 m) (a0 : Nat) :
    Confined m r (State.memRead s a0).1 := by
  unfold State.memRead
  repeat' first
    | with_reducible first
      | assumption | apply Confined.ite | apply Confined.ite_fst | apply State.draw_confined | apply State.ringWord_confined
    | exact Within.trans (by decide) hm | intro _

theorem State.busRead_confined (h : Confined m r s) (hm : Within 436202534 m) (a0 : Agent) (a1 : Nat) :
    Confined m r (State.busRead s a0 a1).1 := by
  unfold State.busRead
  repeat' first
    | with_reducible first
      | assumption | apply Confined.ite | apply Confined.ite_fst | apply State.regRead_confined | apply State.memRead_confined
      | apply State.eccTouch_confined
    | exact Within.trans (by decide) hm | intro _
    | (extract_lets +onlyGivenNames x; first | (refine Confined.cut (?_ : Confined m r x) ?_; subst x; rotate_left; intro hx; clear_value x) | (have hx := x; clear hx))
    | split

theorem State.aliasPut_confined (h : Confined m r s) (hm : Within 268443654 m) (a0 : Nat) (a1 : Nat) (a2 : Bool) :
    Confined m r (State.aliasPut s a0 a1 a2) := by
  unfold State.aliasPut
  repeat' first | with_reducible (first | assumption | apply State.memWrite_confined) | exact Within.trans (by decide) hm | intro _

theorem State.writeFld_confined (h : Confined m r s) (hm : Within 2 m) (a0 : Fld) (a1 : Access) (a2 : Nat) (a3 : Nat) :
    Confined m r (State.writeFld s a0 a1 a2 a3) := by
  unfold State.writeFld
  repeat' first
    | with_reducible first
      | assumption | apply Confined.ite | apply State.set_confined
    | exact Within.trans (by decide) hm | intro _ | split

theorem State.writeFlds_confined (h : Confined m r s) (hm : Within 2 m) (a0 : Nat) (a1 : Nat) (a2 : Nat) :
    Confined m r (State.writeFlds s a0 a1 a2) := by
  unfold State.writeFlds
  repeat' first
    | with_reducible first
      | assumption | apply Confined.foldl | apply State.writeFld_confined
    | exact Within.trans (by decide) hm | intro _

theorem State.sysWrite_confined (h : Confined m r s) (hm : Within 20482 m) (a0 : Nat) (a1 : Nat) (a2 : Nat) :
    Confined m r (State.sysWrite s a0 a1 a2) := by
  unfold State.sysWrite
  repeat' first
    | with_reducible first
      | assumption | apply Confined.ite | apply State.set_confined | apply State.writeFlds_confined | apply State.keyGo_confined
    | exact Within.trans (by decide) hm | intro _

theorem State.grpWrite_confined (h : Confined m r s) (hm : Within 2 m) (a0 : Nat) (a1 : Nat) (a2 : Nat) :
    Confined m r (State.grpWrite s a0 a1 a2) := by
  unfold State.grpWrite
  repeat' first
    | with_reducible first
      | assumption | apply Confined.ite | apply State.raiseCause_confined | apply State.set_confined | apply State.writeFlds_confined
    | exact Within.trans (by decide) hm | intro _

theorem State.axisWrite_confined (h : Confined m r s) (hm : Within 167329794 m) (a0 : Nat) (a1 : Nat) (a2 : Nat) :
    Confined m r (State.axisWrite s a0 a1 a2) := by
  unfold State.axisWrite
  repeat' first
    | with_reducible first
      | assumption | apply Confined.ite | apply State.loopFlt_confined | apply State.putAxisCoef_confined
      | apply State.writeFlds_confined
    | exact Within.trans (by decide) hm | intro _

theorem State.fbWrite_confined (h : Confined m r s) (hm : Within 2 m) (a0 : Nat) (a1 : Nat) (a2 : Nat) :
    Confined m r (State.fbWrite s a0 a1 a2) := by
  unfold State.fbWrite
  repeat' first
    | with_reducible first
      | assumption | apply Confined.ite | apply State.set_confined | apply State.writeFlds_confined
    | exact Within.trans (by decide) hm | intro _

theorem State.fieldWrite_confined (h : Confined m r s) (hm : Within 146800642 m) (a0 : Nat) (a1 : Nat) (a2 : Nat) :
    Confined m r (State.fieldWrite s a0 a1 a2) := by
  unfold State.fieldWrite
  repeat' first
    | with_reducible first
      | assumption | apply Confined.ite | apply State.doSend_confined | apply State.hoMode_confined | apply State.writeFlds_confined
    | exact Within.trans (by decide) hm | intro _

theorem State.ethWrite_confined (h : Confined m r s) (hm : Within 268460034 m) (a0 : Nat) (a1 : Nat) (a2 : Nat) :
    Confined m r (State.ethWrite s a0 a1 a2) := by
  unfold State.ethWrite
  repeat' first
    | with_reducible first
      | assumption | apply Confined.ite | apply State.portEnable_confined | apply State.gclChange_confined
      | apply State.writeFlds_confined | apply State.unblock_confined
    | exact Within.trans (by decide) hm | intro _

theorem State.canWrite_confined (h : Confined m r s) (hm : Within 536870914 m) (a0 : Nat) (a1 : Nat) (a2 : Nat) :
    Confined m r (State.canWrite s a0 a1 a2) := by
  unfold State.canWrite
  repeat' first
    | with_reducible first
      | assumption | apply Confined.ite | apply State.canEnable_confined | apply State.canPop_confined | apply State.writeFlds_confined
      | apply State.canAbort_confined | apply State.canSend_confined
    | exact Within.trans (by decide) hm | intro _

theorem State.poolWrite_confined (h : Confined m r s) (hm : Within 24578 m) (a0 : Nat) (a1 : Nat) (a2 : Nat) :
    Confined m r (State.poolWrite s a0 a1 a2) := by
  unfold State.poolWrite
  repeat' first
    | with_reducible first
      | assumption | apply Confined.ite | apply State.set_confined | apply State.syncPool_confined | apply State.writeFlds_confined
    | exact Within.trans (by decide) hm | intro _

theorem State.curWrite_confined (h : Confined m r s) (hm : Within 2 m) (a0 : Nat) (a1 : Nat) (a2 : Nat) :
    Confined m r (State.curWrite s a0 a1 a2) := by
  unfold State.curWrite
  repeat' first
    | with_reducible first
      | assumption | apply Confined.ite | apply State.putCurCoef_confined | apply State.writeFlds_confined
    | exact Within.trans (by decide) hm | intro _

theorem State.plainWrite_confined (h : Confined m r s) (hm : Within 972648450 m) (a0 : Nat) (a1 : Nat) (a2 : Nat) :
    Confined m r (State.plainWrite s a0 a1 a2) := by
  unfold State.plainWrite
  repeat' first
    | with_reducible first
      | assumption | apply Confined.ite | apply State.sysWrite_confined | apply State.grpWrite_confined | apply State.axisWrite_confined
      | apply State.set_confined | apply State.writeFlds_confined | apply State.fbWrite_confined | apply State.fieldWrite_confined
      | apply State.ethWrite_confined | apply State.canWrite_confined | apply State.poolWrite_confined | apply State.curWrite_confined
    | exact Within.trans (by decide) hm | intro _

theorem State.putPair_confined (h : Confined m r s) (hm : Within 33554434 m) (a0 : Nat) (a1 : Nat) :
    Confined m r (State.putPair s a0 a1) := by
  unfold State.putPair
  repeat' first
    | with_reducible first
      | assumption | apply Confined.ite | apply State.askOffset_confined | apply State.set_confined
    | exact Within.trans (by decide) hm | intro _

theorem State.regWrite_confined (h : Confined m r s) (hm : Within 1006333954 m) (a0 : Nat) (a1 : Nat) (a2 : Nat) (a3 : Nat) :
    Confined m r (State.regWrite s a0 a1 a2 a3) := by
  unfold State.regWrite
  repeat' first
    | with_reducible first
      | assumption | apply Confined.ite | apply State.plainWrite_confined | apply State.setHold_confined | apply State.putPair_confined
    | exact Within.trans (by decide) hm | intro _ | split

theorem State.memMerge_confined (h : Confined m r s) (hm : Within 268443686 m) (a0 : Nat) (a1 : Nat) (a2 : Nat) :
    Confined m r (State.memMerge s a0 a1 a2) := by
  unfold State.memMerge
  repeat' first
    | with_reducible first
      | assumption | apply State.memWrite_confined | apply State.memRead_confined
    | exact Within.trans (by decide) hm | intro _

theorem State.eccWrite_confined (h : Confined m r s) (hm : Within 436070406 m) (a0 : Nat) (a1 : Nat) :
    Confined m r (State.eccWrite s a0 a1) := by
  unfold State.eccWrite
  repeat' first
    | with_reducible first
      | assumption | apply Confined.ite | apply State.eccTouch_confined
    | exact Within.trans (by decide) hm | intro _ | with_reducible apply Confined.upd_flt

theorem State.busWrite_confined (h : Confined m r s) (hm : Within 1006630950 m) (a0 : Agent) (a1 : Nat) (a2 : Nat) (a3 : Nat) :
    Confined m r (State.busWrite s a0 a1 a2 a3) := by
  unfold State.busWrite
  repeat' first
    | with_reducible first
      | assumption | apply Confined.ite | apply State.aliasPut_confined | apply State.eccTouch_confined | apply State.regWrite_confined
      | apply State.memMerge_confined | apply State.eccWrite_confined
    | exact Within.trans (by decide) hm | intro _
    | (extract_lets +onlyGivenNames x; first | (refine Confined.cut (?_ : Confined m r x) ?_; subst x; rotate_left; intro hx; clear_value x) | (have hx := x; clear hx))
    | split

theorem State.eccFetch_confined (h : Confined m r s) (hm : Within 436070406 m) (a0 : Nat → Bool) :
    Confined m r (State.eccFetch s a0) := by
  unfold State.eccFetch
  repeat' first
    | with_reducible first
      | assumption | apply Confined.ite | apply Confined.foldl | apply State.eccTouch_confined
    | exact Within.trans (by decide) hm | intro _

theorem State.ringFetch_confined (h : Confined m r s) (hm : Within 436070406 m) (a0 : Msg) :
    Confined m r (State.ringFetch s a0) := by
  unfold State.ringFetch
  repeat' first | with_reducible (first | assumption | apply State.eccFetch_confined) | exact Within.trans (by decide) hm | intro _

theorem State.engPut_confined (h : Confined m r s) (hm : Within 1006333954 m) (a0 : Nat) (a1 : Nat) (a2 : Nat) :
    Confined m r (State.engPut s a0 a1 a2) := by
  unfold State.engPut
  repeat' first | with_reducible (first | assumption | apply State.regWrite_confined) | exact Within.trans (by decide) hm | intro _

theorem State.claveFetch_confined (h : Confined m r s) (hm : Within 436070406 m) (a0 : Nat) :
    Confined m r (State.claveFetch s a0) := by
  unfold State.claveFetch
  repeat' first | with_reducible (first | assumption | apply State.eccFetch_confined) | exact Within.trans (by decide) hm | intro _

theorem State.pathFetch_confined (h : Confined m r s) (hm : Within 436070406 m) (a0 : Nat) :
    Confined m r (State.pathFetch s a0) := by
  unfold State.pathFetch
  repeat' first | with_reducible (first | assumption | apply State.eccFetch_confined) | exact Within.trans (by decide) hm | intro _

theorem State.eccSpoil_confined (h : Confined m r s) (hm : Within 32768 m) (a0 : Option Nat) :
    Confined m r (State.eccSpoil s a0) := by
  unfold State.eccSpoil
  repeat' first
    | with_reducible first
      | assumption | apply Confined.ite | (apply Confined.fst; assumption)
    | exact Within.trans (by decide) hm | intro _
    | (extract_lets +onlyGivenNames x; first | (refine Confined.cut (?_ : Confined m r x) ?_; subst x; rotate_left; intro hx; clear_value x) | (refine Confined.cut (?_ : Confined m r x.s) ?_; subst x; rotate_left; intro hx; clear_value x)| (have hx : _ → _ := x; clear hx; subst x) | (have hx := x; clear hx))
    | dsimp -zeta only | split | with_reducible apply Confined.upd_flt

theorem State.readTo_confined (h : Confined m r s) (hm : Within 436202662 m) (a0 : Agent) (a1 : Nat) :
    Confined m r (State.readTo s a0 a1) := by
  unfold State.readTo
  repeat' first
    | with_reducible first
      | assumption | apply State.busRead_confined
    | exact Within.trans (by decide) hm | intro _ | with_reducible apply Confined.upd_readOut

theorem State.refresh_confined (h : Confined m r s) (hm : Within 2 m) (a0 : Nat) :
    Confined m r (State.refresh s a0) := by
  unfold State.refresh
  repeat' first
    | with_reducible first
      | assumption | apply Confined.ite | apply State.set_confined | apply State.pokeWord_confined
    | exact Within.trans (by decide) hm | intro _

theorem execAliasWrite_confined (h : Confined m r s) (hm : Within 1006630950 m) (a0 : Agent) (a1 : BitVec 32) (a2 : BitVec 32) :
    ConfinedOut m r (execAliasWrite a0 a1 a2 s) := by
  unfold execAliasWrite
  repeat' first
    | with_reducible first
      | assumption | apply Confined.ite | apply ConfinedOut.ite | apply ConfinedOut.next | apply State.busWrite_confined
    | exact Within.trans (by decide) hm | intro _ | split

theorem execAmpTrackReset_confined (h : Confined m r s) (hm : Within 1006630950 m) (a0 : Agent) (a1 : Fin 16) :
    ConfinedOut m r (execAmpTrackReset a0 a1 s) := by
  unfold execAmpTrackReset
  repeat' first
    | with_reducible first
      | assumption | apply ConfinedOut.next | apply State.busWrite_confined
    | exact Within.trans (by decide) hm | intro _

theorem execBkfifoHiRead_confined (h : Confined m r s) (hm : Within 436202662 m) (a0 : Agent) :
    ConfinedOut m r (execBkfifoHiRead a0 s) := by
  unfold execBkfifoHiRead
  repeat' first
    | with_reducible first
      | assumption | apply ConfinedOut.next | apply State.readTo_confined
    | exact Within.trans (by decide) hm | intro _

theorem execCanEnableWrite_confined (h : Confined m r s) (hm : Within 1006630950 m) (a0 : Agent) (a1 : Fin 2) (a2 : Bool) :
    ConfinedOut m r (execCanEnableWrite a0 a1 a2 s) := by
  unfold execCanEnableWrite
  repeat' first
    | with_reducible first
      | assumption | apply ConfinedOut.next | apply State.busWrite_confined
    | exact Within.trans (by decide) hm | intro _

theorem execCanFifoPop_confined (h : Confined m r s) (hm : Within 1006630950 m) (a0 : Agent) (a1 : Fin 2) (a2 : Fin 2) :
    ConfinedOut m r (execCanFifoPop a0 a1 a2 s) := by
  unfold execCanFifoPop
  repeat' first
    | with_reducible first
      | assumption | apply ConfinedOut.next | apply State.busWrite_confined
    | exact Within.trans (by decide) hm | intro _

theorem execCanTxAbort_confined (h : Confined m r s) (hm : Within 1006630950 m) (a0 : Agent) (a1 : Fin 2) :
    ConfinedOut m r (execCanTxAbort a0 a1 s) := by
  unfold execCanTxAbort
  repeat' first
    | with_reducible first
      | assumption | apply ConfinedOut.next | apply State.busWrite_confined
    | exact Within.trans (by decide) hm | intro _

theorem execCanTxSend_confined (h : Confined m r s) (hm : Within 1006630950 m) (a0 : Agent) (a1 : Fin 2) :
    ConfinedOut m r (execCanTxSend a0 a1 s) := by
  unfold execCanTxSend
  repeat' first
    | with_reducible first
      | assumption | apply ConfinedOut.next | apply State.busWrite_confined
    | exact Within.trans (by decide) hm | intro _

theorem execCoefArm_confined (h : Confined m r s) (hm : Within 1006630950 m) (a0 : Agent) (a1 : Fin 16) :
    ConfinedOut m r (execCoefArm a0 a1 s) := by
  unfold execCoefArm
  repeat' first
    | with_reducible first
      | assumption | apply ConfinedOut.next | apply State.busWrite_confined
    | exact Within.trans (by decide) hm | intro _

theorem execDoOutWrite_confined (h : Confined m r s) (hm : Within 1006630950 m) (a0 : Agent) (a1 : Fin 16) (a2 : BitVec 32) :
    ConfinedOut m r (execDoOutWrite a0 a1 a2 s) := by
  unfold execDoOutWrite
  repeat' first
    | with_reducible first
      | assumption | apply ConfinedOut.next | apply State.busWrite_confined
    | exact Within.trans (by decide) hm | intro _

theorem execDoorbell_confined (h : Confined m r s) (hm : Within 1006630950 m) (a0 : Agent) (a1 : Fin 16) :
    ConfinedOut m r (execDoorbell a0 a1 s) := by
  unfold execDoorbell
  repeat' first
    | with_reducible first
      | assumption | apply ConfinedOut.next | apply State.busWrite_confined
    | exact Within.trans (by decide) hm | intro _

theorem execEthPortEnableWrite_confined (h : Confined m r s) (hm : Within 1006630950 m) (a0 : Agent) (a1 : Fin 2) (a2 : Bool) :
    ConfinedOut m r (execEthPortEnableWrite a0 a1 a2 s) := by
  unfold execEthPortEnableWrite
  repeat' first
    | with_reducible first
      | assumption | apply ConfinedOut.next | apply State.busWrite_confined
    | exact Within.trans (by decide) hm | intro _

theorem execFbOffsetWrite_confined (h : Confined m r s) (hm : Within 1006630950 m) (a0 : Agent) (a1 : Fin 16) (a2 : BitVec 64) :
    ConfinedOut m r (execFbOffsetWrite a0 a1 a2 s) := by
  unfold execFbOffsetWrite
  repeat' first
    | with_reducible first
      | assumption | apply ConfinedOut.next | apply State.busWrite_confined
    | exact Within.trans (by decide) hm | intro _

theorem execFeedOvrWrite_confined (h : Confined m r s) (hm : Within 1006630950 m) (a0 : Agent) (a1 : Fin 16) (a2 : BitVec 32) :
    ConfinedOut m r (execFeedOvrWrite a0 a1 a2 s) := by
  unfold execFeedOvrWrite
  repeat' first
    | with_reducible first
      | assumption | apply ConfinedOut.next | apply State.busWrite_confined
    | exact Within.trans (by decide) hm | intro _

theorem execGclChange_confined (h : Confined m r s) (hm : Within 1006630950 m) (a0 : Agent) (a1 : Fin 2) :
    ConfinedOut m r (execGclChange a0 a1 s) := by
  unfold execGclChange
  repeat' first
    | with_reducible first
      | assumption | apply ConfinedOut.next | apply State.busWrite_confined
    | exact Within.trans (by decide) hm | intro _

theorem execHoModeWrite_confined (h : Confined m r s) (hm : Within 1006630950 m) (a0 : Agent) (a1 : Fin 8) (a2 : BitVec 2) :
    ConfinedOut m r (execHoModeWrite a0 a1 a2 s) := by
  unfold execHoModeWrite
  repeat' first
    | with_reducible first
      | assumption | apply ConfinedOut.next | apply State.busWrite_confined
    | exact Within.trans (by decide) hm | intro _

theorem execKeyhashProgram_confined (h : Confined m r s) (hm : Within 1006630950 m) (a0 : Agent) (a1 : BitVec 16) :
    ConfinedOut m r (execKeyhashProgram a0 a1 s) := by
  unfold execKeyhashProgram
  repeat' first
    | with_reducible first
      | assumption | apply ConfinedOut.next | apply State.busWrite_confined
    | exact Within.trans (by decide) hm | intro _

theorem execLoopFltWrite_confined (h : Confined m r s) (hm : Within 1006630950 m) (a0 : Agent) (a1 : Fin 32) (a2 : BitVec 32) :
    ConfinedOut m r (execLoopFltWrite a0 a1 a2 s) := by
  unfold execLoopFltWrite
  repeat' first
    | with_reducible first
      | assumption | apply ConfinedOut.next | apply State.busWrite_confined
    | exact Within.trans (by decide) hm | intro _

theorem execMinReset_confined (h : Confined m r s) (hm : Within 1006630950 m) (a0 : Agent) :
    ConfinedOut m r (execMinReset a0 s) := by
  unfold execMinReset
  repeat' first
    | with_reducible first
      | assumption | apply ConfinedOut.next | apply State.busWrite_confined
    | exact Within.trans (by decide) hm | intro _

theorem execPairHighRead_confined (h : Confined m r s) (hm : Within 436202662 m) (a0 : Agent) (a1 : BitVec 32) :
    ConfinedOut m r (execPairHighRead a0 a1 s) := by
  unfold execPairHighRead
  repeat' first
    | with_reducible first
      | assumption | apply ConfinedOut.next | apply State.readTo_confined
    | exact Within.trans (by decide) hm | intro _

theorem execPairHighWrite_confined (h : Confined m r s) (hm : Within 1006630950 m) (a0 : Agent) (a1 : BitVec 32) (a2 : BitVec 32) :
    ConfinedOut m r (execPairHighWrite a0 a1 a2 s) := by
  unfold execPairHighWrite
  repeat' first
    | with_reducible first
      | assumption | apply ConfinedOut.next | apply State.busWrite_confined
    | exact Within.trans (by decide) hm | intro _

theorem execPairLowRead_confined (h : Confined m r s) (hm : Within 436202662 m) (a0 : Agent) (a1 : BitVec 32) :
    ConfinedOut m r (execPairLowRead a0 a1 s) := by
  unfold execPairLowRead
  repeat' first
    | with_reducible first
      | assumption | apply ConfinedOut.next | apply State.readTo_confined
    | exact Within.trans (by decide) hm | intro _

theorem execPairLowWrite_confined (h : Confined m r s) (hm : Within 1006630950 m) (a0 : Agent) (a1 : BitVec 32) (a2 : BitVec 32) :
    ConfinedOut m r (execPairLowWrite a0 a1 a2 s) := by
  unfold execPairLowWrite
  repeat' first
    | with_reducible first
      | assumption | apply ConfinedOut.next | apply State.busWrite_confined
    | exact Within.trans (by decide) hm | intro _

theorem execPeakReset_confined (h : Confined m r s) (hm : Within 1006630950 m) (a0 : Agent) :
    ConfinedOut m r (execPeakReset a0 s) := by
  unfold execPeakReset
  repeat' first
    | with_reducible first
      | assumption | apply ConfinedOut.next | apply State.busWrite_confined
    | exact Within.trans (by decide) hm | intro _

theorem execRcFieldRead_confined (h : Confined m r s) (hm : Within 436202662 m) (a0 : Agent) (a1 : BitVec 32) :
    ConfinedOut m r (execRcFieldRead a0 a1 s) := by
  unfold execRcFieldRead
  repeat' first
    | with_reducible first
      | assumption | apply ConfinedOut.next | apply State.readTo_confined
    | exact Within.trans (by decide) hm | intro _

theorem execRefAck_confined (h : Confined m r s) (hm : Within 1006630950 m) (a0 : Agent) (a1 : Fin 16) :
    ConfinedOut m r (execRefAck a0 a1 s) := by
  unfold execRefAck
  repeat' first
    | with_reducible first
      | assumption | apply ConfinedOut.next | apply State.busWrite_confined
    | exact Within.trans (by decide) hm | intro _

theorem execRegisterWrite_confined (h : Confined m r s) (hm : Within 1006630950 m) (a0 : Agent) (a1 : BitVec 32) (a2 : BitVec 32) (a3 : BitVec 32) :
    ConfinedOut m r (execRegisterWrite a0 a1 a2 a3 s) := by
  unfold execRegisterWrite
  repeat' first
    | with_reducible first
      | assumption | apply ConfinedOut.next | apply State.busWrite_confined
    | exact Within.trans (by decide) hm | intro _

theorem execRtcLoRead_confined (h : Confined m r s) (hm : Within 436202662 m) (a0 : Agent) :
    ConfinedOut m r (execRtcLoRead a0 s) := by
  unfold execRtcLoRead
  repeat' first
    | with_reducible first
      | assumption | apply ConfinedOut.next | apply State.readTo_confined
    | exact Within.trans (by decide) hm | intro _

theorem execRtcLoad_confined (h : Confined m r s) (hm : Within 1006630950 m) (a0 : Agent) :
    ConfinedOut m r (execRtcLoad a0 s) := by
  unfold execRtcLoad
  repeat' first
    | with_reducible first
      | assumption | apply ConfinedOut.next | apply State.busWrite_confined
    | exact Within.trans (by decide) hm | intro _

theorem execRunMaxReset_confined (h : Confined m r s) (hm : Within 1006630950 m) (a0 : Agent) (a1 : Fin 17) :
    ConfinedOut m r (execRunMaxReset a0 a1 s) := by
  unfold execRunMaxReset
  repeat' first
    | with_reducible first
      | assumption | apply ConfinedOut.next | apply State.busWrite_confined
    | exact Within.trans (by decide) hm | intro _

theorem execSfBlockedClear_confined (h : Confined m r s) (hm : Within 1006630950 m) (a0 : Agent) (a1 : Fin 4) (a2 : BitVec 32) :
    ConfinedOut m r (execSfBlockedClear a0 a1 a2 s) := by
  unfold execSfBlockedClear
  repeat' first
    | with_reducible first
      | assumption | apply ConfinedOut.next | apply State.busWrite_confined
    | exact Within.trans (by decide) hm | intro _

theorem execSramScrub_confined (h : Confined m r s) (hm : Within 436070406 m) (a0 : BitVec 16) (a1 : Option (BitVec 21)) (a2 : Option (BitVec 21)) :
    ConfinedOut m r (execSramScrub a0 a1 a2 s) := by
  unfold execSramScrub
  repeat' first
    | with_reducible first
      | assumption | apply Confined.ite | apply ConfinedOut.ite | apply ConfinedOut.next | apply State.eccSpoil_confined
      | apply State.eccPass_confined | apply State.addSat_confined | apply State.sramUe_confined
    | exact Within.trans (by decide) hm | intro _ | split

theorem execXmemScrub_confined (h : Confined m r s) (hm : Within 436070406 m) (a0 : BitVec 16) (a1 : Option (BitVec 30)) (a2 : Option (BitVec 30)) :
    ConfinedOut m r (execXmemScrub a0 a1 a2 s) := by
  unfold execXmemScrub
  repeat' first
    | with_reducible first
      | assumption | apply Confined.ite | apply ConfinedOut.ite | apply ConfinedOut.next | apply State.eccSpoil_confined
      | apply State.eccPass_confined | apply State.addSat_confined | apply State.set_confined | apply State.xmemUe_confined
    | exact Within.trans (by decide) hm | intro _ | split

/-! ### Engine -/

theorem State.loadCopies_confined (h : Confined m r s) (hm : Within 436070406 m) (a0 : Nat) (a1 : Nat) :
    Confined m r (State.loadCopies s a0 a1) := by
  unfold State.loadCopies
  repeat' first
    | with_reducible first
      | assumption | apply State.memCopy_confined | apply State.eccPass_confined
    | exact Within.trans (by decide) hm | intro _

theorem State.setEngState_confined (h : Confined m r s) (hm : Within 2 m) (a0 : Nat) (a1 : Nat) (a2 : Option Nat) :
    Confined m r (State.setEngState s a0 a1 a2) := by
  unfold State.setEngState
  repeat' first
    | with_reducible first
      | assumption | apply Confined.ite | apply State.set_confined
    | exact Within.trans (by decide) hm | intro _ | split

theorem State.toSpare_confined (h : Confined m r s) (hm : Within 262146 m) (a0 : Nat) :
    Confined m r (State.toSpare s a0) := by
  unfold State.toSpare
  repeat' first
    | with_reducible first
      | assumption | apply State.setEng_confined | apply State.setEngState_confined
    | exact Within.trans (by decide) hm | intro _

theorem State.migAbort_confined (h : Confined m r s) (hm : Within 540674 m) (a0 : Nat) (a1 : Nat) (a2 : Nat) :
    Confined m r (State.migAbort s a0 a1 a2) := by
  unfold State.migAbort
  repeat' first
    | with_reducible first
      | assumption | apply Confined.ite | apply State.warn_confined | apply State.modGrp_confined | apply State.set_confined
    | exact Within.trans (by decide) hm | intro _

theorem State.preempt_confined (h : Confined m r s) (hm : Within 802818 m) (a0 : Nat) :
    Confined m r (State.preempt s a0) := by
  unfold State.preempt
  repeat' first
    | with_reducible first
      | assumption | apply Confined.ite | apply State.toSpare_confined | apply State.migAbort_confined
    | exact Within.trans (by decide) hm | intro _

theorem State.snapLoad_confined (h : Confined m r s) (hm : Within 436070406 m) (a0 : Nat) (a1 : Nat) (a2 : Nat) :
    Confined m r (State.snapLoad s a0 a1 a2) := by
  unfold State.snapLoad
  repeat' first
    | with_reducible first
      | assumption | apply State.memCopy_confined | apply State.eccPass_confined
    | exact Within.trans (by decide) hm | intro _

theorem State.assign_confined (h : Confined m r s) (hm : Within 436070406 m) (a0 : Nat) (a1 : Nat) (a2 : Nat) (a3 : Bool) :
    Confined m r (State.assign s a0 a1 a2 a3) := by
  unfold State.assign
  repeat' first
    | with_reducible first
      | assumption | apply Confined.ite | apply State.modGrp_confined | apply State.loadCopies_confined
      | apply State.setEngState_confined | apply State.setEng_confined | apply State.preempt_confined | apply State.snapLoad_confined
    | exact Within.trans (by decide) hm | intro _
    | (extract_lets +onlyGivenNames x; first | (refine Confined.cut (?_ : Confined m r x) ?_; subst x; rotate_left; intro hx; clear_value x) | (have hx := x; clear hx))
    | split

theorem State.takeOrGuard_confined (h : Confined m r s) (hm : Within 436070406 m) (a0 : Nat) (a1 : Nat) :
    Confined m r (State.takeOrGuard s a0 a1) := by
  unfold State.takeOrGuard
  repeat' first
    | with_reducible first
      | assumption | apply Confined.ite | apply State.setGState_confined | apply State.set_confined | apply State.assign_confined
      | apply State.react_confined
    | exact Within.trans (by decide) hm | intro _
    | (extract_lets +onlyGivenNames x; first | (refine Confined.cut (?_ : Confined m r x) ?_; subst x; rotate_left; intro hx; clear_value x) | (have hx := x; clear hx))
    | split

theorem State.failPc_confined (h : Confined m r s) (hm : Within 32 m) (a0 : Nat) :
    Confined m r (State.failPc s a0).1 := by
  unfold State.failPc
  repeat' first
    | with_reducible first
      | assumption | apply Confined.ite | apply Confined.ite_fst | apply State.draw_confined
    | exact Within.trans (by decide) hm | intro _

theorem State.failMark_confined (h : Confined m r s) (hm : Within 262178 m) (a0 : Nat) (a1 : Nat) :
    Confined m r (State.failMark s a0 a1) := by
  unfold State.failMark
  repeat' first
    | with_reducible first
      | assumption | apply State.modEng_confined | apply State.set_confined | apply State.failPc_confined
    | exact Within.trans (by decide) hm | intro _

theorem State.failServing_confined (h : Confined m r s) (hm : Within 436070438 m) (a0 : Nat) (a1 : Nat) (a2 : Nat) :
    Confined m r (State.failServing s a0 a1 a2) := by
  unfold State.failServing
  repeat' first
    | with_reducible first
      | assumption | apply Confined.ite | apply State.takeOrGuard_confined | apply State.recordGroup_confined
      | apply State.modGrp_confined | apply State.set_confined | apply State.preempt_confined | apply State.setEngState_confined
      | apply State.failMark_confined
    | exact Within.trans (by decide) hm | intro _

theorem State.failIdle_confined (h : Confined m r s) (hm : Within 802850 m) (a0 : Nat) (a1 : Nat) (a2 : Nat) (a3 : Nat) (a4 : Bool) :
    Confined m r (State.failIdle s a0 a1 a2 a3 a4) := by
  unfold State.failIdle
  repeat' first
    | with_reducible first
      | assumption | apply Confined.ite | apply State.setEngState_confined | apply State.migAbort_confined | apply State.warn_confined
      | apply State.failMark_confined
    | exact Within.trans (by decide) hm | intro _ | split

theorem State.engFail_confined (h : Confined m r s) (hm : Within 436070438 m) (a0 : Nat) (a1 : Nat) :
    Confined m r (State.engFail s a0 a1) := by
  unfold State.engFail
  repeat' first
    | with_reducible first
      | assumption | apply Confined.ite | apply State.failServing_confined | apply State.failIdle_confined
    | exact Within.trans (by decide) hm | intro _

theorem effEngineTest_confined (h : Confined m r s) (hm : Within 262150 m) (a0 : Msg) :
    Confined m r (effEngineTest a0 s).s := by
  unfold effEngineTest
  repeat' first
    | with_reducible first
      | assumption | apply Confined.ite | apply Confined.ite_s | apply State.ok_confined | apply State.inc_confined
      | apply State.set_confined | apply State.setEng_confined | apply State.clearRange_confined | apply State.setEngState_confined
      | apply State.nak_confined
    | exact Within.trans (by decide) hm | intro _

theorem effEngineMigrate_confined (h : Confined m r s) (hm : Within 436070406 m) (a0 : Msg) :
    Confined m r (effEngineMigrate a0 s).s := by
  unfold effEngineMigrate
  repeat' first
    | with_reducible first
      | assumption | apply Confined.ite | apply Confined.ite_s | apply State.nak_confined | apply State.limit_confined
      | apply State.ok_confined | apply State.modGrp_confined | apply State.set_confined | apply State.loadCopies_confined
      | apply State.setEngState_confined | apply State.setEng_confined
    | exact Within.trans (by decide) hm | intro _

theorem State.runBegin_confined (h : Confined m r s) (hm : Within 262146 m) (a0 : Nat) (a1 : Nat) :
    Confined m r (State.runBegin s a0 a1) := by
  unfold State.runBegin
  repeat' first
    | with_reducible first
      | assumption | apply State.setEng_confined | apply State.set_confined | apply State.put_confined
    | exact Within.trans (by decide) hm | intro _

theorem State.fastStart_confined (h : Confined m r s) (hm : Within 262146 m) (a0 : Nat) (a1 : Nat) :
    Confined m r (State.fastStart s a0 a1) := by
  unfold State.fastStart
  repeat' first
    | with_reducible first
      | assumption | apply Confined.ite | apply State.modEng_confined | apply State.set_confined | apply State.runBegin_confined
    | exact Within.trans (by decide) hm | intro _

theorem State.missDeadline_confined (h : Confined m r s) (hm : Within 436070438 m) (a0 : Nat) :
    Confined m r (State.missDeadline s a0) := by
  unfold State.missDeadline
  repeat' first
    | with_reducible first
      | assumption | apply Confined.ite | apply State.failIdle_confined | apply State.warn_confined | apply State.inc_confined
      | apply State.setEng_confined | apply State.engFail_confined
    | exact Within.trans (by decide) hm | intro _

theorem State.takeEnd_confined (h : Confined m r s) (hm : Within 589826 m) (a0 : Nat) :
    Confined m r (State.takeEnd s a0) := by
  unfold State.takeEnd
  repeat' first
    | with_reducible first
      | assumption | apply Confined.ite | apply State.setGState_confined | apply State.modGrp_confined
    | exact Within.trans (by decide) hm | intro _

theorem State.slowStart_confined (h : Confined m r s) (hm : Within 262146 m) (a0 : Nat) (a1 : Nat) :
    Confined m r (State.slowStart s a0 a1) := by
  unfold State.slowStart
  repeat' first
    | with_reducible first
      | assumption | apply Confined.ite | apply State.modEng_confined | apply State.runBegin_confined
    | exact Within.trans (by decide) hm | intro _

theorem State.snapEnd_confined (h : Confined m r s) (hm : Within 436070406 m) (a0 : Nat) :
    Confined m r (State.snapEnd s a0) := by
  unfold State.snapEnd
  repeat' first
    | with_reducible first
      | assumption | apply Confined.ite | apply State.snapLoad_confined | apply State.setGrp_confined
    | exact Within.trans (by decide) hm | intro _

theorem State.snapStart_confined (h : Confined m r s) (hm : Within 436070406 m) (a0 : Nat) :
    Confined m r (State.snapStart s a0) := by
  unfold State.snapStart
  repeat' first
    | with_reducible first
      | assumption | apply Confined.ite | apply State.snapEnd_confined | apply State.setGrp_confined | apply State.memCopy_confined
    | exact Within.trans (by decide) hm | intro _

theorem State.coldTake_confined (h : Confined m r s) (hm : Within 436070406 m) (a0 : Nat) :
    Confined m r (State.coldTake s a0) := by
  unfold State.coldTake
  repeat' first
    | with_reducible first
      | assumption | apply Confined.ite | apply State.info_confined | apply State.assign_confined
    | exact Within.trans (by decide) hm | intro _ | split

theorem State.shadowCompare_confined (h : Confined m r s) (hm : Within 802850 m) (a0 : Nat) :
    Confined m r (State.shadowCompare s a0) := by
  unfold State.shadowCompare
  repeat' first
    | with_reducible first
      | assumption | apply Confined.ite | apply State.failIdle_confined | apply State.setGrp_confined | apply State.modEng_confined
      | apply State.set_confined
    | exact Within.trans (by decide) hm | intro _ | split

theorem State.showSetpoints_confined (h : Confined m r s) (hm : Within 1048576 m) (a0 : Nat) :
    Confined m r (State.showSetpoints s a0) := by
  unfold State.showSetpoints
  repeat' first
    | with_reducible first
      | assumption | apply State.forAll_confined | apply State.modAxis_confined
    | exact Within.trans (by decide) hm | intro _

theorem execEntrySlowStart_confined (h : Confined m r s) (hm : Within 1310720 m) (a0 : Fin 17) :
    ConfinedOut m r (execEntrySlowStart a0 s) := by
  unfold execEntrySlowStart
  repeat' first
    | with_reducible first
      | assumption | apply Confined.ite | apply ConfinedOut.ite | apply ConfinedOut.next | apply State.modEng_confined
      | apply State.showSetpoints_confined
    | exact Within.trans (by decide) hm | intro _

theorem execEntryEventStart_confined (h : Confined m r s) (hm : Within 262144 m) (a0 : Fin 17) :
    ConfinedOut m r (execEntryEventStart a0 s) := by
  unfold execEntryEventStart
  repeat' first
    | with_reducible first
      | assumption | apply Confined.ite | apply ConfinedOut.ite | apply ConfinedOut.next | apply State.setEng_confined
    | exact Within.trans (by decide) hm | intro _

theorem execSnapshotComplete_confined (h : Confined m r s) (hm : Within 436070406 m) (a0 : Fin 16) :
    ConfinedOut m r (execSnapshotComplete a0 s) := by
  unfold execSnapshotComplete
  repeat' first
    | with_reducible first
      | assumption | apply Confined.ite | apply ConfinedOut.ite | apply ConfinedOut.next | apply State.snapEnd_confined
    | exact Within.trans (by decide) hm | intro _

theorem execDeadline_confined (h : Confined m r s) (hm : Within 436070438 m) (a0 : Fin 17) :
    ConfinedOut m r (execDeadline a0 s) := by
  unfold execDeadline
  repeat' first
    | with_reducible first
      | assumption | apply Confined.ite | apply ConfinedOut.ite | apply ConfinedOut.next | apply State.missDeadline_confined
    | exact Within.trans (by decide) hm | intro _

theorem execEngFail_confined (h : Confined m r s) (hm : Within 436070438 m) (a0 : Fin 17) (a1 : BitVec 4) (a2 : BitVec 13) :
    ConfinedOut m r (execEngFail a0 a1 a2 s) := by
  unfold execEngFail
  repeat' first
    | with_reducible first
      | assumption | apply Confined.ite | apply ConfinedOut.ite | apply ConfinedOut.next | apply State.engFail_confined
      | apply State.wrLE_confined
    | exact Within.trans (by decide) hm | intro _

theorem State.firstRun_confined (h : Confined m r s) (hm : Within 802818 m) (a0 : Nat) (a1 : Nat) :
    Confined m r (State.firstRun s a0 a1) := by
  unfold State.firstRun
  repeat' first
    | with_reducible first
      | assumption | apply Confined.ite | apply State.modGrp_confined | apply State.modEng_confined | apply State.set_confined
      | apply State.runBegin_confined | apply State.addSat_confined | apply State.inc_confined | apply State.setEngState_confined
      | apply State.info_confined
    | exact Within.trans (by decide) hm | intro _

theorem execTakeoverFirstRun_confined (h : Confined m r s) (hm : Within 802818 m) (a0 : Fin 17) :
    ConfinedOut m r (execTakeoverFirstRun a0 s) := by
  unfold execTakeoverFirstRun
  repeat' first
    | with_reducible first
      | assumption | apply Confined.ite | apply ConfinedOut.ite | apply ConfinedOut.next | apply State.firstRun_confined
    | exact Within.trans (by decide) hm | intro _

theorem execSelfCheckPass_confined (h : Confined m r s) (hm : Within 436070438 m) (a0 : Fin 17) (a1 : Bool) (a2 : Bool) :
    ConfinedOut m r (execSelfCheckPass a0 a1 a2 s) := by
  unfold execSelfCheckPass
  repeat' first
    | with_reducible first
      | assumption | apply Confined.ite | apply ConfinedOut.ite | apply ConfinedOut.next | apply State.engFail_confined
      | apply State.warn_confined | apply State.set_confined
    | exact Within.trans (by decide) hm | intro _

theorem execEngineTestDone_confined (h : Confined m r s) (hm : Within 436070438 m) (a0 : Fin 17) (a1 : Bool) :
    ConfinedOut m r (execEngineTestDone a0 a1 s) := by
  unfold execEngineTestDone
  repeat' first
    | with_reducible first
      | assumption | apply Confined.ite | apply ConfinedOut.ite | apply ConfinedOut.next | apply State.setEngState_confined
      | apply State.info_confined | apply State.set_confined | apply State.engFail_confined
    | exact Within.trans (by decide) hm | intro _

theorem execShadowStart_confined (h : Confined m r s) (hm : Within 786438 m) (a0 : Fin 16) :
    ConfinedOut m r (execShadowStart a0 s) := by
  unfold execShadowStart
  repeat' first
    | with_reducible first
      | assumption | apply Confined.ite | apply ConfinedOut.ite | apply ConfinedOut.next | apply State.modEng_confined
      | apply State.slowStart_confined | apply State.fastStart_confined | apply State.modGrp_confined | apply State.set_confined
      | apply State.memCopy_confined
    | exact Within.trans (by decide) hm | intro _

theorem execMigrationHandover_confined (h : Confined m r s) (hm : Within 802818 m) (a0 : Fin 16) :
    ConfinedOut m r (execMigrationHandover a0 s) := by
  unfold execMigrationHandover
  repeat' first
    | with_reducible first
      | assumption | apply Confined.ite | apply ConfinedOut.ite | apply ConfinedOut.next | apply State.info_confined
      | apply State.modGrp_confined | apply State.set_confined | apply State.inc_confined | apply State.toSpare_confined
      | apply State.setEngState_confined
    | exact Within.trans (by decide) hm | intro _

theorem execIllegalInstruction_confined (h : Confined m r s) (hm : Within 436070438 m) (a0 : Fin 17) :
    ConfinedOut m r (execIllegalInstruction a0 s) := by
  unfold execIllegalInstruction
  repeat' first
    | with_reducible first
      | assumption | apply Confined.ite | apply ConfinedOut.ite | apply ConfinedOut.next | apply State.engFail_confined
    | exact Within.trans (by decide) hm | intro _

/-! ### View -/

theorem State.spend_confined (h : Confined m r s) (hm : Within 262144 m) (a0 : Nat) (a1 : Nat) :
    Confined m r (State.spend s a0 a1) := by
  unfold State.spend
  repeat' first | with_reducible (first | assumption | apply State.modEng_confined) | exact Within.trans (by decide) hm | intro _

theorem State.seen_confined (h : Confined m r s) (hm : Within 262144 m) (a0 : Nat) (a1 : Nat) :
    Confined m r (State.seen s a0 a1).1 := by
  unfold State.seen
  repeat' first
    | with_reducible first
      | assumption | apply Confined.ite | apply Confined.ite_fst | apply State.setEng_confined
    | exact Within.trans (by decide) hm | intro _

theorem State.waitTo_confined (h : Confined m r s) (hm : Within 262144 m) (a0 : Nat) (a1 : Nat) :
    Confined m r (State.waitTo s a0 a1) := by
  unfold State.waitTo
  repeat' first | with_reducible (first | assumption | apply State.modEng_confined) | exact Within.trans (by decide) hm | intro _

theorem State.readAxisView_confined (h : Confined m r s) (hm : Within 262144 m) (a0 : Nat) (a1 : Nat) :
    Confined m r (State.readAxisView s a0 a1).1 := by
  unfold State.readAxisView
  repeat' first
    | with_reducible first
      | assumption | apply Confined.ite | apply Confined.ite_fst | apply State.waitTo_confined
    | exact Within.trans (by decide) hm | intro _ | split

theorem State.causeTake_confined (h : Confined m r s) (hm : Within 262146 m) (a0 : Nat) :
    Confined m r (State.causeTake s a0).1 := by
  unfold State.causeTake
  repeat' first
    | with_reducible first
      | assumption | apply Confined.ite_fst | apply State.set_confined | apply State.seen_confined
    | exact Within.trans (by decide) hm | intro _

theorem State.nextCoord_confined (h : Confined m r s) (hm : Within 32 m) (a0 : Nat) :
    Confined m r (State.nextCoord s a0).1 := by
  unfold State.nextCoord
  repeat' first
    | with_reducible first
      | assumption | apply Confined.ite | apply Confined.ite_fst | apply State.draw_confined
    | exact Within.trans (by decide) hm | intro _ | split

theorem State.poolArrive_confined (h : Confined m r s) (hm : Within 262146 m) (a0 : Nat) (a1 : Option Nat) :
    Confined m r (State.poolArrive s a0 a1) := by
  unfold State.poolArrive
  repeat' first
    | with_reducible first
      | assumption | apply Confined.ite | apply State.modEng_confined | apply State.set_confined
    | exact Within.trans (by decide) hm | intro _ | split

theorem State.poolAnswer_confined (h : Confined m r s) (hm : Within 270336 m) (a0 : PoolAsk) (a1 : Option Nat) :
    Confined m r (State.poolAnswer s a0 a1) := by
  exact Confined.upd_pool (State.modEng_confined h (Within.trans (by decide) hm) a0.engine _) (Within.trans (by decide) hm) _ fun q =>
    ⟨q.owner, q.grants, q.written⟩

theorem State.poolTake_confined (h : Confined m r s) (hm : Within 286754 m) (a0 : PoolAsk) :
    Confined m r (State.poolTake s a0) := by
  unfold State.poolTake
  repeat' first
    | with_reducible first
      | assumption | apply Confined.ite | apply Confined.ite_fst | apply State.poolAnswer_confined | apply State.poolAlloc_confined
      | (apply Confined.fst; assumption)
    | exact Within.trans (by decide) hm | intro _
    | (extract_lets +onlyGivenNames x; first | (refine Confined.cut (?_ : Confined m r x) ?_; subst x; rotate_left; intro hx; clear_value x) | (have hx := x; clear hx))
    | split

theorem State.poolEval_confined (h : Confined m r s) (hm : Within 286754 m)  :
    Confined m r (State.poolEval s) := by
  unfold State.poolEval
  repeat' first
    | with_reducible first
      | assumption | apply Confined.foldl | apply State.poolTake_confined | apply State.poolSettle_confined
    | exact Within.trans (by decide) hm
    | with_reducible (first | exact fun (h : State.Inv _) => ⟨h.owner, h.grants, h.written⟩ | exact fun (h : State.Inv _) => ⟨SMap.wf_set _ _ _ _ h.owner, h.grants, h.written⟩ | exact fun (h : State.Inv _) => ⟨SMap.wf_set _ _ _ _ h.owner, SMap.wf_set _ _ _ _ h.grants, h.written⟩ | exact fun (h : State.Inv _) => ⟨h.owner, SMap.wf_set _ _ _ _ h.grants, h.written⟩ | exact fun (h : State.Inv _) => ⟨h.owner, h.grants, SMap.wf_set _ _ _ _ h.written⟩)
    | intro _ | with_reducible apply Confined.upd_pool

theorem State.poolWait_confined (h : Confined m r s) (hm : Within 286754 m) (a0 : Nat) :
    Confined m r (State.poolWait s a0) := by
  unfold State.poolWait
  repeat' first
    | with_reducible first
      | assumption | apply Confined.ite | apply State.poolArrive_confined | apply State.waitTo_confined | apply State.poolEval_confined
      | (apply Confined.fst; assumption)
    | exact Within.trans (by decide) hm
    | with_reducible (first | exact fun (h : State.Inv _) => ⟨h.owner, h.grants, h.written⟩ | exact fun (h : State.Inv _) => ⟨SMap.wf_set _ _ _ _ h.owner, h.grants, h.written⟩ | exact fun (h : State.Inv _) => ⟨SMap.wf_set _ _ _ _ h.owner, SMap.wf_set _ _ _ _ h.grants, h.written⟩ | exact fun (h : State.Inv _) => ⟨h.owner, SMap.wf_set _ _ _ _ h.grants, h.written⟩ | exact fun (h : State.Inv _) => ⟨h.owner, h.grants, SMap.wf_set _ _ _ _ h.written⟩)
    | intro _
    | (extract_lets +onlyGivenNames x; first | (refine Confined.cut (?_ : Confined m r x) ?_; subst x; rotate_left; intro hx; clear_value x) | (refine Confined.cut (?_ : Confined m r x.s) ?_; subst x; rotate_left; intro hx; clear_value x)| (have hx : _ → _ := x; clear hx; subst x) | (have hx := x; clear hx))
    | dsimp -zeta only | split | with_reducible apply Confined.upd_pool

theorem State.groupViewAt_confined (h : Confined m r s) (hm : Within 286754 m) (a0 : Nat) (a1 : Nat) :
    Confined m r (State.groupViewAt s a0 a1).1 := by
  have hs : ∀ v, Confined m r (s.seen a0 v).1 := fun v => State.seen_confined h (Within.trans (by decide) hm) _ _
  have hq := State.nextCoord_confined h (Within.trans (by decide) hm) (s.grpOf a0)
  unfold State.groupViewAt
  extract_lets x n q t
  have hc : ∀ v, Confined m r (q.1.seen a0 v).1 := fun v => State.seen_confined hq (Within.trans (by decide) hm) _ _
  have ht : Confined m r t := State.poolWait_confined h (Within.trans (by decide) hm) _
  clear_value t q
  split
  all_goals first
    | exact h | exact hs _ | exact hc _ | exact ht | exact State.causeTake_confined h (Within.trans (by decide) hm) _
    | exact Confined.ite_fst (fun _ => h) fun _ => Confined.ite_fst (fun _ => h) fun _ => h

theorem State.readGroupView_confined (h : Confined m r s) (hm : Within 286754 m) (a0 : Nat) (a1 : Nat) :
    Confined m r (State.readGroupView s a0 a1).1 := by
  unfold State.readGroupView
  repeat' first
    | with_reducible first
      | assumption | apply Confined.ite | apply Confined.ite_fst | apply State.groupViewAt_confined | (apply Confined.fst; assumption)
    | exact Within.trans (by decide) hm | intro _
    | (extract_lets +onlyGivenNames x; first | (refine Confined.cut (?_ : Confined m r x) ?_; subst x; rotate_left; intro hx; clear_value x) | (refine Confined.cut (?_ : Confined m r x.s) ?_; subst x; rotate_left; intro hx; clear_value x)| (have hx : _ → _ := x; clear hx; subst x) | (have hx := x; clear hx))
    | dsimp -zeta only | split

theorem State.readWord_confined (h : Confined m r s) (hm : Within 436202534 m) (a0 : Nat) (a1 : Fin 8) (a2 : Nat) :
    Confined m r (State.readWord s a0 a1 a2).1 := by
  unfold State.readWord
  repeat' first
    | with_reducible first
      | assumption | apply Confined.ite | apply Confined.ite_fst | apply State.seen_confined | apply State.readAxisView_confined
      | apply State.readGroupView_confined | apply State.busRead_confined
    | exact Within.trans (by decide) hm | intro _ | split

theorem State.readOp_confined (h : Confined m r s) (hm : Within 436202534 m) (a0 : Nat) (a1 : MemOp) (a2 : EngX) :
    Confined m r (State.readOp s a0 a1 a2).1 := by
  unfold State.readOp
  repeat' first
    | with_reducible first
      | assumption | apply Confined.ite_fst | apply State.spend_confined | apply State.readWord_confined
    | exact Within.trans (by decide) hm | intro _

theorem State.sideEffect_confined (h : Confined m r s) (hm : Within 262144 m) (a0 : Nat) (a1 : SideEff) (a2 : State → State) (hf : ∀ t, Confined m r t → Confined m r (a2 t)) :
    Confined m r (State.sideEffect s a0 a1 a2) := by
  unfold State.sideEffect
  repeat' first
    | with_reducible first
      | assumption | apply Confined.ite | apply State.modEng_confined | apply hf
    | exact Within.trans (by decide) hm | intro _

theorem State.engClaveGo_confined (h : Confined m r s) (hm : Within 4456450 m) (a0 : Nat) :
    Confined m r (State.engClaveGo s a0) := by
  unfold State.engClaveGo
  repeat' first
    | with_reducible first
      | assumption | apply Confined.ite | apply State.sideEffect_confined | apply State.modEng_confined | apply State.inc_confined
      | apply State.setClave_confined
    | exact Within.trans (by decide) hm | intro _

theorem State.commitOne_confined (h : Confined m r s) (hm : Within 1006630950 m) (a0 : Nat) (a1 : StagedW) :
    Confined m r (State.commitOne s a0 a1) := by
  unfold State.commitOne
  repeat' first
    | with_reducible first
      | assumption | apply Confined.ite | apply State.modEng_confined | apply State.busWrite_confined
    | exact Within.trans (by decide) hm | intro _ | split

theorem State.runDone_confined (h : Confined m r s) (hm : Within 1006630950 m) (a0 : Nat) :
    Confined m r (State.runDone s a0) := by
  unfold State.runDone
  repeat' first
    | with_reducible first
      | assumption | apply Confined.ite | apply State.modGrp_confined | apply State.set_confined | apply Confined.foldl
      | apply State.commitOne_confined | apply State.setEng_confined
    | exact Within.trans (by decide) hm | intro _

theorem State.readOp64_confined (h : Confined m r s) (hm : Within 436202534 m) (a0 : Nat) (a1 : MemOp) (a2 : EngX) :
    Confined m r (State.readOp64 s a0 a1 a2).1 := by
  unfold State.readOp64
  repeat' first
    | with_reducible first
      | assumption | apply Confined.ite_fst | apply State.spend_confined | apply State.readWord_confined
    | exact Within.trans (by decide) hm | intro _

theorem State.ldsClocks_confined (h : Confined m r s) (hm : Within 32 m) (a0 : Nat) :
    Confined m r (State.ldsClocks s a0).1 := by
  unfold State.ldsClocks
  repeat' first
    | with_reducible first
      | assumption | apply Confined.ite | apply Confined.ite_fst | apply State.draw_confined
    | exact Within.trans (by decide) hm | intro _

theorem State.engLoad_confined (h : Confined m r s) (hm : Within 436202534 m) (a0 : Nat) (a1 : Nat) :
    Confined m r (State.engLoad s a0 a1).1 := by
  unfold State.engLoad
  repeat' first
    | with_reducible first
      | assumption | apply Confined.ite_fst | apply State.seen_confined | apply State.busRead_confined | apply State.spend_confined
      | apply State.ldsClocks_confined
    | exact Within.trans (by decide) hm | intro _

theorem State.engMark_confined (h : Confined m r s) (hm : Within 278530 m) (a0 : Nat) (a1 : Nat) :
    Confined m r (State.engMark s a0 a1) := by
  unfold State.engMark
  repeat' first
    | with_reducible first
      | assumption | apply State.sideEffect_confined | apply State.event_confined
    | exact Within.trans (by decide) hm | intro _

theorem State.engPoolFree_confined (h : Confined m r s) (hm : Within 270336 m) (a0 : Nat) (a1 : Nat) :
    Confined m r (State.engPoolFree s a0 a1) := by
  unfold State.engPoolFree
  repeat' first
    | with_reducible first
      | assumption | apply State.sideEffect_confined | apply State.poolFree_confined
    | exact Within.trans (by decide) hm | intro _

theorem State.engPoolReq_confined (h : Confined m r s) (hm : Within 270336 m) (a0 : Nat) :
    Confined m r (State.engPoolReq s a0) := by
  unfold State.engPoolReq
  repeat' first
    | with_reducible first
      | assumption | apply Confined.ite | apply State.modEng_confined
    | exact Within.trans (by decide) hm
    | with_reducible (first | exact fun (h : State.Inv _) => ⟨h.owner, h.grants, h.written⟩ | exact fun (h : State.Inv _) => ⟨SMap.wf_set _ _ _ _ h.owner, h.grants, h.written⟩ | exact fun (h : State.Inv _) => ⟨SMap.wf_set _ _ _ _ h.owner, SMap.wf_set _ _ _ _ h.grants, h.written⟩ | exact fun (h : State.Inv _) => ⟨h.owner, SMap.wf_set _ _ _ _ h.grants, h.written⟩ | exact fun (h : State.Inv _) => ⟨h.owner, h.grants, SMap.wf_set _ _ _ _ h.written⟩)
    | intro _ | with_reducible apply Confined.upd_pool

theorem State.copyStall_confined (h : Confined m r s) (hm : Within 262144 m) (a0 : Nat) (a1 : Nat) :
    Confined m r (State.copyStall s a0 a1) := by
  unfold State.copyStall
  repeat' first
    | with_reducible first
      | assumption | apply Confined.ite | apply State.waitTo_confined
    | exact Within.trans (by decide) hm | intro _

theorem State.writeAxisView_confined (h : Confined m r s) (hm : Within 262144 m) (a0 : Nat) (a1 : Nat) (a2 : Nat) :
    Confined m r (State.writeAxisView s a0 a1 a2) := by
  unfold State.writeAxisView
  repeat' first
    | with_reducible first
      | assumption | apply Confined.ite | apply State.modEng_confined
    | exact Within.trans (by decide) hm | intro _ | split

theorem State.writeGroupView_confined (h : Confined m r s) (hm : Within 4481026 m) (a0 : Nat) (a1 : Nat) (a2 : Nat) :
    Confined m r (State.writeGroupView s a0 a1 a2) := by
  unfold State.writeGroupView
  repeat' first
    | with_reducible first
      | assumption | apply Confined.ite | apply State.engPoolReq_confined | apply State.engPoolFree_confined
      | apply State.engMark_confined | apply State.modEng_confined | apply State.engClaveGo_confined
    | exact Within.trans (by decide) hm | intro _

theorem State.writeMail_confined (h : Confined m r s) (hm : Within 1006630950 m) (a0 : Nat) (a1 : Nat) (a2 : Nat) :
    Confined m r (State.writeMail s a0 a1 a2) := by
  unfold State.writeMail
  repeat' first
    | with_reducible first
      | assumption | apply State.sideEffect_confined | apply State.busWrite_confined
    | exact Within.trans (by decide) hm | intro _

theorem State.writeWord_confined (h : Confined m r s) (hm : Within 1006630950 m) (a0 : Nat) (a1 : Fin 8) (a2 : Nat) (a3 : Nat) :
    Confined m r (State.writeWord s a0 a1 a2 a3) := by
  unfold State.writeWord
  repeat' first
    | with_reducible first
      | assumption | apply Confined.ite | apply State.wrLE_confined | apply State.copyStall_confined
      | apply State.writeAxisView_confined | apply State.writeGroupView_confined | apply State.writeMail_confined
    | exact Within.trans (by decide) hm | intro _ | split

theorem State.writeOp_confined (h : Confined m r s) (hm : Within 1006630950 m) (a0 : Nat) (a1 : MemOp) (a2 : EngX) (a3 : BitVec 32) :
    Confined m r (State.writeOp s a0 a1 a2 a3) := by
  unfold State.writeOp
  repeat' first
    | with_reducible first
      | assumption | apply State.spend_confined | apply State.writeWord_confined
    | exact Within.trans (by decide) hm | intro _

theorem State.writeOp64_confined (h : Confined m r s) (hm : Within 1006630950 m) (a0 : Nat) (a1 : MemOp) (a2 : EngX) (a3 : BitVec 64) :
    Confined m r (State.writeOp64 s a0 a1 a2 a3) := by
  unfold State.writeOp64
  repeat' first
    | with_reducible first
      | assumption | apply State.spend_confined | apply State.writeWord_confined
    | exact Within.trans (by decide) hm | intro _

theorem State.engStore_confined (h : Confined m r s) (hm : Within 1006630950 m) (a0 : Nat) (a1 : Nat) (a2 : Nat) :
    Confined m r (State.engStore s a0 a1 a2) := by
  unfold State.engStore
  repeat' first
    | with_reducible first
      | assumption | apply Confined.ite | apply State.modEng_confined | apply State.sideEffect_confined | apply State.busWrite_confined
      | apply State.copyStall_confined
    | exact Within.trans (by decide) hm | intro _

theorem execPoolGrant_confined (h : Confined m r s) (hm : Within 286754 m)  :
    ConfinedOut m r (execPoolGrant s) := by
  unfold execPoolGrant
  repeat' first
    | with_reducible first
      | assumption | apply Confined.ite | apply ConfinedOut.ite | apply ConfinedOut.next | apply State.poolArrive_confined
      | apply State.poolEval_confined
    | exact Within.trans (by decide) hm
    | with_reducible (first | exact fun (h : State.Inv _) => ⟨h.owner, h.grants, h.written⟩ | exact fun (h : State.Inv _) => ⟨SMap.wf_set _ _ _ _ h.owner, h.grants, h.written⟩ | exact fun (h : State.Inv _) => ⟨SMap.wf_set _ _ _ _ h.owner, SMap.wf_set _ _ _ _ h.grants, h.written⟩ | exact fun (h : State.Inv _) => ⟨h.owner, SMap.wf_set _ _ _ _ h.grants, h.written⟩ | exact fun (h : State.Inv _) => ⟨h.owner, h.grants, SMap.wf_set _ _ _ _ h.written⟩)
    | intro _
    | (extract_lets +onlyGivenNames x; first | (refine Confined.cut (?_ : Confined m r x) ?_; subst x; rotate_left; intro hx; clear_value x) | (have hx := x; clear hx))
    | split | with_reducible apply Confined.upd_pool

theorem State.transferOne_confined (h : Confined m r s) (hm : Within 3146240 m) (a0 : Nat) (a1 : StagedW) :
    Confined m r (State.transferOne s a0 a1) := by
  unfold State.transferOne
  repeat' first
    | with_reducible first
      | assumption | apply Confined.ite | apply State.modAxis_confined | apply State.modCur_confined | (apply Confined.fst; assumption)
    | exact Within.trans (by decide) hm | intro _
    | (extract_lets +onlyGivenNames x; first | (refine Confined.cut (?_ : Confined m r x) ?_; subst x; rotate_left; intro hx; clear_value x) | (refine Confined.cut (?_ : Confined m r x.s) ?_; subst x; rotate_left; intro hx; clear_value x)| (have hx : _ → _ := x; clear hx; subst x) | (have hx := x; clear hx))
    | dsimp -zeta only | split | with_reducible apply Confined.upd_tick_

theorem State.transferEng_confined (h : Confined m r s) (hm : Within 3408384 m) (a0 : Nat) :
    Confined m r (State.transferEng s a0) := by
  unfold State.transferEng
  repeat' first
    | with_reducible first
      | assumption | apply Confined.ite | apply State.modEng_confined | apply Confined.foldl | apply State.transferOne_confined
    | exact Within.trans (by decide) hm | intro _

theorem State.driveSend_confined (h : Confined m r s) (hm : Within 268460066 m) (a0 : Nat) :
    Confined m r (State.driveSend s a0) := by
  unfold State.driveSend
  repeat' first
    | with_reducible first
      | assumption | apply Confined.ite | apply State.enqueue_confined | apply State.nextId_confined
    | exact Within.trans (by decide) hm | intro _

theorem execOutputTransfer_confined (h : Confined m r s) (hm : Within 272392738 m)  :
    ConfinedOut m r (execOutputTransfer s) := by
  unfold execOutputTransfer
  repeat' first
    | with_reducible first
      | assumption | apply Confined.ite | apply ConfinedOut.ite | apply ConfinedOut.next | apply State.forAll_confined
      | apply State.transferEng_confined | apply State.modGrp_confined | apply State.driveSend_confined
    | exact Within.trans (by decide) hm | intro _

theorem State.idle_confined (h : Confined m r s) (hm : Within 536702010 m)  :
    Confined m r (State.idle s) := by
  unfold State.idle
  repeat' first
    | with_reducible first
      | assumption | apply Confined.ite | apply State.fbChecks_confined | apply State.poolEval_confined | apply State.tick_confined
    | exact Within.trans (by decide) hm | intro _

theorem State.committedView_confined (h : Confined m r s) (hm : Within 1006333954 m) (a0 : Nat) :
    Confined m r (State.committedView s a0) := by
  unfold State.committedView
  repeat' first
    | with_reducible first
      | assumption | apply Confined.ite | apply Confined.foldl | apply Confined.foldl_fst | apply State.engPut_confined
    | exact Within.trans (by decide) hm | intro _ | split

end Sys2Proof.Machine
end

