-- ==== Sys2Proof/Laws/ConfinedBexic.lean ====
section
/-!
SUPPORT. Laws/ConfinedBexic.lean: one lemma per operation and command of the command protocol: the components of the state that it can
change, and that it keeps the invariant (`Confined`).
-/
namespace Sys2Proof.Machine

set_option linter.unusedTactic false
set_option linter.unreachableTactic false
set_option linter.unusedVariables false
set_option linter.tactic.unusedName false

variable {m : Nat} {r s : State}

/-! ### Bexic -/

theorem State.attachBlk_confined (h : Confined m r s) (hm : Within 268443648 m) (a0 : Nat) (a1 : Nat × Nat) :
    Confined m r (State.attachBlk s a0 a1) := by
  unfold State.attachBlk
  repeat' first
    | with_reducible first
      | assumption | apply Confined.ite | apply State.freeBlk_confined | apply State.modEth_confined
    | exact Within.trans (by decide) hm | intro _
    | (extract_lets +onlyGivenNames x; first | (refine Confined.cut (?_ : Confined m r x) ?_; subst x; rotate_left; intro hx; clear_value x) | (have hx := x; clear hx))
    | split

theorem State.await_confined (h : Confined m r s) (hm : Within 524546 m) (a0 : Nat) (a1 : Msg) :
    Confined m r (State.await s a0 a1) := by
  unfold State.await
  repeat' first
    | with_reducible first
      | assumption | apply Confined.ite | apply State.askSwap_confined
    | exact Within.trans (by decide) hm | intro _ | with_reducible apply Confined.upd_awaiting

theorem State.sendOut_confined (h : Confined m r s) (hm : Within 1879072866 m) (a0 : OutMsg) :
    Confined m r (State.sendOut s a0).1 := by
  unfold State.sendOut
  repeat' first
    | with_reducible first
      | assumption | apply Confined.ite | apply Confined.ite_fst | apply State.sendUdp_confined | apply State.canQueue_confined
      | apply State.i2cHold_confined
    | exact Within.trans (by decide) hm | intro _ | split | with_reducible apply Confined.upd_outbox

theorem State.respond_confined (h : Confined m r s) (hm : Within 1879072866 m) (a0 : Nat) (a1 : Msg) (a2 : Nat) (a3 : Nat) (a4 : Nat) (a5 : List Byte) :
    Confined m r (State.respond s a0 a1 a2 a3 a4 a5) := by
  unfold State.respond
  repeat' first | with_reducible (first | assumption | apply State.sendOut_confined) | exact Within.trans (by decide) hm | intro _

theorem State.violation_confined (h : Confined m r s) (hm : Within 16386 m) (a0 : Nat) (a1 : Msg) (a2 : Nat) (a3 : Nat) :
    Confined m r (State.violation s a0 a1 a2 a3) := by
  unfold State.violation
  repeat' first
    | with_reducible first
      | assumption | apply Confined.ite | apply State.inc_confined | apply State.event_confined
    | exact Within.trans (by decide) hm | intro _

theorem State.noteStatus_confined (h : Confined m r s) (hm : Within 65536 m) (a0 : Msg) (a1 : Nat) :
    Confined m r (State.noteStatus s a0 a1) := by
  unfold State.noteStatus
  repeat' first
    | with_reducible first
      | assumption | apply Confined.ite | apply State.modSess_confined
    | exact Within.trans (by decide) hm | intro _

theorem State.finish_confined (a2 : Reply) (h : Confined m r a2.s) (hm : Within 1890936930 m) (a0 : Nat) (a1 : Msg) :
    Confined m r (State.finish a0 a1 a2) := by
  unfold State.finish
  repeat' first
    | with_reducible first
      | assumption | apply Confined.ite | apply State.goLoading_confined | apply State.respond_confined | apply State.violation_confined
      | apply State.noteStatus_confined | apply State.event_confined
    | exact Within.trans (by decide) hm | intro _

theorem effOf_confined (h : Confined m r s) (hm : Within 469624838 m) (a0 : Nat) (a1 : Msg) :
    Confined m r (effOf a0 a1 s).s := by
  unfold effOf
  repeat' first
    | with_reducible first
      | assumption | apply Confined.ite | apply Confined.ite_s | apply effArm_confined | apply effDisarm_confined
      | apply effCoefSwap_confined | apply effClaveAppend_confined | apply effClaveFlush_confined | apply effSnareArm_confined
      | apply effClearFault_confined | apply effEngineTest_confined | apply effEngineMigrate_confined | apply effMotion_confined
    | exact Within.trans (by decide) hm | intro _ | split

theorem State.effect1_confined (h : Confined m r s) (hm : Within 2080237670 m) (a0 : Fate) (a1 : Await) :
    Confined m r (State.effect1 s a0 a1) := by
  unfold State.effect1
  repeat' first
    | with_reducible first
      | assumption | apply Confined.ite | apply State.finish_confined | apply effOf_confined | apply State.nak_confined
      | apply State.ok_confined
    | exact Within.trans (by decide) hm | intro _ | split

theorem State.batch_confined (h : Confined m r s) (hm : Within 2080237670 m) (a0 : State) (a1 : List Await) (a2 : List Await) :
    Confined m r (State.batch a0 a1 a2 s) := by
  induction a2 generalizing s a0 a1 with
  | nil => exact h
  | cons _ _ ih =>
    unfold State.batch
    repeat' first
      | with_reducible first
        | assumption | apply State.effect1_confined | apply ih
      | exact Within.trans (by decide) hm | intro _

theorem State.consume_confined (h : Confined m r s) (hm : Within 65538 m) (a0 : Nat) (a1 : Msg) :
    Confined m r (State.consume s a0 a1) := by
  unfold State.consume
  repeat' first
    | with_reducible first
      | assumption | apply Confined.ite | apply State.modSess_confined | apply State.set_confined | apply State.inc_confined
    | exact Within.trans (by decide) hm | intro _

theorem State.dropMsg_confined (h : Confined m r s) (hm : Within 16386 m) (a0 : Nat) (a1 : Msg) :
    Confined m r (State.dropMsg s a0 a1) := by
  unfold State.dropMsg
  repeat' first
    | with_reducible first
      | assumption | apply State.violation_confined | apply State.inc_confined
    | exact Within.trans (by decide) hm | intro _

theorem State.effects_confined (h : Confined m r s) (hm : Within 2080237926 m)  :
    Confined m r (State.effects s) := by
  unfold State.effects
  repeat' first
    | with_reducible first
      | assumption | apply State.batch_confined
    | exact Within.trans (by decide) hm | intro _ | with_reducible apply Confined.upd_awaiting

theorem State.settle_confined (a2 : Reply) (h : Confined m r a2.s) (hm : Within 1890936930 m) (a0 : Nat) (a1 : Msg) :
    Confined m r (State.settle a0 a1 a2) := by
  unfold State.settle
  repeat' first
    | with_reducible first
      | assumption | apply Confined.ite | apply State.finish_confined
    | exact Within.trans (by decide) hm | intro _

theorem runI2cXfer_confined (h : Confined m r s) (hm : Within 1073741826 m) (a0 : Msg) :
    Confined m r (runI2cXfer a0 s).s := by
  unfold runI2cXfer
  repeat' first
    | with_reducible first
      | assumption | apply Confined.ite | apply Confined.ite_s | apply State.nak_confined | apply State.ok_confined
      | apply State.xferQueue_confined
    | exact Within.trans (by decide) hm | intro _ | split

theorem runSessionOpen_confined (h : Confined m r s) (hm : Within 65538 m) (a0 : Msg) :
    Confined m r (runSessionOpen a0 s).s := by
  unfold runSessionOpen
  repeat' first
    | with_reducible first
      | assumption | apply Confined.ite_s | apply State.ok_confined | apply State.setSess_confined | apply State.set_confined
    | exact Within.trans (by decide) hm | intro _

theorem runReadReg_confined (h : Confined m r s) (hm : Within 436202534 m) (a0 : Msg) :
    Confined m r (runReadReg a0 s).s := by
  unfold runReadReg
  repeat' first
    | with_reducible first
      | assumption | apply Confined.ite_s | apply State.ok_confined | apply State.busRead_confined
    | exact Within.trans (by decide) hm | intro _

theorem runWriteReg_confined (h : Confined m r s) (hm : Within 1006630950 m) (a0 : Msg) :
    Confined m r (runWriteReg a0 s).s := by
  unfold runWriteReg
  repeat' first
    | with_reducible first
      | assumption | apply Confined.ite_s | apply State.ok_confined | apply State.busWrite_confined
    | exact Within.trans (by decide) hm | intro _

theorem State.readWords_confined (h : Confined m r s) (hm : Within 436202534 m) (a0 : Agent) (a1 : Nat) (a2 : Nat) :
    Confined m r (State.readWords s a0 a1 a2).1 := by
  induction a2 generalizing s a0 a1 with
  | zero => exact h
  | succ _ ih =>
    unfold State.readWords
    repeat' first
      | with_reducible first
        | assumption | apply Confined.ite_fst | apply State.busRead_confined | apply ih
      | exact Within.trans (by decide) hm | intro _

theorem runReadBlock_confined (h : Confined m r s) (hm : Within 436202534 m) (a0 : Msg) :
    Confined m r (runReadBlock a0 s).s := by
  unfold runReadBlock
  repeat' first
    | with_reducible first
      | assumption | apply Confined.ite_s | apply State.ok_confined | apply State.readWords_confined
    | exact Within.trans (by decide) hm | intro _

theorem runWriteBlock_confined (h : Confined m r s) (hm : Within 1006630950 m) (a0 : Msg) :
    Confined m r (runWriteBlock a0 s).s := by
  unfold runWriteBlock
  repeat' first
    | with_reducible first
      | assumption | apply Confined.ite_s | apply State.ok_confined | apply State.forAll_confined | apply State.busWrite_confined
    | exact Within.trans (by decide) hm | intro _

theorem runEventSubscribe_confined (h : Confined m r s) (hm : Within 65536 m) (a0 : Msg) :
    Confined m r (runEventSubscribe a0 s).s := by
  unfold runEventSubscribe
  repeat' first
    | with_reducible first
      | assumption | apply Confined.ite | apply Confined.ite_s | apply State.ok_confined | apply State.modSess_confined
    | exact Within.trans (by decide) hm | intro _

theorem runX_confined (h : Confined m r s) (hm : Within 1006631974 m) (a0 : Nat) (a1 : Msg) :
    Confined m r (runX a0 a1 s).s := by
  unfold runX
  repeat' first
    | with_reducible first
      | assumption | apply Confined.ite | apply Confined.ite_s | apply runSessionOpen_confined | apply State.ok_confined
      | apply runReadReg_confined | apply runWriteReg_confined | apply runReadBlock_confined | apply runWriteBlock_confined
      | apply runCoefWrite_confined | apply runSnareRead_confined | apply runBufAlloc_confined | apply runBufFree_confined
      | apply runLedgerRead_confined | apply State.ringFetch_confined | apply runEventSubscribe_confined | apply runFieldResume_confined
      | apply runCanRecover_confined | apply runClearStartCount_confined | apply runImageWrite_confined | apply runRestart_confined
    | exact Within.trans (by decide) hm | intro _ | split

theorem State.execute_confined (h : Confined m r s) (hm : Within 2080374118 m) (a0 : Nat) (a1 : Msg) :
    Confined m r (State.execute s a0 a1) := by
  unfold State.execute
  repeat' first
    | with_reducible first
      | assumption | apply Confined.ite | apply State.finish_confined | apply State.nak_confined | apply State.consume_confined
      | apply State.limit_confined | apply State.settle_confined | apply runI2cXfer_confined | apply State.await_confined
      | apply runX_confined
    | exact Within.trans (by decide) hm | intro _ | split

theorem State.sendEvent_confined (h : Confined m r s) (hm : Within 1879072866 m) (a0 : OutMsg) (a1 : Nat × Nat) :
    Confined m r (State.sendEvent s a0 a1).1 := by
  unfold State.sendEvent
  repeat' first
    | with_reducible first
      | assumption | apply Confined.ite | apply Confined.ite_fst | apply State.attachBlk_confined | apply State.sendOut_confined
      | apply State.freeBlk_confined | apply State.canQueue_confined | apply State.inc_confined
    | exact Within.trans (by decide) hm | intro _ | split | with_reducible apply Confined.upd_outbox

theorem State.flushEvents_confined (h : Confined m r s) (hm : Within 1879138402 m) (a0 : Fin 17) :
    Confined m r (State.flushEvents s a0) := by
  unfold State.flushEvents
  repeat' first
    | with_reducible first
      | assumption | apply Confined.ite | apply Confined.ite_fst | apply State.poolAlloc_confined | apply State.setSess_confined
      | apply State.sendEvent_confined | apply State.inc_confined | (apply Confined.fst; assumption)
    | exact Within.trans (by decide) hm | intro _
    | (extract_lets +onlyGivenNames x; first | (refine Confined.cut (?_ : Confined m r x) ?_; subst x; rotate_left; intro hx; clear_value x) | (have hx := x; clear hx))
    | split

theorem State.refuse_confined (h : Confined m r s) (hm : Within 1879072866 m) (a0 : Nat) (a1 : Msg) (a2 : Nat) :
    Confined m r (State.refuse s a0 a1 a2) := by
  unfold State.refuse
  repeat' first
    | with_reducible first
      | assumption | apply State.respond_confined | apply State.violation_confined
    | exact Within.trans (by decide) hm | intro _

theorem State.unlisted_confined (h : Confined m r s) (hm : Within 1879105634 m) (a0 : Nat) (a1 : Msg) :
    Confined m r (State.unlisted s a0 a1) := by
  unfold State.unlisted
  repeat' first
    | with_reducible first
      | assumption | apply Confined.ite | apply State.respond_confined | apply State.violation_confined | apply State.inc_confined
    | exact Within.trans (by decide) hm | intro _ | with_reducible apply Confined.upd_flt

theorem State.stale_confined (h : Confined m r s) (hm : Within 1879072866 m) (a0 : Nat) (a1 : Msg) :
    Confined m r (State.stale s a0 a1) := by
  unfold State.stale
  repeat' first
    | with_reducible first
      | assumption | apply Confined.ite | apply State.respond_confined | apply State.violation_confined | apply State.draw_confined
    | exact Within.trans (by decide) hm | intro _ | split

theorem State.serveWhole_confined (h : Confined m r s) (hm : Within 2080374118 m) (a0 : Nat) (a1 : Msg) :
    Confined m r (State.serveWhole s a0 a1) := by
  unfold State.serveWhole
  repeat' first
    | with_reducible first
      | assumption | apply Confined.ite | apply State.refuse_confined | apply State.unlisted_confined | apply State.inc_confined
      | apply State.respond_confined | apply State.violation_confined | apply State.stale_confined | apply State.execute_confined
    | exact Within.trans (by decide) hm | intro _ | split

theorem State.serve_confined (h : Confined m r s) (hm : Within 2080374118 m) (a0 : Nat) (a1 : Msg) :
    Confined m r (State.serve s a0 a1) := by
  unfold State.serve
  repeat' first
    | with_reducible first
      | assumption | apply Confined.ite | apply State.dropMsg_confined | apply State.refuse_confined | apply State.serveWhole_confined
    | exact Within.trans (by decide) hm | intro _ | split

theorem execArm_confined (h : Confined m r s) (hm : Within 2080374118 m) (a0 : Msg) :
    ConfinedOut m r (execArm a0 s) := by
  unfold execArm
  repeat' first
    | with_reducible first
      | assumption | apply ConfinedOut.next | apply State.serve_confined
    | exact Within.trans (by decide) hm | intro _

theorem execBufAlloc_confined (h : Confined m r s) (hm : Within 2080374118 m) (a0 : Msg) :
    ConfinedOut m r (execBufAlloc a0 s) := by
  unfold execBufAlloc
  repeat' first
    | with_reducible first
      | assumption | apply ConfinedOut.next | apply State.serve_confined
    | exact Within.trans (by decide) hm | intro _

theorem execBufFree_confined (h : Confined m r s) (hm : Within 2080374118 m) (a0 : Msg) :
    ConfinedOut m r (execBufFree a0 s) := by
  unfold execBufFree
  repeat' first
    | with_reducible first
      | assumption | apply ConfinedOut.next | apply State.serve_confined
    | exact Within.trans (by decide) hm | intro _

theorem execCamSet_confined (h : Confined m r s) (hm : Within 2080374118 m) (a0 : Msg) :
    ConfinedOut m r (execCamSet a0 s) := by
  unfold execCamSet
  repeat' first
    | with_reducible first
      | assumption | apply ConfinedOut.next | apply State.serve_confined
    | exact Within.trans (by decide) hm | intro _

theorem execCanRecover_confined (h : Confined m r s) (hm : Within 2080374118 m) (a0 : Msg) :
    ConfinedOut m r (execCanRecover a0 s) := by
  unfold execCanRecover
  repeat' first
    | with_reducible first
      | assumption | apply ConfinedOut.next | apply State.serve_confined
    | exact Within.trans (by decide) hm | intro _

theorem execClaveAppend_confined (h : Confined m r s) (hm : Within 2080374118 m) (a0 : Msg) :
    ConfinedOut m r (execClaveAppend a0 s) := by
  unfold execClaveAppend
  repeat' first
    | with_reducible first
      | assumption | apply ConfinedOut.next | apply State.serve_confined
    | exact Within.trans (by decide) hm | intro _

theorem execClaveFlush_confined (h : Confined m r s) (hm : Within 2080374118 m) (a0 : Msg) :
    ConfinedOut m r (execClaveFlush a0 s) := by
  unfold execClaveFlush
  repeat' first
    | with_reducible first
      | assumption | apply ConfinedOut.next | apply State.serve_confined
    | exact Within.trans (by decide) hm | intro _

theorem execClearFault_confined (h : Confined m r s) (hm : Within 2080374118 m) (a0 : Msg) :
    ConfinedOut m r (execClearFault a0 s) := by
  unfold execClearFault
  repeat' first
    | with_reducible first
      | assumption | apply ConfinedOut.next | apply State.serve_confined
    | exact Within.trans (by decide) hm | intro _

theorem execClearStartCount_confined (h : Confined m r s) (hm : Within 2080374118 m) (a0 : Msg) :
    ConfinedOut m r (execClearStartCount a0 s) := by
  unfold execClearStartCount
  repeat' first
    | with_reducible first
      | assumption | apply ConfinedOut.next | apply State.serve_confined
    | exact Within.trans (by decide) hm | intro _

theorem execCoefSwap_confined (h : Confined m r s) (hm : Within 2080374118 m) (a0 : Msg) :
    ConfinedOut m r (execCoefSwap a0 s) := by
  unfold execCoefSwap
  repeat' first
    | with_reducible first
      | assumption | apply ConfinedOut.next | apply State.serve_confined
    | exact Within.trans (by decide) hm | intro _

theorem execCoefWrite_confined (h : Confined m r s) (hm : Within 2080374118 m) (a0 : Msg) :
    ConfinedOut m r (execCoefWrite a0 s) := by
  unfold execCoefWrite
  repeat' first
    | with_reducible first
      | assumption | apply ConfinedOut.next | apply State.serve_confined
    | exact Within.trans (by decide) hm | intro _

theorem execDisarm_confined (h : Confined m r s) (hm : Within 2080374118 m) (a0 : Msg) :
    ConfinedOut m r (execDisarm a0 s) := by
  unfold execDisarm
  repeat' first
    | with_reducible first
      | assumption | apply ConfinedOut.next | apply State.serve_confined
    | exact Within.trans (by decide) hm | intro _

theorem execEngineMigrate_confined (h : Confined m r s) (hm : Within 2080374118 m) (a0 : Msg) :
    ConfinedOut m r (execEngineMigrate a0 s) := by
  unfold execEngineMigrate
  repeat' first
    | with_reducible first
      | assumption | apply ConfinedOut.next | apply State.serve_confined
    | exact Within.trans (by decide) hm | intro _

theorem execEngineTest_confined (h : Confined m r s) (hm : Within 2080374118 m) (a0 : Msg) :
    ConfinedOut m r (execEngineTest a0 s) := by
  unfold execEngineTest
  repeat' first
    | with_reducible first
      | assumption | apply ConfinedOut.next | apply State.serve_confined
    | exact Within.trans (by decide) hm | intro _

theorem execEventFrameFlush_confined (h : Confined m r s) (hm : Within 1879138402 m) (a0 : Fin 17) :
    ConfinedOut m r (execEventFrameFlush a0 s) := by
  unfold execEventFrameFlush
  repeat' first
    | with_reducible first
      | assumption | apply ConfinedOut.next | apply State.flushEvents_confined
    | exact Within.trans (by decide) hm | intro _

theorem execEventSubscribe_confined (h : Confined m r s) (hm : Within 2080374118 m) (a0 : Msg) :
    ConfinedOut m r (execEventSubscribe a0 s) := by
  unfold execEventSubscribe
  repeat' first
    | with_reducible first
      | assumption | apply ConfinedOut.next | apply State.serve_confined
    | exact Within.trans (by decide) hm | intro _

theorem execFieldResume_confined (h : Confined m r s) (hm : Within 2080374118 m) (a0 : Msg) :
    ConfinedOut m r (execFieldResume a0 s) := by
  unfold execFieldResume
  repeat' first
    | with_reducible first
      | assumption | apply ConfinedOut.next | apply State.serve_confined
    | exact Within.trans (by decide) hm | intro _

theorem execFollowSet_confined (h : Confined m r s) (hm : Within 2080374118 m) (a0 : Msg) :
    ConfinedOut m r (execFollowSet a0 s) := by
  unfold execFollowSet
  repeat' first
    | with_reducible first
      | assumption | apply ConfinedOut.next | apply State.serve_confined
    | exact Within.trans (by decide) hm | intro _

theorem execGearSet_confined (h : Confined m r s) (hm : Within 2080374118 m) (a0 : Msg) :
    ConfinedOut m r (execGearSet a0 s) := by
  unfold execGearSet
  repeat' first
    | with_reducible first
      | assumption | apply ConfinedOut.next | apply State.serve_confined
    | exact Within.trans (by decide) hm | intro _

theorem execGroupDisable_confined (h : Confined m r s) (hm : Within 2080374118 m) (a0 : Msg) :
    ConfinedOut m r (execGroupDisable a0 s) := by
  unfold execGroupDisable
  repeat' first
    | with_reducible first
      | assumption | apply ConfinedOut.next | apply State.serve_confined
    | exact Within.trans (by decide) hm | intro _

theorem execGroupEnable_confined (h : Confined m r s) (hm : Within 2080374118 m) (a0 : Msg) :
    ConfinedOut m r (execGroupEnable a0 s) := by
  unfold execGroupEnable
  repeat' first
    | with_reducible first
      | assumption | apply ConfinedOut.next | apply State.serve_confined
    | exact Within.trans (by decide) hm | intro _

theorem execHold_confined (h : Confined m r s) (hm : Within 2080374118 m) (a0 : Msg) :
    ConfinedOut m r (execHold a0 s) := by
  unfold execHold
  repeat' first
    | with_reducible first
      | assumption | apply ConfinedOut.next | apply State.serve_confined
    | exact Within.trans (by decide) hm | intro _

theorem execI2cBusRecovery_confined (h : Confined m r s) (hm : Within 2080374118 m) (a0 : Msg) :
    ConfinedOut m r (execI2cBusRecovery a0 s) := by
  unfold execI2cBusRecovery
  repeat' first
    | with_reducible first
      | assumption | apply ConfinedOut.next | apply State.serve_confined
    | exact Within.trans (by decide) hm | intro _

theorem execI2cTransferDone_confined (h : Confined m r s) (hm : Within 1890936930 m) (a0 : BitVec 8) (a1 : BitVec 8) (a2 : BitVec 8) (a3 : BitVec 4) (a4 : List Byte) :
    ConfinedOut m r (execI2cTransferDone a0 a1 a2 a3 a4 s) := by
  unfold execI2cTransferDone
  repeat' first
    | with_reducible first
      | assumption | apply Confined.ite | apply ConfinedOut.ite | apply ConfinedOut.next | apply Confined.ite_fst
      | apply State.xferEnd_confined | apply State.finish_confined | apply State.ok_confined | (apply Confined.fst; assumption)
    | exact Within.trans (by decide) hm | intro _
    | (extract_lets +onlyGivenNames x; first | (refine Confined.cut (?_ : Confined m r x) ?_; subst x; rotate_left; intro hx; clear_value x) | (have hx := x; clear hx))
    | split

theorem execI2cXfer_confined (h : Confined m r s) (hm : Within 2080374118 m) (a0 : Msg) :
    ConfinedOut m r (execI2cXfer a0 s) := by
  unfold execI2cXfer
  repeat' first
    | with_reducible first
      | assumption | apply ConfinedOut.next | apply State.serve_confined
    | exact Within.trans (by decide) hm | intro _

theorem execImageCommitDone_confined (h : Confined m r s) (hm : Within 1890941026 m)  :
    ConfinedOut m r (execImageCommitDone s) := by
  have hk := State.commitEnd_confined h (Within.trans (by decide) hm)
  unfold execImageCommitDone
  split
  · exact .next h
  split
  · rename_i hq
    rw [hq] at hk
    exact .next (State.finish_confined _ (hk.2 _ _ rfl) (Within.trans (by decide) hm) _ _)
  · rename_i hq
    rw [hq] at hk
    exact .next hk.1

theorem execImageEraseDone_confined (h : Confined m r s) (hm : Within 1890941026 m)  :
    ConfinedOut m r (execImageEraseDone s) := by
  have hk := State.eraseEnd_confined h (Within.trans (by decide) hm)
  unfold execImageEraseDone
  split
  · exact .next h
  split
  · rename_i hq
    rw [hq] at hk
    exact .next (State.finish_confined _ (hk.2 _ _ rfl) (Within.trans (by decide) hm) _ _)
  · rename_i hq
    rw [hq] at hk
    exact .next hk.1

theorem execImageWriteAbort_confined (h : Confined m r s) (hm : Within 2080374118 m) (a0 : Msg) :
    ConfinedOut m r (execImageWriteAbort a0 s) := by
  unfold execImageWriteAbort
  repeat' first
    | with_reducible first
      | assumption | apply ConfinedOut.next | apply State.serve_confined
    | exact Within.trans (by decide) hm | intro _

theorem execImageWriteBegin_confined (h : Confined m r s) (hm : Within 2080374118 m) (a0 : Msg) :
    ConfinedOut m r (execImageWriteBegin a0 s) := by
  unfold execImageWriteBegin
  repeat' first
    | with_reducible first
      | assumption | apply ConfinedOut.next | apply State.serve_confined
    | exact Within.trans (by decide) hm | intro _

theorem execImageWriteCommit_confined (h : Confined m r s) (hm : Within 2080374118 m) (a0 : Msg) :
    ConfinedOut m r (execImageWriteCommit a0 s) := by
  unfold execImageWriteCommit
  repeat' first
    | with_reducible first
      | assumption | apply ConfinedOut.next | apply State.serve_confined
    | exact Within.trans (by decide) hm | intro _

theorem execImageWriteData_confined (h : Confined m r s) (hm : Within 2080374118 m) (a0 : Msg) :
    ConfinedOut m r (execImageWriteData a0 s) := by
  unfold execImageWriteData
  repeat' first
    | with_reducible first
      | assumption | apply ConfinedOut.next | apply State.serve_confined
    | exact Within.trans (by decide) hm | intro _

theorem execImageWriteErase_confined (h : Confined m r s) (hm : Within 2080374118 m) (a0 : Msg) :
    ConfinedOut m r (execImageWriteErase a0 s) := by
  unfold execImageWriteErase
  repeat' first
    | with_reducible first
      | assumption | apply ConfinedOut.next | apply State.serve_confined
    | exact Within.trans (by decide) hm | intro _

theorem execJog_confined (h : Confined m r s) (hm : Within 2080374118 m) (a0 : Msg) :
    ConfinedOut m r (execJog a0 s) := by
  unfold execJog
  repeat' first
    | with_reducible first
      | assumption | apply ConfinedOut.next | apply State.serve_confined
    | exact Within.trans (by decide) hm | intro _

theorem execLedgerRead_confined (h : Confined m r s) (hm : Within 2080374118 m) (a0 : Msg) :
    ConfinedOut m r (execLedgerRead a0 s) := by
  unfold execLedgerRead
  repeat' first
    | with_reducible first
      | assumption | apply ConfinedOut.next | apply State.serve_confined
    | exact Within.trans (by decide) hm | intro _

theorem execMoveAbs_confined (h : Confined m r s) (hm : Within 2080374118 m) (a0 : Msg) :
    ConfinedOut m r (execMoveAbs a0 s) := by
  unfold execMoveAbs
  repeat' first
    | with_reducible first
      | assumption | apply ConfinedOut.next | apply State.serve_confined
    | exact Within.trans (by decide) hm | intro _

theorem execMoveRel_confined (h : Confined m r s) (hm : Within 2080374118 m) (a0 : Msg) :
    ConfinedOut m r (execMoveRel a0 s) := by
  unfold execMoveRel
  repeat' first
    | with_reducible first
      | assumption | apply ConfinedOut.next | apply State.serve_confined
    | exact Within.trans (by decide) hm | intro _

theorem execPathAppend_confined (h : Confined m r s) (hm : Within 2080374118 m) (a0 : Msg) :
    ConfinedOut m r (execPathAppend a0 s) := by
  unfold execPathAppend
  repeat' first
    | with_reducible first
      | assumption | apply ConfinedOut.next | apply State.serve_confined
    | exact Within.trans (by decide) hm | intro _

theorem execPathFlush_confined (h : Confined m r s) (hm : Within 2080374118 m) (a0 : Msg) :
    ConfinedOut m r (execPathFlush a0 s) := by
  unfold execPathFlush
  repeat' first
    | with_reducible first
      | assumption | apply ConfinedOut.next | apply State.serve_confined
    | exact Within.trans (by decide) hm | intro _

theorem execPing_confined (h : Confined m r s) (hm : Within 2080374118 m) (a0 : Msg) :
    ConfinedOut m r (execPing a0 s) := by
  unfold execPing
  repeat' first
    | with_reducible first
      | assumption | apply ConfinedOut.next | apply State.serve_confined
    | exact Within.trans (by decide) hm | intro _

theorem execReadBlock_confined (h : Confined m r s) (hm : Within 2080374118 m) (a0 : Msg) :
    ConfinedOut m r (execReadBlock a0 s) := by
  unfold execReadBlock
  repeat' first
    | with_reducible first
      | assumption | apply ConfinedOut.next | apply State.serve_confined
    | exact Within.trans (by decide) hm | intro _

theorem execReadReg_confined (h : Confined m r s) (hm : Within 2080374118 m) (a0 : Msg) :
    ConfinedOut m r (execReadReg a0 s) := by
  unfold execReadReg
  repeat' first
    | with_reducible first
      | assumption | apply ConfinedOut.next | apply State.serve_confined
    | exact Within.trans (by decide) hm | intro _

theorem execRestart_confined (h : Confined m r s) (hm : Within 2080374118 m) (a0 : Msg) :
    ConfinedOut m r (execRestart a0 s) := by
  unfold execRestart
  repeat' first
    | with_reducible first
      | assumption | apply ConfinedOut.next | apply State.serve_confined
    | exact Within.trans (by decide) hm | intro _

theorem execResume_confined (h : Confined m r s) (hm : Within 2080374118 m) (a0 : Msg) :
    ConfinedOut m r (execResume a0 s) := by
  unfold execResume
  repeat' first
    | with_reducible first
      | assumption | apply ConfinedOut.next | apply State.serve_confined
    | exact Within.trans (by decide) hm | intro _

theorem execSessionOpen_confined (h : Confined m r s) (hm : Within 2080374118 m) (a0 : Msg) :
    ConfinedOut m r (execSessionOpen a0 s) := by
  unfold execSessionOpen
  repeat' first
    | with_reducible first
      | assumption | apply ConfinedOut.next | apply State.serve_confined
    | exact Within.trans (by decide) hm | intro _

theorem execSnareArm_confined (h : Confined m r s) (hm : Within 2080374118 m) (a0 : Msg) :
    ConfinedOut m r (execSnareArm a0 s) := by
  unfold execSnareArm
  repeat' first
    | with_reducible first
      | assumption | apply ConfinedOut.next | apply State.serve_confined
    | exact Within.trans (by decide) hm | intro _

theorem execSnareRead_confined (h : Confined m r s) (hm : Within 2080374118 m) (a0 : Msg) :
    ConfinedOut m r (execSnareRead a0 s) := by
  unfold execSnareRead
  repeat' first
    | with_reducible first
      | assumption | apply ConfinedOut.next | apply State.serve_confined
    | exact Within.trans (by decide) hm | intro _

theorem execStop_confined (h : Confined m r s) (hm : Within 2080374118 m) (a0 : Msg) :
    ConfinedOut m r (execStop a0 s) := by
  unfold execStop
  repeat' first
    | with_reducible first
      | assumption | apply ConfinedOut.next | apply State.serve_confined
    | exact Within.trans (by decide) hm | intro _

theorem execWriteBlock_confined (h : Confined m r s) (hm : Within 2080374118 m) (a0 : Msg) :
    ConfinedOut m r (execWriteBlock a0 s) := by
  unfold execWriteBlock
  repeat' first
    | with_reducible first
      | assumption | apply ConfinedOut.next | apply State.serve_confined
    | exact Within.trans (by decide) hm | intro _

theorem execWriteReg_confined (h : Confined m r s) (hm : Within 2080374118 m) (a0 : Msg) :
    ConfinedOut m r (execWriteReg a0 s) := by
  unfold execWriteReg
  repeat' first
    | with_reducible first
      | assumption | apply ConfinedOut.next | apply State.serve_confined
    | exact Within.trans (by decide) hm | intro _

end Sys2Proof.Machine
end

