-- ==== Sys2Proof/Laws/ConfinedSteps.lean ====
section
/-!
SUPPORT. Laws/ConfinedSteps.lean: one lemma per operation and command of the engine instructions, transports and boundaries: the components of the state that it can
change, and that it keeps the invariant (`Confined`).
-/
namespace Sys2Proof.Machine

set_option linter.unusedTactic false
set_option linter.unreachableTactic false
set_option linter.unusedVariables false
set_option linter.tactic.unusedName false

variable {m : Nat} {r s : State}

/-! ### Aingoca -/

theorem State.advance_confined (h : Confined m r s) (hm : Within 436070438 m) (a0 : Nat) :
    Confined m r (State.advance s a0) := by
  unfold State.advance
  repeat' first
    | with_reducible first
      | assumption | apply Confined.ite | apply State.engFail_confined | apply State.setEng_confined
    | exact Within.trans (by decide) hm | intro _

theorem State.control_confined (h : Confined m r s) (hm : Within 436070438 m) (a0 : Nat) (a1 : Nat) (a2 : EngX → State → State) (hf : ∀ x0 t, Confined m r t → Confined m r (a2 x0 t)) :
    Confined m r (State.control s a0 a1 a2) := by
  unfold State.control
  repeat' first
    | with_reducible first
      | assumption | apply Confined.ite | apply State.engFail_confined | apply State.modEng_confined | apply State.spend_confined
      | apply hf
    | exact Within.trans (by decide) hm | intro _

theorem State.jump_confined (h : Confined m r s) (hm : Within 262144 m) (a0 : Nat) (a1 : Nat) :
    Confined m r (State.jump s a0 a1) := by
  unfold State.jump
  repeat' first | with_reducible (first | assumption | apply State.modEng_confined) | exact Within.trans (by decide) hm | intro _

theorem State.plain_confined (h : Confined m r s) (hm : Within 436070438 m) (a0 : Nat) (a1 : Nat) (a2 : List (Fin 2)) (a3 : Option (Fin 2)) (a4 : Option (Fin 2)) (a5 : EngX → State → State) (hf : ∀ x0 t, Confined m r t → Confined m r (a5 x0 t)) :
    Confined m r (State.plain s a0 a1 a2 a3 a4 a5) := by
  unfold State.plain
  repeat' first
    | with_reducible first
      | assumption | apply State.advance_confined | apply State.modEng_confined | apply State.spend_confined | apply hf
    | exact Within.trans (by decide) hm | intro _

theorem State.loadAcc_confined (h : Confined m r s) (hm : Within 436202534 m) (a0 : Nat) (a1 : Fin 2) (a2 : Opnd) (a3 : Int → Int) :
    Confined m r (State.loadAcc s a0 a1 a2 a3) := by
  unfold State.loadAcc
  repeat' first
    | with_reducible first
      | assumption | apply Confined.ite | apply State.plain_confined | apply State.modEng_confined | apply State.readOp_confined
    | exact Within.trans (by decide) hm | intro _ | split

theorem State.readXY_confined (h : Confined m r s) (hm : Within 436202534 m) (a0 : Nat) (a1 : XY) (a2 : EngX) :
    Confined m r (State.readXY s a0 a1 a2).1 := by
  unfold State.readXY
  repeat' first
    | with_reducible first
      | assumption | apply Confined.ite | apply Confined.ite_fst | apply State.readOp_confined
    | exact Within.trans (by decide) hm | intro _ | split

theorem State.mac_confined (h : Confined m r s) (hm : Within 436202534 m) (a0 : Nat) (a1 : Fin 2) (a2 : MacOps) (a3 : Bool) (a4 : List (Fin 2)) (a5 : Int → Int → Int) :
    Confined m r (State.mac s a0 a1 a2 a3 a4 a5) := by
  unfold State.mac
  repeat' first
    | with_reducible first
      | assumption | apply State.plain_confined | apply State.modEng_confined | apply State.readXY_confined
    | exact Within.trans (by decide) hm | intro _

theorem State.push_confined (h : Confined m r s) (hm : Within 436070438 m) (a0 : Nat) (a1 : Nat) (a2 : Nat) :
    Confined m r (State.push s a0 a1 a2) := by
  unfold State.push
  repeat' first
    | with_reducible first
      | assumption | apply Confined.ite | apply State.control_confined | apply State.engFail_confined | apply State.modEng_confined
    | exact Within.trans (by decide) hm | intro _

theorem State.simple_confined (h : Confined m r s) (hm : Within 436070438 m) (a0 : Nat) (a1 : EngX → State → State) (hf : ∀ x0 t, Confined m r t → Confined m r (a1 x0 t)) :
    Confined m r (State.simple s a0 a1) := by
  unfold State.simple
  repeat' first
    | with_reducible first
      | assumption | apply State.plain_confined | apply hf
    | exact Within.trans (by decide) hm | intro _

theorem State.regOp_confined (h : Confined m r s) (hm : Within 436070438 m) (a0 : Nat) (a1 : EngX → EngX) :
    Confined m r (State.regOp s a0 a1) := by
  unfold State.regOp
  repeat' first
    | with_reducible first
      | assumption | apply State.simple_confined | apply State.modEng_confined
    | exact Within.trans (by decide) hm | intro _

theorem State.run_confined (h : Confined m r s) (a0 : Nat) (a1 : State → State) (hf : ∀ t, Confined m r t → Confined m r (a1 t)) :
    ConfinedOut m r (State.run s a0 a1) := by
  unfold State.run
  repeat' first
    | with_reducible first
      | assumption | apply Confined.ite | apply ConfinedOut.ite | apply ConfinedOut.next | apply hf
    | intro _

theorem execAbs_confined (h : Confined m r s) (hm : Within 436070438 m) (a0 : Fin 17) (a1 : Fin 8) (a2 : Fin 8) :
    ConfinedOut m r (execAbs a0 a1 a2 s) := by
  unfold execAbs
  repeat' first
    | with_reducible first
      | assumption | apply ConfinedOut.next | apply State.run_confined | apply State.regOp_confined
    | exact Within.trans (by decide) hm | intro _

theorem execAdd_confined (h : Confined m r s) (hm : Within 436070438 m) (a0 : Fin 17) (a1 : Fin 8) (a2 : Fin 8) (a3 : AluB) :
    ConfinedOut m r (execAdd a0 a1 a2 a3 s) := by
  unfold execAdd
  repeat' first
    | with_reducible first
      | assumption | apply ConfinedOut.next | apply State.run_confined | apply State.regOp_confined
    | exact Within.trans (by decide) hm | intro _

theorem execAdda_confined (h : Confined m r s) (hm : Within 436070438 m) (a0 : Fin 17) (a1 : Fin 2) :
    ConfinedOut m r (execAdda a0 a1 s) := by
  unfold execAdda
  repeat' first
    | with_reducible first
      | assumption | apply ConfinedOut.next | apply State.run_confined | apply State.plain_confined | apply State.modEng_confined
    | exact Within.trans (by decide) hm | intro _

theorem execAnd_confined (h : Confined m r s) (hm : Within 436070438 m) (a0 : Fin 17) (a1 : Fin 8) (a2 : Fin 8) (a3 : AluB) :
    ConfinedOut m r (execAnd a0 a1 a2 a3 s) := by
  unfold execAnd
  repeat' first
    | with_reducible first
      | assumption | apply ConfinedOut.next | apply State.run_confined | apply State.regOp_confined
    | exact Within.trans (by decide) hm | intro _

theorem execAsr_confined (h : Confined m r s) (hm : Within 436070438 m) (a0 : Fin 17) (a1 : Fin 8) (a2 : Fin 8) (a3 : ShiftB) :
    ConfinedOut m r (execAsr a0 a1 a2 a3 s) := by
  unfold execAsr
  repeat' first
    | with_reducible first
      | assumption | apply ConfinedOut.next | apply State.run_confined | apply State.regOp_confined
    | exact Within.trans (by decide) hm | intro _

theorem execCall_confined (h : Confined m r s) (hm : Within 436070438 m) (a0 : Fin 17) (a1 : BitVec 13) :
    ConfinedOut m r (execCall a0 a1 s) := by
  unfold execCall
  repeat' first
    | with_reducible first
      | assumption | apply ConfinedOut.next | apply State.run_confined | apply State.control_confined | apply State.jump_confined
      | apply State.modEng_confined
    | exact Within.trans (by decide) hm | intro _

theorem execCauseTake_confined (h : Confined m r s) (hm : Within 262274 m) (a0 : Fin 17) :
    ConfinedOut m r (execCauseTake a0 s) := by
  unfold execCauseTake
  repeat' first
    | with_reducible first
      | assumption | apply ConfinedOut.next | apply State.run_confined | apply State.causeTake_confined
    | exact Within.trans (by decide) hm | intro _ | with_reducible apply Confined.upd_readOut

theorem execClaveGo_confined (h : Confined m r s) (hm : Within 4456450 m) (a0 : Fin 17) :
    ConfinedOut m r (execClaveGo a0 s) := by
  unfold execClaveGo
  repeat' first
    | with_reducible first
      | assumption | apply ConfinedOut.next | apply State.run_confined | apply State.engClaveGo_confined
    | exact Within.trans (by decide) hm | intro _

theorem execClr_confined (h : Confined m r s) (hm : Within 436070438 m) (a0 : Fin 17) (a1 : Fin 2) :
    ConfinedOut m r (execClr a0 a1 s) := by
  unfold execClr
  repeat' first
    | with_reducible first
      | assumption | apply ConfinedOut.next | apply State.run_confined | apply State.plain_confined | apply State.modEng_confined
    | exact Within.trans (by decide) hm | intro _

theorem execClrsr_confined (h : Confined m r s) (hm : Within 436070438 m) (a0 : Fin 17) :
    ConfinedOut m r (execClrsr a0 s) := by
  unfold execClrsr
  repeat' first
    | with_reducible first
      | assumption | apply ConfinedOut.next | apply State.run_confined | apply State.regOp_confined
    | exact Within.trans (by decide) hm | intro _

theorem execCmp_confined (h : Confined m r s) (hm : Within 436070438 m) (a0 : Fin 17) (a1 : Fin 8) (a2 : AluB) :
    ConfinedOut m r (execCmp a0 a1 a2 s) := by
  unfold execCmp
  repeat' first
    | with_reducible first
      | assumption | apply ConfinedOut.next | apply State.run_confined | apply State.regOp_confined
    | exact Within.trans (by decide) hm | intro _

theorem execDone_confined (h : Confined m r s) (hm : Within 1006630950 m) (a0 : Fin 17) :
    ConfinedOut m r (execDone a0 s) := by
  unfold execDone
  repeat' first
    | with_reducible first
      | assumption | apply ConfinedOut.next | apply State.run_confined | apply State.control_confined | apply State.runDone_confined
    | exact Within.trans (by decide) hm | intro _

theorem execJmp_confined (h : Confined m r s) (hm : Within 436070438 m) (a0 : Fin 17) (a1 : BitVec 4) (a2 : BitVec 13) :
    ConfinedOut m r (execJmp a0 a1 a2 s) := by
  unfold execJmp
  repeat' first
    | with_reducible first
      | assumption | apply Confined.ite | apply ConfinedOut.ite | apply ConfinedOut.next | apply State.run_confined
      | apply State.control_confined | apply State.jump_confined | apply State.advance_confined
    | exact Within.trans (by decide) hm | intro _

theorem execLd_confined (h : Confined m r s) (hm : Within 436202534 m) (a0 : Fin 17) (a1 : RegW) (a2 : MemOp) :
    ConfinedOut m r (execLd a0 a1 a2 s) := by
  unfold execLd
  repeat' first
    | with_reducible first
      | assumption | apply ConfinedOut.next | apply State.run_confined | apply State.simple_confined | apply State.modEng_confined
      | apply State.readOp_confined
    | exact Within.trans (by decide) hm | intro _

theorem execLd64_confined (h : Confined m r s) (hm : Within 436202534 m) (a0 : Fin 17) (a1 : Fin 4) (a2 : MemOp) :
    ConfinedOut m r (execLd64 a0 a1 a2 s) := by
  unfold execLd64
  repeat' first
    | with_reducible first
      | assumption | apply ConfinedOut.next | apply State.run_confined | apply State.simple_confined | apply State.modEng_confined
      | apply State.readOp64_confined
    | exact Within.trans (by decide) hm | intro _

theorem execLda64_confined (h : Confined m r s) (hm : Within 436202534 m) (a0 : Fin 17) (a1 : Fin 2) (a2 : Opnd64) :
    ConfinedOut m r (execLda64 a0 a1 a2 s) := by
  unfold execLda64
  repeat' first
    | with_reducible first
      | assumption | apply Confined.ite | apply ConfinedOut.ite | apply ConfinedOut.next | apply State.run_confined
      | apply State.plain_confined | apply State.modEng_confined | apply State.readOp64_confined
    | exact Within.trans (by decide) hm | intro _ | split

theorem execLdaf_confined (h : Confined m r s) (hm : Within 436202534 m) (a0 : Fin 17) (a1 : Fin 2) (a2 : Opnd) :
    ConfinedOut m r (execLdaf a0 a1 a2 s) := by
  unfold execLdaf
  repeat' first
    | with_reducible first
      | assumption | apply ConfinedOut.next | apply State.run_confined | apply State.loadAcc_confined
    | exact Within.trans (by decide) hm | intro _

theorem execLdai_confined (h : Confined m r s) (hm : Within 436202534 m) (a0 : Fin 17) (a1 : Fin 2) (a2 : Opnd) :
    ConfinedOut m r (execLdai a0 a1 a2 s) := by
  unfold execLdai
  repeat' first
    | with_reducible first
      | assumption | apply ConfinedOut.next | apply State.run_confined | apply State.loadAcc_confined
    | exact Within.trans (by decide) hm | intro _

theorem execLdi_confined (h : Confined m r s) (hm : Within 436070438 m) (a0 : Fin 17) (a1 : RegW) (a2 : BitVec 16) :
    ConfinedOut m r (execLdi a0 a1 a2 s) := by
  unfold execLdi
  repeat' first
    | with_reducible first
      | assumption | apply ConfinedOut.next | apply State.run_confined | apply State.regOp_confined
    | exact Within.trans (by decide) hm | intro _

theorem execLdih_confined (h : Confined m r s) (hm : Within 436070438 m) (a0 : Fin 17) (a1 : Fin 8) (a2 : BitVec 16) :
    ConfinedOut m r (execLdih a0 a1 a2 s) := by
  unfold execLdih
  repeat' first
    | with_reducible first
      | assumption | apply ConfinedOut.next | apply State.run_confined | apply State.regOp_confined
    | exact Within.trans (by decide) hm | intro _

theorem execLdiu_confined (h : Confined m r s) (hm : Within 436070438 m) (a0 : Fin 17) (a1 : RegW) (a2 : BitVec 16) :
    ConfinedOut m r (execLdiu a0 a1 a2 s) := by
  unfold execLdiu
  repeat' first
    | with_reducible first
      | assumption | apply ConfinedOut.next | apply State.run_confined | apply State.regOp_confined
    | exact Within.trans (by decide) hm | intro _

theorem execLds_confined (h : Confined m r s) (hm : Within 436202534 m) (a0 : Fin 17) (a1 : Fin 8) (a2 : Fin 8) :
    ConfinedOut m r (execLds a0 a1 a2 s) := by
  unfold execLds
  repeat' first
    | with_reducible first
      | assumption | apply ConfinedOut.next | apply State.run_confined | apply State.plain_confined | apply State.modEng_confined
      | apply State.engLoad_confined
    | exact Within.trans (by decide) hm | intro _

theorem execLsl_confined (h : Confined m r s) (hm : Within 436070438 m) (a0 : Fin 17) (a1 : Fin 8) (a2 : Fin 8) (a3 : ShiftB) :
    ConfinedOut m r (execLsl a0 a1 a2 a3 s) := by
  unfold execLsl
  repeat' first
    | with_reducible first
      | assumption | apply ConfinedOut.next | apply State.run_confined | apply State.regOp_confined
    | exact Within.trans (by decide) hm | intro _

theorem execLsr_confined (h : Confined m r s) (hm : Within 436070438 m) (a0 : Fin 17) (a1 : Fin 8) (a2 : Fin 8) (a3 : ShiftB) :
    ConfinedOut m r (execLsr a0 a1 a2 a3 s) := by
  unfold execLsr
  repeat' first
    | with_reducible first
      | assumption | apply ConfinedOut.next | apply State.run_confined | apply State.regOp_confined
    | exact Within.trans (by decide) hm | intro _

theorem execMacf_confined (h : Confined m r s) (hm : Within 436202534 m) (a0 : Fin 17) (a1 : Fin 2) (a2 : MacOps) :
    ConfinedOut m r (execMacf a0 a1 a2 s) := by
  unfold execMacf
  repeat' first
    | with_reducible first
      | assumption | apply ConfinedOut.next | apply State.run_confined | apply State.mac_confined
    | exact Within.trans (by decide) hm | intro _

theorem execMaci_confined (h : Confined m r s) (hm : Within 436202534 m) (a0 : Fin 17) (a1 : Fin 2) (a2 : MacOps) :
    ConfinedOut m r (execMaci a0 a1 a2 s) := by
  unfold execMaci
  repeat' first
    | with_reducible first
      | assumption | apply ConfinedOut.next | apply State.run_confined | apply State.mac_confined
    | exact Within.trans (by decide) hm | intro _

theorem execMarkWrite_confined (h : Confined m r s) (hm : Within 278530 m) (a0 : Fin 17) (a1 : BitVec 16) :
    ConfinedOut m r (execMarkWrite a0 a1 s) := by
  unfold execMarkWrite
  repeat' first
    | with_reducible first
      | assumption | apply ConfinedOut.next | apply State.run_confined | apply State.engMark_confined
    | exact Within.trans (by decide) hm | intro _

theorem execMax_confined (h : Confined m r s) (hm : Within 436070438 m) (a0 : Fin 17) (a1 : Fin 8) (a2 : Fin 8) (a3 : AluB) :
    ConfinedOut m r (execMax a0 a1 a2 a3 s) := by
  unfold execMax
  repeat' first
    | with_reducible first
      | assumption | apply ConfinedOut.next | apply State.run_confined | apply State.regOp_confined
    | exact Within.trans (by decide) hm | intro _

theorem execMin_confined (h : Confined m r s) (hm : Within 436070438 m) (a0 : Fin 17) (a1 : Fin 8) (a2 : Fin 8) (a3 : AluB) :
    ConfinedOut m r (execMin a0 a1 a2 a3 s) := by
  unfold execMin
  repeat' first
    | with_reducible first
      | assumption | apply ConfinedOut.next | apply State.run_confined | apply State.regOp_confined
    | exact Within.trans (by decide) hm | intro _

theorem execMov_confined (h : Confined m r s) (hm : Within 436070438 m) (a0 : Fin 17) (a1 : RegW) (a2 : RegR) :
    ConfinedOut m r (execMov a0 a1 a2 s) := by
  unfold execMov
  repeat' first
    | with_reducible first
      | assumption | apply ConfinedOut.next | apply State.run_confined | apply State.regOp_confined
    | exact Within.trans (by decide) hm | intro _

theorem execMpyf_confined (h : Confined m r s) (hm : Within 436202534 m) (a0 : Fin 17) (a1 : Fin 2) (a2 : MacOps) :
    ConfinedOut m r (execMpyf a0 a1 a2 s) := by
  unfold execMpyf
  repeat' first
    | with_reducible first
      | assumption | apply ConfinedOut.next | apply State.run_confined | apply State.mac_confined
    | exact Within.trans (by decide) hm | intro _

theorem execMpyi_confined (h : Confined m r s) (hm : Within 436202534 m) (a0 : Fin 17) (a1 : Fin 2) (a2 : MacOps) :
    ConfinedOut m r (execMpyi a0 a1 a2 s) := by
  unfold execMpyi
  repeat' first
    | with_reducible first
      | assumption | apply ConfinedOut.next | apply State.run_confined | apply State.mac_confined
    | exact Within.trans (by decide) hm | intro _

theorem execMsuf_confined (h : Confined m r s) (hm : Within 436202534 m) (a0 : Fin 17) (a1 : Fin 2) (a2 : MacOps) :
    ConfinedOut m r (execMsuf a0 a1 a2 s) := by
  unfold execMsuf
  repeat' first
    | with_reducible first
      | assumption | apply ConfinedOut.next | apply State.run_confined | apply State.mac_confined
    | exact Within.trans (by decide) hm | intro _

theorem execMsui_confined (h : Confined m r s) (hm : Within 436202534 m) (a0 : Fin 17) (a1 : Fin 2) (a2 : MacOps) :
    ConfinedOut m r (execMsui a0 a1 a2 s) := by
  unfold execMsui
  repeat' first
    | with_reducible first
      | assumption | apply ConfinedOut.next | apply State.run_confined | apply State.mac_confined
    | exact Within.trans (by decide) hm | intro _

theorem execNeg_confined (h : Confined m r s) (hm : Within 436070438 m) (a0 : Fin 17) (a1 : Fin 8) (a2 : Fin 8) :
    ConfinedOut m r (execNeg a0 a1 a2 s) := by
  unfold execNeg
  repeat' first
    | with_reducible first
      | assumption | apply ConfinedOut.next | apply State.run_confined | apply State.regOp_confined
    | exact Within.trans (by decide) hm | intro _

theorem execNega_confined (h : Confined m r s) (hm : Within 436070438 m) (a0 : Fin 17) (a1 : Fin 2) :
    ConfinedOut m r (execNega a0 a1 s) := by
  unfold execNega
  repeat' first
    | with_reducible first
      | assumption | apply ConfinedOut.next | apply State.run_confined | apply State.plain_confined | apply State.modEng_confined
    | exact Within.trans (by decide) hm | intro _

theorem execNop_confined (h : Confined m r s) (hm : Within 436070438 m) (a0 : Fin 17) :
    ConfinedOut m r (execNop a0 s) := by
  unfold execNop
  repeat' first
    | with_reducible first
      | assumption | apply ConfinedOut.next | apply State.run_confined | apply State.simple_confined
    | exact Within.trans (by decide) hm | intro _

theorem execNot_confined (h : Confined m r s) (hm : Within 436070438 m) (a0 : Fin 17) (a1 : Fin 8) (a2 : Fin 8) :
    ConfinedOut m r (execNot a0 a1 a2 s) := by
  unfold execNot
  repeat' first
    | with_reducible first
      | assumption | apply ConfinedOut.next | apply State.run_confined | apply State.regOp_confined
    | exact Within.trans (by decide) hm | intro _

theorem execOr_confined (h : Confined m r s) (hm : Within 436070438 m) (a0 : Fin 17) (a1 : Fin 8) (a2 : Fin 8) (a3 : AluB) :
    ConfinedOut m r (execOr a0 a1 a2 a3 s) := by
  unfold execOr
  repeat' first
    | with_reducible first
      | assumption | apply ConfinedOut.next | apply State.run_confined | apply State.regOp_confined
    | exact Within.trans (by decide) hm | intro _

theorem execPoolFree_confined (h : Confined m r s) (hm : Within 270336 m) (a0 : Fin 17) (a1 : BitVec 16) :
    ConfinedOut m r (execPoolFree a0 a1 s) := by
  unfold execPoolFree
  repeat' first
    | with_reducible first
      | assumption | apply ConfinedOut.next | apply State.run_confined | apply State.engPoolFree_confined
    | exact Within.trans (by decide) hm | intro _

theorem execPoolReq_confined (h : Confined m r s) (hm : Within 270336 m) (a0 : Fin 17) :
    ConfinedOut m r (execPoolReq a0 s) := by
  unfold execPoolReq
  repeat' first
    | with_reducible first
      | assumption | apply ConfinedOut.next | apply State.run_confined | apply State.engPoolReq_confined
    | exact Within.trans (by decide) hm | intro _

theorem execRep_confined (h : Confined m r s) (hm : Within 436070438 m) (a0 : Fin 17) (a1 : BitVec 16) (a2 : BitVec 12) :
    ConfinedOut m r (execRep a0 a1 a2 s) := by
  unfold execRep
  repeat' first
    | with_reducible first
      | assumption | apply ConfinedOut.next | apply State.run_confined | apply State.push_confined
    | exact Within.trans (by decide) hm | intro _

theorem execRepReg_confined (h : Confined m r s) (hm : Within 436070438 m) (a0 : Fin 17) (a1 : Fin 8) (a2 : BitVec 12) :
    ConfinedOut m r (execRepReg a0 a1 a2 s) := by
  unfold execRepReg
  repeat' first
    | with_reducible first
      | assumption | apply ConfinedOut.next | apply State.run_confined | apply State.push_confined
    | exact Within.trans (by decide) hm | intro _

theorem execRet_confined (h : Confined m r s) (hm : Within 436070438 m) (a0 : Fin 17) :
    ConfinedOut m r (execRet a0 s) := by
  unfold execRet
  repeat' first
    | with_reducible first
      | assumption | apply ConfinedOut.next | apply State.run_confined | apply State.control_confined | apply State.jump_confined
    | exact Within.trans (by decide) hm | intro _

theorem execSt_confined (h : Confined m r s) (hm : Within 1006630950 m) (a0 : Fin 17) (a1 : RegR) (a2 : MemOp) :
    ConfinedOut m r (execSt a0 a1 a2 s) := by
  unfold execSt
  repeat' first
    | with_reducible first
      | assumption | apply ConfinedOut.next | apply State.run_confined | apply State.simple_confined | apply State.writeOp_confined
      | apply State.modEng_confined
    | exact Within.trans (by decide) hm | intro _

theorem execSt64_confined (h : Confined m r s) (hm : Within 1006630950 m) (a0 : Fin 17) (a1 : Fin 4) (a2 : MemOp) :
    ConfinedOut m r (execSt64 a0 a1 a2 s) := by
  unfold execSt64
  repeat' first
    | with_reducible first
      | assumption | apply ConfinedOut.next | apply State.run_confined | apply State.simple_confined | apply State.writeOp64_confined
      | apply State.modEng_confined
    | exact Within.trans (by decide) hm | intro _

theorem execStepPtr_confined (h : Confined m r s) (hm : Within 436070438 m) (a0 : Fin 17) (a1 : StepOp) :
    ConfinedOut m r (execStepPtr a0 a1 s) := by
  unfold execStepPtr
  repeat' first
    | with_reducible first
      | assumption | apply ConfinedOut.next | apply State.run_confined | apply State.regOp_confined
    | exact Within.trans (by decide) hm | intro _

theorem execStr_confined (h : Confined m r s) (hm : Within 1006630950 m) (a0 : Fin 17) (a1 : Fin 2) (a2 : Bool) (a3 : BitVec 6) (a4 : Opnd) :
    ConfinedOut m r (execStr a0 a1 a2 a3 a4 s) := by
  unfold execStr
  repeat' first
    | with_reducible first
      | assumption | apply Confined.ite | apply ConfinedOut.ite | apply ConfinedOut.next | apply State.run_confined
      | apply State.plain_confined | apply State.modEng_confined | apply State.writeOp_confined
    | exact Within.trans (by decide) hm | intro _ | split

theorem execStr64_confined (h : Confined m r s) (hm : Within 1006630950 m) (a0 : Fin 17) (a1 : Fin 2) (a2 : Bool) (a3 : BitVec 6) (a4 : Opnd64) :
    ConfinedOut m r (execStr64 a0 a1 a2 a3 a4 s) := by
  unfold execStr64
  repeat' first
    | with_reducible first
      | assumption | apply Confined.ite | apply ConfinedOut.ite | apply ConfinedOut.next | apply State.run_confined
      | apply State.plain_confined | apply State.modEng_confined | apply State.writeOp64_confined
    | exact Within.trans (by decide) hm | intro _ | split

theorem execSts_confined (h : Confined m r s) (hm : Within 1006630950 m) (a0 : Fin 17) (a1 : Fin 8) (a2 : Fin 8) :
    ConfinedOut m r (execSts a0 a1 a2 s) := by
  unfold execSts
  repeat' first
    | with_reducible first
      | assumption | apply ConfinedOut.next | apply State.run_confined | apply State.simple_confined | apply State.engStore_confined
    | exact Within.trans (by decide) hm | intro _

theorem execSub_confined (h : Confined m r s) (hm : Within 436070438 m) (a0 : Fin 17) (a1 : Fin 8) (a2 : Fin 8) (a3 : AluB) :
    ConfinedOut m r (execSub a0 a1 a2 a3 s) := by
  unfold execSub
  repeat' first
    | with_reducible first
      | assumption | apply ConfinedOut.next | apply State.run_confined | apply State.regOp_confined
    | exact Within.trans (by decide) hm | intro _

theorem execSuba_confined (h : Confined m r s) (hm : Within 436070438 m) (a0 : Fin 17) (a1 : Fin 2) :
    ConfinedOut m r (execSuba a0 a1 s) := by
  unfold execSuba
  repeat' first
    | with_reducible first
      | assumption | apply ConfinedOut.next | apply State.run_confined | apply State.plain_confined | apply State.modEng_confined
    | exact Within.trans (by decide) hm | intro _

theorem execXor_confined (h : Confined m r s) (hm : Within 436070438 m) (a0 : Fin 17) (a1 : Fin 8) (a2 : Fin 8) (a3 : AluB) :
    ConfinedOut m r (execXor a0 a1 a2 a3 s) := by
  unfold execXor
  repeat' first
    | with_reducible first
      | assumption | apply ConfinedOut.next | apply State.run_confined | apply State.regOp_confined
    | exact Within.trans (by decide) hm | intro _

/-! ### Transport -/

theorem State.serveBytes_confined (h : Confined m r s) (hm : Within 2080374118 m) (a0 : Fin 17) (a1 : Src) (a2 : List Byte) :
    Confined m r (State.serveBytes s a0 a1 a2) := by
  unfold State.serveBytes
  repeat' first | with_reducible (first | assumption | apply State.serve_confined) | exact Within.trans (by decide) hm | intro _

theorem State.driveIn_confined (h : Confined m r s) (hm : Within 167329794 m) (a0 : Nat) (a1 : DriveFb) :
    Confined m r (State.driveIn s a0 a1) := by
  unfold State.driveIn
  repeat' first
    | with_reducible first
      | assumption | apply Confined.ite | apply State.driveJudge_confined | apply State.inc_confined
    | exact Within.trans (by decide) hm | intro _

theorem State.deliver_confined (h : Confined m r s) (hm : Within 2080374118 m) (a0 : Nat) (a1 : Deliver) :
    Confined m r (State.deliver s a0 a1) := by
  unfold State.deliver
  repeat' first
    | with_reducible first
      | assumption | apply Confined.ite | apply State.arpAnswer_confined | apply State.echoAnswer_confined
      | apply State.serveBytes_confined | apply State.driveIn_confined
    | exact Within.trans (by decide) hm | intro _ | split

theorem execEthFrameReceive_confined (h : Confined m r s) (hm : Within 2080374118 m) (a0 : Fin 2) (a1 : List Byte) (a2 : Bool) (a3 : Nat) :
    ConfinedOut m r (execEthFrameReceive a0 a1 a2 a3 s) := by
  unfold execEthFrameReceive
  repeat' first
    | with_reducible first
      | assumption | apply Confined.ite | apply ConfinedOut.ite | apply ConfinedOut.next | apply State.poolFree_confined
      | apply State.deliver_confined | apply State.ethReceive_confined
    | exact Within.trans (by decide) hm | intro _ | split

theorem State.partDrop_confined (h : Confined m r s) (hm : Within 536879104 m) (a0 : Nat) (a1 : Nat) :
    Confined m r (State.partDrop s a0 a1) := by
  unfold State.partDrop
  repeat' first
    | with_reducible first
      | assumption | apply Confined.ite | apply State.freeBlk_confined | apply State.modCan_confined
    | exact Within.trans (by decide) hm | intro _ | split

theorem State.partWhole_confined (h : Confined m r s) (hm : Within 2080374118 m) (a0 : Fin 2) (a1 : Fin 17) (a2 : CanPart) :
    Confined m r (State.partWhole s a0 a1 a2) := by
  unfold State.partWhole
  repeat' first
    | with_reducible first
      | assumption | apply State.freeBlk_confined | apply State.serveWhole_confined | apply State.modCan_confined
    | exact Within.trans (by decide) hm | intro _

theorem State.partStart_confined (h : Confined m r s) (hm : Within 2080374118 m) (a0 : Fin 2) (a1 : Fin 17) (a2 : List Byte) (a3 : List Byte) (a4 : Bool) :
    Confined m r (State.partStart s a0 a1 a2 a3 a4) := by
  unfold State.partStart
  repeat' first
    | with_reducible first
      | assumption | apply Confined.ite | apply Confined.ite_fst | apply State.poolAlloc_confined | apply State.modCan_confined
      | apply State.partWhole_confined | apply State.inc_confined | (apply Confined.fst; assumption)
    | exact Within.trans (by decide) hm | intro _
    | (extract_lets +onlyGivenNames x; first | (refine Confined.cut (?_ : Confined m r x) ?_; subst x; rotate_left; intro hx; clear_value x) | (have hx := x; clear hx))
    | split

theorem State.partError_confined (h : Confined m r s) (hm : Within 1879072866 m) (a0 : Fin 2) (a1 : Fin 17) :
    Confined m r (State.partError s a0 a1) := by
  unfold State.partError
  repeat' first
    | with_reducible first
      | assumption | apply Confined.ite | apply State.refuse_confined | apply State.partDrop_confined
    | exact Within.trans (by decide) hm | intro _ | split

theorem State.fragment_confined (h : Confined m r s) (hm : Within 2080374118 m) (a0 : Fin 2) (a1 : Fin 17) (a2 : Nat) (a3 : Msg) (a4 : List Byte) :
    Confined m r (State.fragment s a0 a1 a2 a3 a4) := by
  unfold State.fragment
  repeat' first
    | with_reducible first
      | assumption | apply Confined.ite | apply State.partStart_confined | apply State.partError_confined
      | apply State.partWhole_confined | apply State.modCan_confined | apply State.refuse_confined
    | exact Within.trans (by decide) hm | intro _ | split

theorem State.fragChecks_confined (h : Confined m r s) (hm : Within 2080374118 m) (a0 : Fin 2) (a1 : Fin 17) (a2 : Bool) (a3 : Nat) (a4 : Msg) (a5 : List Byte) :
    Confined m r (State.fragChecks s a0 a1 a2 a3 a4 a5) := by
  unfold State.fragChecks
  repeat' first
    | with_reducible first
      | assumption | apply Confined.ite | apply State.dropMsg_confined | apply State.refuse_confined | apply State.partDrop_confined
      | apply State.fragment_confined
    | exact Within.trans (by decide) hm | intro _

theorem State.canBexic_confined (h : Confined m r s) (hm : Within 2080374118 m) (a0 : Fin 2) (a1 : Fin 17) (a2 : CanFrame) :
    Confined m r (State.canBexic s a0 a1 a2) := by
  unfold State.canBexic
  repeat' first | with_reducible (first | assumption | apply State.fragChecks_confined) | exact Within.trans (by decide) hm | intro _

theorem State.segError_confined (h : Confined m r s) (hm : Within 1879072866 m) (a0 : List Byte) :
    Confined m r (State.segError s a0) := by
  unfold State.segError
  repeat' first
    | with_reducible first
      | assumption | apply State.refuse_confined | apply State.modCan_confined
    | exact Within.trans (by decide) hm | intro _

theorem State.segTake_confined (h : Confined m r s) (hm : Within 2080374118 m) (a0 : List Byte) (a1 : List Byte) (a2 : Nat) (a3 : Bool) :
    Confined m r (State.segTake s a0 a1 a2 a3) := by
  unfold State.segTake
  repeat' first
    | with_reducible first
      | assumption | apply Confined.ite | apply State.segError_confined | apply State.serveBytes_confined | apply State.modCan_confined
    | exact Within.trans (by decide) hm | intro _

theorem State.canSegment_confined (h : Confined m r s) (hm : Within 2080374118 m) (a0 : CanFrame) :
    Confined m r (State.canSegment s a0) := by
  unfold State.canSegment
  repeat' first
    | with_reducible first
      | assumption | apply Confined.ite | apply State.inc_confined | apply State.segTake_confined | apply State.segError_confined
    | exact Within.trans (by decide) hm | intro _ | split

theorem execCanFrameReceive_confined (h : Confined m r s) (hm : Within 2080374118 m) (a0 : Fin 2) (a1 : CanFrame) :
    ConfinedOut m r (execCanFrameReceive a0 a1 s) := by
  unfold execCanFrameReceive
  repeat' first
    | with_reducible first
      | assumption | apply Confined.ite | apply ConfinedOut.ite | apply ConfinedOut.next | apply Confined.ite_fst
      | apply State.canReceive_confined | apply State.canBexic_confined | apply State.canSegment_confined
      | (apply Confined.fst; assumption)
    | exact Within.trans (by decide) hm | intro _
    | (extract_lets +onlyGivenNames x; first | (refine Confined.cut (?_ : Confined m r x) ?_; subst x; rotate_left; intro hx; clear_value x) | (have hx := x; clear hx))
    | split

theorem execI2cSWrite_confined (h : Confined m r s) (hm : Within 2080374118 m) (a0 : BitVec 7) (a1 : List Byte) :
    ConfinedOut m r (execI2cSWrite a0 a1 s) := by
  unfold execI2cSWrite
  repeat' first
    | with_reducible first
      | assumption | apply Confined.ite | apply ConfinedOut.ite | apply ConfinedOut.next | apply Confined.ite_fst
      | apply State.i2cWrite_confined | apply State.serveBytes_confined | apply State.dropMsg_confined | apply State.refuse_confined
      | (apply Confined.fst; assumption)
    | exact Within.trans (by decide) hm | intro _
    | (extract_lets +onlyGivenNames x; first | (refine Confined.cut (?_ : Confined m r x) ?_; subst x; rotate_left; intro hx; clear_value x) | (have hx := x; clear hx))
    | split

theorem execReassemblyTimeout_confined (h : Confined m r s) (hm : Within 1879072866 m) (a0 : Fin 35) :
    ConfinedOut m r (execReassemblyTimeout a0 s) := by
  unfold execReassemblyTimeout
  repeat' first
    | with_reducible first
      | assumption | apply Confined.ite | apply ConfinedOut.ite | apply ConfinedOut.next | apply State.segError_confined
      | apply State.partError_confined
    | exact Within.trans (by decide) hm | intro _ | split

/-! ### Boundary -/

theorem State.applyRegs_confined (h : Confined m r s) (hm : Within 1006334466 m)  :
    Confined m r (State.applyRegs s) := by
  unfold State.applyRegs
  repeat' first
    | with_reducible first
      | assumption | apply Confined.foldl | apply State.engPut_confined
    | exact Within.trans (by decide) hm | intro _ | with_reducible apply Confined.upd_tick_

theorem State.fastCode_confined (h : Confined m r s) (hm : Within 262146 m) (a0 : Nat) :
    Confined m r (State.fastCode s a0) := by
  unfold State.fastCode
  repeat' first
    | with_reducible first
      | assumption | apply Confined.ite | apply State.fastStart_confined
    | exact Within.trans (by decide) hm | intro _

theorem State.fastDue_confined (h : Confined m r s) (hm : Within 436070438 m) (a0 : Nat) :
    Confined m r (State.fastDue s a0) := by
  unfold State.fastDue
  repeat' first
    | with_reducible first
      | assumption | apply Confined.ite | apply State.missDeadline_confined
    | exact Within.trans (by decide) hm | intro _

theorem State.tickJudge_confined (h : Confined m r s) (hm : Within 514 m) (a0 : Nat) :
    Confined m r (State.tickJudge s a0) := by
  unfold State.tickJudge
  repeat' first
    | with_reducible first
      | assumption | apply State.setI_confined | apply State.put_confined
    | exact Within.trans (by decide) hm | intro _ | with_reducible apply Confined.upd_tick_

theorem State.tickFast_confined (h : Confined m r s) (hm : Within 514 m) (a0 : Bool) :
    Confined m r (State.tickFast s a0) := by
  unfold State.tickFast
  repeat' first
    | with_reducible first
      | assumption | apply Confined.ite | apply State.tickJudge_confined | apply State.inc_confined
    | exact Within.trans (by decide) hm | intro _ | with_reducible apply Confined.upd_tick_

theorem State.timeFast_confined (h : Confined m r s) (hm : Within 4194304 m) (a0 : Nat) :
    Confined m r (State.timeFast s a0) := by
  unfold State.timeFast
  repeat' first
    | with_reducible first
      | assumption | apply Confined.ite | apply State.modClave_confined
    | exact Within.trans (by decide) hm | intro _

theorem State.fastWork_confined (h : Confined m r s) (hm : Within 1073740326 m) (a0 : Bool) :
    Confined m r (State.fastWork s a0) := by
  unfold State.fastWork
  repeat' first
    | with_reducible first
      | assumption | apply Confined.ite | apply State.forAll_confined | apply State.latchAct_confined | apply State.presentPu_confined
      | apply State.presentAll_confined | apply State.tickFast_confined | apply State.applyRegs_confined | apply State.fastDue_confined
      | apply State.takeEnd_confined | apply State.timeFast_confined | apply State.cellFast_confined | apply State.echoStep_confined
      | apply State.claveFast_confined | apply State.fastCode_confined | (apply Confined.fst; assumption)
    | exact Within.trans (by decide) hm | intro _
    | (extract_lets +onlyGivenNames x; first | (refine Confined.cut (?_ : Confined m r x) ?_; subst x; rotate_left; intro hx; clear_value x) | (refine Confined.cut (?_ : Confined m r x.s) ?_; subst x; rotate_left; intro hx; clear_value x)| (have hx : _ → _ := x; clear hx; subst x) | (have hx := x; clear hx))
    | dsimp -zeta only | split

theorem State.freshSource_confined (h : Confined m r s) (hm : Within 262144 m) (a0 : Nat) :
    Confined m r (State.freshSource s a0) := by
  unfold State.freshSource
  repeat' first
    | with_reducible first
      | assumption | apply Confined.ite | apply State.modEng_confined
    | exact Within.trans (by decide) hm | intro _

theorem State.netCycles_confined (h : Confined m r s) (hm : Within 167329794 m)  :
    Confined m r (State.netCycles s) := by
  unfold State.netCycles
  repeat' first
    | with_reducible first
      | assumption | apply Confined.ite | apply State.forAll_confined | apply State.netCycle_confined
    | exact Within.trans (by decide) hm | intro _

theorem State.netFeedback_confined (h : Confined m r s) (hm : Within 2 m)  :
    Confined m r (State.netFeedback s) := by
  unfold State.netFeedback
  repeat' first
    | with_reducible first
      | assumption | apply State.forAll_confined | apply State.netPresent_confined
    | exact Within.trans (by decide) hm | intro _

theorem State.slowGates_confined (h : Confined m r s) (hm : Within 2 m) (a0 : Nat) :
    Confined m r (State.slowGates s a0) := by
  unfold State.slowGates
  repeat' first
    | with_reducible first
      | assumption | apply Confined.ite | apply State.syncGates_confined | apply State.releaseHeld_confined | apply State.set_confined
    | exact Within.trans (by decide) hm | intro _

theorem State.slowCode_confined (h : Confined m r s) (hm : Within 262146 m) (a0 : Nat) :
    Confined m r (State.slowCode s a0) := by
  unfold State.slowCode
  repeat' first
    | with_reducible first
      | assumption | apply Confined.ite | apply State.slowStart_confined
    | exact Within.trans (by decide) hm | intro _

theorem State.slowMark_confined (h : Confined m r s) (hm : Within 524288 m) (a0 : Nat) :
    Confined m r (State.slowMark s a0) := by
  unfold State.slowMark
  repeat' first | with_reducible (first | assumption | apply State.modGrp_confined) | exact Within.trans (by decide) hm | intro _

theorem State.slowAfter_confined (h : Confined m r s) (hm : Within 1509812262 m)  :
    Confined m r (State.slowAfter s) := by
  unfold State.slowAfter
  repeat' first
    | with_reducible first
      | assumption | apply State.forAll_confined | apply State.xferBoundary_confined | apply State.settleAfter_confined
      | apply State.claveRefill_confined | apply State.claveSlow_confined | apply State.claveFetch_confined
      | apply State.slowGates_confined | apply State.slowCode_confined | apply State.snapStart_confined | apply State.slowMark_confined
      | apply State.coldTake_confined
    | exact Within.trans (by decide) hm | intro _

theorem State.slowLatch_confined (h : Confined m r s) (hm : Within 1572864 m)  :
    Confined m r (State.slowLatch s) := by
  unfold State.slowLatch
  repeat' first
    | with_reducible first
      | assumption | apply State.forAll_confined | apply State.modGrp_confined | apply State.modAxis_confined
    | exact Within.trans (by decide) hm | intro _

theorem State.tickSlow_confined (h : Confined m r s) (hm : Within 514 m)  :
    Confined m r (State.tickSlow s) := by
  unfold State.tickSlow
  repeat' first
    | with_reducible first
      | assumption | apply Confined.ite | apply State.set_confined | apply State.forAll_confined
    | exact Within.trans (by decide) hm | intro _ | with_reducible apply Confined.upd_tick_

theorem State.slowBefore_confined (h : Confined m r s) (hm : Within 469625382 m)  :
    Confined m r (State.slowBefore s) := by
  unfold State.slowBefore
  repeat' first
    | with_reducible first
      | assumption | apply State.forAll_confined | apply State.latchAct_confined | apply State.netFeedback_confined
      | apply State.slowLatch_confined | apply State.tickSlow_confined | apply State.netCycles_confined
      | apply State.shadowCompare_confined | apply State.freshSource_confined | apply State.takeOffset_confined
      | apply State.takeSwap_confined | apply State.cellSlow_confined | apply State.produce_confined | apply State.pathFetch_confined
      | apply State.settleBefore_confined
    | exact Within.trans (by decide) hm | intro _

theorem State.slowWork_confined (h : Confined m r s) (hm : Within 2080238438 m)  :
    Confined m r (State.slowWork s) := by
  unfold State.slowWork
  repeat' first
    | with_reducible first
      | assumption | apply State.slowAfter_confined | apply State.effects_confined | apply State.slowBefore_confined
    | exact Within.trans (by decide) hm | intro _

theorem execFastBoundary_confined (h : Confined m r s) (hm : Within 1073740326 m)  :
    ConfinedOut m r (execFastBoundary s) := by
  unfold execFastBoundary
  repeat' first
    | with_reducible first
      | assumption | apply Confined.ite | apply ConfinedOut.ite | apply ConfinedOut.next | apply State.fastWork_confined
    | exact Within.trans (by decide) hm | intro _

theorem execSlowBoundary_confined (h : Confined m r s) (hm : Within 2147482470 m)  :
    ConfinedOut m r (execSlowBoundary s) := by
  unfold execSlowBoundary
  repeat' first
    | with_reducible first
      | assumption | apply Confined.ite | apply ConfinedOut.ite | apply ConfinedOut.next | apply State.slowWork_confined
      | apply State.tickJudge_confined | apply State.fastWork_confined
    | exact Within.trans (by decide) hm | intro _

end Sys2Proof.Machine
end

