-- ==== Sys2Proof/Laws/State.lean ====
section
/-!
SUPPORT. Laws/State.lean: one small lemma per field and update of the state, and reading a register field, a unit record or a
byte after an update. No later proof unfolds an update of the state.
-/
namespace Sys2Proof.Machine

variable (s : State)

/-! ### Fields of the state after an update -/

@[simp] theorem State.set_pending (f : Fld) (v : Nat) : (s.set f v).pending = s.pending := rfl
@[simp] theorem State.set_mem (f : Fld) (v : Nat) : (s.set f v).mem = s.mem := rfl
@[simp] theorem State.set_clk (f : Fld) (v : Nat) : (s.set f v).clk = s.clk := rfl
@[simp] theorem State.set_ntimeH (f : Fld) (v : Nat) : (s.set f v).ntimeH = s.ntimeH := rfl
@[simp] theorem State.set_drawn (f : Fld) (v : Nat) : (s.set f v).drawn = s.drawn := rfl
@[simp] theorem State.set_outbox (f : Fld) (v : Nat) : (s.set f v).outbox = s.outbox := rfl
@[simp] theorem State.set_readOut (f : Fld) (v : Nat) : (s.set f v).readOut = s.readOut := rfl
@[simp] theorem State.set_awaiting (f : Fld) (v : Nat) : (s.set f v).awaiting = s.awaiting := rfl
@[simp] theorem State.set_tick_ (f : Fld) (v : Nat) : (s.set f v).tick_ = s.tick_ := rfl
@[simp] theorem State.set_bk (f : Fld) (v : Nat) : (s.set f v).bk = s.bk := rfl
@[simp] theorem State.set_start (f : Fld) (v : Nat) : (s.set f v).start = s.start := rfl
@[simp] theorem State.set_flash (f : Fld) (v : Nat) : (s.set f v).flash = s.flash := rfl
@[simp] theorem State.set_pool (f : Fld) (v : Nat) : (s.set f v).pool = s.pool := rfl
@[simp] theorem State.set_led (f : Fld) (v : Nat) : (s.set f v).led = s.led := rfl
@[simp] theorem State.set_flt (f : Fld) (v : Nat) : (s.set f v).flt = s.flt := rfl
@[simp] theorem State.set_sess (f : Fld) (v : Nat) : (s.set f v).sess = s.sess := rfl
@[simp] theorem State.set_holds (f : Fld) (v : Nat) : (s.set f v).holds = s.holds := rfl
@[simp] theorem State.set_eng (f : Fld) (v : Nat) : (s.set f v).eng = s.eng := rfl
@[simp] theorem State.set_grp (f : Fld) (v : Nat) : (s.set f v).grp = s.grp := rfl
@[simp] theorem State.set_axis (f : Fld) (v : Nat) : (s.set f v).axis = s.axis := rfl
@[simp] theorem State.set_cur (f : Fld) (v : Nat) : (s.set f v).cur = s.cur := rfl
@[simp] theorem State.set_clave (f : Fld) (v : Nat) : (s.set f v).clave = s.clave := rfl
@[simp] theorem State.set_ho (f : Fld) (v : Nat) : (s.set f v).ho = s.ho := rfl
@[simp] theorem State.set_snare (f : Fld) (v : Nat) : (s.set f v).snare = s.snare := rfl
@[simp] theorem State.set_fb (f : Fld) (v : Nat) : (s.set f v).fb = s.fb := rfl
@[simp] theorem State.set_echo (f : Fld) (v : Nat) : (s.set f v).echo = s.echo := rfl
@[simp] theorem State.set_field (f : Fld) (v : Nat) : (s.set f v).field = s.field := rfl
@[simp] theorem State.set_eth (f : Fld) (v : Nat) : (s.set f v).eth = s.eth := rfl
@[simp] theorem State.set_can (f : Fld) (v : Nat) : (s.set f v).can = s.can := rfl
@[simp] theorem State.set_i2c (f : Fld) (v : Nat) : (s.set f v).i2c = s.i2c := rfl

@[simp] theorem State.setEng_pending (k : Nat) (x : EngX) : (s.setEng k x).pending = s.pending := rfl
@[simp] theorem State.setEng_regs (k : Nat) (x : EngX) : (s.setEng k x).regs = s.regs := rfl
@[simp] theorem State.setEng_mem (k : Nat) (x : EngX) : (s.setEng k x).mem = s.mem := rfl
@[simp] theorem State.setEng_clk (k : Nat) (x : EngX) : (s.setEng k x).clk = s.clk := rfl
@[simp] theorem State.setEng_ntimeH (k : Nat) (x : EngX) : (s.setEng k x).ntimeH = s.ntimeH := rfl
@[simp] theorem State.setEng_drawn (k : Nat) (x : EngX) : (s.setEng k x).drawn = s.drawn := rfl
@[simp] theorem State.setEng_outbox (k : Nat) (x : EngX) : (s.setEng k x).outbox = s.outbox := rfl
@[simp] theorem State.setEng_readOut (k : Nat) (x : EngX) : (s.setEng k x).readOut = s.readOut := rfl
@[simp] theorem State.setEng_awaiting (k : Nat) (x : EngX) : (s.setEng k x).awaiting = s.awaiting := rfl
@[simp] theorem State.setEng_tick_ (k : Nat) (x : EngX) : (s.setEng k x).tick_ = s.tick_ := rfl
@[simp] theorem State.setEng_bk (k : Nat) (x : EngX) : (s.setEng k x).bk = s.bk := rfl
@[simp] theorem State.setEng_start (k : Nat) (x : EngX) : (s.setEng k x).start = s.start := rfl
@[simp] theorem State.setEng_flash (k : Nat) (x : EngX) : (s.setEng k x).flash = s.flash := rfl
@[simp] theorem State.setEng_pool (k : Nat) (x : EngX) : (s.setEng k x).pool = s.pool := rfl
@[simp] theorem State.setEng_led (k : Nat) (x : EngX) : (s.setEng k x).led = s.led := rfl
@[simp] theorem State.setEng_flt (k : Nat) (x : EngX) : (s.setEng k x).flt = s.flt := rfl
@[simp] theorem State.setEng_sess (k : Nat) (x : EngX) : (s.setEng k x).sess = s.sess := rfl
@[simp] theorem State.setEng_holds (k : Nat) (x : EngX) : (s.setEng k x).holds = s.holds := rfl
@[simp] theorem State.setEng_grp (k : Nat) (x : EngX) : (s.setEng k x).grp = s.grp := rfl
@[simp] theorem State.setEng_axis (k : Nat) (x : EngX) : (s.setEng k x).axis = s.axis := rfl
@[simp] theorem State.setEng_cur (k : Nat) (x : EngX) : (s.setEng k x).cur = s.cur := rfl
@[simp] theorem State.setEng_clave (k : Nat) (x : EngX) : (s.setEng k x).clave = s.clave := rfl
@[simp] theorem State.setEng_ho (k : Nat) (x : EngX) : (s.setEng k x).ho = s.ho := rfl
@[simp] theorem State.setEng_snare (k : Nat) (x : EngX) : (s.setEng k x).snare = s.snare := rfl
@[simp] theorem State.setEng_fb (k : Nat) (x : EngX) : (s.setEng k x).fb = s.fb := rfl
@[simp] theorem State.setEng_echo (k : Nat) (x : EngX) : (s.setEng k x).echo = s.echo := rfl
@[simp] theorem State.setEng_field (k : Nat) (x : EngX) : (s.setEng k x).field = s.field := rfl
@[simp] theorem State.setEng_eth (k : Nat) (x : EngX) : (s.setEng k x).eth = s.eth := rfl
@[simp] theorem State.setEng_can (k : Nat) (x : EngX) : (s.setEng k x).can = s.can := rfl
@[simp] theorem State.setEng_i2c (k : Nat) (x : EngX) : (s.setEng k x).i2c = s.i2c := rfl

@[simp] theorem State.setGrp_pending (k : Nat) (x : GroupX) : (s.setGrp k x).pending = s.pending := rfl
@[simp] theorem State.setGrp_regs (k : Nat) (x : GroupX) : (s.setGrp k x).regs = s.regs := rfl
@[simp] theorem State.setGrp_mem (k : Nat) (x : GroupX) : (s.setGrp k x).mem = s.mem := rfl
@[simp] theorem State.setGrp_clk (k : Nat) (x : GroupX) : (s.setGrp k x).clk = s.clk := rfl
@[simp] theorem State.setGrp_ntimeH (k : Nat) (x : GroupX) : (s.setGrp k x).ntimeH = s.ntimeH := rfl
@[simp] theorem State.setGrp_drawn (k : Nat) (x : GroupX) : (s.setGrp k x).drawn = s.drawn := rfl
@[simp] theorem State.setGrp_outbox (k : Nat) (x : GroupX) : (s.setGrp k x).outbox = s.outbox := rfl
@[simp] theorem State.setGrp_readOut (k : Nat) (x : GroupX) : (s.setGrp k x).readOut = s.readOut := rfl
@[simp] theorem State.setGrp_awaiting (k : Nat) (x : GroupX) : (s.setGrp k x).awaiting = s.awaiting := rfl
@[simp] theorem State.setGrp_tick_ (k : Nat) (x : GroupX) : (s.setGrp k x).tick_ = s.tick_ := rfl
@[simp] theorem State.setGrp_bk (k : Nat) (x : GroupX) : (s.setGrp k x).bk = s.bk := rfl
@[simp] theorem State.setGrp_start (k : Nat) (x : GroupX) : (s.setGrp k x).start = s.start := rfl
@[simp] theorem State.setGrp_flash (k : Nat) (x : GroupX) : (s.setGrp k x).flash = s.flash := rfl
@[simp] theorem State.setGrp_pool (k : Nat) (x : GroupX) : (s.setGrp k x).pool = s.pool := rfl
@[simp] theorem State.setGrp_led (k : Nat) (x : GroupX) : (s.setGrp k x).led = s.led := rfl
@[simp] theorem State.setGrp_flt (k : Nat) (x : GroupX) : (s.setGrp k x).flt = s.flt := rfl
@[simp] theorem State.setGrp_sess (k : Nat) (x : GroupX) : (s.setGrp k x).sess = s.sess := rfl
@[simp] theorem State.setGrp_holds (k : Nat) (x : GroupX) : (s.setGrp k x).holds = s.holds := rfl
@[simp] theorem State.setGrp_eng (k : Nat) (x : GroupX) : (s.setGrp k x).eng = s.eng := rfl
@[simp] theorem State.setGrp_axis (k : Nat) (x : GroupX) : (s.setGrp k x).axis = s.axis := rfl
@[simp] theorem State.setGrp_cur (k : Nat) (x : GroupX) : (s.setGrp k x).cur = s.cur := rfl
@[simp] theorem State.setGrp_clave (k : Nat) (x : GroupX) : (s.setGrp k x).clave = s.clave := rfl
@[simp] theorem State.setGrp_ho (k : Nat) (x : GroupX) : (s.setGrp k x).ho = s.ho := rfl
@[simp] theorem State.setGrp_snare (k : Nat) (x : GroupX) : (s.setGrp k x).snare = s.snare := rfl
@[simp] theorem State.setGrp_fb (k : Nat) (x : GroupX) : (s.setGrp k x).fb = s.fb := rfl
@[simp] theorem State.setGrp_echo (k : Nat) (x : GroupX) : (s.setGrp k x).echo = s.echo := rfl
@[simp] theorem State.setGrp_field (k : Nat) (x : GroupX) : (s.setGrp k x).field = s.field := rfl
@[simp] theorem State.setGrp_eth (k : Nat) (x : GroupX) : (s.setGrp k x).eth = s.eth := rfl
@[simp] theorem State.setGrp_can (k : Nat) (x : GroupX) : (s.setGrp k x).can = s.can := rfl
@[simp] theorem State.setGrp_i2c (k : Nat) (x : GroupX) : (s.setGrp k x).i2c = s.i2c := rfl

@[simp] theorem State.setAxis_pending (k : Nat) (x : AxisX) : (s.setAxis k x).pending = s.pending := rfl
@[simp] theorem State.setAxis_regs (k : Nat) (x : AxisX) : (s.setAxis k x).regs = s.regs := rfl
@[simp] theorem State.setAxis_mem (k : Nat) (x : AxisX) : (s.setAxis k x).mem = s.mem := rfl
@[simp] theorem State.setAxis_clk (k : Nat) (x : AxisX) : (s.setAxis k x).clk = s.clk := rfl
@[simp] theorem State.setAxis_ntimeH (k : Nat) (x : AxisX) : (s.setAxis k x).ntimeH = s.ntimeH := rfl
@[simp] theorem State.setAxis_drawn (k : Nat) (x : AxisX) : (s.setAxis k x).drawn = s.drawn := rfl
@[simp] theorem State.setAxis_outbox (k : Nat) (x : AxisX) : (s.setAxis k x).outbox = s.outbox := rfl
@[simp] theorem State.setAxis_readOut (k : Nat) (x : AxisX) : (s.setAxis k x).readOut = s.readOut := rfl
@[simp] theorem State.setAxis_awaiting (k : Nat) (x : AxisX) : (s.setAxis k x).awaiting = s.awaiting := rfl
@[simp] theorem State.setAxis_tick_ (k : Nat) (x : AxisX) : (s.setAxis k x).tick_ = s.tick_ := rfl
@[simp] theorem State.setAxis_bk (k : Nat) (x : AxisX) : (s.setAxis k x).bk = s.bk := rfl
@[simp] theorem State.setAxis_start (k : Nat) (x : AxisX) : (s.setAxis k x).start = s.start := rfl
@[simp] theorem State.setAxis_flash (k : Nat) (x : AxisX) : (s.setAxis k x).flash = s.flash := rfl
@[simp] theorem State.setAxis_pool (k : Nat) (x : AxisX) : (s.setAxis k x).pool = s.pool := rfl
@[simp] theorem State.setAxis_led (k : Nat) (x : AxisX) : (s.setAxis k x).led = s.led := rfl
@[simp] theorem State.setAxis_flt (k : Nat) (x : AxisX) : (s.setAxis k x).flt = s.flt := rfl
@[simp] theorem State.setAxis_sess (k : Nat) (x : AxisX) : (s.setAxis k x).sess = s.sess := rfl
@[simp] theorem State.setAxis_holds (k : Nat) (x : AxisX) : (s.setAxis k x).holds = s.holds := rfl
@[simp] theorem State.setAxis_eng (k : Nat) (x : AxisX) : (s.setAxis k x).eng = s.eng := rfl
@[simp] theorem State.setAxis_grp (k : Nat) (x : AxisX) : (s.setAxis k x).grp = s.grp := rfl
@[simp] theorem State.setAxis_cur (k : Nat) (x : AxisX) : (s.setAxis k x).cur = s.cur := rfl
@[simp] theorem State.setAxis_clave (k : Nat) (x : AxisX) : (s.setAxis k x).clave = s.clave := rfl
@[simp] theorem State.setAxis_ho (k : Nat) (x : AxisX) : (s.setAxis k x).ho = s.ho := rfl
@[simp] theorem State.setAxis_snare (k : Nat) (x : AxisX) : (s.setAxis k x).snare = s.snare := rfl
@[simp] theorem State.setAxis_fb (k : Nat) (x : AxisX) : (s.setAxis k x).fb = s.fb := rfl
@[simp] theorem State.setAxis_echo (k : Nat) (x : AxisX) : (s.setAxis k x).echo = s.echo := rfl
@[simp] theorem State.setAxis_field (k : Nat) (x : AxisX) : (s.setAxis k x).field = s.field := rfl
@[simp] theorem State.setAxis_eth (k : Nat) (x : AxisX) : (s.setAxis k x).eth = s.eth := rfl
@[simp] theorem State.setAxis_can (k : Nat) (x : AxisX) : (s.setAxis k x).can = s.can := rfl
@[simp] theorem State.setAxis_i2c (k : Nat) (x : AxisX) : (s.setAxis k x).i2c = s.i2c := rfl

@[simp] theorem State.setCur_pending (k : Nat) (x : CurX) : (s.setCur k x).pending = s.pending := rfl
@[simp] theorem State.setCur_regs (k : Nat) (x : CurX) : (s.setCur k x).regs = s.regs := rfl
@[simp] theorem State.setCur_mem (k : Nat) (x : CurX) : (s.setCur k x).mem = s.mem := rfl
@[simp] theorem State.setCur_clk (k : Nat) (x : CurX) : (s.setCur k x).clk = s.clk := rfl
@[simp] theorem State.setCur_ntimeH (k : Nat) (x : CurX) : (s.setCur k x).ntimeH = s.ntimeH := rfl
@[simp] theorem State.setCur_drawn (k : Nat) (x : CurX) : (s.setCur k x).drawn = s.drawn := rfl
@[simp] theorem State.setCur_outbox (k : Nat) (x : CurX) : (s.setCur k x).outbox = s.outbox := rfl
@[simp] theorem State.setCur_readOut (k : Nat) (x : CurX) : (s.setCur k x).readOut = s.readOut := rfl
@[simp] theorem State.setCur_awaiting (k : Nat) (x : CurX) : (s.setCur k x).awaiting = s.awaiting := rfl
@[simp] theorem State.setCur_tick_ (k : Nat) (x : CurX) : (s.setCur k x).tick_ = s.tick_ := rfl
@[simp] theorem State.setCur_bk (k : Nat) (x : CurX) : (s.setCur k x).bk = s.bk := rfl
@[simp] theorem State.setCur_start (k : Nat) (x : CurX) : (s.setCur k x).start = s.start := rfl
@[simp] theorem State.setCur_flash (k : Nat) (x : CurX) : (s.setCur k x).flash = s.flash := rfl
@[simp] theorem State.setCur_pool (k : Nat) (x : CurX) : (s.setCur k x).pool = s.pool := rfl
@[simp] theorem State.setCur_led (k : Nat) (x : CurX) : (s.setCur k x).led = s.led := rfl
@[simp] theorem State.setCur_flt (k : Nat) (x : CurX) : (s.setCur k x).flt = s.flt := rfl
@[simp] theorem State.setCur_sess (k : Nat) (x : CurX) : (s.setCur k x).sess = s.sess := rfl
@[simp] theorem State.setCur_holds (k : Nat) (x : CurX) : (s.setCur k x).holds = s.holds := rfl
@[simp] theorem State.setCur_eng (k : Nat) (x : CurX) : (s.setCur k x).eng = s.eng := rfl
@[simp] theorem State.setCur_grp (k : Nat) (x : CurX) : (s.setCur k x).grp = s.grp := rfl
@[simp] theorem State.setCur_axis (k : Nat) (x : CurX) : (s.setCur k x).axis = s.axis := rfl
@[simp] theorem State.setCur_clave (k : Nat) (x : CurX) : (s.setCur k x).clave = s.clave := rfl
@[simp] theorem State.setCur_ho (k : Nat) (x : CurX) : (s.setCur k x).ho = s.ho := rfl
@[simp] theorem State.setCur_snare (k : Nat) (x : CurX) : (s.setCur k x).snare = s.snare := rfl
@[simp] theorem State.setCur_fb (k : Nat) (x : CurX) : (s.setCur k x).fb = s.fb := rfl
@[simp] theorem State.setCur_echo (k : Nat) (x : CurX) : (s.setCur k x).echo = s.echo := rfl
@[simp] theorem State.setCur_field (k : Nat) (x : CurX) : (s.setCur k x).field = s.field := rfl
@[simp] theorem State.setCur_eth (k : Nat) (x : CurX) : (s.setCur k x).eth = s.eth := rfl
@[simp] theorem State.setCur_can (k : Nat) (x : CurX) : (s.setCur k x).can = s.can := rfl
@[simp] theorem State.setCur_i2c (k : Nat) (x : CurX) : (s.setCur k x).i2c = s.i2c := rfl

@[simp] theorem State.setClave_pending (k : Nat) (x : ClaveX) : (s.setClave k x).pending = s.pending := rfl
@[simp] theorem State.setClave_regs (k : Nat) (x : ClaveX) : (s.setClave k x).regs = s.regs := rfl
@[simp] theorem State.setClave_mem (k : Nat) (x : ClaveX) : (s.setClave k x).mem = s.mem := rfl
@[simp] theorem State.setClave_clk (k : Nat) (x : ClaveX) : (s.setClave k x).clk = s.clk := rfl
@[simp] theorem State.setClave_ntimeH (k : Nat) (x : ClaveX) : (s.setClave k x).ntimeH = s.ntimeH := rfl
@[simp] theorem State.setClave_drawn (k : Nat) (x : ClaveX) : (s.setClave k x).drawn = s.drawn := rfl
@[simp] theorem State.setClave_outbox (k : Nat) (x : ClaveX) : (s.setClave k x).outbox = s.outbox := rfl
@[simp] theorem State.setClave_readOut (k : Nat) (x : ClaveX) : (s.setClave k x).readOut = s.readOut := rfl
@[simp] theorem State.setClave_awaiting (k : Nat) (x : ClaveX) : (s.setClave k x).awaiting = s.awaiting := rfl
@[simp] theorem State.setClave_tick_ (k : Nat) (x : ClaveX) : (s.setClave k x).tick_ = s.tick_ := rfl
@[simp] theorem State.setClave_bk (k : Nat) (x : ClaveX) : (s.setClave k x).bk = s.bk := rfl
@[simp] theorem State.setClave_start (k : Nat) (x : ClaveX) : (s.setClave k x).start = s.start := rfl
@[simp] theorem State.setClave_flash (k : Nat) (x : ClaveX) : (s.setClave k x).flash = s.flash := rfl
@[simp] theorem State.setClave_pool (k : Nat) (x : ClaveX) : (s.setClave k x).pool = s.pool := rfl
@[simp] theorem State.setClave_led (k : Nat) (x : ClaveX) : (s.setClave k x).led = s.led := rfl
@[simp] theorem State.setClave_flt (k : Nat) (x : ClaveX) : (s.setClave k x).flt = s.flt := rfl
@[simp] theorem State.setClave_sess (k : Nat) (x : ClaveX) : (s.setClave k x).sess = s.sess := rfl
@[simp] theorem State.setClave_holds (k : Nat) (x : ClaveX) : (s.setClave k x).holds = s.holds := rfl
@[simp] theorem State.setClave_eng (k : Nat) (x : ClaveX) : (s.setClave k x).eng = s.eng := rfl
@[simp] theorem State.setClave_grp (k : Nat) (x : ClaveX) : (s.setClave k x).grp = s.grp := rfl
@[simp] theorem State.setClave_axis (k : Nat) (x : ClaveX) : (s.setClave k x).axis = s.axis := rfl
@[simp] theorem State.setClave_cur (k : Nat) (x : ClaveX) : (s.setClave k x).cur = s.cur := rfl
@[simp] theorem State.setClave_ho (k : Nat) (x : ClaveX) : (s.setClave k x).ho = s.ho := rfl
@[simp] theorem State.setClave_snare (k : Nat) (x : ClaveX) : (s.setClave k x).snare = s.snare := rfl
@[simp] theorem State.setClave_fb (k : Nat) (x : ClaveX) : (s.setClave k x).fb = s.fb := rfl
@[simp] theorem State.setClave_echo (k : Nat) (x : ClaveX) : (s.setClave k x).echo = s.echo := rfl
@[simp] theorem State.setClave_field (k : Nat) (x : ClaveX) : (s.setClave k x).field = s.field := rfl
@[simp] theorem State.setClave_eth (k : Nat) (x : ClaveX) : (s.setClave k x).eth = s.eth := rfl
@[simp] theorem State.setClave_can (k : Nat) (x : ClaveX) : (s.setClave k x).can = s.can := rfl
@[simp] theorem State.setClave_i2c (k : Nat) (x : ClaveX) : (s.setClave k x).i2c = s.i2c := rfl

@[simp] theorem State.setHo_pending (k : Nat) (x : HoX) : (s.setHo k x).pending = s.pending := rfl
@[simp] theorem State.setHo_regs (k : Nat) (x : HoX) : (s.setHo k x).regs = s.regs := rfl
@[simp] theorem State.setHo_mem (k : Nat) (x : HoX) : (s.setHo k x).mem = s.mem := rfl
@[simp] theorem State.setHo_clk (k : Nat) (x : HoX) : (s.setHo k x).clk = s.clk := rfl
@[simp] theorem State.setHo_ntimeH (k : Nat) (x : HoX) : (s.setHo k x).ntimeH = s.ntimeH := rfl
@[simp] theorem State.setHo_drawn (k : Nat) (x : HoX) : (s.setHo k x).drawn = s.drawn := rfl
@[simp] theorem State.setHo_outbox (k : Nat) (x : HoX) : (s.setHo k x).outbox = s.outbox := rfl
@[simp] theorem State.setHo_readOut (k : Nat) (x : HoX) : (s.setHo k x).readOut = s.readOut := rfl
@[simp] theorem State.setHo_awaiting (k : Nat) (x : HoX) : (s.setHo k x).awaiting = s.awaiting := rfl
@[simp] theorem State.setHo_tick_ (k : Nat) (x : HoX) : (s.setHo k x).tick_ = s.tick_ := rfl
@[simp] theorem State.setHo_bk (k : Nat) (x : HoX) : (s.setHo k x).bk = s.bk := rfl
@[simp] theorem State.setHo_start (k : Nat) (x : HoX) : (s.setHo k x).start = s.start := rfl
@[simp] theorem State.setHo_flash (k : Nat) (x : HoX) : (s.setHo k x).flash = s.flash := rfl
@[simp] theorem State.setHo_pool (k : Nat) (x : HoX) : (s.setHo k x).pool = s.pool := rfl
@[simp] theorem State.setHo_led (k : Nat) (x : HoX) : (s.setHo k x).led = s.led := rfl
@[simp] theorem State.setHo_flt (k : Nat) (x : HoX) : (s.setHo k x).flt = s.flt := rfl
@[simp] theorem State.setHo_sess (k : Nat) (x : HoX) : (s.setHo k x).sess = s.sess := rfl
@[simp] theorem State.setHo_holds (k : Nat) (x : HoX) : (s.setHo k x).holds = s.holds := rfl
@[simp] theorem State.setHo_eng (k : Nat) (x : HoX) : (s.setHo k x).eng = s.eng := rfl
@[simp] theorem State.setHo_grp (k : Nat) (x : HoX) : (s.setHo k x).grp = s.grp := rfl
@[simp] theorem State.setHo_axis (k : Nat) (x : HoX) : (s.setHo k x).axis = s.axis := rfl
@[simp] theorem State.setHo_cur (k : Nat) (x : HoX) : (s.setHo k x).cur = s.cur := rfl
@[simp] theorem State.setHo_clave (k : Nat) (x : HoX) : (s.setHo k x).clave = s.clave := rfl
@[simp] theorem State.setHo_snare (k : Nat) (x : HoX) : (s.setHo k x).snare = s.snare := rfl
@[simp] theorem State.setHo_fb (k : Nat) (x : HoX) : (s.setHo k x).fb = s.fb := rfl
@[simp] theorem State.setHo_echo (k : Nat) (x : HoX) : (s.setHo k x).echo = s.echo := rfl
@[simp] theorem State.setHo_field (k : Nat) (x : HoX) : (s.setHo k x).field = s.field := rfl
@[simp] theorem State.setHo_eth (k : Nat) (x : HoX) : (s.setHo k x).eth = s.eth := rfl
@[simp] theorem State.setHo_can (k : Nat) (x : HoX) : (s.setHo k x).can = s.can := rfl
@[simp] theorem State.setHo_i2c (k : Nat) (x : HoX) : (s.setHo k x).i2c = s.i2c := rfl

@[simp] theorem State.setSnare_pending (k : Nat) (x : SnareX) : (s.setSnare k x).pending = s.pending := rfl
@[simp] theorem State.setSnare_regs (k : Nat) (x : SnareX) : (s.setSnare k x).regs = s.regs := rfl
@[simp] theorem State.setSnare_mem (k : Nat) (x : SnareX) : (s.setSnare k x).mem = s.mem := rfl
@[simp] theorem State.setSnare_clk (k : Nat) (x : SnareX) : (s.setSnare k x).clk = s.clk := rfl
@[simp] theorem State.setSnare_ntimeH (k : Nat) (x : SnareX) : (s.setSnare k x).ntimeH = s.ntimeH := rfl
@[simp] theorem State.setSnare_drawn (k : Nat) (x : SnareX) : (s.setSnare k x).drawn = s.drawn := rfl
@[simp] theorem State.setSnare_outbox (k : Nat) (x : SnareX) : (s.setSnare k x).outbox = s.outbox := rfl
@[simp] theorem State.setSnare_readOut (k : Nat) (x : SnareX) : (s.setSnare k x).readOut = s.readOut := rfl
@[simp] theorem State.setSnare_awaiting (k : Nat) (x : SnareX) : (s.setSnare k x).awaiting = s.awaiting := rfl
@[simp] theorem State.setSnare_tick_ (k : Nat) (x : SnareX) : (s.setSnare k x).tick_ = s.tick_ := rfl
@[simp] theorem State.setSnare_bk (k : Nat) (x : SnareX) : (s.setSnare k x).bk = s.bk := rfl
@[simp] theorem State.setSnare_start (k : Nat) (x : SnareX) : (s.setSnare k x).start = s.start := rfl
@[simp] theorem State.setSnare_flash (k : Nat) (x : SnareX) : (s.setSnare k x).flash = s.flash := rfl
@[simp] theorem State.setSnare_pool (k : Nat) (x : SnareX) : (s.setSnare k x).pool = s.pool := rfl
@[simp] theorem State.setSnare_led (k : Nat) (x : SnareX) : (s.setSnare k x).led = s.led := rfl
@[simp] theorem State.setSnare_flt (k : Nat) (x : SnareX) : (s.setSnare k x).flt = s.flt := rfl
@[simp] theorem State.setSnare_sess (k : Nat) (x : SnareX) : (s.setSnare k x).sess = s.sess := rfl
@[simp] theorem State.setSnare_holds (k : Nat) (x : SnareX) : (s.setSnare k x).holds = s.holds := rfl
@[simp] theorem State.setSnare_eng (k : Nat) (x : SnareX) : (s.setSnare k x).eng = s.eng := rfl
@[simp] theorem State.setSnare_grp (k : Nat) (x : SnareX) : (s.setSnare k x).grp = s.grp := rfl
@[simp] theorem State.setSnare_axis (k : Nat) (x : SnareX) : (s.setSnare k x).axis = s.axis := rfl
@[simp] theorem State.setSnare_cur (k : Nat) (x : SnareX) : (s.setSnare k x).cur = s.cur := rfl
@[simp] theorem State.setSnare_clave (k : Nat) (x : SnareX) : (s.setSnare k x).clave = s.clave := rfl
@[simp] theorem State.setSnare_ho (k : Nat) (x : SnareX) : (s.setSnare k x).ho = s.ho := rfl
@[simp] theorem State.setSnare_fb (k : Nat) (x : SnareX) : (s.setSnare k x).fb = s.fb := rfl
@[simp] theorem State.setSnare_echo (k : Nat) (x : SnareX) : (s.setSnare k x).echo = s.echo := rfl
@[simp] theorem State.setSnare_field (k : Nat) (x : SnareX) : (s.setSnare k x).field = s.field := rfl
@[simp] theorem State.setSnare_eth (k : Nat) (x : SnareX) : (s.setSnare k x).eth = s.eth := rfl
@[simp] theorem State.setSnare_can (k : Nat) (x : SnareX) : (s.setSnare k x).can = s.can := rfl
@[simp] theorem State.setSnare_i2c (k : Nat) (x : SnareX) : (s.setSnare k x).i2c = s.i2c := rfl

@[simp] theorem State.setFb_pending (k : Nat) (x : FbX) : (s.setFb k x).pending = s.pending := rfl
@[simp] theorem State.setFb_regs (k : Nat) (x : FbX) : (s.setFb k x).regs = s.regs := rfl
@[simp] theorem State.setFb_mem (k : Nat) (x : FbX) : (s.setFb k x).mem = s.mem := rfl
@[simp] theorem State.setFb_clk (k : Nat) (x : FbX) : (s.setFb k x).clk = s.clk := rfl
@[simp] theorem State.setFb_ntimeH (k : Nat) (x : FbX) : (s.setFb k x).ntimeH = s.ntimeH := rfl
@[simp] theorem State.setFb_drawn (k : Nat) (x : FbX) : (s.setFb k x).drawn = s.drawn := rfl
@[simp] theorem State.setFb_outbox (k : Nat) (x : FbX) : (s.setFb k x).outbox = s.outbox := rfl
@[simp] theorem State.setFb_readOut (k : Nat) (x : FbX) : (s.setFb k x).readOut = s.readOut := rfl
@[simp] theorem State.setFb_awaiting (k : Nat) (x : FbX) : (s.setFb k x).awaiting = s.awaiting := rfl
@[simp] theorem State.setFb_tick_ (k : Nat) (x : FbX) : (s.setFb k x).tick_ = s.tick_ := rfl
@[simp] theorem State.setFb_bk (k : Nat) (x : FbX) : (s.setFb k x).bk = s.bk := rfl
@[simp] theorem State.setFb_start (k : Nat) (x : FbX) : (s.setFb k x).start = s.start := rfl
@[simp] theorem State.setFb_flash (k : Nat) (x : FbX) : (s.setFb k x).flash = s.flash := rfl
@[simp] theorem State.setFb_pool (k : Nat) (x : FbX) : (s.setFb k x).pool = s.pool := rfl
@[simp] theorem State.setFb_led (k : Nat) (x : FbX) : (s.setFb k x).led = s.led := rfl
@[simp] theorem State.setFb_flt (k : Nat) (x : FbX) : (s.setFb k x).flt = s.flt := rfl
@[simp] theorem State.setFb_sess (k : Nat) (x : FbX) : (s.setFb k x).sess = s.sess := rfl
@[simp] theorem State.setFb_holds (k : Nat) (x : FbX) : (s.setFb k x).holds = s.holds := rfl
@[simp] theorem State.setFb_eng (k : Nat) (x : FbX) : (s.setFb k x).eng = s.eng := rfl
@[simp] theorem State.setFb_grp (k : Nat) (x : FbX) : (s.setFb k x).grp = s.grp := rfl
@[simp] theorem State.setFb_axis (k : Nat) (x : FbX) : (s.setFb k x).axis = s.axis := rfl
@[simp] theorem State.setFb_cur (k : Nat) (x : FbX) : (s.setFb k x).cur = s.cur := rfl
@[simp] theorem State.setFb_clave (k : Nat) (x : FbX) : (s.setFb k x).clave = s.clave := rfl
@[simp] theorem State.setFb_ho (k : Nat) (x : FbX) : (s.setFb k x).ho = s.ho := rfl
@[simp] theorem State.setFb_snare (k : Nat) (x : FbX) : (s.setFb k x).snare = s.snare := rfl
@[simp] theorem State.setFb_echo (k : Nat) (x : FbX) : (s.setFb k x).echo = s.echo := rfl
@[simp] theorem State.setFb_field (k : Nat) (x : FbX) : (s.setFb k x).field = s.field := rfl
@[simp] theorem State.setFb_eth (k : Nat) (x : FbX) : (s.setFb k x).eth = s.eth := rfl
@[simp] theorem State.setFb_can (k : Nat) (x : FbX) : (s.setFb k x).can = s.can := rfl
@[simp] theorem State.setFb_i2c (k : Nat) (x : FbX) : (s.setFb k x).i2c = s.i2c := rfl

@[simp] theorem State.setEcho_pending (k : Nat) (x : EchoX) : (s.setEcho k x).pending = s.pending := rfl
@[simp] theorem State.setEcho_regs (k : Nat) (x : EchoX) : (s.setEcho k x).regs = s.regs := rfl
@[simp] theorem State.setEcho_mem (k : Nat) (x : EchoX) : (s.setEcho k x).mem = s.mem := rfl
@[simp] theorem State.setEcho_clk (k : Nat) (x : EchoX) : (s.setEcho k x).clk = s.clk := rfl
@[simp] theorem State.setEcho_ntimeH (k : Nat) (x : EchoX) : (s.setEcho k x).ntimeH = s.ntimeH := rfl
@[simp] theorem State.setEcho_drawn (k : Nat) (x : EchoX) : (s.setEcho k x).drawn = s.drawn := rfl
@[simp] theorem State.setEcho_outbox (k : Nat) (x : EchoX) : (s.setEcho k x).outbox = s.outbox := rfl
@[simp] theorem State.setEcho_readOut (k : Nat) (x : EchoX) : (s.setEcho k x).readOut = s.readOut := rfl
@[simp] theorem State.setEcho_awaiting (k : Nat) (x : EchoX) : (s.setEcho k x).awaiting = s.awaiting := rfl
@[simp] theorem State.setEcho_tick_ (k : Nat) (x : EchoX) : (s.setEcho k x).tick_ = s.tick_ := rfl
@[simp] theorem State.setEcho_bk (k : Nat) (x : EchoX) : (s.setEcho k x).bk = s.bk := rfl
@[simp] theorem State.setEcho_start (k : Nat) (x : EchoX) : (s.setEcho k x).start = s.start := rfl
@[simp] theorem State.setEcho_flash (k : Nat) (x : EchoX) : (s.setEcho k x).flash = s.flash := rfl
@[simp] theorem State.setEcho_pool (k : Nat) (x : EchoX) : (s.setEcho k x).pool = s.pool := rfl
@[simp] theorem State.setEcho_led (k : Nat) (x : EchoX) : (s.setEcho k x).led = s.led := rfl
@[simp] theorem State.setEcho_flt (k : Nat) (x : EchoX) : (s.setEcho k x).flt = s.flt := rfl
@[simp] theorem State.setEcho_sess (k : Nat) (x : EchoX) : (s.setEcho k x).sess = s.sess := rfl
@[simp] theorem State.setEcho_holds (k : Nat) (x : EchoX) : (s.setEcho k x).holds = s.holds := rfl
@[simp] theorem State.setEcho_eng (k : Nat) (x : EchoX) : (s.setEcho k x).eng = s.eng := rfl
@[simp] theorem State.setEcho_grp (k : Nat) (x : EchoX) : (s.setEcho k x).grp = s.grp := rfl
@[simp] theorem State.setEcho_axis (k : Nat) (x : EchoX) : (s.setEcho k x).axis = s.axis := rfl
@[simp] theorem State.setEcho_cur (k : Nat) (x : EchoX) : (s.setEcho k x).cur = s.cur := rfl
@[simp] theorem State.setEcho_clave (k : Nat) (x : EchoX) : (s.setEcho k x).clave = s.clave := rfl
@[simp] theorem State.setEcho_ho (k : Nat) (x : EchoX) : (s.setEcho k x).ho = s.ho := rfl
@[simp] theorem State.setEcho_snare (k : Nat) (x : EchoX) : (s.setEcho k x).snare = s.snare := rfl
@[simp] theorem State.setEcho_fb (k : Nat) (x : EchoX) : (s.setEcho k x).fb = s.fb := rfl
@[simp] theorem State.setEcho_field (k : Nat) (x : EchoX) : (s.setEcho k x).field = s.field := rfl
@[simp] theorem State.setEcho_eth (k : Nat) (x : EchoX) : (s.setEcho k x).eth = s.eth := rfl
@[simp] theorem State.setEcho_can (k : Nat) (x : EchoX) : (s.setEcho k x).can = s.can := rfl
@[simp] theorem State.setEcho_i2c (k : Nat) (x : EchoX) : (s.setEcho k x).i2c = s.i2c := rfl

@[simp] theorem State.setCan_pending (k : Nat) (x : CanX) : (s.setCan k x).pending = s.pending := rfl
@[simp] theorem State.setCan_regs (k : Nat) (x : CanX) : (s.setCan k x).regs = s.regs := rfl
@[simp] theorem State.setCan_mem (k : Nat) (x : CanX) : (s.setCan k x).mem = s.mem := rfl
@[simp] theorem State.setCan_clk (k : Nat) (x : CanX) : (s.setCan k x).clk = s.clk := rfl
@[simp] theorem State.setCan_ntimeH (k : Nat) (x : CanX) : (s.setCan k x).ntimeH = s.ntimeH := rfl
@[simp] theorem State.setCan_drawn (k : Nat) (x : CanX) : (s.setCan k x).drawn = s.drawn := rfl
@[simp] theorem State.setCan_outbox (k : Nat) (x : CanX) : (s.setCan k x).outbox = s.outbox := rfl
@[simp] theorem State.setCan_readOut (k : Nat) (x : CanX) : (s.setCan k x).readOut = s.readOut := rfl
@[simp] theorem State.setCan_awaiting (k : Nat) (x : CanX) : (s.setCan k x).awaiting = s.awaiting := rfl
@[simp] theorem State.setCan_tick_ (k : Nat) (x : CanX) : (s.setCan k x).tick_ = s.tick_ := rfl
@[simp] theorem State.setCan_bk (k : Nat) (x : CanX) : (s.setCan k x).bk = s.bk := rfl
@[simp] theorem State.setCan_start (k : Nat) (x : CanX) : (s.setCan k x).start = s.start := rfl
@[simp] theorem State.setCan_flash (k : Nat) (x : CanX) : (s.setCan k x).flash = s.flash := rfl
@[simp] theorem State.setCan_pool (k : Nat) (x : CanX) : (s.setCan k x).pool = s.pool := rfl
@[simp] theorem State.setCan_led (k : Nat) (x : CanX) : (s.setCan k x).led = s.led := rfl
@[simp] theorem State.setCan_flt (k : Nat) (x : CanX) : (s.setCan k x).flt = s.flt := rfl
@[simp] theorem State.setCan_sess (k : Nat) (x : CanX) : (s.setCan k x).sess = s.sess := rfl
@[simp] theorem State.setCan_holds (k : Nat) (x : CanX) : (s.setCan k x).holds = s.holds := rfl
@[simp] theorem State.setCan_eng (k : Nat) (x : CanX) : (s.setCan k x).eng = s.eng := rfl
@[simp] theorem State.setCan_grp (k : Nat) (x : CanX) : (s.setCan k x).grp = s.grp := rfl
@[simp] theorem State.setCan_axis (k : Nat) (x : CanX) : (s.setCan k x).axis = s.axis := rfl
@[simp] theorem State.setCan_cur (k : Nat) (x : CanX) : (s.setCan k x).cur = s.cur := rfl
@[simp] theorem State.setCan_clave (k : Nat) (x : CanX) : (s.setCan k x).clave = s.clave := rfl
@[simp] theorem State.setCan_ho (k : Nat) (x : CanX) : (s.setCan k x).ho = s.ho := rfl
@[simp] theorem State.setCan_snare (k : Nat) (x : CanX) : (s.setCan k x).snare = s.snare := rfl
@[simp] theorem State.setCan_fb (k : Nat) (x : CanX) : (s.setCan k x).fb = s.fb := rfl
@[simp] theorem State.setCan_echo (k : Nat) (x : CanX) : (s.setCan k x).echo = s.echo := rfl
@[simp] theorem State.setCan_field (k : Nat) (x : CanX) : (s.setCan k x).field = s.field := rfl
@[simp] theorem State.setCan_eth (k : Nat) (x : CanX) : (s.setCan k x).eth = s.eth := rfl
@[simp] theorem State.setCan_i2c (k : Nat) (x : CanX) : (s.setCan k x).i2c = s.i2c := rfl

@[simp] theorem State.setSess_pending (k : Nat) (x : Session) : (s.setSess k x).pending = s.pending := rfl
@[simp] theorem State.setSess_regs (k : Nat) (x : Session) : (s.setSess k x).regs = s.regs := rfl
@[simp] theorem State.setSess_mem (k : Nat) (x : Session) : (s.setSess k x).mem = s.mem := rfl
@[simp] theorem State.setSess_clk (k : Nat) (x : Session) : (s.setSess k x).clk = s.clk := rfl
@[simp] theorem State.setSess_ntimeH (k : Nat) (x : Session) : (s.setSess k x).ntimeH = s.ntimeH := rfl
@[simp] theorem State.setSess_drawn (k : Nat) (x : Session) : (s.setSess k x).drawn = s.drawn := rfl
@[simp] theorem State.setSess_outbox (k : Nat) (x : Session) : (s.setSess k x).outbox = s.outbox := rfl
@[simp] theorem State.setSess_readOut (k : Nat) (x : Session) : (s.setSess k x).readOut = s.readOut := rfl
@[simp] theorem State.setSess_awaiting (k : Nat) (x : Session) : (s.setSess k x).awaiting = s.awaiting := rfl
@[simp] theorem State.setSess_tick_ (k : Nat) (x : Session) : (s.setSess k x).tick_ = s.tick_ := rfl
@[simp] theorem State.setSess_bk (k : Nat) (x : Session) : (s.setSess k x).bk = s.bk := rfl
@[simp] theorem State.setSess_start (k : Nat) (x : Session) : (s.setSess k x).start = s.start := rfl
@[simp] theorem State.setSess_flash (k : Nat) (x : Session) : (s.setSess k x).flash = s.flash := rfl
@[simp] theorem State.setSess_pool (k : Nat) (x : Session) : (s.setSess k x).pool = s.pool := rfl
@[simp] theorem State.setSess_led (k : Nat) (x : Session) : (s.setSess k x).led = s.led := rfl
@[simp] theorem State.setSess_flt (k : Nat) (x : Session) : (s.setSess k x).flt = s.flt := rfl
@[simp] theorem State.setSess_holds (k : Nat) (x : Session) : (s.setSess k x).holds = s.holds := rfl
@[simp] theorem State.setSess_eng (k : Nat) (x : Session) : (s.setSess k x).eng = s.eng := rfl
@[simp] theorem State.setSess_grp (k : Nat) (x : Session) : (s.setSess k x).grp = s.grp := rfl
@[simp] theorem State.setSess_axis (k : Nat) (x : Session) : (s.setSess k x).axis = s.axis := rfl
@[simp] theorem State.setSess_cur (k : Nat) (x : Session) : (s.setSess k x).cur = s.cur := rfl
@[simp] theorem State.setSess_clave (k : Nat) (x : Session) : (s.setSess k x).clave = s.clave := rfl
@[simp] theorem State.setSess_ho (k : Nat) (x : Session) : (s.setSess k x).ho = s.ho := rfl
@[simp] theorem State.setSess_snare (k : Nat) (x : Session) : (s.setSess k x).snare = s.snare := rfl
@[simp] theorem State.setSess_fb (k : Nat) (x : Session) : (s.setSess k x).fb = s.fb := rfl
@[simp] theorem State.setSess_echo (k : Nat) (x : Session) : (s.setSess k x).echo = s.echo := rfl
@[simp] theorem State.setSess_field (k : Nat) (x : Session) : (s.setSess k x).field = s.field := rfl
@[simp] theorem State.setSess_eth (k : Nat) (x : Session) : (s.setSess k x).eth = s.eth := rfl
@[simp] theorem State.setSess_can (k : Nat) (x : Session) : (s.setSess k x).can = s.can := rfl
@[simp] theorem State.setSess_i2c (k : Nat) (x : Session) : (s.setSess k x).i2c = s.i2c := rfl

@[simp] theorem State.setHold_pending (k : Nat) (x : PairHold) : (s.setHold k x).pending = s.pending := rfl
@[simp] theorem State.setHold_regs (k : Nat) (x : PairHold) : (s.setHold k x).regs = s.regs := rfl
@[simp] theorem State.setHold_mem (k : Nat) (x : PairHold) : (s.setHold k x).mem = s.mem := rfl
@[simp] theorem State.setHold_clk (k : Nat) (x : PairHold) : (s.setHold k x).clk = s.clk := rfl
@[simp] theorem State.setHold_ntimeH (k : Nat) (x : PairHold) : (s.setHold k x).ntimeH = s.ntimeH := rfl
@[simp] theorem State.setHold_drawn (k : Nat) (x : PairHold) : (s.setHold k x).drawn = s.drawn := rfl
@[simp] theorem State.setHold_outbox (k : Nat) (x : PairHold) : (s.setHold k x).outbox = s.outbox := rfl
@[simp] theorem State.setHold_readOut (k : Nat) (x : PairHold) : (s.setHold k x).readOut = s.readOut := rfl
@[simp] theorem State.setHold_awaiting (k : Nat) (x : PairHold) : (s.setHold k x).awaiting = s.awaiting := rfl
@[simp] theorem State.setHold_tick_ (k : Nat) (x : PairHold) : (s.setHold k x).tick_ = s.tick_ := rfl
@[simp] theorem State.setHold_bk (k : Nat) (x : PairHold) : (s.setHold k x).bk = s.bk := rfl
@[simp] theorem State.setHold_start (k : Nat) (x : PairHold) : (s.setHold k x).start = s.start := rfl
@[simp] theorem State.setHold_flash (k : Nat) (x : PairHold) : (s.setHold k x).flash = s.flash := rfl
@[simp] theorem State.setHold_pool (k : Nat) (x : PairHold) : (s.setHold k x).pool = s.pool := rfl
@[simp] theorem State.setHold_led (k : Nat) (x : PairHold) : (s.setHold k x).led = s.led := rfl
@[simp] theorem State.setHold_flt (k : Nat) (x : PairHold) : (s.setHold k x).flt = s.flt := rfl
@[simp] theorem State.setHold_sess (k : Nat) (x : PairHold) : (s.setHold k x).sess = s.sess := rfl
@[simp] theorem State.setHold_eng (k : Nat) (x : PairHold) : (s.setHold k x).eng = s.eng := rfl
@[simp] theorem State.setHold_grp (k : Nat) (x : PairHold) : (s.setHold k x).grp = s.grp := rfl
@[simp] theorem State.setHold_axis (k : Nat) (x : PairHold) : (s.setHold k x).axis = s.axis := rfl
@[simp] theorem State.setHold_cur (k : Nat) (x : PairHold) : (s.setHold k x).cur = s.cur := rfl
@[simp] theorem State.setHold_clave (k : Nat) (x : PairHold) : (s.setHold k x).clave = s.clave := rfl
@[simp] theorem State.setHold_ho (k : Nat) (x : PairHold) : (s.setHold k x).ho = s.ho := rfl
@[simp] theorem State.setHold_snare (k : Nat) (x : PairHold) : (s.setHold k x).snare = s.snare := rfl
@[simp] theorem State.setHold_fb (k : Nat) (x : PairHold) : (s.setHold k x).fb = s.fb := rfl
@[simp] theorem State.setHold_echo (k : Nat) (x : PairHold) : (s.setHold k x).echo = s.echo := rfl
@[simp] theorem State.setHold_field (k : Nat) (x : PairHold) : (s.setHold k x).field = s.field := rfl
@[simp] theorem State.setHold_eth (k : Nat) (x : PairHold) : (s.setHold k x).eth = s.eth := rfl
@[simp] theorem State.setHold_can (k : Nat) (x : PairHold) : (s.setHold k x).can = s.can := rfl
@[simp] theorem State.setHold_i2c (k : Nat) (x : PairHold) : (s.setHold k x).i2c = s.i2c := rfl

@[simp] theorem State.wrByte_pending (a : Nat) (b : Byte) : (s.wrByte a b).pending = s.pending := rfl
@[simp] theorem State.wrByte_regs (a : Nat) (b : Byte) : (s.wrByte a b).regs = s.regs := rfl
@[simp] theorem State.wrByte_clk (a : Nat) (b : Byte) : (s.wrByte a b).clk = s.clk := rfl
@[simp] theorem State.wrByte_ntimeH (a : Nat) (b : Byte) : (s.wrByte a b).ntimeH = s.ntimeH := rfl
@[simp] theorem State.wrByte_drawn (a : Nat) (b : Byte) : (s.wrByte a b).drawn = s.drawn := rfl
@[simp] theorem State.wrByte_outbox (a : Nat) (b : Byte) : (s.wrByte a b).outbox = s.outbox := rfl
@[simp] theorem State.wrByte_readOut (a : Nat) (b : Byte) : (s.wrByte a b).readOut = s.readOut := rfl
@[simp] theorem State.wrByte_awaiting (a : Nat) (b : Byte) : (s.wrByte a b).awaiting = s.awaiting := rfl
@[simp] theorem State.wrByte_tick_ (a : Nat) (b : Byte) : (s.wrByte a b).tick_ = s.tick_ := rfl
@[simp] theorem State.wrByte_bk (a : Nat) (b : Byte) : (s.wrByte a b).bk = s.bk := rfl
@[simp] theorem State.wrByte_start (a : Nat) (b : Byte) : (s.wrByte a b).start = s.start := rfl
@[simp] theorem State.wrByte_flash (a : Nat) (b : Byte) : (s.wrByte a b).flash = s.flash := rfl
@[simp] theorem State.wrByte_pool (a : Nat) (b : Byte) : (s.wrByte a b).pool = s.pool := rfl
@[simp] theorem State.wrByte_led (a : Nat) (b : Byte) : (s.wrByte a b).led = s.led := rfl
@[simp] theorem State.wrByte_flt (a : Nat) (b : Byte) : (s.wrByte a b).flt = s.flt := rfl
@[simp] theorem State.wrByte_sess (a : Nat) (b : Byte) : (s.wrByte a b).sess = s.sess := rfl
@[simp] theorem State.wrByte_holds (a : Nat) (b : Byte) : (s.wrByte a b).holds = s.holds := rfl
@[simp] theorem State.wrByte_eng (a : Nat) (b : Byte) : (s.wrByte a b).eng = s.eng := rfl
@[simp] theorem State.wrByte_grp (a : Nat) (b : Byte) : (s.wrByte a b).grp = s.grp := rfl
@[simp] theorem State.wrByte_axis (a : Nat) (b : Byte) : (s.wrByte a b).axis = s.axis := rfl
@[simp] theorem State.wrByte_cur (a : Nat) (b : Byte) : (s.wrByte a b).cur = s.cur := rfl
@[simp] theorem State.wrByte_clave (a : Nat) (b : Byte) : (s.wrByte a b).clave = s.clave := rfl
@[simp] theorem State.wrByte_ho (a : Nat) (b : Byte) : (s.wrByte a b).ho = s.ho := rfl
@[simp] theorem State.wrByte_snare (a : Nat) (b : Byte) : (s.wrByte a b).snare = s.snare := rfl
@[simp] theorem State.wrByte_fb (a : Nat) (b : Byte) : (s.wrByte a b).fb = s.fb := rfl
@[simp] theorem State.wrByte_echo (a : Nat) (b : Byte) : (s.wrByte a b).echo = s.echo := rfl
@[simp] theorem State.wrByte_field (a : Nat) (b : Byte) : (s.wrByte a b).field = s.field := rfl
@[simp] theorem State.wrByte_eth (a : Nat) (b : Byte) : (s.wrByte a b).eth = s.eth := rfl
@[simp] theorem State.wrByte_can (a : Nat) (b : Byte) : (s.wrByte a b).can = s.can := rfl
@[simp] theorem State.wrByte_i2c (a : Nat) (b : Byte) : (s.wrByte a b).i2c = s.i2c := rfl

/-! ### Register fields -/

/-- A register field after one has been set: its own low bits there, any other as before. -/
theorem State.get_set (f g : Fld) (v : Nat) : (s.set f v).get g = if g.key = f.key then v % 2 ^ f.width else s.get g :=
  SMap.get_set _ _ _ _ _

@[simp] theorem State.get_set_same (f : Fld) (v : Nat) : (s.set f v).get f = v % 2 ^ f.width := by simp [State.get_set]

theorem State.get_set_ne {f g : Fld} (v : Nat) (h : g.key ≠ f.key) : (s.set f v).get g = s.get g := by simp [State.get_set, h]

/-- The other ways to write a register field are `set` of a value. -/
theorem State.put_eq (f : Fld) (b : Bool) : s.put f b = s.set f (b2n b) := rfl
theorem State.setI_eq (f : Fld) (i : Int) : s.setI f i = s.set f (ofInt f.width i) := rfl
theorem State.addSat_eq (f : Fld) (k : Nat) : s.addSat f k = s.set f (satN (2 ^ f.width - 1) (s.get f + k)) := rfl
theorem State.inc_eq (f : Fld) : s.inc f = s.set f (satN (2 ^ f.width - 1) (s.get f + 1)) := rfl

@[simp] theorem State.get_setEng (k : Nat) (x : EngX) (g : Fld) : (s.setEng k x).get g = s.get g := rfl
@[simp] theorem State.get_setGrp (k : Nat) (x : GroupX) (g : Fld) : (s.setGrp k x).get g = s.get g := rfl
@[simp] theorem State.get_setAxis (k : Nat) (x : AxisX) (g : Fld) : (s.setAxis k x).get g = s.get g := rfl
@[simp] theorem State.get_setCur (k : Nat) (x : CurX) (g : Fld) : (s.setCur k x).get g = s.get g := rfl
@[simp] theorem State.get_setClave (k : Nat) (x : ClaveX) (g : Fld) : (s.setClave k x).get g = s.get g := rfl
@[simp] theorem State.get_setHo (k : Nat) (x : HoX) (g : Fld) : (s.setHo k x).get g = s.get g := rfl
@[simp] theorem State.get_setSnare (k : Nat) (x : SnareX) (g : Fld) : (s.setSnare k x).get g = s.get g := rfl
@[simp] theorem State.get_setFb (k : Nat) (x : FbX) (g : Fld) : (s.setFb k x).get g = s.get g := rfl
@[simp] theorem State.get_setEcho (k : Nat) (x : EchoX) (g : Fld) : (s.setEcho k x).get g = s.get g := rfl
@[simp] theorem State.get_setCan (k : Nat) (x : CanX) (g : Fld) : (s.setCan k x).get g = s.get g := rfl
@[simp] theorem State.get_setSess (k : Nat) (x : Session) (g : Fld) : (s.setSess k x).get g = s.get g := rfl
@[simp] theorem State.get_setHold (k : Nat) (x : PairHold) (g : Fld) : (s.setHold k x).get g = s.get g := rfl
@[simp] theorem State.get_wrByte (a : Nat) (b : Byte) (g : Fld) : (s.wrByte a b).get g = s.get g := rfl

/-! ### Unit records and bytes -/

theorem State.engX_setEng (k : Nat) (x : EngX) (j : Nat) : (s.setEng k x).engX j = if j = k then x else s.engX j :=
  SMap.get_set _ _ _ _ _

@[simp] theorem State.engX_setEng_same (k : Nat) (x : EngX) : (s.setEng k x).engX k = x := by simp [State.engX_setEng]

@[simp] theorem State.engX_set (f : Fld) (v : Nat) (j : Nat) : (s.set f v).engX j = s.engX j := rfl
@[simp] theorem State.engX_setGrp (k : Nat) (x : GroupX) (j : Nat) : (s.setGrp k x).engX j = s.engX j := rfl
@[simp] theorem State.engX_setAxis (k : Nat) (x : AxisX) (j : Nat) : (s.setAxis k x).engX j = s.engX j := rfl
@[simp] theorem State.engX_setCur (k : Nat) (x : CurX) (j : Nat) : (s.setCur k x).engX j = s.engX j := rfl
@[simp] theorem State.engX_setClave (k : Nat) (x : ClaveX) (j : Nat) : (s.setClave k x).engX j = s.engX j := rfl
@[simp] theorem State.engX_setHo (k : Nat) (x : HoX) (j : Nat) : (s.setHo k x).engX j = s.engX j := rfl
@[simp] theorem State.engX_setSnare (k : Nat) (x : SnareX) (j : Nat) : (s.setSnare k x).engX j = s.engX j := rfl
@[simp] theorem State.engX_setFb (k : Nat) (x : FbX) (j : Nat) : (s.setFb k x).engX j = s.engX j := rfl
@[simp] theorem State.engX_setEcho (k : Nat) (x : EchoX) (j : Nat) : (s.setEcho k x).engX j = s.engX j := rfl
@[simp] theorem State.engX_setCan (k : Nat) (x : CanX) (j : Nat) : (s.setCan k x).engX j = s.engX j := rfl
@[simp] theorem State.engX_setSess (k : Nat) (x : Session) (j : Nat) : (s.setSess k x).engX j = s.engX j := rfl
@[simp] theorem State.engX_setHold (k : Nat) (x : PairHold) (j : Nat) : (s.setHold k x).engX j = s.engX j := rfl
@[simp] theorem State.engX_wrByte (a : Nat) (b : Byte) (j : Nat) : (s.wrByte a b).engX j = s.engX j := rfl

theorem State.grpX_setGrp (k : Nat) (x : GroupX) (j : Nat) : (s.setGrp k x).grpX j = if j = k then x else s.grpX j :=
  SMap.get_set _ _ _ _ _

@[simp] theorem State.grpX_setGrp_same (k : Nat) (x : GroupX) : (s.setGrp k x).grpX k = x := by simp [State.grpX_setGrp]

@[simp] theorem State.grpX_set (f : Fld) (v : Nat) (j : Nat) : (s.set f v).grpX j = s.grpX j := rfl
@[simp] theorem State.grpX_setEng (k : Nat) (x : EngX) (j : Nat) : (s.setEng k x).grpX j = s.grpX j := rfl
@[simp] theorem State.grpX_setAxis (k : Nat) (x : AxisX) (j : Nat) : (s.setAxis k x).grpX j = s.grpX j := rfl
@[simp] theorem State.grpX_setCur (k : Nat) (x : CurX) (j : Nat) : (s.setCur k x).grpX j = s.grpX j := rfl
@[simp] theorem State.grpX_setClave (k : Nat) (x : ClaveX) (j : Nat) : (s.setClave k x).grpX j = s.grpX j := rfl
@[simp] theorem State.grpX_setHo (k : Nat) (x : HoX) (j : Nat) : (s.setHo k x).grpX j = s.grpX j := rfl
@[simp] theorem State.grpX_setSnare (k : Nat) (x : SnareX) (j : Nat) : (s.setSnare k x).grpX j = s.grpX j := rfl
@[simp] theorem State.grpX_setFb (k : Nat) (x : FbX) (j : Nat) : (s.setFb k x).grpX j = s.grpX j := rfl
@[simp] theorem State.grpX_setEcho (k : Nat) (x : EchoX) (j : Nat) : (s.setEcho k x).grpX j = s.grpX j := rfl
@[simp] theorem State.grpX_setCan (k : Nat) (x : CanX) (j : Nat) : (s.setCan k x).grpX j = s.grpX j := rfl
@[simp] theorem State.grpX_setSess (k : Nat) (x : Session) (j : Nat) : (s.setSess k x).grpX j = s.grpX j := rfl
@[simp] theorem State.grpX_setHold (k : Nat) (x : PairHold) (j : Nat) : (s.setHold k x).grpX j = s.grpX j := rfl
@[simp] theorem State.grpX_wrByte (a : Nat) (b : Byte) (j : Nat) : (s.wrByte a b).grpX j = s.grpX j := rfl

theorem State.axisX_setAxis (k : Nat) (x : AxisX) (j : Nat) : (s.setAxis k x).axisX j = if j = k then x else s.axisX j :=
  SMap.get_set _ _ _ _ _

@[simp] theorem State.axisX_setAxis_same (k : Nat) (x : AxisX) : (s.setAxis k x).axisX k = x := by simp [State.axisX_setAxis]

@[simp] theorem State.axisX_set (f : Fld) (v : Nat) (j : Nat) : (s.set f v).axisX j = s.axisX j := rfl
@[simp] theorem State.axisX_setEng (k : Nat) (x : EngX) (j : Nat) : (s.setEng k x).axisX j = s.axisX j := rfl
@[simp] theorem State.axisX_setGrp (k : Nat) (x : GroupX) (j : Nat) : (s.setGrp k x).axisX j = s.axisX j := rfl
@[simp] theorem State.axisX_setCur (k : Nat) (x : CurX) (j : Nat) : (s.setCur k x).axisX j = s.axisX j := rfl
@[simp] theorem State.axisX_setClave (k : Nat) (x : ClaveX) (j : Nat) : (s.setClave k x).axisX j = s.axisX j := rfl
@[simp] theorem State.axisX_setHo (k : Nat) (x : HoX) (j : Nat) : (s.setHo k x).axisX j = s.axisX j := rfl
@[simp] theorem State.axisX_setSnare (k : Nat) (x : SnareX) (j : Nat) : (s.setSnare k x).axisX j = s.axisX j := rfl
@[simp] theorem State.axisX_setFb (k : Nat) (x : FbX) (j : Nat) : (s.setFb k x).axisX j = s.axisX j := rfl
@[simp] theorem State.axisX_setEcho (k : Nat) (x : EchoX) (j : Nat) : (s.setEcho k x).axisX j = s.axisX j := rfl
@[simp] theorem State.axisX_setCan (k : Nat) (x : CanX) (j : Nat) : (s.setCan k x).axisX j = s.axisX j := rfl
@[simp] theorem State.axisX_setSess (k : Nat) (x : Session) (j : Nat) : (s.setSess k x).axisX j = s.axisX j := rfl
@[simp] theorem State.axisX_setHold (k : Nat) (x : PairHold) (j : Nat) : (s.setHold k x).axisX j = s.axisX j := rfl
@[simp] theorem State.axisX_wrByte (a : Nat) (b : Byte) (j : Nat) : (s.wrByte a b).axisX j = s.axisX j := rfl

theorem State.curX_setCur (k : Nat) (x : CurX) (j : Nat) : (s.setCur k x).curX j = if j = k then x else s.curX j :=
  SMap.get_set _ _ _ _ _

@[simp] theorem State.curX_setCur_same (k : Nat) (x : CurX) : (s.setCur k x).curX k = x := by simp [State.curX_setCur]

@[simp] theorem State.curX_set (f : Fld) (v : Nat) (j : Nat) : (s.set f v).curX j = s.curX j := rfl
@[simp] theorem State.curX_setEng (k : Nat) (x : EngX) (j : Nat) : (s.setEng k x).curX j = s.curX j := rfl
@[simp] theorem State.curX_setGrp (k : Nat) (x : GroupX) (j : Nat) : (s.setGrp k x).curX j = s.curX j := rfl
@[simp] theorem State.curX_setAxis (k : Nat) (x : AxisX) (j : Nat) : (s.setAxis k x).curX j = s.curX j := rfl
@[simp] theorem State.curX_setClave (k : Nat) (x : ClaveX) (j : Nat) : (s.setClave k x).curX j = s.curX j := rfl
@[simp] theorem State.curX_setHo (k : Nat) (x : HoX) (j : Nat) : (s.setHo k x).curX j = s.curX j := rfl
@[simp] theorem State.curX_setSnare (k : Nat) (x : SnareX) (j : Nat) : (s.setSnare k x).curX j = s.curX j := rfl
@[simp] theorem State.curX_setFb (k : Nat) (x : FbX) (j : Nat) : (s.setFb k x).curX j = s.curX j := rfl
@[simp] theorem State.curX_setEcho (k : Nat) (x : EchoX) (j : Nat) : (s.setEcho k x).curX j = s.curX j := rfl
@[simp] theorem State.curX_setCan (k : Nat) (x : CanX) (j : Nat) : (s.setCan k x).curX j = s.curX j := rfl
@[simp] theorem State.curX_setSess (k : Nat) (x : Session) (j : Nat) : (s.setSess k x).curX j = s.curX j := rfl
@[simp] theorem State.curX_setHold (k : Nat) (x : PairHold) (j : Nat) : (s.setHold k x).curX j = s.curX j := rfl
@[simp] theorem State.curX_wrByte (a : Nat) (b : Byte) (j : Nat) : (s.wrByte a b).curX j = s.curX j := rfl

theorem State.claveX_setClave (k : Nat) (x : ClaveX) (j : Nat) : (s.setClave k x).claveX j = if j = k then x else s.claveX j :=
  SMap.get_set _ _ _ _ _

@[simp] theorem State.claveX_setClave_same (k : Nat) (x : ClaveX) : (s.setClave k x).claveX k = x := by simp [State.claveX_setClave]

@[simp] theorem State.claveX_set (f : Fld) (v : Nat) (j : Nat) : (s.set f v).claveX j = s.claveX j := rfl
@[simp] theorem State.claveX_setEng (k : Nat) (x : EngX) (j : Nat) : (s.setEng k x).claveX j = s.claveX j := rfl
@[simp] theorem State.claveX_setGrp (k : Nat) (x : GroupX) (j : Nat) : (s.setGrp k x).claveX j = s.claveX j := rfl
@[simp] theorem State.claveX_setAxis (k : Nat) (x : AxisX) (j : Nat) : (s.setAxis k x).claveX j = s.claveX j := rfl
@[simp] theorem State.claveX_setCur (k : Nat) (x : CurX) (j : Nat) : (s.setCur k x).claveX j = s.claveX j := rfl
@[simp] theorem State.claveX_setHo (k : Nat) (x : HoX) (j : Nat) : (s.setHo k x).claveX j = s.claveX j := rfl
@[simp] theorem State.claveX_setSnare (k : Nat) (x : SnareX) (j : Nat) : (s.setSnare k x).claveX j = s.claveX j := rfl
@[simp] theorem State.claveX_setFb (k : Nat) (x : FbX) (j : Nat) : (s.setFb k x).claveX j = s.claveX j := rfl
@[simp] theorem State.claveX_setEcho (k : Nat) (x : EchoX) (j : Nat) : (s.setEcho k x).claveX j = s.claveX j := rfl
@[simp] theorem State.claveX_setCan (k : Nat) (x : CanX) (j : Nat) : (s.setCan k x).claveX j = s.claveX j := rfl
@[simp] theorem State.claveX_setSess (k : Nat) (x : Session) (j : Nat) : (s.setSess k x).claveX j = s.claveX j := rfl
@[simp] theorem State.claveX_setHold (k : Nat) (x : PairHold) (j : Nat) : (s.setHold k x).claveX j = s.claveX j := rfl
@[simp] theorem State.claveX_wrByte (a : Nat) (b : Byte) (j : Nat) : (s.wrByte a b).claveX j = s.claveX j := rfl

theorem State.hoX_setHo (k : Nat) (x : HoX) (j : Nat) : (s.setHo k x).hoX j = if j = k then x else s.hoX j :=
  SMap.get_set _ _ _ _ _

@[simp] theorem State.hoX_setHo_same (k : Nat) (x : HoX) : (s.setHo k x).hoX k = x := by simp [State.hoX_setHo]

@[simp] theorem State.hoX_set (f : Fld) (v : Nat) (j : Nat) : (s.set f v).hoX j = s.hoX j := rfl
@[simp] theorem State.hoX_setEng (k : Nat) (x : EngX) (j : Nat) : (s.setEng k x).hoX j = s.hoX j := rfl
@[simp] theorem State.hoX_setGrp (k : Nat) (x : GroupX) (j : Nat) : (s.setGrp k x).hoX j = s.hoX j := rfl
@[simp] theorem State.hoX_setAxis (k : Nat) (x : AxisX) (j : Nat) : (s.setAxis k x).hoX j = s.hoX j := rfl
@[simp] theorem State.hoX_setCur (k : Nat) (x : CurX) (j : Nat) : (s.setCur k x).hoX j = s.hoX j := rfl
@[simp] theorem State.hoX_setClave (k : Nat) (x : ClaveX) (j : Nat) : (s.setClave k x).hoX j = s.hoX j := rfl
@[simp] theorem State.hoX_setSnare (k : Nat) (x : SnareX) (j : Nat) : (s.setSnare k x).hoX j = s.hoX j := rfl
@[simp] theorem State.hoX_setFb (k : Nat) (x : FbX) (j : Nat) : (s.setFb k x).hoX j = s.hoX j := rfl
@[simp] theorem State.hoX_setEcho (k : Nat) (x : EchoX) (j : Nat) : (s.setEcho k x).hoX j = s.hoX j := rfl
@[simp] theorem State.hoX_setCan (k : Nat) (x : CanX) (j : Nat) : (s.setCan k x).hoX j = s.hoX j := rfl
@[simp] theorem State.hoX_setSess (k : Nat) (x : Session) (j : Nat) : (s.setSess k x).hoX j = s.hoX j := rfl
@[simp] theorem State.hoX_setHold (k : Nat) (x : PairHold) (j : Nat) : (s.setHold k x).hoX j = s.hoX j := rfl
@[simp] theorem State.hoX_wrByte (a : Nat) (b : Byte) (j : Nat) : (s.wrByte a b).hoX j = s.hoX j := rfl

theorem State.snareX_setSnare (k : Nat) (x : SnareX) (j : Nat) : (s.setSnare k x).snareX j = if j = k then x else s.snareX j :=
  SMap.get_set _ _ _ _ _

@[simp] theorem State.snareX_setSnare_same (k : Nat) (x : SnareX) : (s.setSnare k x).snareX k = x := by simp [State.snareX_setSnare]

@[simp] theorem State.snareX_set (f : Fld) (v : Nat) (j : Nat) : (s.set f v).snareX j = s.snareX j := rfl
@[simp] theorem State.snareX_setEng (k : Nat) (x : EngX) (j : Nat) : (s.setEng k x).snareX j = s.snareX j := rfl
@[simp] theorem State.snareX_setGrp (k : Nat) (x : GroupX) (j : Nat) : (s.setGrp k x).snareX j = s.snareX j := rfl
@[simp] theorem State.snareX_setAxis (k : Nat) (x : AxisX) (j : Nat) : (s.setAxis k x).snareX j = s.snareX j := rfl
@[simp] theorem State.snareX_setCur (k : Nat) (x : CurX) (j : Nat) : (s.setCur k x).snareX j = s.snareX j := rfl
@[simp] theorem State.snareX_setClave (k : Nat) (x : ClaveX) (j : Nat) : (s.setClave k x).snareX j = s.snareX j := rfl
@[simp] theorem State.snareX_setHo (k : Nat) (x : HoX) (j : Nat) : (s.setHo k x).snareX j = s.snareX j := rfl
@[simp] theorem State.snareX_setFb (k : Nat) (x : FbX) (j : Nat) : (s.setFb k x).snareX j = s.snareX j := rfl
@[simp] theorem State.snareX_setEcho (k : Nat) (x : EchoX) (j : Nat) : (s.setEcho k x).snareX j = s.snareX j := rfl
@[simp] theorem State.snareX_setCan (k : Nat) (x : CanX) (j : Nat) : (s.setCan k x).snareX j = s.snareX j := rfl
@[simp] theorem State.snareX_setSess (k : Nat) (x : Session) (j : Nat) : (s.setSess k x).snareX j = s.snareX j := rfl
@[simp] theorem State.snareX_setHold (k : Nat) (x : PairHold) (j : Nat) : (s.setHold k x).snareX j = s.snareX j := rfl
@[simp] theorem State.snareX_wrByte (a : Nat) (b : Byte) (j : Nat) : (s.wrByte a b).snareX j = s.snareX j := rfl

theorem State.fbX_setFb (k : Nat) (x : FbX) (j : Nat) : (s.setFb k x).fbX j = if j = k then x else s.fbX j :=
  SMap.get_set _ _ _ _ _

@[simp] theorem State.fbX_setFb_same (k : Nat) (x : FbX) : (s.setFb k x).fbX k = x := by simp [State.fbX_setFb]

@[simp] theorem State.fbX_set (f : Fld) (v : Nat) (j : Nat) : (s.set f v).fbX j = s.fbX j := rfl
@[simp] theorem State.fbX_setEng (k : Nat) (x : EngX) (j : Nat) : (s.setEng k x).fbX j = s.fbX j := rfl
@[simp] theorem State.fbX_setGrp (k : Nat) (x : GroupX) (j : Nat) : (s.setGrp k x).fbX j = s.fbX j := rfl
@[simp] theorem State.fbX_setAxis (k : Nat) (x : AxisX) (j : Nat) : (s.setAxis k x).fbX j = s.fbX j := rfl
@[simp] theorem State.fbX_setCur (k : Nat) (x : CurX) (j : Nat) : (s.setCur k x).fbX j = s.fbX j := rfl
@[simp] theorem State.fbX_setClave (k : Nat) (x : ClaveX) (j : Nat) : (s.setClave k x).fbX j = s.fbX j := rfl
@[simp] theorem State.fbX_setHo (k : Nat) (x : HoX) (j : Nat) : (s.setHo k x).fbX j = s.fbX j := rfl
@[simp] theorem State.fbX_setSnare (k : Nat) (x : SnareX) (j : Nat) : (s.setSnare k x).fbX j = s.fbX j := rfl
@[simp] theorem State.fbX_setEcho (k : Nat) (x : EchoX) (j : Nat) : (s.setEcho k x).fbX j = s.fbX j := rfl
@[simp] theorem State.fbX_setCan (k : Nat) (x : CanX) (j : Nat) : (s.setCan k x).fbX j = s.fbX j := rfl
@[simp] theorem State.fbX_setSess (k : Nat) (x : Session) (j : Nat) : (s.setSess k x).fbX j = s.fbX j := rfl
@[simp] theorem State.fbX_setHold (k : Nat) (x : PairHold) (j : Nat) : (s.setHold k x).fbX j = s.fbX j := rfl
@[simp] theorem State.fbX_wrByte (a : Nat) (b : Byte) (j : Nat) : (s.wrByte a b).fbX j = s.fbX j := rfl

theorem State.echoX_setEcho (k : Nat) (x : EchoX) (j : Nat) : (s.setEcho k x).echoX j = if j = k then x else s.echoX j :=
  SMap.get_set _ _ _ _ _

@[simp] theorem State.echoX_setEcho_same (k : Nat) (x : EchoX) : (s.setEcho k x).echoX k = x := by simp [State.echoX_setEcho]

@[simp] theorem State.echoX_set (f : Fld) (v : Nat) (j : Nat) : (s.set f v).echoX j = s.echoX j := rfl
@[simp] theorem State.echoX_setEng (k : Nat) (x : EngX) (j : Nat) : (s.setEng k x).echoX j = s.echoX j := rfl
@[simp] theorem State.echoX_setGrp (k : Nat) (x : GroupX) (j : Nat) : (s.setGrp k x).echoX j = s.echoX j := rfl
@[simp] theorem State.echoX_setAxis (k : Nat) (x : AxisX) (j : Nat) : (s.setAxis k x).echoX j = s.echoX j := rfl
@[simp] theorem State.echoX_setCur (k : Nat) (x : CurX) (j : Nat) : (s.setCur k x).echoX j = s.echoX j := rfl
@[simp] theorem State.echoX_setClave (k : Nat) (x : ClaveX) (j : Nat) : (s.setClave k x).echoX j = s.echoX j := rfl
@[simp] theorem State.echoX_setHo (k : Nat) (x : HoX) (j : Nat) : (s.setHo k x).echoX j = s.echoX j := rfl
@[simp] theorem State.echoX_setSnare (k : Nat) (x : SnareX) (j : Nat) : (s.setSnare k x).echoX j = s.echoX j := rfl
@[simp] theorem State.echoX_setFb (k : Nat) (x : FbX) (j : Nat) : (s.setFb k x).echoX j = s.echoX j := rfl
@[simp] theorem State.echoX_setCan (k : Nat) (x : CanX) (j : Nat) : (s.setCan k x).echoX j = s.echoX j := rfl
@[simp] theorem State.echoX_setSess (k : Nat) (x : Session) (j : Nat) : (s.setSess k x).echoX j = s.echoX j := rfl
@[simp] theorem State.echoX_setHold (k : Nat) (x : PairHold) (j : Nat) : (s.setHold k x).echoX j = s.echoX j := rfl
@[simp] theorem State.echoX_wrByte (a : Nat) (b : Byte) (j : Nat) : (s.wrByte a b).echoX j = s.echoX j := rfl

theorem State.canX_setCan (k : Nat) (x : CanX) (j : Nat) : (s.setCan k x).canX j = if j = k then x else s.canX j :=
  SMap.get_set _ _ _ _ _

@[simp] theorem State.canX_setCan_same (k : Nat) (x : CanX) : (s.setCan k x).canX k = x := by simp [State.canX_setCan]

@[simp] theorem State.canX_set (f : Fld) (v : Nat) (j : Nat) : (s.set f v).canX j = s.canX j := rfl
@[simp] theorem State.canX_setEng (k : Nat) (x : EngX) (j : Nat) : (s.setEng k x).canX j = s.canX j := rfl
@[simp] theorem State.canX_setGrp (k : Nat) (x : GroupX) (j : Nat) : (s.setGrp k x).canX j = s.canX j := rfl
@[simp] theorem State.canX_setAxis (k : Nat) (x : AxisX) (j : Nat) : (s.setAxis k x).canX j = s.canX j := rfl
@[simp] theorem State.canX_setCur (k : Nat) (x : CurX) (j : Nat) : (s.setCur k x).canX j = s.canX j := rfl
@[simp] theorem State.canX_setClave (k : Nat) (x : ClaveX) (j : Nat) : (s.setClave k x).canX j = s.canX j := rfl
@[simp] theorem State.canX_setHo (k : Nat) (x : HoX) (j : Nat) : (s.setHo k x).canX j = s.canX j := rfl
@[simp] theorem State.canX_setSnare (k : Nat) (x : SnareX) (j : Nat) : (s.setSnare k x).canX j = s.canX j := rfl
@[simp] theorem State.canX_setFb (k : Nat) (x : FbX) (j : Nat) : (s.setFb k x).canX j = s.canX j := rfl
@[simp] theorem State.canX_setEcho (k : Nat) (x : EchoX) (j : Nat) : (s.setEcho k x).canX j = s.canX j := rfl
@[simp] theorem State.canX_setSess (k : Nat) (x : Session) (j : Nat) : (s.setSess k x).canX j = s.canX j := rfl
@[simp] theorem State.canX_setHold (k : Nat) (x : PairHold) (j : Nat) : (s.setHold k x).canX j = s.canX j := rfl
@[simp] theorem State.canX_wrByte (a : Nat) (b : Byte) (j : Nat) : (s.wrByte a b).canX j = s.canX j := rfl

theorem State.sessX_setSess (k : Nat) (x : Session) (j : Nat) : (s.setSess k x).sessX j = if j = k then x else s.sessX j :=
  SMap.get_set _ _ _ _ _

@[simp] theorem State.sessX_setSess_same (k : Nat) (x : Session) : (s.setSess k x).sessX k = x := by simp [State.sessX_setSess]

@[simp] theorem State.sessX_set (f : Fld) (v : Nat) (j : Nat) : (s.set f v).sessX j = s.sessX j := rfl
@[simp] theorem State.sessX_setEng (k : Nat) (x : EngX) (j : Nat) : (s.setEng k x).sessX j = s.sessX j := rfl
@[simp] theorem State.sessX_setGrp (k : Nat) (x : GroupX) (j : Nat) : (s.setGrp k x).sessX j = s.sessX j := rfl
@[simp] theorem State.sessX_setAxis (k : Nat) (x : AxisX) (j : Nat) : (s.setAxis k x).sessX j = s.sessX j := rfl
@[simp] theorem State.sessX_setCur (k : Nat) (x : CurX) (j : Nat) : (s.setCur k x).sessX j = s.sessX j := rfl
@[simp] theorem State.sessX_setClave (k : Nat) (x : ClaveX) (j : Nat) : (s.setClave k x).sessX j = s.sessX j := rfl
@[simp] theorem State.sessX_setHo (k : Nat) (x : HoX) (j : Nat) : (s.setHo k x).sessX j = s.sessX j := rfl
@[simp] theorem State.sessX_setSnare (k : Nat) (x : SnareX) (j : Nat) : (s.setSnare k x).sessX j = s.sessX j := rfl
@[simp] theorem State.sessX_setFb (k : Nat) (x : FbX) (j : Nat) : (s.setFb k x).sessX j = s.sessX j := rfl
@[simp] theorem State.sessX_setEcho (k : Nat) (x : EchoX) (j : Nat) : (s.setEcho k x).sessX j = s.sessX j := rfl
@[simp] theorem State.sessX_setCan (k : Nat) (x : CanX) (j : Nat) : (s.setCan k x).sessX j = s.sessX j := rfl
@[simp] theorem State.sessX_setHold (k : Nat) (x : PairHold) (j : Nat) : (s.setHold k x).sessX j = s.sessX j := rfl
@[simp] theorem State.sessX_wrByte (a : Nat) (b : Byte) (j : Nat) : (s.wrByte a b).sessX j = s.sessX j := rfl

theorem State.holdX_setHold (k : Nat) (x : PairHold) (j : Nat) : (s.setHold k x).holdX j = if j = k then x else s.holdX j :=
  SMap.get_set _ _ _ _ _

@[simp] theorem State.holdX_setHold_same (k : Nat) (x : PairHold) : (s.setHold k x).holdX k = x := by simp [State.holdX_setHold]

@[simp] theorem State.holdX_set (f : Fld) (v : Nat) (j : Nat) : (s.set f v).holdX j = s.holdX j := rfl
@[simp] theorem State.holdX_setEng (k : Nat) (x : EngX) (j : Nat) : (s.setEng k x).holdX j = s.holdX j := rfl
@[simp] theorem State.holdX_setGrp (k : Nat) (x : GroupX) (j : Nat) : (s.setGrp k x).holdX j = s.holdX j := rfl
@[simp] theorem State.holdX_setAxis (k : Nat) (x : AxisX) (j : Nat) : (s.setAxis k x).holdX j = s.holdX j := rfl
@[simp] theorem State.holdX_setCur (k : Nat) (x : CurX) (j : Nat) : (s.setCur k x).holdX j = s.holdX j := rfl
@[simp] theorem State.holdX_setClave (k : Nat) (x : ClaveX) (j : Nat) : (s.setClave k x).holdX j = s.holdX j := rfl
@[simp] theorem State.holdX_setHo (k : Nat) (x : HoX) (j : Nat) : (s.setHo k x).holdX j = s.holdX j := rfl
@[simp] theorem State.holdX_setSnare (k : Nat) (x : SnareX) (j : Nat) : (s.setSnare k x).holdX j = s.holdX j := rfl
@[simp] theorem State.holdX_setFb (k : Nat) (x : FbX) (j : Nat) : (s.setFb k x).holdX j = s.holdX j := rfl
@[simp] theorem State.holdX_setEcho (k : Nat) (x : EchoX) (j : Nat) : (s.setEcho k x).holdX j = s.holdX j := rfl
@[simp] theorem State.holdX_setCan (k : Nat) (x : CanX) (j : Nat) : (s.setCan k x).holdX j = s.holdX j := rfl
@[simp] theorem State.holdX_setSess (k : Nat) (x : Session) (j : Nat) : (s.setSess k x).holdX j = s.holdX j := rfl
@[simp] theorem State.holdX_wrByte (a : Nat) (b : Byte) (j : Nat) : (s.wrByte a b).holdX j = s.holdX j := rfl

theorem State.rdByte_wrByte (a : Nat) (b : Byte) (j : Nat) : (s.wrByte a b).rdByte j = if j = a then b else s.rdByte j :=
  SMap.get_set _ _ _ _ _

@[simp] theorem State.rdByte_wrByte_same (a : Nat) (b : Byte) : (s.wrByte a b).rdByte a = b := by simp [State.rdByte_wrByte]

@[simp] theorem State.rdByte_set (f : Fld) (v : Nat) (j : Nat) : (s.set f v).rdByte j = s.rdByte j := rfl
@[simp] theorem State.rdByte_setEng (k : Nat) (x : EngX) (j : Nat) : (s.setEng k x).rdByte j = s.rdByte j := rfl
@[simp] theorem State.rdByte_setGrp (k : Nat) (x : GroupX) (j : Nat) : (s.setGrp k x).rdByte j = s.rdByte j := rfl
@[simp] theorem State.rdByte_setAxis (k : Nat) (x : AxisX) (j : Nat) : (s.setAxis k x).rdByte j = s.rdByte j := rfl
@[simp] theorem State.rdByte_setCur (k : Nat) (x : CurX) (j : Nat) : (s.setCur k x).rdByte j = s.rdByte j := rfl
@[simp] theorem State.rdByte_setClave (k : Nat) (x : ClaveX) (j : Nat) : (s.setClave k x).rdByte j = s.rdByte j := rfl
@[simp] theorem State.rdByte_setHo (k : Nat) (x : HoX) (j : Nat) : (s.setHo k x).rdByte j = s.rdByte j := rfl
@[simp] theorem State.rdByte_setSnare (k : Nat) (x : SnareX) (j : Nat) : (s.setSnare k x).rdByte j = s.rdByte j := rfl
@[simp] theorem State.rdByte_setFb (k : Nat) (x : FbX) (j : Nat) : (s.setFb k x).rdByte j = s.rdByte j := rfl
@[simp] theorem State.rdByte_setEcho (k : Nat) (x : EchoX) (j : Nat) : (s.setEcho k x).rdByte j = s.rdByte j := rfl
@[simp] theorem State.rdByte_setCan (k : Nat) (x : CanX) (j : Nat) : (s.setCan k x).rdByte j = s.rdByte j := rfl
@[simp] theorem State.rdByte_setSess (k : Nat) (x : Session) (j : Nat) : (s.setSess k x).rdByte j = s.rdByte j := rfl
@[simp] theorem State.rdByte_setHold (k : Nat) (x : PairHold) (j : Nat) : (s.setHold k x).rdByte j = s.rdByte j := rfl

/-! ### Runs of bytes -/

/-- A run of bytes written from `a` on leaves every byte outside it as it was. -/
theorem State.rdByte_wrBytes_out (l : List Byte) (a j : Nat) (h : j < a ∨ a + l.length ≤ j) : (s.wrBytes a l).rdByte j = s.rdByte j := by
  induction l generalizing s a with
  | nil => rfl
  | cons b r ih =>
    simp only [List.length_cons] at h
    rw [State.wrBytes, ih _ _ (by omega), State.rdByte_wrByte, if_neg (by omega)]

/-! What writing words anew leaves as it was (R595). -/

@[simp] theorem State.eccHeal_regs (lo hi : Nat) : (s.eccHeal lo hi).regs = s.regs := rfl
@[simp] theorem State.eccHeal_mem (lo hi : Nat) : (s.eccHeal lo hi).mem = s.mem := rfl
@[simp] theorem State.eccHeal_led (lo hi : Nat) : (s.eccHeal lo hi).led = s.led := rfl
@[simp] theorem State.eccHeal_grp (lo hi : Nat) : (s.eccHeal lo hi).grp = s.grp := rfl
@[simp] theorem State.eccHeal_clave (lo hi : Nat) : (s.eccHeal lo hi).clave = s.clave := rfl
@[simp] theorem State.rdByte_eccHeal (lo hi a : Nat) : (s.eccHeal lo hi).rdByte a = s.rdByte a := rfl

/-- The byte at offset `i` of a run just written. -/
theorem State.rdByte_wrBytes_in (l : List Byte) (a i : Nat) (h : i < l.length) : (s.wrBytes a l).rdByte (a + i) = l[i] := by
  induction l generalizing s a i with
  | nil => simp at h
  | cons b r ih =>
    rw [State.wrBytes]
    cases i with
    | zero => rw [State.rdByte_wrBytes_out _ _ _ _ (by omega)]; simp
    | succ i =>
      have := ih (s.wrByte a b) (a + 1) i (by simpa using h)
      rw [show a + (i + 1) = a + 1 + i by omega, this]; rfl

/-- A cleared range reads zero; every byte outside it is as before. -/
theorem State.rdByte_clearRange (a b j : Nat) : (s.clearRange a b).rdByte j = if a ≤ j ∧ j < b then 0 else s.rdByte j := by
  unfold State.clearRange State.rdByte
  simp only
  induction s.mem with
  | nil => simp [SMap.get, memReset]
  | cons c r ih =>
    obtain ⟨k, v⟩ := c
    by_cases hk : a ≤ k ∧ k < b
    · simp only [List.filter_cons, hk, decide_true, Bool.and_self, Bool.not_true, Bool.false_eq_true, if_false, ih, SMap.get]
      by_cases hj : k = j
      · subst hj; simp [hk]
      · simp [hj]
    · have : (!(decide (a ≤ k) && decide (k < b))) = true := by simp; omega
      simp only [List.filter_cons, this, if_true, SMap.get, ih]
      by_cases hj : k = j
      · subst hj; simp [hk]
      · simp [hj]

end Sys2Proof.Machine
end

