-- ==== Sys2Proof/Laws/Engine.lean ====
section
/-!
SUPPORT. Laws/Engine.lean: what the shared operations of the engine instructions do (Aingoca.lean), for claims about single
instructions.
-/
namespace Sys2Proof.Machine

variable {s t u : State} {e : Nat}

/-! ### Confinement to one engine -/

theorem Only.refl (l : List Comp) (s : State) : Only l s s := by intro c _; cases c <;> rfl

theorem Only.trans {l : List Comp} (h : Only l s t) (g : Only l t u) : Only l s u := by
  intro c hc
  have h := h c hc
  have g := g c hc
  cases c <;> exact g.trans h

theorem OnlyEng.refl (s : State) (e : Nat) : OnlyEng s s e := ⟨Only.refl _ _, fun _ _ => rfl⟩

theorem OnlyEng.trans (h : OnlyEng s t e) (g : OnlyEng t u e) : OnlyEng s u e :=
  ⟨h.1.trans g.1, fun k hk => (g.2 k hk).trans (h.2 k hk)⟩

theorem OnlyEng.setEng (s : State) (e : Nat) (x : EngX) : OnlyEng s (s.setEng e x) e :=
  ⟨by intro c hc; cases c <;> first | rfl | exact absurd (List.mem_singleton.mpr rfl) hc,
    fun k hk => by simp [State.engX_setEng, hk]⟩

theorem OnlyEng.modEng (s : State) (e : Nat) (f : EngX → EngX) : OnlyEng s (s.modEng e f) e := OnlyEng.setEng s e _

theorem State.engX_modEng_same (s : State) (e : Nat) (f : EngX → EngX) : (s.modEng e f).engX e = f (s.engX e) := by
  simp [State.modEng]

/-! ### One instruction -/

/-- A register operation of an engine whose run goes on: the engine is what the operation makes of it, one clock later and at its
next word. -/
theorem State.regOp_goesOn {e : Fin 17} (h : GoesOn s e) (f : EngX → EngX) (hp : (f (s.engX e)).pc = (s.engX e).pc)
    (hr : (f (s.engX e)).roll = (s.engX e).roll) :
    ∃ t, s.run e (fun s => s.regOp e f) = .next t ∧ OnlyEng s t e ∧
      t.engX e = { (f (s.engX e)) with
        clk := (s.engX e).clk + 1, lastAcc := none, roll := (rollNext (s.engX e).pc (s.engX e).roll).1,
        pc := (rollNext (s.engX e).pc (s.engX e).roll).2 } := by
  obtain ⟨hx, hn⟩ := h
  have hw : (s.engX e).accWait [] none = 0 := by unfold EngX.accWait; cases (s.engX e).lastAcc <;> simp
  refine ⟨s.regOp e f, by simp [State.run, hx], ?_⟩
  unfold State.regOp State.simple State.plain State.advance State.spend
  simp only [State.engX_modEng_same, hp, hr, hw, if_neg (Nat.not_le.mpr hn)]
  refine ⟨?_, by simp⟩
  exact ((OnlyEng.modEng _ _ _).trans ((OnlyEng.modEng _ _ _).trans (OnlyEng.modEng _ _ _))).trans (OnlyEng.setEng _ _ _)

end Sys2Proof.Machine
end

