-- ==== Sys2Proof/WellFormed.lean ====
section
/-!
DEFINITION. WellFormed.lean: commands that the outside can send: what a wire, a frame or an access can carry. A meaning is
total all the same; these are the commands that the manual's transports deliver.
-/
namespace Sys2Proof

/-- The payload that a transport can carry (R501, R482, R517): a UDP datagram in one Ethernet frame, 1400 bytes elsewhere. -/
def Msg.wf (m : Msg) : Bool :=
  match m.src with
  | .udp _ _ _ => decide (m.payload.length ≤ 1456)
  | _ => decide (m.payload.length ≤ 1400)

/-- An IMAGE_WRITE message whose payload names the phase of its row (Table BXP-6). -/
def Msg.isPhase (m : Msg) (k : Nat) : Bool := m.wf && decide (m.payload.head?.map BitVec.toNat = some k)

/-- Bit 0 of FLAGS of an I2C_XFER request: RECOVER (Table BXP-6). -/
def Msg.recover (m : Msg) : Bool := (m.payload.getD 1 0).getLsbD 0

/-- A data frame that a CAN bus can carry (R449, Table CAN-1): identifier, format and data length. -/
def CanFrame.wf (f : CanFrame) : Bool :=
  (f.xtd || decide (f.id.toNat < 2048))
    && (if f.fd then !f.rtr && ([0, 1, 2, 3, 4, 5, 6, 7, 8, 12, 16, 20, 24, 32, 48, 64] : List Nat).contains f.data.length
        else decide (f.data.length ≤ 8) && !f.brs && !f.esi)

/-- An address in one of the alias windows of shared SRAM (R134). -/
def isAliasAddr (a : Nat) : Bool :=
  (decide (0x22000000 ≤ a) && decide (a < 0x22200000)) || (decide (0x24000000 ≤ a) && decide (a < 0x24200000))

/-- The commands that the outside can send. -/
def Instr.wf : Instr → Bool
  | .arm m | .disarm m | .clearFault m | .restart m | .clearStartCount m | .bufAlloc m | .bufFree m | .engineTest m
  | .engineMigrate m | .coefWrite m | .coefSwap m | .groupEnable m | .groupDisable m | .hold m | .resume m | .stop m | .moveAbs m
  | .moveRel m | .jog m | .pathAppend m | .pathFlush m | .gearSet m | .camSet m | .followSet m | .claveAppend m | .claveFlush m
  | .snareArm m | .snareRead m | .fieldResume m | .canRecover m | .sessionOpen m | .ping m | .readReg m | .writeReg m | .readBlock m
  | .writeBlock m | .ledgerRead m | .eventSubscribe m => m.wf
  | .imageWriteErase m => m.isPhase 0
  | .imageWriteBegin m => m.isPhase 1
  | .imageWriteData m => m.isPhase 2
  | .imageWriteCommit m => m.isPhase 3
  | .imageWriteAbort m => m.isPhase 4
  | .i2cXfer m => m.wf && !m.recover
  | .i2cBusRecovery m => m.wf && m.recover
  | .dormantResponderTransaction _ w _ => decide (w.length ≤ 65535)
  | .aliasWrite _ a _ => isAliasAddr a.toNat
  | .pairLowRead _ a | .pairLowWrite _ a _ => decide (a.toNat % 4 = 0)
  | .pairHighRead _ a | .pairHighWrite _ a _ => decide (a.toNat % 4 = 0)
  | .xmemScrub _ ue _ => match ue with | some o => decide (o.toNat % 4 = 0) | none => true
  | .sramScrub _ ue _ => match ue with | some o => decide (o.toNat % 4 = 0) | none => true
  | .engFail _ c _ => decide (1 ≤ c.toNat) && decide (c.toNat ≤ 8)
  | .hoModeWrite _ _ k => decide (k.toNat ≤ 2)
  | .ethFrameReceive _ f _ _ => decide (14 ≤ f.length) && decide (f.length ≤ 16384)
  | .icmpEchoRequest _ _ _ _ d => decide (4 ≤ d.length) && decide (d.length ≤ 1496)
  | .canFrameReceive _ f => f.wf
  | .canError _ k => decide (1 ≤ k.lec.toNat) && decide (k.lec.toNat ≤ 6)
  | .i2cSWrite _ d => decide (d.length ≤ 65535)
  | .i2cTransferDone r _ _ _ d => decide (r.toNat ≤ 7) && decide (d.length ≤ 255)
  | _ => true

end Sys2Proof
end

