-- ==== Sys2Proof/Tests/Slice0.lean ====
section
/-!
SUPPORT. Slice0.lean: commands that WellFormed refuses, states that meet the hypotheses of the statements, and small tests whose
expected values come from the spec.
-/
namespace Sys2Proof.Tests
open Sys2Proof.Machine

set_option Elab.async false

/-! ### States, messages and engines for the tests -/

/-- A state with some register fields at other values. -/
def at_ (l : List (Fld × Nat)) (s : State := State.reset) : State := l.foldl (fun s p => s.set p.1 p.2) s

/-- A message from CAN channel 0 for an endpoint, with its CRC, tag 7 and SEQ 5. -/
def say (op : Nat) (ep : Fin 17) (payload : List Nat) : Msg :=
  let m : Msg := { ep := ep, src := .can 0, version := 1, flags := 6, group := .ofNat 8 (groupByte ep), seq := 5,
                   len := .ofNat 16 payload.length, tag := 7, crc := 0, payload := payload.map (BitVec.ofNat 8) }
  { m with crc := .ofNat 32 (msgCrc op m) }

/-- Sessions with CAN channel 0 at the device endpoint and at group 0. -/
def talk (l : List (Fld × Nat)) : State :=
  { at_ ([(Reg.ETH_DEV_SRC_KIND 0, 2), (Reg.SYS_BXP_SESSION_OPEN 0, 1), (Reg.SYS_BXP_SESSION_TAG 0, 7), (Reg.SYS_BXP_SESSION_OPEN 16, 1),
      (Reg.SYS_BXP_SESSION_TAG 16, 7)] ++ l) with sess := [(0, { src := .can 0 }), (16, { src := .can 0 })] }

/-- Engine 16 is ACTIVE for group 15 and stands as `x`. -/
def code (x : EngX) (l : List (Fld × Nat) := []) : State :=
  { at_ ([(Reg.ENG_STATE_STATE 16, esActive), (Reg.ENG_STATE_GROUP 16, 15), (Reg.ENG_STATE_GVALID 16, 1), (Reg.GRP_ENGINE 15, 16),
      (Reg.GRP_ENG_CFG_SERVED 15, 1)] ++ l) with eng := [(16, x)] }

/-- A run that stands at the last word but one of PM, with pointers into the last words of DM. -/
def runX : EngX := { running := true, fastDone := false, pc := 8190, d := Vector.replicate 8 0x80000000, p := Vector.replicate 8 0x1FFF }

/-- The checks that make a message accepted, as one decidable statement. -/
theorem accepted_of {s : State} {op : Nat} {m : Msg} (h : s.awake = true ∧ s.live = true ∧ s.route m = m ∧ m.version = 1 ∧
    m.crc.toNat = msgCrc op m ∧ m.len.toNat = m.payload.length ∧ m.payload.length ≤ 1400 ∧ m.flags.toNat < 8 ∧
    (bit m.flags.toNat 1 = true ∧ bit m.flags.toNat 2 = true) ∧ m.group.toNat = groupByte m.ep ∧ (m.ep.val = 16 → s.listed m.src = true) ∧
    op ∈ knownOps ∧ (m.ep.val < 16 → op ∉ deviceOps) ∧ (m.ep.val = 16 → op ∉ groupOps) ∧ s.awaitCount m.ep < 32 ∧
    (1 < op → s.inSession m = true) ∧ (1 < op → s.get (Reg.SYS_BXP_LAST_SEQ m.ep) < m.seq.toNat) ∧ lengthOk op m = true ∧
    fieldBad op m (s.consume op m) = none) : Accepted s op m := by
  obtain ⟨h1, h2, h3, h4, h5, h6, h7, h8, h9, h10, h11, h12, h13, h14, h15, h16, h17, h18, h19⟩ := h
  exact ⟨h1, h2, h3, h4, h5, h6, h7, h8, h9, h10, h11, h12, h13, h14, h15, h16, h17, h18, h19⟩

/-- The invariant of a state in whose present clock no event has been posted, as one decidable statement. -/
theorem inv_of {s : State} (h : Memory.wf s.mem = true ∧ SMap.wf regReset s.regs = true ∧ SMap.wf (fun _ => {}) s.eng = true ∧
    SMap.wf (fun _ => {}) s.grp = true ∧ SMap.wf (fun _ => {}) s.axis = true ∧ SMap.wf (fun _ => {}) s.cur = true ∧
    SMap.wf (fun _ => {}) s.clave = true ∧ SMap.wf (fun _ => {}) s.ho = true ∧ SMap.wf (fun _ => {}) s.snare = true ∧
    SMap.wf (fun _ => {}) s.fb = true ∧ SMap.wf (fun _ => {}) s.echo = true ∧ SMap.wf (fun _ => {}) s.can = true ∧
    SMap.wf (fun _ => {}) s.sess = true ∧ SMap.wf (fun _ => {}) s.holds = true ∧ SMap.wf (fun _ => 255) s.flash.cells = true ∧
    SMap.wf (fun _ => holderFree) s.pool.owner = true ∧ SMap.wf (fun _ => 0) s.pool.grants = true ∧
    SMap.wf (fun _ => 0) s.pool.written = true ∧ SMap.wf (fun _ => {}) s.field.pu = true ∧ SMap.wf (fun _ => {}) s.eth.ports = true ∧
    SMap.wf bucketReset s.eth.bucket = true ∧ evqUsed s.led.evq ≤ 1022 ∧ s.bk.fifo.length ≤ 8) (t : s.led.turn = none) : s.Inv := by
  obtain ⟨h1, h2, h3, h4, h5, h6, h7, h8, h9, h10, h11, h12, h13, h14, h15, h16, h17, h18, h19, h20, h21, h22, h23⟩ := h
  exact ⟨h1, h2, h3, h4, h5, h6, h7, h8, h9, h10, h11, h12, h13, h14, h15, h16, h17, h18, h19, h20, h21, h22,
    fun u hu => by (rw [t] at hu; cases hu), h23⟩

/-! ### Commands that no transport delivers -/

theorem test_wf_long_udp : (Instr.ping { say 1 0 [] with src := .udp 0 0 0, payload := List.replicate 1457 0 }).wf = false := by
  simp [Instr.wf, Msg.wf, -List.reduceReplicate]
theorem test_wf_long_can : (Instr.ping { say 1 0 [] with payload := List.replicate 1401 0 }).wf = false := by
  simp [Instr.wf, Msg.wf, say, -List.reduceReplicate]
theorem test_wf_phase : (Instr.imageWriteErase (say 0x7E 16 [1, 0, 0, 0])).wf = false ∧ (Instr.imageWriteBegin (say 0x7E 16 [])).wf = false ∧
    (Instr.imageWriteData (say 0x7E 16 [3])).wf = false ∧ (Instr.imageWriteCommit (say 0x7E 16 [4])).wf = false ∧
    (Instr.imageWriteAbort (say 0x7E 16 [0])).wf = false ∧ (Instr.imageWriteAbort (say 0x7E 16 [4])).wf = true := by decide +kernel
theorem test_wf_recover : (Instr.i2cXfer (say 0x74 16 [0, 1])).wf = false ∧ (Instr.i2cBusRecovery (say 0x74 16 [0, 0])).wf = false := by
  decide +kernel
theorem test_wf_i2c_length : (Instr.dormantResponderTransaction 0 (List.replicate 65536 0) 0).wf = false ∧
    (Instr.i2cSWrite 0 (List.replicate 65536 0)).wf = false := by simp [Instr.wf, -List.reduceReplicate]
theorem test_wf_address : (Instr.aliasWrite .device 0x20000000 0).wf = false ∧ (Instr.pairLowRead .device 2).wf = false ∧
    (Instr.pairLowWrite .device 1 0).wf = false ∧ (Instr.pairHighRead .device 3).wf = false ∧ (Instr.pairHighWrite .device 2 0).wf = false ∧
    (Instr.xmemScrub 0 (some 2) none).wf = false ∧ (Instr.sramScrub 0 (some 1) none).wf = false := by decide +kernel
theorem test_wf_codes : (Instr.engFail 0 0 0).wf = false ∧ (Instr.engFail 0 9 0).wf = false ∧ (Instr.hoModeWrite .device 0 3).wf = false ∧
    (Instr.canError 0 { transmitter := true, dataPhase := false, lec := 7 }).wf = false ∧ (Instr.i2cTransferDone 8 0 0 0 []).wf = false := by
  decide +kernel
theorem test_wf_frames : (Instr.ethFrameReceive 0 (List.replicate 13 0) true 0).wf = false ∧
    (Instr.ethFrameReceive 0 (List.replicate 16385 0) true 0).wf = false ∧ (Instr.icmpEchoRequest 0 0 0 0 [0, 0, 0]).wf = false ∧
    (Instr.icmpEchoRequest 0 0 0 0 (List.replicate 1497 0)).wf = false ∧ (Instr.i2cTransferDone 0 0 0 0 (List.replicate 256 0)).wf = false := by
  simp [Instr.wf, -List.reduceReplicate]
/-- A data frame of CAN. -/
def canF : CanFrame := { xtd := false, fd := false, brs := false, esi := false, rtr := false, id := 0x7FF, data := [1, 2], sof := 0 }
theorem test_wf_can : (Instr.canFrameReceive 0 { canF with id := 0x800 }).wf = false ∧
    (Instr.canFrameReceive 0 { canF with fd := true, data := List.replicate 9 0 }).wf = false ∧
    (Instr.canFrameReceive 0 { canF with data := List.replicate 9 0 }).wf = false ∧
    (Instr.canFrameReceive 0 { canF with brs := true }).wf = false ∧ (Instr.canFrameReceive 0 canF).wf = true := by decide +kernel

/-! ### The hypotheses of the statements are met -/

theorem witness_StepRunsFrontCommand : ∃ s : State, s.pending = [] := ⟨State.reset, rfl⟩

/-- Group 15 gives the last block back. -/
def giving : State :=
  { at_ [(Reg.POOL_STAT_FREE_TOTAL, 65535), (Reg.POOL_GRP_USED 15, 1)] with pool := { owner := [(65535, 15)], frees := [(15, 65535)] } }
theorem witness_EmptyQueueLetsOneClockPass :
    (State.reset.pending = [] ∧ State.reset.eth.frac = 0 ∧ State.reset.get Reg.ETH_PTP_RATE = 0 ∧ State.reset.awake = true ∧
      State.reset.pool.asks = [] ∧ State.reset.pool.frees = [] ∧ ∀ p, p < 16 → (State.reset.fbX p).check = none) ∧
    giving.pending = [] ∧ giving.awake = true ∧ giving.pool.asks = [] ∧ giving.pool.frees = [(15, 65535)] ∧ giving.owner 65535 = 15 ∧
      (∀ p, p < 16 → (giving.fbX p).check = none) ∧ giving.get Reg.POOL_STAT_FREE_TOTAL < 65536 ∧
      giving.get (Reg.POOL_GRP_USED 15) < 131072 := by decide +kernel

theorem witness_StepKeepsInvariant : (code runX).Inv := inv_of (by decide +kernel) rfl
theorem witness_CommandsStayInTheirComponents : giving.Inv := inv_of (by decide +kernel) rfl

theorem witness_AluResultsAndFlags : GoesOn (code runX) 16 ∧
    ∀ c ∈ [Instr.add 16 7 0 (.reg 7), .sub 16 0 7 (.imm 0xFFFF), .and 16 0 0 (.imm 0), .or 16 1 2 (.reg 3), .xor 16 1 1 (.reg 1), .not 16 0 7,
      .neg 16 0 0, .abs 16 0 0, .min 16 0 1 (.imm 0x8000), .max 16 0 1 (.reg 2), .asr 16 0 1 (.imm 0), .lsr 16 0 1 (.imm 31),
      .lsl 16 0 1 (.reg 7), .cmp 16 7 (.reg 7)], (aluTable (code runX) c).map AluRes.e = some 16 := by
  unfold GoesOn; decide +kernel

theorem witness_RegisterMoves : GoesOn (code runX) 16 ∧ GoesOn (code { runX with pc := 0, roll := [⟨0, 0, 2⟩] }) 16 := by
  unfold GoesOn; decide +kernel

/-- Memory operands whose address is the last word of DM. -/
def lastWord : MemOp := { p := 7, mode := .plain }
theorem witness_memory_operands : inDm lastWord runX ∧ inDm { p := 0, mode := .off 0x80 } runX ∧
    inDmXY (.mem { p := 3, mode := .addM }) runX ∧ inDmXY (.reg 7) runX := by
  unfold inDmXY inDm; decide +kernel

theorem witness_MultiplyAccumulate : GoesOn (code runX) 16 ∧
    ∀ k ∈ [0, 1], ∀ o ∈ [({ x := .reg 7, y := .reg 7, ux := false, uy := false } : MacOps),
        { x := .mem { p := 3, mode := .addM }, y := .mem { p := 0, mode := .inc }, ux := true, uy := true }],
      ∀ c ∈ [Instr.mpyf 16 k o, .mpyi 16 k o, .macf 16 k o, .maci 16 k o, .msuf 16 k o, .msui 16 k o],
        (macTable (code runX) c).map MacRes.e = some 16 := by
  unfold GoesOn; decide +kernel

theorem witness_AccumulatorResults : GoesOn (code runX) 16 ∧
    ∀ c ∈ [Instr.clr 16 1, .ldaf 16 0 (.reg 7), .ldai 16 0 (.mem lastWord), .lda64 16 1 (.pair 3), .lda64 16 1 (.mem lastWord), .adda 16 0,
      .suba 16 1, .nega 16 0], (accTable (code runX) c).map AccRes.e = some 16 := by
  unfold GoesOn; decide +kernel

theorem witness_AccumulatorStores : GoesOn (code runX) 16 ∧ ((code runX).grpX ((code runX).grpOf 16)).snapRun = false ∧ inDm lastWord runX ∧
    inDm lastWord ((code runX).engX 16) := by
  unfold GoesOn inDm; decide +kernel
theorem witness_LoadsFromDm : GoesOn (code runX) 16 ∧ inDm { p := 0, mode := .off 0x80 } ((code runX).engX 16) := by
  unfold GoesOn inDm; decide +kernel
theorem witness_StoresToDm : GoesOn (code runX) 16 ∧ inDm { p := 7, mode := .dec } ((code runX).engX 16) ∧
    ((code runX).grpX ((code runX).grpOf 16)).snapRun = false := by
  unfold GoesOn inDm; decide +kernel

theorem witness_JumpsAndCalls : (code runX).executes 16 = true ∧ runX.atEnd = false ∧ condHolds 0 runX.sr = true ∧
    condHolds 1 runX.sr = false ∧ runX.pc + 1 < 8192 := by decide +kernel

/-- A run in three, or four, Roll levels none of which ends where it stands. -/
def rolling (k pc : Nat) : EngX := { runX with pc := pc, roll := List.replicate k ⟨10, 20, 2⟩ }
theorem witness_RollLoops :
    ((code (rolling 3 4095)).executes 16 = true ∧ (rolling 3 4095).atEnd = false ∧ (rolling 3 4095).pc + (4095#12).toNat + 1 < 8192 ∧
      (rolling 3 4095).roll.length < 4) ∧
    ((rolling 3 4096).atEnd = false ∧ 8192 ≤ (rolling 3 4096).pc + (4095#12).toNat + 1 ∧ (rolling 3 4096).pc < 8192) ∧
    ((code (rolling 4 0)).executes 16 = true ∧ (rolling 4 0).atEnd = false ∧ (rolling 4 0).pc + (0#12).toNat + 1 < 8192 ∧
      (rolling 4 0).roll.length = 4) := by decide +kernel

theorem witness_DoneCommits : ∃ s : State, s = code { runX with kind := 1, clk := 65534, staged := [.iq 0 5, .reg 0x20000 1] } ∧
    s.executes 16 = true ∧ (s.engX 16).atEnd = false ∧ s.compared 16 = false ∧
    (∀ a v, StagedW.reg a v ∈ (s.engX 16).staged → isLoopFlt a = false) ∧ (s.engX 16).kind = 1 ∧ (s.engX 16).clk + 1 < 65536 ∧
    s.get (Reg.ENG_RUN_MAX 16) < 65536 ∧ s.engIn 16 esActive = true := by
  refine ⟨_, rfl, by decide +kernel, by decide +kernel, by decide +kernel, ?_, by decide +kernel⟩
  intro a v h
  have h2 : ∀ w ∈ ([.iq 0 5, .reg 0x20000 1] : List StagedW), ∀ a v, w = .reg a v → isLoopFlt a = false := by
    intro w hw a v e
    rcases List.mem_cons.1 hw with rfl | hw
    · cases e
    · rcases List.mem_cons.1 hw with rfl | hw
      · cases e; decide
      · cases hw
  exact h2 _ h a v rfl

/-- A run whose D[1] addresses a byte. -/
def reaching (a : Nat) : State :=
  code { runX with d := (Vector.replicate 8 0).set 1 (.ofNat 32 a) } [(Reg.GRP_OWN_AXES 15, 2 ^ 31)]
theorem witness_SystemLoadsAndStores : (∀ a ∈ [dmAt 16, dmAt 16 + 0x7FFF, 0x27FFC, 0x20000, 0x20133FFF, 0, 0x7FFFFFFF, 0xFFFFFFFF],
      GoesOn (reaching a) 16 ∧ (reaching a).compared 16 = false ∧ ((reaching a).engX 16).d[1].toNat = a ∧ (reaching a).flt.latent = []) ∧
    (dmAt 16 ≤ dmAt 16 + 0x7FFC ∧ dmAt 16 + 0x7FFC < dmAt 16 + 0x8000) ∧
    (stagedAddr 0x27C00 = true ∧ (reaching 0x27C00).window 0x27C00 (.engine 16) = .rw) ∧
    (stagedAddr 0x20000 = true ∧ (reaching 0x20000).window 0x20000 (.engine 16) ≠ .rw) ∧
    ((reaching 0).grpOf 16 < 16 ∧ (reaching 0).engGroup 16 = some ((reaching 0).grpOf 16) ∧
      0x20130000 + 0x400 * (reaching 0).grpOf 16 ≤ 0x20133FFC ∧ 0x20133FFC < 0x20130400 + 0x400 * (reaching 0).grpOf 16) ∧
    (∀ a ∈ [0, 0x7FFFFFFC], (reaching a).window a (.engine 16) = .none_ ∧ aliasOf a = none ∧ a < 0x80000000 ∧ stagedAddr a = false) ∧
    State.reset.executes 16 = false := by
  unfold GoesOn; decide +kernel

/-- A run that reads word `w` of the local data space, for a group with the axes of a mask. -/
def viewing (w axes : Nat) (com : List StagedW := []) : State :=
  code { runX with p := Vector.replicate 8 (.ofNat 16 w), committed := com } [(Reg.GRP_OWN_AXES 15, axes)]
theorem witness_AxisView : (∀ w ∈ [0x2000, 0x2001, 0x2003, 0x2005, 0x2007, 0x2009, 0x200A, 0x200B, 0x200C, 0x2010, 0x2011, 0x27FF, 0x2900,
      0x2BFF, 0x2F00, 0xFFFF], ∀ ax ∈ [0, 1, 0xFFFF0000], GoesOn (viewing w ax) 16 ∧ (viewing w ax).compared 16 = false ∧
        memAddr lastWord ((viewing w ax).engX 16) = w) ∧
    ((viewing 0x2000 0).axesOf ((viewing 0x2000 0).grpOf 16))[(0x2000 - 0x2000) / 0x100]? = none ∧
    ((viewing 0x200C 1).axesOf ((viewing 0x200C 1).grpOf 16))[(0x200C - 0x2000) / 0x100]? = some 0 ∧
    ((viewing 0x27FF 0xFFFF0000).axesOf ((viewing 0x27FF 0xFFFF0000).grpOf 16))[(0x27FF - 0x2000) / 0x100]? = some 23 ∧
    ((viewing 0x2010 1 [.iq 0 9]).engX 16).committed = [] ++ [.iq 0 9] ++ [] := by
  unfold GoesOn; decide +kernel

theorem witness_EngineMarksCausesAndFrees : ∃ s : State, s = { code runX with pool := { owner := [(65535, 15)] } } ∧ s.executes 16 = true ∧
    s.engIn 16 esActive = true ∧ s.compared 16 = false ∧ s.grpOf 16 < 16 ∧ s.owner (0#16).toNat ≠ s.grpOf 16 ∧
    s.owner (0xFFFF#16).toNat = s.grpOf 16 := ⟨_, rfl, by decide +kernel⟩

/-- Group 15 has asked for a block, with `free` blocks left. -/
def asking (free : Nat) : State := { code runX [(Reg.POOL_STAT_FREE_TOTAL, free)] with pool := { asks := [⟨16, 15, 100⟩] } }
theorem witness_EnginePoolRequests :
    ((code runX).executes 16 = true ∧ (code runX).compared 16 = false) ∧ (asking 0).Inv ∧ (asking 65536).Inv ∧
    (∀ k ∈ [0, 65536], (asking k).pending = [] ∧ (asking k).up = true ∧ (asking k).pool.asks = [⟨16, 15, 100⟩] ∧ (asking k).pool.frees = [] ∧
      (asking k).engIn 16 esShadow = false ∧ (∀ p, p < 16 → ((asking k).fbX p).check = none) ∧ (asking k).get Reg.POOL_STAT_FREE_TOTAL ≤ 65536 ∧
      (asking k).get (Reg.POOL_GRP_USED 15) < 65536 ∧ (asking k).get (Reg.POOL_GRP_NOBUF 15) < 2 ^ 32 - 1) ∧
    Grantable (asking 65536) 15 1 ∧ ¬ Grantable (asking 0) 15 1 ∧
    (State.reset.pool.answers = [] ∧ State.reset.pool.asks = [] ∧ State.reset.pool.frees = []) ∧
    ∃ s : State, s = { code runX with pool := { answers := [⟨16, some 65535, 4⟩, ⟨16, none, 5⟩] } } ∧ s.up = true ∧
      s.pool.answers = ⟨16, some 65535, 4⟩ :: [⟨16, none, 5⟩] := by
  refine ⟨by decide +kernel, inv_of (by decide +kernel) rfl, inv_of (by decide +kernel) rfl, by decide +kernel, ?_, ?_, by decide +kernel,
    ⟨_, rfl, by decide +kernel⟩⟩ <;> unfold Grantable <;> decide +kernel

/-- An engine of group 0 with an entry of the Clave, all bytes `b`, but action 0 in the direction up where `b` is 0. -/
def offering (b : Byte) : State :=
  code { runX with entry := if b = 0 then List.replicate 9 0 ++ [4] ++ List.replicate 6 0 else List.replicate 16 b }
theorem witness_EngineClaveAppend :
    (∀ b ∈ [0, 0xFF], (offering b).executes 16 = true ∧ (offering b).engIn 16 esActive = true ∧ (offering b).compared 16 = false) ∧
    ((offering 0xFF).entryBad 15 ((offering 0xFF).engX 16).entry).isSome = true ∧
    ((offering 0).entryBad 15 ((offering 0).engX 16).entry).isSome = false ∧
    ((offering 0).claveX 15).queue.length + ((offering 0).claveX 15).goWait.length < queueMax := by decide +kernel
/-- There are queues of any length. -/
theorem long_queue (n : Nat) : ∃ c : ClaveX, n ≤ c.queue.length + c.goWait.length :=
  ⟨{ queue := List.replicate n (ClEntry.ofBytes []) }, by simp [-List.reduceReplicate]⟩
theorem witness_EngineClaveAppend_full : ∃ s : State, queueMax ≤ (s.claveX 15).queue.length + (s.claveX 15).goWait.length :=
  let ⟨c, h⟩ := long_queue queueMax
  ⟨{ offering 0 with clave := [(15, c)] }, h⟩

/-- Engine 16 in a state for no group. -/
def resting (st : Nat) : State := { at_ [(Reg.ENG_STATE_STATE 16, st)] with eng := [(16, { pc := 8191 })] }
/-- Engine 0 runs for group 0; engine 16 is SPARE and can take over. -/
def served (l : List (Fld × Nat)) : State :=
  { at_ ([(Reg.ENG_STATE_STATE 0, esActive), (Reg.ENG_STATE_STATE 16, esSpare)] ++ l) with
    eng := [(0, { runX with pc := 8191 })], grp := [(0, { snapDone := some 1, snapBase := 0x7800, snapLen := 0x800 })] }
/-- Engine 16 shadows engine 0 for group 0, in a phase of the migration. -/
def shadowing (phase : Nat) (l : List (Fld × Nat)) : State :=
  { at_ ([(Reg.ENG_STATE_STATE 0, esActive), (Reg.ENG_STATE_STATE 16, esShadow)] ++ l) with
    eng := [(0, runX), (16, { runX with pc := 8191 })], grp := [(0, { mig := { phase := phase, target := 16 } })],
    tick_ := { begun := true } }
theorem witness_EngineFailures :
    ((resting esSpare).up = true ∧ (resting esSpare).engIn 16 esSpare = true ∧ (resting esTesting).engIn 16 esTesting = true ∧
      (resting esSpare).migOf 16 = none ∧ ((resting esSpare).engX 16).pc < 8192 ∧ (resting esOff).engIn 16 esOff = true ∧
      (resting esQuarantine).engIn 16 esQuarantine = true ∧ (resting esTakeover).engIn 16 esTakeover = true ∧
      ((resting esOff).engX 16).running = false) ∧
    (∃ s, s = served [(Reg.ENG_STATE_STATE 16, esOff)] ∧ s.up = true ∧ s.grpOf 0 = 0 ∧ s.engIn 0 esActive = true ∧ (s.engX 0).running = true ∧
      (s.engX 0).pc < 8192 ∧ (s.grpX 0).mig.phase = 0 ∧ (s.grpX 0).react < 4 ∧ s.matching 0 = none ∧ reacts (s.gstate 0) = false) ∧
    (∃ s, s = served [(Reg.GRP_ENG_CFG_TAKEOVER 0, 1), (Reg.SYS_MODE_CODE, modeOperate), (Reg.GRP_STATE_STATE 0, gsMoving)] ∧
      s.grpOf 0 = 0 ∧ s.engIn 0 esActive = true ∧ (s.engX 0).running = true ∧ s.flt.latent = [] ∧ s.flag (Reg.GRP_ENG_CFG_TAKEOVER 0) = true ∧
      (s.grpX 0).memUe = false ∧ s.highest 0 esSpare = some 16 ∧ s.migOf 16 = none ∧ (s.grpX 0).snapBase + (s.grpX 0).snapLen ≤ 0x8000 ∧
      (s.grpX 0).snapLen ≤ 0x800 ∧ s.mode = modeOperate ∧ reacts (s.gstate 0) = true ∧ (s.grpX 0).snapDone = some 1) ∧
    (∃ s, s = shadowing 2 [] ∧ s.up = true ∧ s.migOf 16 = some 0 ∧ s.engIn 16 esShadow = true ∧ (s.engX 16).running = true ∧
      (s.engX 16).pc < 8192 ∧ (s.engX 16).unfinished = true) := by
  refine ⟨by decide +kernel, ⟨_, rfl, by decide +kernel⟩, ⟨_, rfl, by decide +kernel⟩, ⟨_, rfl, by decide +kernel⟩⟩
theorem witness_EngineFailures_inv : (served [(Reg.GRP_ENG_CFG_TAKEOVER 0, 1), (Reg.SYS_MODE_CODE, modeOperate)]).Inv :=
  inv_of (by decide +kernel) rfl

theorem witness_EngineChecksAndDeadlines :
    ((resting esSpare).up = true ∧ ((resting esSpare).engX 16).unfinished = false ∧ (resting esOff).engIn 16 esActive = false ∧
      (resting esOff).engIn 16 esSpare = false ∧ (resting esOff).engIn 16 esShadow = false ∧ (resting esTesting).migOf 16 = none) ∧
    (∃ s, s = code runX ∧ s.up = true ∧ s.grpOf 16 = 15 ∧ s.engIn 16 esActive = true ∧ (s.engX 16).unfinished = true ∧ (s.engX 16).misses = 0 ∧
      (s.grpX 15).take.phase ≠ 2 ∧ s.get (Reg.ENG_MISS_COUNT 16) < 2 ^ 32 - 1) := by
  refine ⟨by decide +kernel, ⟨_, rfl, by decide +kernel⟩⟩

theorem witness_EngineEntries :
    (∃ s, s = code { slowDue := true, clk := 500 } ∧ s.up = true ∧ (s.engX 16).slowDue = true ∧ (s.engX 16).fastDone = true ∧
      (s.engX 16).running = false ∧ s.engIn 16 esActive = true) ∧
    (∃ s, s = { shadowing 2 [(Reg.ENG_EVT_CAUSE 16, 1)] with
        eng := [(16, { slowDue := true })], grp := [(0, { mig := { phase := 2, target := 16 }, hasCode := true, entryEvent := 0 })] } ∧
      s.engIn 16 esShadow = true ∧ (s.engX 16).slowDue = true ∧ (s.engX 16).fastDone = true ∧ (s.engX 16).running = false) ∧
    (∃ s, s = { code {} [(Reg.ENG_EVT_CAUSE 16, 2 ^ 17)] with grp := [(15, { hasCode := true, entryEvent := 0xFFFE, snapRun := true, snapOk := true })],
                                                              tick_ := { begun := true } } ∧
      s.up = true ∧ s.engIn 16 esActive = true ∧ (s.grpX (s.grpOf 16)).hasCode = true ∧ (s.grpX (s.grpOf 16)).entryEvent ≠ 0xFFFF ∧
      (s.engX 16).running = false ∧ (s.engX 16).slowDue = false ∧ (s.engX 16).fastDone = true ∧ (s.engX 16).missed = false ∧
      s.tick_.begun = true ∧ s.get (Reg.ENG_EVT_CAUSE 16) ≠ 0 ∧ (s.grpX 15).snapRun = true ∧ (s.grpX 15).take.phase ≠ 1 ∧
      (s.grpX 15).snapOk = true) ∧
    ((code {}).get (Reg.ENG_EVT_CAUSE 16) = 0 ∧ ((code {}).engX 16).slowDue = false ∧ ((code {}).grpX 15).snapRun = false) := by
  refine ⟨⟨_, rfl, by decide +kernel⟩, ⟨_, rfl, by decide +kernel⟩, ⟨_, rfl, by decide +kernel⟩, by decide +kernel⟩

/-- A spare, engine 16, that was chosen for group 0 and is to run at the present slow boundary. -/
def taking (cold : Bool) (last : Nat) : State :=
  { at_ [(Reg.ENG_STATE_STATE 16, esTakeover), (Reg.ENG_STATE_GVALID 16, 1), (Reg.GRP_ENG_CFG_SERVED 0, 0),
      (Reg.GRP_ENG_COUNT_TAKEOVERS 0, 65534)] with
    clk := last, tick_ := { begun := true, slow := true, lastSlow := last, lastFast := last },
    grp := [(0, { take := { phase := 1, spare := 16, since := 100, cold := cold }, unapp := 3 })] }
theorem witness_TakeoverAndMigration :
    (taking false 2500).Inv ∧ (taking true 2500).Inv ∧
    (∀ c ∈ [false, true], (taking c 2500).up = true ∧ (taking c 2500).engIn 16 esTakeover = true ∧ (taking c 2500).grpOf 16 = 0 ∧
      ((taking c 2500).grpX 0).take.phase = 1 ∧ ((taking c 2500).grpX 0).take.spare = 16 ∧ (taking c 2500).tick_.slow = true ∧
      ((taking c 2500).grpX 0).take.since + 2400 ≤ (taking c 2500).tick_.lastSlow ∧
      (taking c 2500).get (Reg.GRP_ENG_COUNT_TAKEOVERS 0) < 2 ^ 16 - 1 ∧
      (taking c 2500).get (Reg.GRP_LOST 0) + ((taking c 2500).grpX 0).unapp < 2 ^ 32) ∧
    ((taking false 2499).tick_.lastSlow < ((taking false 2499).grpX ((taking false 2499).grpOf 16)).take.since + 2400) ∧
    (∃ s, s = { shadowing 1 [] with grp := [(0, { mig := { phase := 1, target := 16, start := 0 }, snapBase := 0x7800, snapLen := 0x800,
                                                  snapOk := true, snapDone := some 1 })] } ∧
      s.Inv ∧ s.up = true ∧ s.tick_.begun = true ∧ (s.grpX 0).mig.phase = 1 ∧ (s.grpX 0).mig.start ≤ s.get Reg.SYS_SLOW_COUNT ∧
      (s.grpX 0).mig.target < 17 ∧ s.engOf 0 < 17 ∧ (s.grpX 0).snapBase + (s.grpX 0).snapLen ≤ 0x8000 ∧ (s.grpX 0).snapLen ≤ 0x800 ∧
      (if (s.grpX 0).snapRun ∨ ¬ (s.grpX 0).snapOk then (s.grpX 0).snapNext else (s.grpX 0).snapDone.getD 0) < 2 ∧
      s.get (Reg.ENG_EVT_CAUSE (s.engOf 0)) < 2 ^ 32) ∧
    (∃ s, s = { shadowing 1 [] with grp := [(0, { mig := { phase := 1, target := 16, start := 1 } })] } ∧
      s.get Reg.SYS_SLOW_COUNT < (s.grpX 0).mig.start ∧ (s.grpX 0).mig.phase ≠ 3) ∧
    (∃ s, s = shadowing 3 [(Reg.GRP_ENG_COUNT_MIGRATIONS 0, 65534)] ∧ s.up = true ∧ (s.grpX 0).mig.phase = 3 ∧ s.engOf 0 = 0 ∧
      (s.grpX 0).mig.target = 16 ∧ s.get (Reg.GRP_ENG_COUNT_MIGRATIONS 0) < 2 ^ 16 - 1) := by
  refine ⟨inv_of (by decide +kernel) rfl, inv_of (by decide +kernel) rfl, by decide +kernel, by decide +kernel,
    ⟨_, rfl, inv_of (by decide +kernel) rfl, by decide +kernel⟩, ⟨_, rfl, by decide +kernel⟩, ⟨_, rfl, by decide +kernel⟩⟩

/-- A fast boundary that is no slow one, with one engine's committed values. -/
def transferring (l : List StagedW) : State :=
  { code { committed := l } with tick_ := { begun := true, inSlow := 1, lastFast := 0 } }
theorem witness_TransferAndBoundaries :
    State.reset.tick_.begun = false ∧
    (∀ l ∈ [([] : List StagedW), [.iq 0 5], [.iq 31 5], [.reg 0x20000 1]], (transferring l).up = true ∧ (transferring l).tick_.begun = true ∧
      (transferring l).tick_.inSlow ≠ 0 ∧ (transferring l).engIn 16 esActive = true ∧ ((transferring l).engX 16).committed = l ∧
      (∀ k, k < 17 → k ≠ 16 → ((transferring l).engX k).committed = []) ∧ (∀ n, n < 16 → ((transferring l).grpX n).take.phase ≠ 2) ∧
      (transferring l).engIn 16 esShadow = false ∧ (transferring l).tick_.lastFast = (transferring l).clk) ∧
    (∀ w ∈ ([.iq 31 5] : List StagedW), ∀ a v, w ≠ StagedW.reg a v) ∧ (at_ [(Reg.SYS_MODE_CODE, modeLoading)]).up = false := by
  refine ⟨rfl, by decide +kernel, ?_, by decide +kernel⟩
  intro w hw a v e
  rcases List.mem_cons.1 hw with rfl | hw
  · cases e
  · cases hw

/-- In a device mode. -/
def inMode (k : Nat) (l : List (Fld × Nat) := []) : State := at_ ((Reg.SYS_MODE_CODE, k) :: l)
theorem witness_SupplyAndTemperature :
    ((inMode modeDormant).mode = modeDormant ∧ (inMode modeDormant).awake = false) ∧
    ((inMode modeStandby).flt.supplyLow = false ∧ (inMode modeStandby).mode ≠ modeDormant ∧ (inMode modeStandby).live = true ∧
      (inMode modeFallback).live = false ∧ (inMode modeFallback).awake = true) ∧
    (∃ s, s = inMode modeOperate [(Reg.GRP_STATE_STATE 15, gsMoving), (Reg.FAULT_GRP_DEV_REACT 15 1, 4)] ∧ s.flt.supplyLow = false ∧
      s.devReact 15 0x101 = 4 ∧
      reacts (s.gstate 15) = true ∧ (s.grpX 15).react < 4) ∧
    ((19000#16).toNat ≤ 19000 ∧ 19000 < (19001#16).toNat ∧ 1000 < (1001#16).toInt ∧ ¬ 1000 < (1000#16).toInt) := by
  refine ⟨by decide +kernel, by decide +kernel, ⟨_, rfl, by decide +kernel⟩, by decide +kernel⟩

theorem witness_ClockLossAndReturn :
    ((inMode modeLoading).awake = true ∧ (inMode modeLoading).mode = modeLoading ∧ (inMode modeLoading).flt.clockLost = false) ∧
    (∃ s : State, s = { inMode modeOperate with axis := [(15, { phase := 3 })] } ∧ s.awake = true ∧ s.mode ≠ modeLoading ∧
      (s.axisX 15).phase ≠ 0 ∧ s.live = true) ∧
    ((inMode modeFallback).awake = true ∧ (inMode modeFallback).live = false) ∧
    (∃ s : State, s = { inMode modeSafeHold with flt := { clockLost := true, clockRec := some (4, modeOperate) } } ∧ s.awake = false ∧
      s.live = true ∧ s.flt.clockLost = true ∧ s.flt.clockRec = some (4, modeOperate)) := by
  refine ⟨by decide +kernel, ⟨_, rfl, by decide +kernel⟩, by decide +kernel, ⟨_, rfl, by decide +kernel⟩⟩

theorem witness_RailsAndBackupDomain :
    (State.reset.bk.onVbak = false ∧ State.reset.get (Reg.SYS_BKREG 0) < 2 ^ 32 ∧ State.reset.awake = true ∧
      State.reset.get (Reg.SYS_BKREG 12) < 2 ^ 32 ∧ State.reset.mode < 8 ∧ State.reset.get Reg.FAULT_GONG_COUNT < 2 ^ 32 - 1) ∧
    ∃ s : State, s = { inMode modeDormant with bk := { onVbak := true } } ∧ s.bk.onVbak = true ∧ s.awake = false := by
  refine ⟨by decide +kernel, ⟨_, rfl, by decide +kernel⟩⟩

theorem witness_WindowsAndAccessesOutside :
    (State.reset.awake = true ∧ State.reset.live = true ∧ State.reset.axisGroup 31 = none) ∧
    (at_ [(Reg.GRP_OWN_AXES 15, 2 ^ 31)]).axisGroup 31 = some 15 ∧ State.reset.engGroup 16 ≠ some 15 ∧
    (aliasOf ((0xFFC : BitVec 32).toNat / 4 * 4) = none ∧ State.reset.window ((0xFFC : BitVec 32).toNat / 4 * 4) (.group 15) ≠ .rw) ∧
    (aliasOf ((0x221FFFFF : BitVec 32).toNat / 4 * 4) = some (0x201FFFFC, true) ∧ State.reset.window 0x201FFFFC (.group 15) ≠ .rw ∧
      aliasOf ((0x24000000 : BitVec 32).toNat / 4 * 4) = some (0x20000000, false) ∧ State.reset.window 0x20000000 (.engine 16) ≠ .rw) ∧
    (aliasOf ((0x1F000 : BitVec 32).toNat / 4 * 4) = none ∧ State.reset.window ((0x1F000 : BitVec 32).toNat / 4 * 4) (.group 14) = .none_) := by
  decide +kernel

theorem witness_RtcIsSetAtItsNextTick :
    (State.reset.window 0x28 .device = .rw ∧ State.reset.window 0x2C .device = .rw ∧ State.reset.window 0x30 .device = .rw ∧
      State.reset.get Reg.SYS_RTC_CTL_SYNC < 2) ∧
    ((inMode modeDormant).awake = false ∧ State.reset.get Reg.SYS_RTC_CTL_LOAD = 0) ∧
    ((at_ [(Reg.SYS_RTC_CTL_LOAD, 1)]).awake = true ∧ (at_ [(Reg.SYS_RTC_CTL_LOAD, 1)]).get Reg.SYS_RTC_CTL_LOAD = 1) := by decide +kernel

/-- The backup event FIFO holds one entry with the greatest time, and the responder owns I2C-S. -/
def logged : State := { inMode modeDormant with bk := { fifo := [⟨2 ^ 48 - 1, 5, true⟩] } }
theorem witness_BackupFifoReads :
    (State.reset.window 0x64 (.group 15) ≠ .none_ ∧ State.reset.window 0x60 .device ≠ .none_ ∧ State.reset.bk.fifo = []) ∧
    (logged.bk.fifo = ⟨2 ^ 48 - 1, 5, true⟩ :: [] ∧ logged.responderOwns = true ∧ (0x2C : BitVec 7).toNat = logged.responderAddr ∧
      logged.bk.awake = true) := by decide +kernel

/-- The device endpoint has loaded a hold for the gate list base of port 1. -/
def holding : State := { State.reset with holds := [(16, { wrPair := some 0x8034C, wrHigh := 2 ^ 32 - 1 })], bk := { rtc := 2 ^ 48 - 1 } }
theorem witness_RegisterAccesses :
    ((0xB8 : BitVec 32).toNat = 0x80 + 4 * 14 ∧ (0xBC : BitVec 32).toNat = 0x80 + 4 * 15 ∧ State.reset.window 0xB8 .device = .rw ∧
      State.reset.window 0xBC .device = .rw ∧ State.reset.get (Reg.SYS_BKREG 15) < 2 ^ 32 ∧ State.reset.window 0 .device = .rw ∧
      State.reset.window 0x14 .device = .rw) ∧
    (∀ a ∈ [0, 0xFFC, 0x68], a % 4 = 0 ∧ a < 0x10000000 ∧ pairOf a = none ∧ a ≠ 0x20 ∧ a ≠ 0x64 ∧
      State.reset.window a (.group 15) = .ro ∧ State.reset.window a .device = .rw) ∧
    (State.reset.window 0x20 (.group 0) ≠ .none_ ∧ holding.bk.rtc < 2 ^ 48) ∧
    (State.reset.get Reg.SYS_SLOW_COUNT < 2 ^ 64 ∧ State.reset.window 0x310 .device ≠ .none_ ∧ State.reset.window 0x314 .device ≠ .none_) ∧
    ((0x8034C : BitVec 32).toNat = 0x8030C + 0x40 * 1 ∧ (0x80350 : BitVec 32).toNat = 0x8034C + 4 ∧ holding.window 0x8034C .device = .rw ∧
      holding.window 0x80350 .device = .rw ∧ holding.get (Reg.ETH_GCL_ADMIN_BASE 1) < 2 ^ 64 ∧ accessor .device = 16 ∧
      (holding.holdX 16).wrPair = some 0x8034C ∧ (holding.holdX 16).wrHigh < 2 ^ 32 ∧ (State.reset.holdX 16).wrPair ≠ some 0x8034C) := by
  decide +kernel

theorem witness_BitsThatAct :
    (∀ a ∈ [0xB0010, 0x1002C + 0x1000 * 15, 0x30020 + 0x200 * 16, 0x10044 + 0x1000 * 15, 0x60038 + 0x200 * 15, 0x600AC + 0x200 * 15, 0xC001C,
        0x80410 + 4 * 3, 0x90350 + 0x1000, 0x90104 + 0x1000 + 0x80, 0x80300 + 0x40], State.reset.window a .device = .rw) ∧
    (State.reset.get Reg.POOL_STAT_FREE_TOTAL ≤ 65536 ∧ State.reset.get Reg.LEDGER_EVQ_LEVEL_LEVEL < 2 ^ 11 ∧
      State.reset.get (Reg.ETH_SF_BLOCKED 3) < 2 ^ 32 ∧ ((State.reset.canX 1).fifo 1).length ≤ 64 ∧
      State.reset.get (Reg.ETH_GCL_CTL_MODE 1) < 4 ∧ State.reset.get (Reg.ETH_GCL_CTL_MODE 1) ≠ 2) ∧
    ((code {}).flag (Reg.GRP_ENG_CFG_SERVED 15) = true ∧ (code {}).shadowOf 15 = none ∧
      (code {}).get (Reg.ENG_EVT_CAUSE ((code {}).engOf 15)) < 2 ^ 32) ∧
    (∃ s, s = at_ [(Reg.CAN_TXCTL_BUSY 1, 1)] ∧ s.flag (Reg.CAN_TXCTL_BUSY 1) = true) ∧
    (∃ s, s = at_ [(Reg.CAN_FMT_FD 1, 1)] ∧ s.flag (Reg.CAN_TXCTL_BUSY 1) = false ∧ s.txbOk 1 = true) ∧
    (∃ s, s = at_ [(Reg.CAN_TXB 1 1, 9)] ∧ s.flag (Reg.CAN_TXCTL_BUSY 1) = false ∧ s.txbOk 1 = false) ∧
    (∃ s, s = at_ [(Reg.ETH_GCL_CTL_MODE 1, 2), (Reg.ETH_GCL_ADMIN_CYCLE 1, 0)] ∧ s.get (Reg.ETH_GCL_CTL_MODE 1) = 2 ∧ s.adminOk 1 = false) := by
  refine ⟨by decide +kernel, by decide +kernel, by decide +kernel, ⟨_, rfl, by decide +kernel⟩, ⟨_, rfl, by decide +kernel⟩,
    ⟨_, rfl, by decide +kernel⟩, ⟨_, rfl, by decide +kernel⟩⟩

theorem witness_ValueWrites :
    (∀ a ∈ [0x10104 + 0x1000 * 15, 0x78040 + 4 * 7, 0x60028 + 0x200 * 15, 0x6002C + 0x200 * 15, 0x20100 + 0x400 * 31, 0x70400 + 4 * 15,
        0x80100 + 0x40, 0x90000 + 0x1000], State.reset.window a .device = .rw) ∧
    (State.reset.get (Reg.GRP_FEED_OVR 15) < 2 ^ 11 ∧ State.reset.get (Reg.FIELD_HO_CFG_MODE 7) < 4 ∧ State.reset.axisGroup 31 = none ∧
      State.reset.get (Reg.AXIS_LOOP_FLT_DETAIL 31) < 2 ^ 16 ∧ State.reset.doBase 15 = 15) ∧
    (∃ s, s = at_ [(Reg.FIELD_PAR_PAIR, 128)] ∧ s.doBase 15 ≠ 15 ∧ s.doBase 14 = 14) ∧
    ((at_ [(Reg.ETH_PORT_STAT_LINK 1, 1)]).flag (Reg.ETH_PORT_STAT_LINK 1) = true) ∧
    ((at_ [(Reg.CAN_STAT_STATE 1, canDisabled)]).canState 1 = canDisabled ∧ (at_ [(Reg.CAN_STAT_STATE 1, canBusOff)]).canState 1 ≠ canDisabled) := by
  refine ⟨by decide +kernel, by decide +kernel, ⟨_, rfl, by decide +kernel⟩, by decide +kernel, by decide +kernel⟩

theorem witness_AliasesAndScrubs :
    (aliasOf ((0x22133FFF : BitVec 32).toNat / 4 * 4) = some (0x20133FFC, true) ∧ aliasOf ((0x24130000 : BitVec 32).toNat / 4 * 4) =
      some (0x20130000, false) ∧ State.reset.window 0x20133FFC .device = .rw ∧ State.reset.window 0x20130000 .device = .rw ∧
      State.reset.flt.latent = []) ∧
    ((inMode modeFallback).live = false ∧ (inMode modeDormant).awake = false ∧ State.reset.live = true ∧ State.reset.awake = true) ∧
    (sramUeGroup ((0x133FFF : BitVec 21).toNat / 4 * 4) = some 15 ∧ sramUeGroup ((0x1FFFFF : BitVec 21).toNat / 4 * 4) = none) := by
  decide +kernel

/-- A group message that fails each check of Table BXP-3 in turn. -/
def badMsgs : List Msg :=
  let g := say 0x12 0 []
  let fix := fun m : Msg => { m with crc := .ofNat 32 (msgCrc 0x12 m) }
  [{ g with version := 0 }, { g with version := 2 }, { g with crc := 0 }, fix { g with len := 1 }, fix { g with flags := 8 }, fix { g with flags := 2 },
    fix { g with group := 1 }]
theorem witness_MessageChecks :
    ((talk []).awake = true ∧ (talk []).live = true ∧ (∀ m ∈ badMsgs, (talk []).route m = m) ∧ (0x12, Instr.groupEnable (say 0x12 0 [])) ∈
      messageCommands (say 0x12 0 [])) ∧
    badMsgs.map (fun m => (m.version.toNat, decide (m.crc.toNat = msgCrc 0x12 m), m.len.toNat, m.flags.toNat, m.group.toNat)) =
      [(0, false, 0, 6, 0), (2, false, 0, 6, 0), (1, false, 0, 6, 0), (1, true, 1, 6, 0), (1, true, 0, 8, 0), (1, true, 0, 2, 0), (1, true, 0, 6, 1)] ∧
    (State.reset.listed (.can 0) = false ∧ (State.reset.flt.npSecond = State.reset.ntime / 1000000000 → State.reset.flt.npSent < 10)) ∧
    (0x10 ∈ deviceOps ∧ 0x12 ∈ groupOps ∧ (talk []).listed (.can 0) = true ∧ 0x62 ∉ groupOps ∧ 0x62 ∉ deviceOps) ∧
    (∃ s : State, s = { talk [] with awaiting := List.replicate 32 ⟨0x12, say 0x12 0 [], 0⟩ } ∧ 32 ≤ s.awaitCount 0) ∧
    ((talk []).awaitCount 0 < 32 ∧ State.reset.inSession (say 0x12 0 []) = false ∧ (talk []).inSession (say 0x12 0 []) = true ∧
      (say 0x12 0 []).seq.toNat ≤ (talk [(Reg.SYS_BXP_LAST_SEQ 0, 5)]).get (Reg.SYS_BXP_LAST_SEQ 0) ∧ ((talk []).sessX 0).lastStatus < 256) := by
  refine ⟨by decide +kernel, by decide +kernel, by decide +kernel, by decide +kernel, ⟨_, rfl, by decide +kernel⟩, by decide +kernel⟩

theorem witness_MessageAnswers : ∃ (m : Msg) (s : State) (r r' : Reply), m = say 0x12 0 [] ∧ s = talk [(Reg.SYS_BXP_LAST_SEQ 0, 5)] ∧
    r = s.ok [] ∧ r' = { r with restart := true } ∧ r.proto = false ∧ r.restart = false ∧ r'.restart = true ∧
    r.s.flag (Reg.SYS_BXP_SESSION_OPEN m.ep) = true ∧ r.s.get (Reg.SYS_BXP_SESSION_TAG m.ep) = m.tag.toNat ∧
    r.s.get (Reg.SYS_BXP_LAST_SEQ m.ep) = m.seq.toNat ∧ (r.s.sessX m.ep).src.same m.src = true ∧
    ({ m with src := .i2cs } : Msg).src = .i2cs ∧ 0x12 ∉ silentOps := by
  refine ⟨_, _, _, _, rfl, rfl, rfl, rfl, by decide +kernel⟩

theorem witness_SessionAndRegisterMessages :
    Accepted (talk []) 0x00 (say 0 16 [16, 0, 0, 0]) ∧ ((talk []).sessX 16).prevTag < 65536 ∧ Accepted (talk []) 0x01 (say 1 0 []) ∧
    Accepted (talk []) 0x02 (say 2 16 [0, 0, 0, 0]) ∧ Accepted (talk []) 0x03 (say 3 16 (List.replicate 12 0)) ∧
    Accepted (talk []) 0x04 (say 4 0 [0, 0, 0, 0, 0x5C, 1, 0, 0]) ∧ Accepted (talk []) 0x05 (say 5 0 [0, 0, 0, 0, 1, 0, 0, 0, 9, 9, 9, 9]) ∧
    Accepted (talk []) 0x61 (say 0x61 16 [0xFF, 0, 0, 0, 0, 0, 0, 0]) :=
  ⟨accepted_of (by decide +kernel), by decide +kernel, accepted_of (by decide +kernel), accepted_of (by decide +kernel),
    accepted_of (by decide +kernel), accepted_of (by decide +kernel), accepted_of (by decide +kernel), accepted_of (by decide +kernel)⟩

/-- Zero bytes after some given ones. -/
def pad (n : Nat) (l : List Nat) : List Nat := l ++ List.replicate (n - l.length) 0

/-- Group 0 owns axis 31 and latch unit 31. -/
def owning (l : List (Fld × Nat)) : State := talk ([(Reg.GRP_OWN_AXES 0, 2 ^ 31), (Reg.GRP_OWN_SNARE 0, 2 ^ 31)] ++ l)
theorem witness_MessagesExecutedAtOnce :
    (Accepted (talk []) 0x50 (say 0x50 0 [1, 0, 0, 0]) ∧ Accepted (talk []) 0x50 (say 0x50 16 [64, 0, 0, 0]) ∧ (talk []).pool.frees = [] ∧
      (talk []).get Reg.POOL_STAT_FREE_TOTAL ≤ 65536) ∧
    (Accepted (talk []) 0x51 (say 0x51 0 [1, 0, 0, 0, 0xFF, 0xFF, 0, 0]) ∧
      Accepted (talk []) 0x60 (say 0x60 16 [0, 0, 0, 0, 0, 0, 0, 0, 21, 0, 0, 0]) ∧
      (∀ w ∈ (talk []).flt.latent, w < 0xB0000000 ∨ 0xB8000000 ≤ w) ∧
      Accepted (owning []) 0x30 (say 0x30 0 [1, 31, 31, 1, 0, 0, 0, 0x80]) ∧ (owning []).axisGroup 31 = some (say 0x30 0 []).ep.val ∧
      Accepted (owning []) 0x43 (say 0x43 0 [31, 5, 0, 0, 0, 0, 0, 0])) ∧
    (Accepted (talk []) 0x72 (say 0x72 16 []) ∧ (talk []).flag Reg.FIELD_LINK_STAT_UP = false ∧
      Accepted (talk [(Reg.FIELD_LINK_STAT_UP, 1)]) 0x72 (say 0x72 0 []) ∧ (talk [(Reg.FIELD_LINK_STAT_UP, 1)]).flag Reg.FIELD_LINK_STAT_UP = true ∧
      Accepted (talk []) 0x73 (say 0x73 16 [1, 0, 0, 0])) ∧
    (∀ op ∈ [0x7D, 0x7F], Accepted (talk [(Reg.SYS_MODE_CODE, modeOperate)]) op (say op 16 []) ∧
      Accepted (talk [(Reg.SYS_MODE_CODE, modeStandby)]) op (say op 16 []) ∧ Accepted (talk [(Reg.SYS_MODE_CODE, modeSafeHold)]) op (say op 16 [])) := by
  refine ⟨⟨accepted_of (by decide +kernel), accepted_of (by decide +kernel), by decide +kernel⟩, ⟨accepted_of (by decide +kernel),
    accepted_of (by decide +kernel), by decide +kernel, accepted_of (by decide +kernel), by decide +kernel, accepted_of (by decide +kernel)⟩,
    ⟨accepted_of (by decide +kernel), by decide +kernel, accepted_of (by decide +kernel), by decide +kernel, accepted_of (by decide +kernel)⟩, ?_⟩
  intro op h
  rcases List.mem_cons.1 h with rfl | h
  · exact ⟨accepted_of (by decide +kernel), accepted_of (by decide +kernel), accepted_of (by decide +kernel)⟩
  · rcases List.mem_cons.1 h with rfl | h
    · exact ⟨accepted_of (by decide +kernel), accepted_of (by decide +kernel), accepted_of (by decide +kernel)⟩
    · cases h
/-- The pool has room for a group, and none for a device that has none. -/
theorem witness_blocks : Grantable (at_ [(Reg.POOL_STAT_FREE_TOTAL, 65536)]) 0 1 ∧ Grantable (at_ [(Reg.POOL_STAT_FREE_TOTAL, 65536)]) 16 64 ∧
    ¬ Grantable (at_ [(Reg.POOL_STAT_FREE_TOTAL, 0)]) 0 1 ∧ ¬ Grantable (at_ [(Reg.POOL_STAT_FREE_TOTAL, 63)]) 16 64 := by
  unfold Grantable; decide +kernel
theorem witness_buffers_inv : (talk []).Inv := inv_of (by decide +kernel) rfl

/-- Slot 1 is open for an image of `len` bytes. -/
def imaging (st next : Nat) (f : FlashCtl) (len : Nat := 292) : State :=
  { talk [(Reg.SYS_MODE_CODE, modeStandby), (Reg.SYS_IMG_WR_STAT_STATE, st), (Reg.SYS_IMG_WR_NEXT, next)] with flash := { f with openW := some (1, len) } }
theorem witness_ImageWritesAndKeyhash :
    (Accepted (talk [(Reg.SYS_MODE_CODE, modeOperate)]) 0x7E (say 0x7E 16 [0, 1, 0, 0, 0, 0, 0, 0]) ∧
      Accepted (talk [(Reg.SYS_MODE_CODE, modeStandby)]) 0x7E (say 0x7E 16 [0, 1, 0, 0, 0, 0, 0, 0]) ∧
      Accepted (talk [(Reg.SYS_MODE_CODE, modeStandby)]) 0x7E (say 0x7E 16 [1, 1, 0, 0, 0x24, 1, 0, 0])) ∧
    (1 ≠ (talk [(Reg.SYS_MODE_CODE, modeStandby)]).get Reg.SYS_START_STAT_SLOT ∧ (talk []).flash.job = .idle ∧ (talk []).flash.openW = none) ∧
    (∀ n ∈ [0, 256], Accepted (imaging wrOpen n {}) 0x7E (say 0x7E 16 [2, 1, 0, 0, n % 256, n / 256, 0, 0, 9]) ∧
      (imaging wrOpen n {}).get Reg.SYS_IMG_WR_NEXT = (say 0x7E 16 [2, 1, 0, 0, n % 256, n / 256, 0, 0, 9]).le 4 4 ∧ n + 1 ≤ 292) ∧
    (Accepted (imaging wrOpen 292 {}) 0x7E (say 0x7E 16 [3, 1, 0, 0, 0, 0, 0, 0]) ∧ (imaging wrOpen 292 {}).flash.commit = none ∧
      (imaging wrOpen 292 {}).get Reg.SYS_IMG_WR_NEXT = 292 ∧ Accepted (imaging wrOpen 5 {}) 0x7E (say 0x7E 16 [4, 1, 0, 0, 0, 0, 0, 0])) := by
  refine ⟨⟨accepted_of (by decide +kernel), accepted_of (by decide +kernel), accepted_of (by decide +kernel)⟩, by decide +kernel, ?_,
    accepted_of (by decide +kernel), by decide +kernel, by decide +kernel, accepted_of (by decide +kernel)⟩
  intro n h
  rcases List.mem_cons.1 h with rfl | h
  · exact ⟨accepted_of (by decide +kernel), by decide +kernel⟩
  · rcases List.mem_cons.1 h with rfl | h
    · exact ⟨accepted_of (by decide +kernel), by decide +kernel⟩
    · cases h
/-- The end of an erase, of a verification and of a programming of KEYHASH. -/
theorem witness_image_ends :
    State.reset.flash.job = .idle ∧ (imaging wrErasing 0 { job := .begin_ 1 }).flash.job = .begin_ 1 ∧
      (imaging wrErasing 0 { job := .begin_ 1 }).awake = true ∧
    (∃ f : FlashCtl, f = { job := .erase 1, eraser := some (say 0x7E 16 [0, 1, 0, 0, 0, 0, 0, 0]) } ∧ f.job = .erase 1 ∧ f.eraser ≠ none ∧
      (imaging wrErasing 0 f).awake = true) ∧
    (∃ s, s = imaging wrCommitting 292 { commit := some (say 0x7E 16 [3, 1, 0, 0, 0, 0, 0, 0], false), held := List.replicate 256 0 } ∧
      s.flash.commit = some (say 0x7E 16 [3, 1, 0, 0, 0, 0, 0, 0], false) ∧ s.awake = true ∧ s.flash.held.length = 256 ∧
      ∃ r, s.headReject s.flash.held = some r ∧ r.code < 256) ∧
    (State.reset.window 0x180 .device = .rw ∧ ∃ s, s = at_ [(Reg.SYS_MODE_CODE, modeStandby), (Reg.SYS_KEYHASH_STAGE 7, 1)] ∧
      (s.mode = modeStandby ∧ s.flash.keyJob = none ∧ s.flag Reg.SYS_KEYHASH_STAT_PROGRAMMED = false ∧
        (∃ i, i < 8 ∧ s.get (Reg.SYS_KEYHASH_STAGE i) ≠ 0))) ∧
    ((at_ [(Reg.SYS_MODE_CODE, modeStandby)]).mode = modeStandby ∧ ∀ i, i < 8 → (at_ [(Reg.SYS_MODE_CODE, modeStandby)]).get (Reg.SYS_KEYHASH_STAGE i) = 0) ∧
    (∃ s : State, s = { State.reset with flash := { keyJob := some (List.replicate 8 (2 ^ 32 - 1)) } } ∧ s.awake = true ∧
      s.flash.keyJob = some (List.replicate 8 (2 ^ 32 - 1)) ∧ (∀ w ∈ List.replicate 8 (2 ^ 32 - 1), w < 2 ^ 32)) := by
  refine ⟨by decide +kernel, by decide +kernel, by decide +kernel, ⟨_, rfl, by decide +kernel⟩, ⟨_, rfl, rfl, by decide +kernel, by decide +kernel, ?_⟩, ⟨by decide +kernel, _, rfl, by decide +kernel⟩,
    by decide +kernel, ⟨_, rfl, by decide +kernel⟩⟩
  have h : ∃ r, (imaging wrCommitting 292 { commit := some (say 0x7E 16 [3, 1, 0, 0, 0, 0, 0, 0], false), held := List.replicate 256 0 }).headReject
      (List.replicate 256 0) = some r ∧ r.code < 256 := ⟨_, rfl, by decide +kernel⟩
  exact h

/-- An entry of a section table (Table IMG-5), critical and of version 1. -/
def entryOf (typ off size crc : Nat) : List Byte :=
  leBytes 2 typ ++ leBytes 2 1 ++ leBytes 4 off ++ leBytes 4 size ++ leBytes 4 crc ++ leBytes 2 1 ++ List.replicate 14 0
/-- The least image: a SYS section with no record and a LECODE section with no group block. -/
def leastImage : List Byte :=
  let code : List Byte := List.replicate 20 0
  let l := leBytes 4 0x4D495653 ++ leBytes 2 1 ++ leBytes 2 256 ++ leBytes 4 356 ++ leBytes 4 7 ++ List.replicate 8 0 ++ leBytes 2 2
    ++ leBytes 2 0 ++ leBytes 4 256 ++ List.replicate 224 0 ++ entryOf 1 320 0 0 ++ entryOf 0x20 320 20 (crc32c code) ++ code
    ++ List.replicate 12 0
  l ++ leBytes 4 0x58A88CE6

/-- A number handed on as a numeral. -/
def forced (n : Nat) (f : Nat → Nat) : Nat :=
  match n with
  | 0 => f 0
  | k + 1 => f (k + 1)
theorem forced_of (n : Nat) (f : Nat → Nat) : forced n f = f n := by cases n <;> rfl
/-- The CRC-32C register after the bytes `l`, each step as a numeral. -/
def crcRun (c : Nat) : List Byte → Nat
  | [] => c
  | b :: r => forced (crcStep (c ^^^ b.toNat) 8) (fun c => crcRun c r)
theorem crcRun_of (l : List Byte) : ∀ c, crcBytes c l = crcRun c l := by
  induction l with
  | nil => exact fun _ => rfl
  | cons b r ih =>
    intro c
    exact (ih _).trans (forced_of (crcStep (c ^^^ b.toNat) 8) (fun c => crcRun c r)).symm
theorem image_crc_of : crc32c (leastImage.take (leastImage.length - 4)) = leAt leastImage (leastImage.length - 4) 4 := by
  rw [crc32c, crcRun_of]; decide +kernel
theorem image_body_of (s : State) (h : s.flag Reg.SYS_KEYHASH_STAT_PROGRAMMED = false) : s.bodyReject leastImage = none := by
  have h1 : tableReject leastImage (sectsOf leastImage) = none := by decide +kernel
  have h2 : firstSect (fun _ _ e => !knownType e.typ || decide (e.ver = 1)) 0x0F 0 0 (sectsOf leastImage) = none := by decide +kernel
  have h3 : firstSect (fun _ _ e => decide (e.typ = typSig) || decide (crc32c (sectData leastImage e) = e.crc)) 0x06 0 0 (sectsOf leastImage)
      = none := by decide +kernel
  have h4 : ((sectsOf leastImage).any (fun e => decide (e.typ = 0x01)) && (sectsOf leastImage).any (fun e => decide (e.typ = 0x20))) = true := by
    decide +kernel
  have h5 : dupSect (sectsOf leastImage) = none := by decide +kernel
  have h6 : firstSect (fun _ _ e => knownType e.typ || !bit e.flags 0) 0x0D 0 0 (sectsOf leastImage) = none := by decide +kernel
  simp only [State.bodyReject, h1, h2, h3, image_crc_of, h, h4, h5, h6, ne_eq, not_true_eq_false, if_false, Bool.false_and, Bool.not_true,
    Bool.false_eq_true]
theorem verifies_of {s base : State} {l : List Byte} (h : s.bodyReject l = none)
    (h2 : ((({ s := base } : Content).sections l 0 (sectsOf l)).getLeft?.any (fun c =>
      (c.hoLimReject l (sectsOf l)).isNone && (c.jointReject l (sectsOf l)).isNone)) = true) : ∃ c, s.verifyBody base l = .inl c := by
  unfold State.verifyBody
  rw [h]
  cases h3 : ({ s := base } : Content).sections l 0 (sectsOf l) with
  | inr r => rw [h3] at h2; cases h2
  | inl c =>
    rw [h3] at h2
    simp only [Sum.getLeft?_inl, Option.any_some, Bool.and_eq_true, Option.isNone_iff_eq_none] at h2
    exact ⟨c, by simp only [h2.1, h2.2]⟩
/-- It stands written in slot 1 but for its header, which is held until COMMIT has verified it. -/
def committing : State :=
  imaging wrCommitting 356 { commit := some (say 0x7E 16 [3, 1, 0, 0, 0, 0, 0, 0], false), held := leastImage.take 256,
                             cells := ((leastImage.drop 256).zipIdx (2 ^ 24 + 256)).map (fun p => (p.2, p.1.toNat)) } 356
theorem witness_commit : committing.headReject committing.flash.held = none ∧ (say 0x7E 16 [3, 1, 0, 0, 0, 0, 0, 0]).u8 1 = 1 ∧
    ∃ c, committing.verifyBody State.reset (committing.written 1) = .inl c :=
  ⟨by decide +kernel, by decide +kernel, by
      have h1 : committing.written 1 = leastImage := by decide +kernel
      rw [h1]
      exact verifies_of (image_body_of _ (by decide +kernel)) (by decide +kernel)⟩

/-- A port of I2C runs, in STANDBY. -/
def wired (l : List (Fld × Nat)) : State := talk ([(Reg.SYS_MODE_CODE, modeStandby), (Reg.I2C_P_CFG_EN, 1), (Reg.I2C_S_STAT_OWNER, 1)] ++ l)
/-- A transfer that the device endpoint asks for: one byte from address 127. -/
def xfer : Msg := say 0x74 16 [127, 0, 0, 255]
/-- The responder still owns I2C-S in a mode. -/
def serving (mode : Nat) : State := at_ [(Reg.SYS_MODE_CODE, mode), (Reg.I2C_S_STAT_OWNER, 0)]
theorem witness_I2cTransfersAndTransactions :
    (Accepted (wired []) 0x74 xfer ∧ Accepted (wired []) 0x74 (say 0x74 0 [127, 0, 0, 1]) ∧ Accepted (wired []) 0x74 (say 0x74 0 [0, 1, 0, 0])) ∧
    ((wired []).xferDenied (say 0x74 0 [127, 0, 0, 1]) = true ∧ (wired []).xferDenied xfer = false ∧ (talk []).flag Reg.I2C_P_CFG_EN = false ∧
      (wired []).flag Reg.I2C_P_CFG_EN = true ∧ (wired []).i2c.jobs.length < 8 ∧
      8 ≤ ({ jobs := List.replicate 8 { msg := xfer } } : I2cX).jobs.length) ∧
    (State.reset.i2c.jobs = [] ∧ (wired []).i2cRuns 1 = true ∧ State.reset.i2cRuns 1 = false ∧ (serving 3).i2cRuns 0 = false ∧
      (wired []).targetRuns = true ∧ (serving 3).responderOwns = true ∧ (serving 3).bk.awake = true) ∧
    (∃ s : State, s = { wired [] with i2c := { jobs := List.replicate 8 { msg := xfer, effect := some 5 } } } ∧ s.i2c.run = none ∧
      s.i2c.jobs = { msg := xfer, effect := some 5 } :: List.replicate 7 { msg := xfer, effect := some 5 } ∧ s.i2cRuns 1 = true) ∧
    (∃ s : State, s = { wired [] with i2c := { run := some { msg := xfer, effect := some 5 } } } ∧ s.i2cRuns 1 = true ∧
      s.i2c.run = some { msg := xfer, effect := some 5 } ∧ bit (xfer.u8 1) 0 = false ∧ (List.replicate 255 (0 : Byte)).length = xfer.u8 3) ∧
    ((wired []).flag Reg.I2C_S_STAT_SCL_STUCK = false ∧ (wired [(Reg.I2C_P_STAT_SCL_STUCK, 1)]).flag Reg.I2C_P_STAT_SCL_STUCK = true) ∧
    ((serving 2).awake = true ∧ 2 ≤ (serving 2).mode ∧ (serving 2).responderOwns = true ∧ (wired []).responderOwns = false) ∧
    ((wired [(Reg.I2C_S_CFG_ADDR, 0x77)]).targetRuns = true ∧ (0x77 : BitVec 7).toNat = (wired [(Reg.I2C_S_CFG_ADDR, 0x77)]).targetAddr ∧
      (0xFF : Byte).toNat + 256 * (0x0F : Byte).toNat ≠ 0x1000) ∧
    (∃ s : State, s = { at_ [(Reg.SYS_MODE_CODE, modeDormant)] with bk := { awake := false, onVbak := true } } ∧ s.responderOwns = true ∧
      (0x2C : BitVec 7).toNat = s.responderAddr ∧ s.bk.awake = false ∧ s.mode = modeDormant) := by
  refine ⟨⟨accepted_of (by decide +kernel), accepted_of (by decide +kernel), accepted_of (by decide +kernel)⟩, by decide +kernel, by decide +kernel,
    ⟨_, rfl, by decide +kernel⟩, ⟨_, rfl, by decide +kernel⟩, by decide +kernel, by decide +kernel, by decide +kernel, ⟨_, rfl, by decide +kernel⟩⟩

/-- In a device mode, at a clock with a boundary, a command waits alone that was complete before it. -/
def due (mode op : Nat) (m : Msg) (l : List (Fld × Nat)) : State :=
  { talk ([(Reg.SYS_MODE_CODE, mode)] ++ l) with awaiting := [⟨op, m, 0⟩], clk := 1 }
/-- Two commands that wait for one boundary. -/
def both (a b : Await) (st : Nat) : State :=
  { talk [(Reg.SYS_MODE_CODE, modeOperate), (Reg.GRP_STATE_STATE 0, st), (Reg.GRP_OWN_AXES 0, 1)] with awaiting := [a, b], clk := 1 }
theorem witness_BoundaryCommands :
    ((inMode modeLoading).up = false ∧ (inMode modeStandby).up = true ∧
      ∃ s : State, s = { inMode modeStandby with tick_ := { begun := true, lastFast := 0 } } ∧ s.up = true ∧ s.tick_.begun = true ∧
        s.tick_.lastFast = s.clk) ∧
    (∀ p ∈ [(0x10, 0x11, 16), (0x11, 0x10, 16), (0x13, 0x16, 0), (0x16, 0x13, 0), (0x13, 0x14, 0), (0x14, 0x13, 0), (0x20, 0x16, 0),
        (0x12, 0x12, 0), (0x20, 0x22, 0), (0x16, 0x20, 0), (0x42, 0x42, 0)], ∃ (a b : Await) (s : State), a = ⟨p.1, say p.1 p.2.2 [], 0⟩ ∧
      b = ⟨p.2.1, say p.2.1 p.2.2 [], 0⟩ ∧ s = both a b gsMoving ∧ s.awaiting = [a, b] ∧ a.clk < s.clk ∧ b.clk < s.clk ∧ a.msg.ep = b.msg.ep ∧
      a.msg.u8 0 = b.msg.u8 0) ∧
    (0x20 ∈ startOps ∧ 0x12 ∈ startOps ∧ 0x16 ∈ stopOps ∧ 0x13 ∈ stopOps ∧ 0x14 ∈ stopOps) ∧
    ((at_ [(Reg.GRP_STATE_STATE 0, gsMoving)]).verdict 0x20 0 < 2 ∧ (at_ [(Reg.GRP_STATE_STATE 0, gsMoving)]).verdict 0x16 0 < 2 ∧
      (at_ [(Reg.GRP_STATE_STATE 0, gsMoving)]).verdict 0x14 0 < 2 ∧ (at_ [(Reg.GRP_STATE_STATE 0, gsEnabled)]).verdict 0x13 0 < 2 ∧
      State.reset.verdict 0x12 0 < 2) := by
  refine ⟨⟨by decide +kernel, by decide +kernel, _, rfl, by decide +kernel⟩, ?_, by decide +kernel, by decide +kernel⟩
  intro p hp
  refine ⟨_, _, _, rfl, rfl, rfl, rfl, ?_⟩
  revert p; decide +kernel

theorem witness_ModeCommands :
    (Accepted (talk [(Reg.SYS_MODE_CODE, modeStandby)]) 0x10 (say 0x10 16 []) ∧ Accepted (talk [(Reg.SYS_MODE_CODE, modeOperate)]) 0x11 (say 0x11 16 []) ∧
      Accepted (talk [(Reg.SYS_MODE_CODE, modeOperate)]) 0x62 (say 0x62 0 [])) ∧
    (∃ s m, m = say 0x10 16 [] ∧ s = due modeStandby 0x10 m [(Reg.SYS_MODE_DRIVE_ENABLE, 1)] ∧ s.awaiting = [⟨0x10, m, 0⟩] ∧ 0 < s.clk ∧
      s.mode = modeStandby ∧ s.flash.openW = none ∧ s.flag Reg.SYS_MODE_DRIVE_ENABLE = true) ∧
    (∃ s : State, s = { due modeStandby 0x10 (say 0x10 16 []) [] with flash := { openW := some (1, 292) } } ∧ s.mode = modeStandby ∧
      s.flash.openW ≠ none) ∧
    ((due modeStandby 0x10 (say 0x10 16 []) []).flag Reg.SYS_MODE_DRIVE_ENABLE = false ∧ (due modeStandby 0x10 (say 0x10 16 []) []).flash.openW = none ∧
      (due modeSafeHold 0x10 (say 0x10 16 []) []).mode = modeSafeHold ∧ (due modeOperate 0x10 (say 0x10 16 []) []).mode = modeOperate) ∧
    ((due modeOperate 0x11 (say 0x11 16 []) []).mode = modeOperate ∧ (∀ n, n < 16 → (due modeOperate 0x11 (say 0x11 16 []) []).stands n gsDisabled) ∧
      ¬ (due modeOperate 0x11 (say 0x11 16 []) [(Reg.GRP_STATE_POWERING 15, 1)]).stands 15 gsDisabled) ∧
    (∃ s m, m = say 0x62 15 [] ∧ s = due modeOperate 0x62 m [(Reg.GRP_STATE_STATE 15, gsFault)] ∧ m.ep.val < 16 ∧ s.gstate m.ep = gsFault ∧
      s.clearHeld m.ep = false) ∧
    ((due modeOperate 0x62 (say 0x62 15 []) [(Reg.GRP_STATE_STATE 15, gsStopping)]).gstate 15 = gsStopping ∧
      (due modeOperate 0x62 (say 0x62 15 []) [(Reg.GRP_OWN_AXES 15, 2 ^ 31), (Reg.AXIS_NET_STAT_DSTATE 31, 3)]).clearHeld 15 = true) ∧
    (∀ b ∈ [false, true], ∃ s : State, s = { due modeSafeHold 0x62 (say 0x62 16 []) [] with flt := { supplyLow := b } } ∧ s.mode = modeSafeHold ∧
      s.flt.xmemUe = false ∧ s.holdPersists = b ∧ ∀ n, n < 16 → s.gstate n ≠ gsStopping) ∧
    (∃ s : State, s = { due modeSafeHold 0x62 (say 0x62 16 []) [] with flt := { xmemUe := true } } ∧ s.mode = modeSafeHold ∧ s.flt.xmemUe = true) ∧
    (due modeStandby 0x62 (say 0x62 16 []) []).mode ≠ modeSafeHold := by
  unfold State.stands
  refine ⟨⟨accepted_of (by decide +kernel), accepted_of (by decide +kernel), accepted_of (by decide +kernel)⟩, ⟨_, _, rfl, rfl, by decide +kernel⟩,
    ⟨_, rfl, by decide +kernel⟩, by decide +kernel, by decide +kernel, ⟨_, _, rfl, rfl, by decide +kernel⟩, by decide +kernel, ?_,
    ⟨_, rfl, by decide +kernel⟩, by decide +kernel⟩
  intro b _
  refine ⟨_, rfl, ?_⟩
  revert b; decide +kernel

/-- A group command that waits for group 0, which stands in a state and owns axes 0 and 31, of which 31 is a network axis. -/
def group (st op : Nat) (pl : List Nat) (l : List (Fld × Nat) := []) : State :=
  due modeOperate op (say op 0 pl) ([(Reg.GRP_STATE_STATE 0, st), (Reg.GRP_OWN_AXES 0, 0x80000001), (Reg.GRP_ENG_CFG_SERVED 0, 1),
    (Reg.AXIS_NET_STAT_DSTATE 31, 2), (Reg.CUR_EN_DELAY 0, 1)] ++ l)
theorem witness_GroupCommands :
    (∀ op ∈ [0x12, 0x13, 0x14, 0x15, 0x16], ∃ s m, s = talk [] ∧ m = say op 0 [] ∧ Accepted s op m) ∧
    (∃ s, s = group gsDisabled 0x12 [] ∧ s.awaiting = [⟨0x12, say 0x12 0 [], 0⟩] ∧ 0 < s.clk ∧ s.mode = modeOperate ∧ s.stands 0 gsDisabled ∧
      s.enableBusy 0 = false ∧ 0 ∈ s.localsOf 0 ∧ s.get (Reg.CUR_STAT_STATE 0) ≠ cellTripped ∧ s.get (Reg.CUR_EN_DELAY 0) ≠ 0 ∧ 31 ∈ s.netsOf 0) ∧
    (∃ s, s = group gsDisabled 0x12 [] [(Reg.GRP_ENG_CFG_SERVED 0, 0)] ∧ s.gstate 0 = gsDisabled ∧ s.mode = modeOperate ∧ s.enableBusy 0 = true) ∧
    (∃ s, s = due modeStandby 0x12 (say 0x12 0 []) [] ∧ s.gstate 0 = gsDisabled ∧ s.mode ≠ modeOperate) ∧
    (∃ s : State, s = { group gsEnabled 0x13 [] [(Reg.CUR_BRAKE_ENG_DELAY 0, 65535)] with axis := [(0, { phase := 3 })] } ∧ s.stands 0 gsEnabled ∧
      0 ∈ s.localsOf 0 ∧ (s.axisX 0).phase = 3 ∧ s.get (Reg.CUR_BRAKE_ENG_DELAY 0) ≠ 0) ∧
    ((group gsMoving 0x14 []).stands 0 gsMoving ∧ (group gsHeld 0x15 []).stands 0 gsHeld ∧ (group gsMoving 0x16 []).stands 0 gsMoving) ∧
    (∀ op ∈ [0x14, 0x15, 0x16], ∃ s, s = group gsMoving op [] [(Reg.GRP_STATE_POWERING 0, 1)] ∧ s.gstate 0 = gsMoving ∧
      s.flag (Reg.GRP_STATE_POWERING 0) = true) ∧
    (group gsFault 0x16 []).gstate 0 = gsFault := by
  unfold State.stands
  refine ⟨?_, ⟨_, rfl, by decide +kernel⟩, ⟨_, rfl, by decide +kernel⟩, ⟨_, rfl, by decide +kernel⟩, ⟨_, rfl, by decide +kernel⟩,
    by decide +kernel, ?_, by decide +kernel⟩
  · intro op h
    refine ⟨_, _, rfl, rfl, accepted_of ?_⟩
    revert op; decide +kernel
  · intro op h
    refine ⟨_, rfl, ?_⟩
    revert op; decide +kernel

/-- A motion command for axis 31 of group 0, whose limits are 1 per second and so on; it moves at `v` from position 0. -/
def moving (op : Nat) (pl : List Nat) (v : Rat) (l : List (Fld × Nat) := []) (st : Nat := gsMoving) : State :=
  { group st op pl ([(Reg.AXIS_V_MAX 31, 2 ^ 24), (Reg.AXIS_A_MAX 31, 2 ^ 24), (Reg.AXIS_D_MAX 31, 2 ^ 24), (Reg.AXIS_J_MAX 31, 2 ^ 24)] ++ l) with
    axis := [(31, { motion := { v := v } })] }
/-- Axis 31 to a Q40.24 position, 0 or the highest. -/
def to0 : List Nat := pad 48 [31, 1]
def toTop : List Nat := pad 48 [31, 1, 0, 0, 0, 0, 0, 0, 0xFF, 0xFF, 0xFF, 0xFF, 0xFF, 0xFF, 0xFF, 0x7F]
/-- A soft limit at one half of the way that a stop from speed 1 takes. -/
def soft : List (Fld × Nat) := [(Reg.AXIS_LIM_CFG_SOFT_EN 31, 1), (Reg.AXIS_SOFT_MAX 31, 2 ^ 23)]
theorem witness_MotionCommands :
    (∀ op ∈ [0x20, 0x21, 0x22], ∃ s m, s = moving op (pad (if op = 0x22 then 40 else 48) [31, 1]) 1 ∧ m = say op 0 (pad (if op = 0x22 then 40 else 48) [31, 1]) ∧
      Accepted s op m ∧ NamesAxis s m ∧ s.MayMove m.ep ∧ s.otherBusy m.ep (m.u8 0) = false) ∧
    (∀ p ∈ [(false, 0x20), (true, 0x21)],
      (∃ s m, m = say p.2 0 to0 ∧ s = moving p.2 to0 0 [] gsEnabled ∧ MoveInside p.1 s m ∧ MoveAhead p.1 s m) ∧
      (∃ s m, m = say p.2 0 toTop ∧ s = moving p.2 toTop 0 soft ∧ MoveRuns p.1 s m ∧ s.beyondSoft (m.u8 0) (ofQ (moveAsks s m p.1).1) = true) ∧
      (∃ s m, m = say p.2 0 to0 ∧ s = moving p.2 to0 1 soft ∧ MoveInside p.1 s m ∧ ¬ MoveAhead p.1 s m ∧
        s.beyondSoft (m.u8 0) (moveRest p.1 s m) = true) ∧
      (∀ b ∈ [0, 1], ∃ s m, m = say p.2 0 to0 ∧ s = moving p.2 to0 1 [(Reg.AXIS_LIM_CFG_REJECT_REVERSE 31, b)] ∧ MoveInside p.1 s m ∧ ¬ MoveAhead p.1 s m ∧
        s.beyondSoft (m.u8 0) (moveRest p.1 s m) = false ∧ s.get (Reg.AXIS_LIM_CFG_REJECT_REVERSE 31) = b)) ∧
    (∃ s : State, s = moving 0x20 to0 1 [(Reg.AXIS_SRC_SOURCE 31, 3), (Reg.AXIS_FOL_CFG_SRC 31, 0)] ∧ s.MayMove 0 ∧ s.otherBusy 0 31 = true) ∧
    (moving 0x20 to0 0 [] gsTakeover).gstate 0 = gsTakeover ∧ (moving 0x20 to0 0 [] gsDisabled).stands 0 gsDisabled := by
  unfold MoveInside MoveRuns MoveAhead ReachesAhead NamesAxis State.MayMove State.stands
  refine ⟨?_, ?_, ⟨_, rfl, by decide +kernel⟩, by decide +kernel⟩
  · intro op h
    refine ⟨_, _, rfl, rfl, accepted_of ?_, ?_⟩ <;> (revert op; decide +kernel)
  · intro p h
    refine ⟨⟨_, _, rfl, rfl, ?_⟩, ⟨_, _, rfl, rfl, ?_⟩, ⟨_, _, rfl, rfl, ?_⟩, ?_⟩
    · revert p; decide +kernel
    · revert p; decide +kernel
    · revert p; decide +kernel
    · intro b hb
      refine ⟨_, _, rfl, rfl, ?_⟩
      revert b; revert p; decide +kernel

/-- One line to position 2 on a path of axis 31, with feed 1. -/
def line1 : List Nat := pad 68 [1, 0, 0, 0, 1, 0, 9, 0, 1, 0, 0, 0, 0, 0, 0, 0, 0, 0, 0, 0, 0, 0, 0, 2]
/-- A path command of group 0, whose path axis is axis 31. -/
def pathing (op st : Nat) (pl : List Nat) (l : List (Fld × Nat)) (g : GroupX := {}) : State :=
  { group st op pl ([(Reg.GRP_PATH_AXES 0, 2 ^ 31), (Reg.GRP_A_PATH 0, 2 ^ 24), (Reg.GRP_J_PATH 0, 2 ^ 24)] ++ l) with grp := [(0, g)] }
/-- The path runs at speed 1 on a line of length 4. -/
def onLine : GroupX :=
  { path := [{ typ := 1, exact_ := false, tag := 0, feed := 1, tol := 0, dwell := 0, slots := (0, 0), centre := (0, 0), fr := [0, 0, 0, 0, 0, 0],
               dst := [4, 0, 0, 0, 0, 0], s0 := 0, s1 := 4, raw := [] }], pv := 1 }
theorem witness_PathCommands :
    (∃ s m, m = say 0x23 0 line1 ∧ s = pathing 0x23 gsEnabled line1 [] ∧ Accepted s 0x23 m ∧ s.MayPath m.ep ∧ s.get (Reg.GRP_PATH_AXES m.ep) ≠ 0 ∧
      1 ≤ m.u8 0 ∧ m.u8 0 ≤ 21 ∧ (s.grpX m.ep).queued = [] ∧ m.le 8 4 ≠ 0 ∧ s.pathBlocked m.ep = false ∧
      (∀ g ∈ appended s m, s.arcBad m.ep g = false ∧ s.segBeyond m.ep g = none) ∧ s.get (Reg.GRP_QUEUE m.ep) + m.u8 0 ≤ 262144 ∧
      (s.grpX m.ep).pend = none ∧ recType m 0 = 1) ∧
    (∃ s m, m = say 0x23 0 line1 ∧ s = pathing 0x23 gsTakeover line1 [(Reg.GRP_QUEUE 0, 262143)] { onLine with pend := some 3 } ∧ s.MayPath m.ep ∧
      (s.grpX m.ep).pend ≠ none ∧ (s.grpX m.ep).queued ≠ [] ∧ (∀ g ∈ appended s m, s.arcBad m.ep g = false ∧ s.segBeyond m.ep g = none) ∧
      s.get (Reg.GRP_QUEUE m.ep) + m.u8 0 ≤ 262144) ∧
    (∃ s m, m = say 0x23 0 line1 ∧ s = pathing 0x23 gsHeld line1 [(Reg.GRP_QUEUE 0, 262144)] ∧ s.MayPath m.ep ∧ s.get (Reg.GRP_PATH_AXES m.ep) ≠ 0 ∧
      m.le 8 4 ≠ 0 ∧ (∀ g ∈ appended s m, s.arcBad m.ep g = false) ∧ 262144 < s.get (Reg.GRP_QUEUE m.ep) + m.u8 0) ∧
    (∃ s m, m = say 0x23 0 line1 ∧ s = pathing 0x23 gsMoving line1 [(Reg.AXIS_SRC_SOURCE 31, 3), (Reg.AXIS_FOL_CFG_SRC 31, 0)] ∧ s.MayPath m.ep ∧ (s.grpX m.ep).queued = [] ∧
      (∀ g ∈ appended s m, s.arcBad m.ep g = false) ∧ s.pathBlocked m.ep = true) ∧
    ((group gsEnabled 0x23 line1).MayPath 0 ∧ (group gsEnabled 0x23 line1).get (Reg.GRP_PATH_AXES 0) = 0 ∧ (pathing 0x23 gsFault line1 []).stands 0 gsFault ∧
      (pathing 0x24 gsMoving [] [(Reg.GRP_STATE_POWERING 0, 1)]).flag (Reg.GRP_STATE_POWERING 0) = true ∧
      (pathing 0x24 gsStopping [] []).stands 0 gsStopping) ∧
    (∃ s m, m = say 0x24 0 [] ∧ s = pathing 0x24 gsMoving [] [] ∧ Accepted s 0x24 m ∧ s.MayPath m.ep ∧ (s.grpX m.ep).pend = none ∧
      (s.grpX m.ep).pnext = [] ∧ kinTime (s.pathStop m.ep) ≤ 0) ∧
    (∃ s e, s = pathing 0x24 gsMoving [] [(Reg.GRP_STATE_PATH_RUN 0, 1)] onLine ∧ s.MayPath 0 ∧ (s.grpX 0).pend = none ∧ (s.grpX 0).pnext = [] ∧
      0 < kinTime (s.pathStop 0) ∧ e = travel (s.ahead 0 (s.grpX 0).path) (s.grpX 0).arc (kinEnd (s.pathStop 0) 0 (s.grpX 0).pv).p ∧
      (∀ g ∈ (s.grpX 0).path.getLast?, e < g.s1) ∧ (s.grpX 0).path ≠ []) := by
  unfold State.MayPath State.MayMove State.stands
  refine ⟨⟨_, _, rfl, rfl, accepted_of (by decide +kernel), by decide +kernel⟩, ⟨_, _, rfl, rfl, by decide +kernel⟩, ⟨_, _, rfl, rfl, by decide +kernel⟩,
    ⟨_, _, rfl, rfl, by decide +kernel⟩, by decide +kernel, ⟨_, _, rfl, rfl, accepted_of (by decide +kernel), by decide +kernel⟩,
    ⟨_, _, rfl, by decide +kernel, by decide +kernel, by decide +kernel, by decide +kernel, rfl, by decide +kernel⟩⟩

/-- GEAR_SET and CAM_SET of axis 31 to the group's coordinate with clutch 1, and FOLLOW_SET of it, all with Q40.24 positions. -/
def gear (num flags : Nat) : List Nat := pad 40 ([31, 4, 0, flags, num, 0, 0, 0, 1] ++ List.replicate 26 0 ++ [1])
def cam (flags : Nat) : List Nat := pad 48 ([31, 4, 0, flags, 0, 0, 0, 0, 2] ++ List.replicate 26 0 ++ [1] ++ List.replicate 7 0 ++ [1])
def follow (src : Nat) : List Nat := pad 40 [31, src, 1, 1]
theorem witness_CouplingCommands :
    (∀ p ∈ [(0x26, gear 1 1), (0x26, gear 0 1), (0x26, gear 1 3), (0x27, cam 1), (0x27, cam 3), (0x27, cam 0x11)],
      ∃ s m, s = moving p.1 p.2 0 ∧ m = say p.1 0 p.2 ∧ Accepted s p.1 m ∧ NamesAxis s m ∧ s.MayMove m.ep ∧ fieldBad p.1 m s = none ∧
        s.cplOk m.ep (m.u8 0) = true) ∧
    (∃ s m, s = moving 0x27 (cam 0x11) 0 [(Reg.AXIS_SRC_SOURCE 31, 2), (Reg.AXIS_CPL_CFG_KIND 31, 2)] ∧ m = say 0x27 0 (cam 0x11) ∧
      NamesAxis s m ∧ s.MayMove m.ep ∧ fieldBad 0x27 m s = none ∧ s.cplOk m.ep (m.u8 0) = true ∧ bit (m.u8 3) 4 = true ∧
      s.get (Reg.AXIS_SRC_SOURCE (m.u8 0)) = 2 ∧ s.get (Reg.AXIS_CPL_CFG_KIND (m.u8 0)) = 2) ∧
    (∀ l ∈ [[], [(Reg.AXIS_SRC_SOURCE 31, 3), (Reg.AXIS_FOL_CFG_SRC 31, 3)]], ∀ src ∈ [3, 0xFF],
      ∃ s m, s = moving 0x25 (follow src) 0 ((Reg.GRP_OWN_IO_AI 0, 8) :: l) ∧ m = say 0x25 0 (follow src) ∧ Accepted s 0x25 m ∧ NamesAxis s m ∧ s.MayMove m.ep ∧
        fieldBad 0x25 m s = none ∧ m.u8 1 = src ∧ (Follows s (m.u8 0) ∨ s.cplOk m.ep (m.u8 0) = true) ∧ (Follows s (m.u8 0) ↔ l ≠ [])) ∧
    (∃ s, s = moving 0x25 (follow 3) 0 [(Reg.AXIS_VEL_CMD 31, 1)] ∧ s.MayMove 0 ∧ ¬ Follows s 31 ∧ s.cplOk 0 31 = false ∧
      s.masterOk 0 31 4 0 = true) := by
  unfold NamesAxis State.MayMove State.stands Follows
  refine ⟨?_, ⟨_, _, rfl, rfl, by decide +kernel⟩, ?_, ⟨_, rfl, by decide +kernel⟩⟩
  · intro p h
    refine ⟨_, _, rfl, rfl, accepted_of ?_, ?_⟩ <;> (revert p; decide +kernel)
  · intro l h src h2
    refine ⟨_, _, rfl, rfl, accepted_of ?_, ?_⟩ <;> (revert src; revert l; decide +kernel)

/-- One entry: the action "no operation" in the direction up, at coordinate 0. -/
def entries1 : List Nat := pad 20 ([1, 0, 0, 0] ++ List.replicate 9 0 ++ [4])
/-- ENGINE_MIGRATE of group 15 to engine 16, as soon as it can be done. -/
def migrate (grp eng : Nat) : List Nat := pad 16 [grp, eng]
theorem witness_SchedulerCommands :
    (∀ b ∈ [0, 1], ∃ s m, s = group gsMoving 0x31 [] [(Reg.GRP_COEF_STAT_MODE 0, b)] ∧ m = say 0x31 0 [] ∧ Accepted s 0x31 m ∧
      s.flag (Reg.GRP_COEF_STAT_MODE m.ep) = (b == 1)) ∧
    (∃ s : State, s = { group gsMoving 0x31 [] [(Reg.GRP_COEF_STAT_PENDING 0, 1)] with grp := [(0, { swapAt := 0 })] } ∧
      s.flag (Reg.GRP_COEF_STAT_PENDING 0) = true ∧ (s.grpX 0).swapAt < s.clk) ∧
    (State.reset.flag (Reg.GRP_COEF_STAT_PENDING 0) = false) ∧
    (∃ s m, s = group gsMoving 0x40 entries1 ∧ m = say 0x40 0 entries1 ∧ Accepted s 0x40 m ∧ m.ep.val < 16 ∧ lengthOk 0x40 m = true ∧
      fieldBad 0x40 m s = none ∧ (s.claveX m.ep).queue.length + (s.claveX m.ep).goWait.length + m.le 0 2 ≤ 1048576) ∧
    (∃ s : State, 1048576 < (s.claveX 15).queue.length + (s.claveX 15).goWait.length + (say 0x40 15 entries1).le 0 2) ∧
    (∀ b ∈ [0, 1], ∃ s m, s = group gsMoving 0x41 [b, 0, 0, 0] ∧ m = say 0x41 0 [b, 0, 0, 0] ∧ Accepted s 0x41 m ∧ bit (m.u8 0) 0 = (b == 1)) ∧
    (∀ b ∈ [0, 1, 2], ∃ s m, s = group gsMoving 0x42 [31, b, 0, 0] [(Reg.GRP_OWN_SNARE 0, 2 ^ 31)] ∧ m = say 0x42 0 [31, b, 0, 0] ∧ Accepted s 0x42 m ∧
      m.u8 0 < 32 ∧ m.u8 1 = b ∧ s.flag (Reg.SNARE_STAT_ARMED (m.u8 0)) = false) ∧
    (∀ st ∈ [esSpare, esQuarantine, esOff, esActive], ∃ s m, s = due modeStandby 0x70 (say 0x70 16 [16, 0, 0, 0]) [(Reg.ENG_STATE_STATE 16, st)] ∧
      m = say 0x70 16 [16, 0, 0, 0] ∧ Accepted s 0x70 m ∧ m.u8 0 ≤ 16 ∧ s.get (Reg.ENG_STATE_STATE (m.u8 0)) = st) ∧
    (∃ s m, m = say 0x71 15 (migrate 15 16) ∧ s = due modeOperate 0x71 m [(Reg.GRP_ENG_CFG_TAKEOVER 15, 1), (Reg.GRP_ENG_CFG_SERVED 15, 1)] ∧
      m.u8 0 < 16 ∧ m.u8 1 ≤ 16 ∧ s.flag (Reg.GRP_ENG_CFG_TAKEOVER (m.u8 0)) = true ∧ s.flag (Reg.GRP_ENG_CFG_SERVED (m.u8 0)) = true ∧
      s.flt.latent = [] ∧ s.gstate (m.u8 0) ≠ gsTakeover ∧ (s.grpX (m.u8 0)).take.phase = 0 ∧ (s.grpX (m.u8 0)).mig.phase = 0 ∧
      s.engIn (m.u8 1) esSpare = true ∧ s.get (Reg.ENG_STATE_FETCH (m.u8 1)) = s.get (Reg.GRP_ENG_CFG_CODE_MODE (m.u8 0)) ∧ m.le 8 8 = 0) ∧
    (∃ s m, m = say 0x71 16 (migrate 0 16) ∧ s = due modeOperate 0x71 m [] ∧ Accepted s 0x71 m ∧ s.flag (Reg.GRP_ENG_CFG_TAKEOVER (m.u8 0)) = false) ∧
    (∃ s m, m = say 0x71 16 (migrate 0 16) ∧ s = due modeOperate 0x71 m [(Reg.GRP_ENG_CFG_TAKEOVER 0, 1), (Reg.GRP_ENG_CFG_SERVED 0, 0)] ∧
      s.flag (Reg.GRP_ENG_CFG_TAKEOVER (m.u8 0)) = true ∧ s.flag (Reg.GRP_ENG_CFG_SERVED (m.u8 0)) = false) := by
  refine ⟨?_, ⟨_, rfl, by decide +kernel⟩, by decide +kernel, ⟨_, _, rfl, rfl, accepted_of (by decide +kernel), by decide +kernel⟩, ?_, ?_, ?_, ?_,
    ⟨_, _, rfl, rfl, by decide +kernel⟩, ⟨_, _, rfl, rfl, accepted_of (by decide +kernel), by decide +kernel⟩, ⟨_, _, rfl, rfl, by decide +kernel⟩⟩
  · intro b h
    refine ⟨_, _, rfl, rfl, accepted_of ?_, ?_⟩ <;> (revert b; decide +kernel)
  · obtain ⟨c, h⟩ := long_queue 1048576
    have h2 : (say 0x40 15 entries1).le 0 2 = 1 := by decide +kernel
    exact ⟨{ State.reset with clave := [(15, c)] }, by rw [h2]; exact Nat.lt_succ_of_le h⟩
  · intro b h
    refine ⟨_, _, rfl, rfl, accepted_of ?_, ?_⟩ <;> (revert b; decide +kernel)
  · intro b h
    refine ⟨_, _, rfl, rfl, accepted_of ?_, ?_⟩ <;> (revert b; decide +kernel)
  · intro st h
    refine ⟨_, _, rfl, rfl, accepted_of ?_, ?_⟩ <;> (revert st; decide +kernel)

/-- LOADING has not begun in a clear state after power-on; slot 0 holds the least image in the system reserve where `st`. -/
def starting (l : List (Fld × Nat)) (x : StartCtl) : State := { inMode modeLoading l with start := x }
/-- The least image staged in the system reserve, from slot 1. -/
def staged : State :=
  { starting [] { accepted := some 1 } with mem := (leastImage.zipIdx stagingAt).filterMap (fun p => if p.1 = 0 then none else some (p.2, p.1)) }
theorem staged_of : staged.stagedImage = leastImage := by decide +kernel
theorem witness_StartAttempts :
    (∀ c, c < 16 → ¬ LoadingCause (inMode modeOperate) c) ∧ LoadingCause (starting [] { entry := some 15 }) 15 ∧
    LoadingCause { inMode modeDormant with bk := { lost := true } } 0 ∧ LoadingCause (inMode modeDormant) 1 ∧
    ((starting [(Reg.SYS_BKREG 0, 3)] { entry := some 3 }).failCount = 3 ∧ bit ((starting [(Reg.SYS_BKREG 0, 3)] { entry := some 3 }).get (Reg.SYS_BKREG 0)) 8 = false ∧
      (starting [(Reg.SYS_BKREG 0, 2)] { entry := some 3 }).failCount < 3 ∧
      (starting [] { entry := some 3, clockHeld := true }).start.clockHeld = true ∧ (8 : BitVec 4) ≠ 0 ∧ State.reset.flash.keyJob = none ∧
      (∀ k, k < 2 → (State.reset.headReject (State.reset.slotHead k)).isSome = true)) ∧
    ((starting [] {}).start.accepted = none ∧ (inMode modeDormant).awake = false) ∧
    (staged.awake = true ∧ staged.mode = modeLoading ∧ staged.start.entry = none ∧ staged.start.accepted = some 1 ∧ staged.led = {}) ∧
    ((inMode modeStandby [(Reg.SYS_START_STAT_CONCLUDED, 1)]).flag Reg.SYS_START_STAT_CONCLUDED = true ∧
      (inMode modeStandby).flag Reg.SYS_START_STAT_CONCLUDED = false ∧ (inMode modeStandby).awake = true ∧ (inMode modeStandby).mode = modeStandby) ∧
    (∃ s : State, s = { starting [] { entry := some 4 } with flt := { clockLost := true } } ∧ s.flt.clockLost = true ∧ s.mode = modeLoading ∧
      s.start.entry = some 4) ∧
    (∃ s : State, s = { starting [] { clockHeld := true } with flt := { clockLost := true } } ∧ s.flt.clockLost = true ∧ s.mode = modeLoading ∧
      s.start.entry = none) := by
  unfold LoadingCause
  exact ⟨by decide +kernel, by decide +kernel, by decide +kernel, by decide +kernel, by decide +kernel, by decide +kernel, by decide +kernel,
    by decide +kernel, ⟨_, rfl, by decide +kernel⟩, ⟨_, rfl, by decide +kernel⟩⟩
theorem witness_StartAttempts_verifies : ∃ c, staged.verifyBody staged.imageBase staged.stagedImage = .inl c := by
  rw [staged_of]
  exact verifies_of (image_body_of _ (by decide +kernel)) (by decide +kernel)

theorem witness_BackupAndEnables :
    ((inMode modeDormant).awake = false ∧ (inMode modeSafeHold).mode ≠ modeStandby ∧ (inMode modeSafeHold).mode ≠ modeOperate ∧
      (inMode modeOperate).awake = true ∧ (2199#16).toNat < 2200 ∧ 2200 ≤ (2200#16).toNat) ∧
    (State.reset.flag Reg.SYS_RTC_CTL_SYNC = false ∧ (at_ [(Reg.SYS_RTC_CTL_SYNC, 1), (Reg.ETH_PTP_STAT_SYNC, 1)]).flag Reg.SYS_RTC_CTL_SYNC = true ∧
      (at_ [(Reg.SYS_RTC_CTL_SYNC, 1), (Reg.ETH_PTP_STAT_SYNC, 1)]).flag Reg.ETH_PTP_STAT_SYNC = true) ∧
    ((∀ k, k < 4 → State.reset.get (Reg.SYS_CMP_CFG_EDGE k) = 0) ∧ State.reset.bk.cand.length = 4) ∧
    (∀ p ∈ [(none, 0), (some true, 0), (some true, 8)], ∃ s : State,
      s = { inMode modeDormant [(Reg.SYS_CMP_CFG_EDGE 3, 1)] with bk := { cand := [none, none, none, p.1], fifo := List.replicate p.2 ⟨0, 0, true⟩ } } ∧
        s.get (Reg.SYS_CMP_CFG_EDGE 3) ≠ 0 ∧ (∀ j, j < 4 → j ≠ 3 → s.get (Reg.SYS_CMP_CFG_EDGE j) = 0) ∧ true = (8#4).getLsbD 3 ∧
        s.bk.cand.length = 4 ∧ s.flag (Reg.SYS_CMP_CFG_STATE 3) = false ∧ s.bk.cand[3]? = some p.1 ∧ s.bk.fifo.length = p.2) ∧
    ((inMode modeOperate [(Reg.FAULT_DE_LEVEL, 1)]).flag Reg.FAULT_DE_LEVEL = true ∧ (inMode modeOperate).flag Reg.FAULT_DE_LEVEL = false ∧
      (inMode modeOperate).awake = true ∧
      (inMode modeStandby [(Reg.FAULT_DE_LEVEL, 1), (Reg.FAULT_DE_CFG, 5)]).get Reg.FAULT_DE_CFG ≠ 0 ∧
      (at_ [(Reg.FAULT_DE_HW_CUT, 1), (Reg.CUR_STAT_STATE 15, cellRun)]).flag Reg.FAULT_DE_HW_CUT = true ∧
      (at_ [(Reg.CUR_STAT_STATE 15, cellRun)]).get (Reg.CUR_STAT_STATE 15) = cellRun) ∧
    ((4999#16).toNat < 5000 ∧ 15000 < (15001#16).toNat ∧ (at_ [(Reg.AXIS_SRC_POWERED 15, 1), (Reg.GRP_OWN_AXES 15, 32768)]).axisGroup 15 = some 15 ∧
      (at_ [(Reg.AXIS_SRC_POWERED 15, 1)]).flag (Reg.AXIS_SRC_POWERED 15) = true) ∧
    (∃ s : State, s = { inMode modeOperate [(Reg.GRP_STATE_STATE 15, gsStopping)] with grp := [(15, { stopFrom := some 0, react := 3 })] } ∧ s.awake = true ∧
      s.live = true ∧ s.gstate 15 = gsStopping ∧ (s.grpX 15).stopFrom ≠ none ∧ (s.grpX 15).react < 4) := by
  refine ⟨by decide +kernel, by decide +kernel, by decide +kernel, ?_, by decide +kernel, by decide +kernel, ⟨_, rfl, by decide +kernel⟩⟩
  intro p h
  refine ⟨_, rfl, ?_⟩
  revert p; decide +kernel

/-- No event has been posted in this clock where none was since the last claim. -/
theorem first_of {s : State} (h : s.led.turn = none) : FirstEvent s := fun u hu => by rw [h] at hu; cases hu
/-- A short event of a class and code. -/
def ev (cls code : Nat) : Ev := { ntime := 0, coord := 0, group := 255, cls := cls, code := code, count := 1, long := false, payload := [] }
/-- The event queue runs and holds some events. -/
def running (q : List Ev) (x : LedgerCtl := {}) : State := { inMode modeStandby [(Reg.LEDGER_STAT_RUN, 1)] with led := { x with evq := q }, clk := 400 }
/-- A queue of 1022 entries. -/
theorem full_of (e : Ev) (n : Nat) : evqUsed (List.replicate n e) = n * e.entries := by
  simp [evqUsed, List.map_replicate, -List.reduceReplicate]
theorem witness_LedgerCommands :
    ((inMode modeLoading).live = false) ∧
    (∃ s, s = running [] ∧ s.live = true ∧ s.awake = true ∧ FirstEvent s ∧ evqUsed s.led.evq + (ev 0 1).entries + (ev 3 2).entries ≤ 1022) ∧
    ((ev 3 2).rank < (ev 0 1).rank ∧ 1022 < evqUsed (List.replicate 1022 (ev 1 5)) + (ev 0 1).entries ∧
      List.replicate 1022 (ev 1 5) = List.replicate 1021 (ev 1 5) ++ ev 1 5 :: []) ∧
    (∃ s, s = running (List.replicate 1022 (ev 1 5)) ∧ s.live = true ∧ FirstEvent s ∧ s.led.evq = List.replicate 1022 (ev 1 5) ∧
      (∀ r ∈ s.led.evq, r.group ≠ (ev 7 1).group ∨ r.cls ≠ (ev 7 1).cls ∨ r.code ≠ (ev 7 1).code) ∧ (ev 7 1).cls < 8 ∧ s.led.loss = none) ∧
    (∃ s, s = running [] { loss := some (3, List.replicate 8 1) } ∧ s.led.loss = some (3, List.replicate 8 1) ∧ (List.replicate 8 1).length = 8 ∧
      evqUsed s.led.evq + 64 ≤ 1022 ∧ s.led.writing = none ∧ s.led.lastClaim = none) ∧
    (∃ s, s = running [ev 1 5] { lastClaim := some 200 } ∧ s.led.evq = [ev 1 5] ∧ s.led.writing = none ∧ s.led.lastClaim = some 200 ∧
      200 + 200 ≤ s.clk ∧ (ev 1 5).clk < s.clk ∧ s.led.loss = none) ∧
    (∃ s, s = running [{ ev 1 5 with clk := 400 }] ∧ s.clk ≤ (({ ev 1 5 with clk := 400 }) : Ev).clk ∧ (ev 1 5).cls ≠ clsLoss) ∧
    (∃ s r, s = running [] { writing := some r, ms := 0 } ∧ r = ⟨5, 0, 0, 255, clsLoss, 1, 1, List.replicate 32 0⟩ ∧ s.led.writing = some r ∧
      s.live = true ∧ s.awake = true ∧ s.clk / 400000 = s.led.ms ∧ r.payload.length ≤ 32) ∧
    (∃ s : State, s = { running [] with clk := 400000 } ∧ s.clk / 400000 = s.led.ms + 1) := by
  have h2 : evqUsed (List.replicate 1022 (ev 1 5)) = 1022 := by rw [full_of]; rfl
  refine ⟨by decide +kernel, ⟨_, rfl, by decide +kernel, by decide +kernel, first_of rfl, by decide +kernel⟩,
    ⟨by decide +kernel, by rw [h2]; decide +kernel, ?_⟩, ⟨_, rfl, by decide +kernel, first_of rfl, rfl, ?_, by decide +kernel, rfl⟩,
    ⟨_, rfl, by decide +kernel⟩, ⟨_, rfl, by decide +kernel⟩, ⟨_, rfl, by decide +kernel⟩, ⟨_, _, rfl, rfl, by decide +kernel⟩,
    ⟨_, rfl, by decide +kernel⟩⟩
  · exact (List.replicate_succ' (n := 1021)).trans rfl
  · intro r hr
    rw [List.eq_of_mem_replicate hr]
    decide
/-- The device endpoint, or group 15, has a subscription and waiting items of a length. -/
def waiting (ep : Fin 17) (n : Nat) (src : Src) (l : List (Fld × Nat)) : State :=
  { at_ ([(Reg.SYS_MODE_CODE, modeStandby), (Reg.SYS_BXP_SESSION_OPEN ep, 1), (Reg.POOL_STAT_FREE_TOTAL, 65536)] ++ l) with
    sess := [(ep, { mask := 255, src := src, waiting := List.replicate n ⟨1, List.replicate 64 0⟩ })] }
theorem witness_event_frames :
    (∀ ep, (State.reset.sessX ep).waiting = []) ∧
    (∀ p ∈ [((16 : Fin 17), 1, 65536), (16, 21, 65536), (15, 1, 0)], ∃ s, s = waiting p.1 p.2.1 .i2cs [(Reg.POOL_STAT_FREE_TOTAL, p.2.2)] ∧ s.live = true ∧
      s.awake = true ∧ (s.sessX p.1).waiting ≠ [] ∧ (s.sessX p.1).mask ≠ 0 ∧ s.flag (Reg.SYS_BXP_SESSION_OPEN p.1) = true ∧ s.pool.frees = []) ∧
    Grantable (waiting 16 1 .i2cs []) 16 1 ∧ ¬ Grantable (waiting 15 1 .i2cs [(Reg.POOL_STAT_FREE_TOTAL, 0)]) 15 1 ∧
    (∃ s : State, s = { waiting 16 1 .i2cs [] with i2c := { out := List.replicate 6 [] } } ∧ 6 ≤ s.i2c.out.length + s.i2cOpen ∧
      (s.sessX 16).src = .i2cs) := by
  refine ⟨fun _ => rfl, ?_, ?_, ?_, ⟨_, rfl, by decide +kernel⟩⟩
  · intro p h
    refine ⟨_, rfl, ?_⟩
    revert p; decide +kernel
  · unfold Grantable; decide +kernel
  · unfold Grantable; decide +kernel

/-- Cell 15 in a cell state and a phase of its power sequence. -/
def cell (st phase : Nat) (x : CurX) (l : List (Fld × Nat)) : State :=
  { inMode modeOperate ([(Reg.CUR_STAT_STATE 15, st)] ++ l) with axis := [(15, { phase := phase })], cur := [(15, x)] }
theorem witness_CellCommands :
    ((inMode modeDormant).awake = false ∧ (State.reset.curX 15).meas = false ∧ (cell cellRun 3 { meas := true } []).awake = true ∧
      ((cell cellRun 3 { meas := true } []).curX 15).meas = true ∧ (cell cellRun 3 { meas := true } []).get (Reg.CUR_STAT_STATE 15) = cellRun ∧
      (cell cellOff 0 { meas := true } []).get (Reg.CUR_STAT_STATE 15) ≠ cellRun) ∧
    ((cell cellRun 3 {} [(Reg.CUR_CFG_TWO_PHASE 15, 1)]).flag (Reg.CUR_CFG_TWO_PHASE 15) = true ∧
      (cell cellRun 3 {} []).flag (Reg.CUR_CFG_TWO_PHASE 15) = false ∧ (0 : Int).natAbs ≤ (cell cellRun 3 {} []).get (Reg.CUR_SUM_LIM 15)) ∧
    (∀ c ∈ [TripCause.oc, .sum, .psFlt, .sdLoss],
      (at_ [((tripRow c 15 0).1, 1), (Reg.CUR_STAT_STATE 15, cellTripped)]).flag (tripRow c 15 0).1 = true ∧
      (at_ [((tripRow c 15 0).1, 1), (Reg.CUR_STAT_STATE 15, cellTripped)]).get (Reg.CUR_STAT_STATE 15) = cellTripped ∧
      (at_ [((tripRow c 15 0).1, 0)]).flag (tripRow c 15 0).1 = false) ∧
    (State.reset.axisGroup 15 = none ∧ (at_ [(Reg.GRP_OWN_AXES 15, 32768)]).axisGroup 15 = some 15) ∧
    (∀ k ∈ [1, 2, 4, 5], ((cell cellRun k {} []).axisX 15).phase = k) ∧ (State.reset.axisX 15).phase = 0 ∧
    (cell cellRun 1 {} [(Reg.CUR_BRAKE_REL_DELAY 15, 65535)]).get (Reg.CUR_BRAKE_REL_DELAY 15) ≠ 0 := by decide +kernel
/-- Ones in the bitstreams of a measurement give the highest value, whose sum exceeds the limit. -/
theorem witness_sum_of_phases : ∃ s, s = cell cellRun 3 { meas := true } [(Reg.CUR_GAIN_A 15, 2 ^ 30)] ∧ s.osr 15 = 64 ∧
    decimate 64 (BitVec.allOnes 768) = 1 ∧ 2 * s.get (Reg.CUR_GAIN_A 15) = 2 ^ 31 ∧ s.getI (Reg.CUR_OFS_A 15) = 0 ∧ satI 32 (2 ^ 31) = 2 ^ 31 - 1 ∧
    s.flag (Reg.CUR_CFG_TWO_PHASE 15) = false ∧ s.get (Reg.CUR_SUM_LIM 15) < 2 ^ 31 - 1 := ⟨_, rfl, by decide +kernel⟩

/-- Network axis 31 of group 15 in a drive state. -/
def driving (dstate : Nat) (x : AxisX) (l : List (Fld × Nat)) : State :=
  { inMode modeOperate ([(Reg.GRP_OWN_AXES 15, 2 ^ 31), (Reg.AXIS_NET_STAT_DSTATE 31, dstate)] ++ l) with axis := [(31, x)] }
/-- A frame with an epoch. -/
def fb (ok ready : Bool) (epoch : BitVec 8) : DriveFb :=
  { headerOk := ok, ready := ready, epoch := epoch, current := 0xFFFFFFFF, pos := BitVec.allOnes 64, sample := 0 }
theorem witness_DriveFrames :
    0 < State.reset.get Reg.SYS_TICK_CFG_FAST_CLK * State.reset.get Reg.SYS_TICK_CFG_SLOW_DIV ∧
    ((inMode modeLoading).live = false ∧ State.reset.axisGroup (16 + (15 : Fin 16)) = none) ∧
    (∀ st ∈ [0, 1, 2, 3], (driving st {} []).live = true ∧ (driving st {} []).awake = true ∧ (driving st {} []).axisGroup (16 + (15 : Fin 16)) = some 15 ∧
      (driving st {} []).get (Reg.AXIS_NET_STAT_DSTATE 31) = st ∧ (driving st {} []).driveValid (16 + (15 : Fin 16)) (fb true true 255) = true ∧
      (driving st {} []).driveValid (16 + (15 : Fin 16)) (fb true false 1) = true ∧
      (driving st {} []).driveValid (16 + (15 : Fin 16)) (fb true true 0) = false ∧ (driving st {} []).driveValid (16 + (15 : Fin 16)) (fb false true 1) = false) ∧
    (((driving 1 { epoch := 255 } [(Reg.AXIS_NET_STAT_SYNC_CNT 31, 9), (Reg.AXIS_NET_CFG_RESYNC_N 31, 10)]).axisX 31).epoch = (fb true true 255).epoch.toNat ∧
      (driving 1 { epoch := 255 } [(Reg.AXIS_NET_STAT_SYNC_CNT 31, 9), (Reg.AXIS_NET_CFG_RESYNC_N 31, 10)]).get (Reg.AXIS_NET_CFG_RESYNC_N 31) ≤
        (driving 1 { epoch := 255 } [(Reg.AXIS_NET_STAT_SYNC_CNT 31, 9), (Reg.AXIS_NET_CFG_RESYNC_N 31, 10)]).get (Reg.AXIS_NET_STAT_SYNC_CNT 31) + 1 ∧
      (driving 1 {} [(Reg.AXIS_NET_STAT_SYNC_CNT 31, 8), (Reg.AXIS_NET_CFG_RESYNC_N 31, 10)]).get (Reg.AXIS_NET_STAT_SYNC_CNT 31) + 1 < 10) ∧
    ((driving 2 {} [(Reg.AXIS_NET_STAT_EPOCH 31, 255)]).get (Reg.AXIS_NET_STAT_EPOCH 31) = 255 ∧
      (driving 2 { miss := 1 } [(Reg.AXIS_NET_CFG_MISS_LIMIT 31, 2)]).get (Reg.AXIS_NET_CFG_MISS_LIMIT 31) ≤
        ((driving 2 { miss := 1 } [(Reg.AXIS_NET_CFG_MISS_LIMIT 31, 2)]).axisX 31).miss + 1) ∧
    ((driving 2 { got := true } []).axisX 31).got = true ∧ ((driving 2 {} []).axisX 31).got = false ∧ ((driving 2 {} []).axisX 31).judged = false := by
  decide +kernel

/-- An entry found late at the present clock, 5. -/
def entry (act target param late : Nat) : WEntry := { e := { coord := 0, act := act, dir := 1, target := target, param := param }, ready := true, at_ := some 5, late := late }
/-- Group 15, which owns every fast output and latch unit, has an entry in its window; output 7 stands as `x`, and on or off. -/
def due5 (w : WEntry) (x : HoX) (on : Bool) (l : List (Fld × Nat)) : State :=
  { inMode modeOperate ([(Reg.GRP_OWN_IO_HO 15, 255), (Reg.GRP_OWN_SNARE 15, 2 ^ 32 - 1), (Reg.CLAVE_STAT_SRC_VALID 15, 1),
      (Reg.FIELD_HO_STAT, if on then 128 else 0)] ++ l) with
    clk := 5, clave := [(15, { win := [w], pred := true })], ho := [(7, x)] }
theorem witness_entries_due : (∀ act ∈ [0, 1, 2, 3, 0x10, 0x11, 0x20, 0x21, 0x22, 0x30, 0x40, 0x50, 0x60], ∀ late ∈ [0, 0xFFFFFF],
    ∃ s w, w = entry act 7 15 late ∧ s = due5 w {} false [] ∧ s.EntryDue 15 0 act w) := by
  unfold State.EntryDue
  intro a h l hl
  refine ⟨_, _, rfl, rfl, ?_⟩
  revert l; revert a; decide +kernel
theorem witness_FastOutputs :
    (∀ p ∈ [(1, false), (1, true), (2, true), (2, false), (3, false)], ∃ s w, w = entry p.1 7 65535 0 ∧ s = due5 w {} p.2 [] ∧ s.OneAction 15 w ∧
      s.OnAllowed 15 w.e.target ∧ s.hoOn w.e.target = p.2) ∧
    (∃ s w, w = entry 1 7 0 0 ∧ s = due5 w {} false [(Reg.CLAVE_HO_STATE_BLOCKED 15 7, 1)] ∧ s.OneAction 15 w ∧ ¬ s.OnAllowed 15 w.e.target) ∧
    (∃ s w, w = entry 2 7 0 0 ∧ s = due5 w { onClk := 1 } true [(Reg.CLAVE_CFG_MIN_PULSE 15, 4)] ∧ s.OneAction 15 w ∧ s.hoOn w.e.target = true ∧
      (s.hoX w.e.target).onClk + s.get (Reg.CLAVE_CFG_MIN_PULSE 15) ≤ s.clk) ∧
    (∃ s w, w = entry 2 7 0 0 ∧ s = due5 w { onClk := 1 } true [(Reg.CLAVE_CFG_MIN_PULSE 15, 5)] ∧ s.OneAction 15 w ∧ s.hoOn w.e.target = true ∧
      s.flag (Reg.CLAVE_CFG_SUPPRESS 15) = false ∧ s.clk < (s.hoX w.e.target).onClk + s.get (Reg.CLAVE_CFG_MIN_PULSE 15)) ∧
    (∃ s : State, s = { due5 (entry 0 0 0 0) { offAt := some 5 } true [] with clave := [] } ∧ s.up = true ∧ s.hoGroup 7 = some 15 ∧ s.hoOn 7 = true ∧
      s.hoForced 7 = false ∧ (s.hoActions 15 7).map (fun a => (a.on, a.place)) = [(false, none)] ∧ (s.hoX 7).offAt = some 5 ∧ 5 ≤ s.clk ∧
      (s.hoX 7).onClk + s.get (Reg.CLAVE_CFG_MIN_PULSE 15) ≤ s.clk) ∧
    (∃ s : State, s = due5 (entry 0 0 0 0) { byClave := true, onCoord := 2 ^ 24 } true [(Reg.CLAVE_HO_LIM_MAX_SPAN 15 7, 2 ^ 24),
        (Reg.CLAVE_HO_LIM_MAX_ON 15 7, 5)] ∧ s.up = true ∧ s.hoGroup 7 = some 15 ∧ s.hoOn 7 = true ∧ (s.hoX 7).byClave = true ∧
      s.get (Reg.CLAVE_HO_LIM_MAX_SPAN 15 7) ≠ 0 ∧ ofQ (s.get (Reg.CLAVE_HO_LIM_MAX_SPAN 15 7)) ≤
        |((s.claveX 15).motion.at_ (((s.clk : Rat) + 1 / 2 - (s.claveX 15).motion.clk) / 400000000)).p - ofQ (s.hoX 7).onCoord| ∧
      s.get (Reg.CLAVE_HO_LIM_MAX_ON 15 7) ≠ 0 ∧ (s.hoX 7).onClk + s.get (Reg.CLAVE_HO_LIM_MAX_ON 15 7) ≤ s.clk) ∧
    (State.reset.hoGroup 7 = none ∧ (State.reset.hoActions 15 7).all (fun a => a.place.isSome) = true) := by
  unfold State.OneAction State.OnAllowed
  refine ⟨?_, ⟨_, _, rfl, rfl, by decide +kernel⟩, ⟨_, _, rfl, rfl, by decide +kernel⟩, ⟨_, _, rfl, rfl, by decide +kernel⟩,
    ⟨_, rfl, by decide +kernel⟩, ⟨_, rfl, by decide +kernel⟩, by decide +kernel⟩
  intro p h
  refine ⟨_, _, rfl, rfl, ?_⟩
  revert p; decide +kernel

theorem witness_EntryActions :
    (∀ b ∈ [0, 1], (due5 (entry 0x10 15 0 0) {} false [(Reg.FIELD_LINK_STAT_UP, b)]).onBlocked 15 = false ∧
      (due5 (entry 0x10 15 0 0) {} false [(Reg.FIELD_LINK_STAT_UP, b)]).flag Reg.FIELD_LINK_STAT_UP = (b == 1)) ∧
    (due5 (entry 0x10 15 0 0) {} false [(Reg.GRP_STATE_STATE 15, gsFault)]).onBlocked 15 = true ∧
    (∃ s, s = due5 (entry 0x21 31 0 0) {} false [(Reg.SNARE_STAT_ARMED 31, 1)] ∧ s.flag (Reg.SNARE_STAT_ARMED 31) = true ∧ (s.snareX 31).ta ≠ s.clk ∧ (31 : Nat) < 32) ∧
    (∃ s, s = due5 (entry 0x22 31 0 0) {} false [(Reg.SNARE_STAT_ARMED 31, 1), (Reg.SNARE_CFG_KIND 31, 2)] ∧ s.get (Reg.SNARE_CFG_KIND 31) = 2 ∧
      s.CanCapture 31 s.clk) ∧
    State.reset.get (Reg.SNARE_CFG_KIND 31) ≠ 2 ∧
    (∃ s, s = due5 (entry 0x30 0 0 0) {} false [(Reg.GRP_COEF_CTL 15, 1), (Reg.GRP_COEF_STAT_MODE 15, 0)] ∧ s.flag (Reg.GRP_COEF_STAT_MODE 15) = false ∧
      s.flag (Reg.GRP_COEF_CTL 15) = true ∧ s.flag (Reg.GRP_COEF_STAT_PENDING 15) = false) ∧
    (due5 (entry 0x30 0 0 0) {} false [(Reg.GRP_COEF_STAT_MODE 15, 1)]).flag (Reg.GRP_COEF_STAT_MODE 15) = true ∧
    (∃ s, s = due5 (entry 0x40 0 15 0) {} false [(Reg.GRP_ENG_CFG_SERVED 15, 1), (Reg.GRP_ENGINE 15, 16)] ∧ s.flag (Reg.GRP_ENG_CFG_SERVED 15) = true ∧
      s.engOf 15 < 17 ∧ (entry 0x40 0 15 0).e.param < 16 ∧ s.shadowOf 15 = none) ∧
    (∃ s : State, s = { due5 (entry 0x60 0 0 0) {} false [(Reg.SYS_BXP_SESSION_OPEN 16, 1)] with sess := [(16, { mask := 512 })] } ∧
      s.flag (Reg.CLAVE_CFG_RECORD 15) = false ∧ s.flag (Reg.SYS_BXP_SESSION_OPEN 16) = true ∧ bit (s.sessX 16).mask 9 = true) ∧
    (∃ (s : State) (w : WEntry), w = { entry 0 0 0 0 with at_ := none } ∧ s = { inMode modeOperate [(Reg.CLAVE_CFG_SRC 15, 2)] with
          clk := 256
          clave := [(15, { due := some 0, pred := true, hist := [(200, 0), (100, -1)], win := [w] })] } ∧ s.up = true ∧
      (s.claveX 15).due = some 0 ∧ 0 + 256 ≤ s.clk ∧ s.measured 15 = true ∧ (s.claveX 15).hist = (200, 0) :: (100, -1) :: [] ∧
      (s.claveX 15).win[0]? = some w ∧ w.ready = true ∧ w.at_ = none ∧ bit w.e.dir 0 = true ∧ -1 < w.e.coord ∧ w.e.coord ≤ 0 ∧
      s.get (Reg.CLAVE_CFG_SRC 15) ≠ 5) ∧
    (at_ [(Reg.CLAVE_CFG_SRC 15, 5)]).get (Reg.CLAVE_CFG_SRC 15) = 5 := by
  unfold State.CanCapture
  exact ⟨by decide +kernel, by decide +kernel, ⟨_, rfl, by decide +kernel⟩, ⟨_, rfl, by decide +kernel⟩, by decide +kernel, ⟨_, rfl, by decide +kernel⟩,
    by decide +kernel, ⟨_, rfl, by decide +kernel⟩, ⟨_, rfl, by decide +kernel⟩, ⟨_, _, rfl, rfl, by decide +kernel⟩, by decide +kernel⟩

/-- Port 15 of a type stands as `x`. -/
def port (typ : Nat) (x : FbX) (l : List (Fld × Nat) := []) : State :=
  { inMode modeOperate ([(Reg.FB_CFG_TYPE 15, typ)] ++ l) with fb := [(15, x)], clk := 100 }
theorem witness_EdgesAndReads :
    ((inMode modeOperate).up = true ∧ (∀ b ∈ [0, 1], bit ((inMode modeOperate [(Reg.FIELD_HI_STAT_LEVEL, b * 128)]).get Reg.FIELD_HI_STAT_LEVEL) 7 = (b == 1))) ∧
    (∀ d ∈ [0, 64], ∃ (s : State) (e : SnEdge), e = ⟨5, 0, 0, true, none, [0], false⟩ ∧
      s = { inMode modeOperate [(Reg.GRP_OWN_SNARE 15, 2 ^ 31), (Reg.GRP_OWN_AXES 15, 2 ^ 31), (Reg.SNARE_DEPTH 31, d)] with
            snare := [(31, { pend := [e], blk := some (65535, 15) })], axis := [(31, { actH := [(5, 9)] })] } ∧ s.up = true ∧
      s.snareGroup 31 = some 15 ∧ (s.snareX 31).pend = e :: [] ∧ (s.axisX 31).actH = (5, 9) :: [] ∧ e.clk ≤ 5 ∧ s.axesOf 15 = [31] ∧
      (s.snareX 31).blk = some (65535, 15) ∧ s.get (Reg.SNARE_DEPTH 31) = d) ∧
    (∀ q ∈ [(0, fbInc), (2, fbInc), (3, fbInc), (1, fbHall), (3, fbHall)], (port q.2 { lines := q.1 }).up = true ∧ ((port q.2 { lines := q.1 }).fbX 15).lines < 8 ∧
      (5 : BitVec 3).toNat ≠ q.1 ∧ (port q.2 { lines := q.1 }).get (Reg.FB_FILT_LINE_FILT 15) < min 10000 (min 10000 10000) ∧
      (port q.2 { lines := q.1 }).get (Reg.FB_CFG_TYPE 15) = q.2) ∧
    (hallPos (5 : BitVec 3).toNat = some 5 ∧ hallPos 1 = some 0 ∧ hallPos 3 = some 1) ∧
    ((port fbInc { ill := 15 } [(Reg.FB_FILT_ILL_LIMIT 15, 16)]).get (Reg.FB_FILT_ILL_LIMIT 15) ≤ ((port fbInc { ill := 15 } []).fbX 15).ill + 1 ∧
      (port fbInc { ill := 15 } []).flag (Reg.FB_STAT_FAULT 15) = false) ∧
    ((port fbSinCos { lines := 3 } [(Reg.FB_CFG_ZGATE 15, 4)]).get (Reg.FB_CFG_ZGATE 15) = 4 ∧
      ((port fbSinCos { lines := 3 } []).fbX 15).lines % 2 * 2 + ((port fbSinCos { lines := 3 } []).fbX 15).lines / 2 % 2 + 1 = 4) ∧
    ((port fbSinCos {} [(Reg.FB_NOM 15, 32767)]).get (Reg.FB_NOM 15) ≠ 0 ∧ (inMode modeLoading).up = false) ∧
    (∀ b ∈ [fbBiss, fbSsi], (port b {}).readDue 15 = true ∧ ((port b {}).fbX 15).busy = none ∧ ((port b { busy := some 50 }).fbX 15).busy = some 50 ∧
      (port b { busy := some 50 } [(Reg.FB_LEAD 15, 82)]).readEnd 15 50 ≤ (port b { busy := some 50 }).clk ∧
      (port b { busy := some 50 } [(Reg.FB_LEAD 15, 82)]).clk ≤ (port b { busy := some 50 } [(Reg.FB_LEAD 15, 82)]).readEnd 15 50 ∧
      (port b { busy := some 50 } [(Reg.FB_LEAD 15, 83)]).clk < (port b { busy := some 50 } [(Reg.FB_LEAD 15, 83)]).readEnd 15 50) ∧
    (∃ s, s = port fbSsi { busy := some 50, raw := some 0 } [(Reg.FB_LEAD 15, 100), (Reg.FB_SER_CFG_DATA_BITS 15, 8), (Reg.FB_SER_CFG_POS_BITS 15, 8),
        (Reg.FB_SER_BITS_ERR_BIT 15, 255), (Reg.FB_MAX_STEP 15, 128)] ∧ s.up = true ∧ (s.fbX 15).busy = some 50 ∧ s.clk ≤ s.readEnd 15 50 ∧
      s.get (Reg.FB_CFG_TYPE 15) = fbSsi ∧ namedBit (s.get (Reg.FB_SER_BITS_ERR_BIT 15)) 128 ≠ some true ∧ (s.fbX 15).raw = some 0 ∧
      (128 : Int) = (128 : Nat) - (0 : Nat) + 0 * 2 ^ s.get (Reg.FB_SER_CFG_POS_BITS 15) ∧ 2 * (128 : Int) ≤ 2 ^ s.get (Reg.FB_SER_CFG_POS_BITS 15) ∧
      (128 : Int).natAbs ≤ s.get (Reg.FB_MAX_STEP 15) ∧ 128 = 128 / 2 ^ s.get (Reg.FB_SER_CFG_POS_LSB 15) % 2 ^ s.get (Reg.FB_SER_CFG_POS_BITS 15)) ∧
    (∃ s, s = port fbBiss { busy := some 50 } [(Reg.FB_LEAD 15, 100), (Reg.FB_SER_CFG_DATA_BITS 15, 64), (Reg.FB_SER_CFG_POS_BITS 15, 8),
        (Reg.FB_SER_BITS_NE_BIT 15, 0), (Reg.FB_SER_CFG_CRC_BITS 15, 6), (Reg.FB_CRC_POLY 15, 3)] ∧ (s.fbX 15).raw = none ∧
      (2 ^ 6 - 1 - crcBits 6 3 1 64 0) % 2 ^ s.get (Reg.FB_SER_CFG_CRC_BITS 15) = 2 ^ s.get (Reg.FB_SER_CFG_CRC_BITS 15) - 1
          - crcBits (s.get (Reg.FB_SER_CFG_CRC_BITS 15)) (s.get (Reg.FB_CRC_POLY 15)) 1 (s.get (Reg.FB_SER_CFG_DATA_BITS 15)) 0 ∧
      namedBit (s.get (Reg.FB_SER_BITS_NE_BIT 15)) 1 ≠ some false) ∧
    (relative (State.reset.get (Reg.FB_CFG_TYPE 15)) = false ∧ relative fbHall = true ∧ (port fbHall {}).live = true ∧
      (5 : Fin 6).val ∉ ((port fbHall {}).fbX 15).outside.map Prod.fst) ∧
    (∃ s, s = port fbHall { outside := [(5, 36)] } ∧ (s.fbX 15).outside = [(5, 36)] ∧ 36 + 64 ≤ s.clk ∧ s.flag (Reg.FB_STAT_FAULT 15) = false) := by
  refine ⟨by decide +kernel, ?_, by decide +kernel, by decide +kernel, by decide +kernel, by decide +kernel, by decide +kernel, by decide +kernel,
    ⟨_, rfl, by decide +kernel⟩, ⟨_, rfl, by decide +kernel⟩, by decide +kernel, ⟨_, rfl, by decide +kernel⟩⟩
  intro d h
  refine ⟨_, _, rfl, rfl, ?_⟩
  revert d; decide +kernel

/-- The field link stands as `x`. -/
def linked (x : FieldX) (l : List (Fld × Nat) := []) : State := { inMode modeOperate ([(Reg.FIELD_LINK_STAT_UP, 1)] ++ l) with field := x, ntimeH := 200000 }
/-- A command that has been sent to the field, and one that waits. -/
def doCmd (sent : Bool) (at_ : Nat) : DoCmd := { at_ := at_, set_ := 15, on := true, clave := some 15, was := false, sent := sent }
theorem witness_FieldEvents :
    ((inMode modeDormant).awake = false) ∧
    (∀ n ∈ [1, 2], ∃ s, s = linked { missRun := n, cmds := [doCmd true 0, doCmd false 100000] } [(Reg.GRP_OWN_DI 15, 1)] ∧ s.awake = true ∧
      (s.field.cmds.all (fun c => c.sent || decide (s.ntime ≤ c.at_))) = true ∧ s.field.powered = true ∧ s.field.missRun = n ∧
      s.flag Reg.FIELD_LINK_STAT_UP = true ∧ s.live = true ∧ s.get (Reg.GRP_OWN_DI 15) ≠ 0) ∧
    (∃ s, s = linked { powered := false } ∧ s.field.powered = false) ∧
    (∃ s, s = linked { cmds := [doCmd false 100000], edges := [(31, true, 99000)], ai := some ([0x7FFF, 0, 0, 0x8000], 8, 99000), validRun := 99 }
        [(Reg.FIELD_AI_CFG 3, 1)] ∧ s.awake = true ∧ s.field.powered = true ∧ (s.field.cmds.all (fun c => decide (c.set_ < 16) && decide (s.ntime ≤ c.at_))) = true ∧
      s.field.trips = [] ∧ (doCmd false 100000).clave.isSome ∧ 100 ≤ s.field.validRun + 1 ∧ s.field.ai = some ([0x7FFF, 0, 0, 0x8000], 8, 99000) ∧
      s.flag (Reg.FIELD_AI_CFG 3) = true ∧ s.live = true ∧ s.field.edges = [(31, true, 99000)]) ∧
    (∃ s, s = linked { trips := [15] } [(Reg.GRP_OWN_DO 15, 32768)] ∧ s.field.trips = [15] ∧ s.doGroup 15 = some 15) ∧
    (∀ k ∈ [0, 1, 2], ∃ s, s = linked {} [(Reg.FIELD_DO_CFG_SAFE 15, k)] ∧ s.field.powered = true ∧ s.field.silent = false ∧
      s.get (Reg.FIELD_DO_CFG_SAFE (s.doBase 15)) = k) ∧
    (∃ s, s = linked { silent := true, fieldRun := 1000 } [(Reg.FIELD_SILENCE_AUTO_RESUME, 1)] ∧ s.field.silent = true ∧ s.field.powered = true ∧
      s.flag Reg.FIELD_SILENCE_AUTO_RESUME = true ∧ 1000 ≤ s.field.fieldRun) ∧
    (∃ s, s = linked { fieldRun := 999 } ∧ s.field.fieldRun < 1000) ∧
    (∃ s, s = linked {} [(Reg.FIELD_PU_CFG_DIFF 3, 1)] ∧ s.live = true ∧ s.flag (Reg.FIELD_PU_CFG_DIFF 3) = true) ∧
    (∀ v ∈ [0, 5], ∃ s, s = linked {} [(Reg.FIELD_DI_CFG_LIMIT 31, 5), (Reg.FIELD_DI_STAT_INTEG 31, v - 1)] ∧ s.field.powered = true ∧
      min (s.get (Reg.FIELD_DI_CFG_LIMIT 31)) (s.get (Reg.FIELD_DI_STAT_INTEG 31) + 1) = max 1 v ∧ bit s.field.di 31 = false) ∧
    (∃ s : State, s = linked { edges := List.replicate 8 (31, true, 0) } ∧ 8 ≤ (s.field.edges.filter (fun e => decide (e.1 = 31))).length) ∧
    (∃ s, s = linked {} [(Reg.FIELD_DI_CFG_WB_EN 31, 1), (Reg.GRP_OWN_DI 15, 2 ^ 31)] ∧ s.flag (Reg.FIELD_DI_CFG_WB_EN 31) = true ∧
      s.flag (Reg.FIELD_DI_STAT_BROKEN 31) = false ∧ s.up = true ∧ s.diGroup 31 = some 15) ∧
    (∃ s, s = linked { cmds := [doCmd false 0, doCmd true 100000] } ∧ s.field.cmds[1]? = some (doCmd true 100000) ∧ (doCmd true 100000).at_ ≤ s.ntime ∧
      s.field.cmds.length = 2 ∧ (doCmd false 0).sent = false) ∧
    (∃ s, s = linked {} [(Reg.FIELD_PAR_PAIR, 128)] ∧ s.doBase 15 = 14 ∧ s.flag (Reg.FIELD_DO_STAT_TRIPPED (s.doBase 15)) = false) ∧
    (∀ k ∈ [0, 1, 2], ∃ s, s = linked {} [(Reg.FIELD_PU_CFG_MODE 3, k), (Reg.FIELD_PU_CFG_FILT 3, 15)] ∧ s.up = true ∧ (s.puX 3).lines < 4 ∧
      s.get (Reg.FIELD_PU_CFG_FILT 3) < min 16 16 ∧ s.get (Reg.FIELD_PU_CFG_MODE 3) = k) := by
  refine ⟨by decide +kernel, ?_, ⟨_, rfl, by decide +kernel⟩, ⟨_, rfl, by decide +kernel⟩, ⟨_, rfl, by decide +kernel⟩, ?_, ⟨_, rfl, by decide +kernel⟩,
    ⟨_, rfl, by decide +kernel⟩, ⟨_, rfl, by decide +kernel⟩, ?_, ⟨_, rfl, by decide +kernel⟩, ⟨_, rfl, by decide +kernel⟩, ⟨_, rfl, by decide +kernel⟩,
    ⟨_, rfl, by decide +kernel⟩, ?_⟩
  all_goals (intro n h; refine ⟨_, rfl, ?_⟩; revert n; decide +kernel)

/-- Both external ports have a link, and port 1 stands as `x`. -/
def ether (x : EthPortX) (l : List (Fld × Nat) := []) : State :=
  { inMode modeOperate ([(Reg.ETH_PORT_STAT_LINK 0, 1), (Reg.ETH_PORT_STAT_LINK 1, 1), (Reg.ETH_PORT_CTL_EN 0, 1), (Reg.ETH_PORT_CTL_EN 1, 1),
      (Reg.ETH_MAC_LO, 2), (Reg.ETH_IP, 0xC0A80001)] ++ l) with eth := { ports := [(1, x)] } }
/-- A frame of a length, to a destination, from a source that is a group address or not. -/
def frame (n : Nat) (da sa : Nat) (typ : Nat := 0x0800) : List Byte := beBytes 6 da ++ beBytes 6 sa ++ beBytes 2 typ ++ List.replicate (n - 14) 0
/-- A frame that waits in a class. -/
def wait (cls : Nat) : TxFrame := { cls := cls, len := 64, bytes := List.replicate 60 0, blk := none }
theorem witness_EthernetEvents :
    ((inMode modeLoading).ethRuns 1 = false ∧ (inMode modeOperate).flag (Reg.ETH_PORT_STAT_LINK 1) = false) ∧
    ((ether {}).ethRuns 1 = true ∧ (ether {}).flag (Reg.ETH_PORT_STAT_LINK 1) = true ∧ (frame 59 0 0).length < 60 ∧ 1518 < (frame 1519 0 0).length ∧
      beAt (frame 60 0 0 0x8808) 12 2 = 0x8808) ∧
    (∀ q ∈ [(60, 0xFFFFFFFFFFFF), (1518, 0x060000000001)], (ether {}).up = true ∧ (ether {}).flag Reg.ETH_POLICE = false ∧
      60 ≤ (frame q.1 q.2 0x060000000002).length ∧ (frame q.1 q.2 0x060000000002).length ≤ 1518 ∧ beAt (frame q.1 q.2 0x060000000002) 12 2 ≠ 0x8808 ∧
      beAt (frame q.1 q.2 0x060000000002) 6 6 ≠ (ether {}).ownMac ∧ beAt (frame q.1 q.2 0x060000000002) 0 6 ≠ (ether {}).ownMac ∧
      beAt (frame q.1 q.2 0x060000000002) 0 6 ≠ 0x0180C200000E ∧ beAt (frame q.1 q.2 0x060000000002) 0 6 = q.2 ∧
      (typeOf (frame q.1 q.2 0x060000000002)).2 ≠ 0x0806 ∧ bit (byteAt (frame q.1 q.2 0x060000000002) 6) 0 = false ∧
      262144 - (q.1 + 4) + (frame q.1 q.2 0x060000000002).length + 4 ≤ 262144 ∧
      (ether {}).HasRoom (1 - 1) (pcpOf (frame q.1 q.2 0x060000000002)) ((frame q.1 q.2 0x060000000002).length + 4)) ∧
    (bit (byteAt (frame 60 0xFFFFFFFFFFFF 2) 0) 0 = true ∧ bit (byteAt (frame 60 0x060000000001 2) 0) 0 = false ∧ (ether {}).eth.macs = []) ∧
    ((ether {}).ownMac = beAt (frame 60 1 0x020000000000) 6 6 ∧ (0xC0A80001 : BitVec 32).toNat = (ether {}).ownIp ∧
      (ether {}).portsTo (0x060000000001 : BitVec 48).toNat = [0, 1] ∧ (ether {}).HasRoom 1 (ether {}).mgmtClass 1600) ∧
    (∃ s : State, s = { ether {} with eth := { echoN := 100, echoS := 0 } } ∧ s.eth.echoS = s.ntime / 1000000000 ∧ 100 ≤ s.eth.echoN) ∧
    (∃ s, s = ether { queue := [wait 6] ++ wait 7 :: [wait 7, wait 0] } [(Reg.ETH_GCL_CTL_MODE 1, 0)] ∧ s.get (Reg.ETH_GCL_CTL_MODE 1) = 0 ∧ s.flag (Reg.ETH_PORT_STAT_TX_HELD 1) = false ∧
      (s.ethX 1).busy ≤ s.clk ∧ (s.ethX 1).queue = [wait 6] ++ wait 7 :: [wait 7, wait 0] ∧ (wait 7).cls < 8 ∧ (∀ g ∈ [wait 6], g.cls ≠ (wait 7).cls) ∧
      (∀ g ∈ [wait 6] ++ [wait 7, wait 0], g.cls < 8 → g.cls ≤ (wait 7).cls) ∧ (∀ f ∈ (s.ethX 1).queue, f.blk = none ∧ f.event = none ∧ f.follow = none)) ∧
    (∃ s : State, s = { ether { change := some 5 } [(Reg.ETH_GCL_OPER_CYCLE 1, 10000), (Reg.ETH_GCL_OPER_BASE 1, 4)] with ntimeH := 30000 } ∧
      (s.ethX 1).change = some 5 ∧ 10004 ≤ s.ntime ∧ 5 ≤ 10004 ∧ ¬ 5 ≤ s.get (Reg.ETH_GCL_OPER_BASE 1) ∧ s.get (Reg.ETH_GCL_OPER_CYCLE 1) ≠ 0 ∧
      10004 = s.get (Reg.ETH_GCL_OPER_BASE 1) + 1 * s.get (Reg.ETH_GCL_OPER_CYCLE 1) ∧ 10004 < 5 + s.get (Reg.ETH_GCL_OPER_CYCLE 1)) ∧
    ((ether {}).flag (Reg.ETH_PORT_CTL_EN 1) = true ∧ (ether {} [(Reg.ETH_PORT_STAT_LINK 1, 0)]).flag (Reg.ETH_PORT_STAT_LINK 1) = false ∧
      (ether {} [(Reg.ETH_PTP_STAT_SLAVE_PORT, 2)]).get Reg.ETH_PTP_STAT_SLAVE_PORT = (1 : Fin 2).val + 1) := by
  unfold State.HasRoom
  exact ⟨by decide +kernel, by decide +kernel, by decide +kernel, by decide +kernel, by decide +kernel, ⟨_, rfl, by decide +kernel⟩, ⟨_, rfl, by decide +kernel⟩,
    ⟨_, rfl, by decide +kernel⟩, by decide +kernel⟩

/-- A module that takes part in 802.1AS in a role, with clock identity 9. -/
def timed (role : Nat) (l : List (Fld × Nat) := []) : State :=
  ether {} ([(Reg.ETH_PTP_CFG_ROLE, role), (Reg.ETH_PTP_ID, 9), (Reg.ETH_PORT_STAT_AS_CAPABLE 1, 1)] ++ l)
/-- An Announce of grandmaster 5 with a priority. -/
def announce (p1 : Byte) : PtpAnnounce :=
  { source := 5 * 65536, gm := 5, priority1 := p1, clockClass := 248, accuracy := 0xFE, variance := 0x436A, priority2 := 248, steps := 254, utc := 37
    timeSource := 0xA0, path := [5] }
theorem witness_TimeMessages :
    ((ether {} [(Reg.ETH_PTP_CFG_ROLE, 0)]).ptpTakes 1 = false ∧ (∀ r ∈ [1, 2, 3], (timed r).ptpTakes 1 = true)) ∧
    ((timed 3).ownSource (9 * 65536) = true ∧ (timed 3).ownSource (5 * 65536) = false) ∧
    ((timed 3 [(Reg.ETH_PTP_STAT_SLAVE_PORT, 2)]).get Reg.ETH_PTP_STAT_SLAVE_PORT = (1 : Fin 2).val + 1 ∧
      (timed 3).flag (Reg.ETH_PORT_STAT_AS_CAPABLE 1) = true ∧ (timed 3 [(Reg.ETH_PORT_STAT_AS_CAPABLE 0, 1)]).flag (Reg.ETH_PORT_STAT_AS_CAPABLE (1 - 1)) = true ∧
      (timed 3).flag (Reg.ETH_PORT_STAT_AS_CAPABLE (1 - 1)) = false) ∧
    ((timed 3 [(Reg.ETH_PTP_STEP_NS, 1000)]).get Reg.ETH_PTP_STEP_NS < (-1001 : BitVec 64).toInt.natAbs ∧ (timed 3).rateLim < |(-(2 ^ 31) : BitVec 32).toInt| ∧
      (999 : BitVec 64).toInt.natAbs < 1000) ∧
    ((announce 0).steps.toNat < 255 ∧ (timed 1).get Reg.ETH_PTP_ID ∉ (announce 0).path.map BitVec.toNat ∧ (announce 0).gm.toNat ≠ (timed 1).get Reg.ETH_PTP_ID) ∧
    (∀ r ∈ [1, 2], better [0, 248, 0xFE, 0x436A, 248, 5, 254, 5 * 65536, 2]
        [(timed r [(Reg.ETH_PTP_CFG_PRIORITY1, 1)]).get Reg.ETH_PTP_CFG_PRIORITY1, 0, 0xFE, 0x436A, 0, 9, 0, 0, 0] = true ∧
      better [255, 248, 0xFE, 0x436A, 248, 5, 254, 5 * 65536, 2]
        [(timed r [(Reg.ETH_PTP_CFG_PRIORITY1, 1)]).get Reg.ETH_PTP_CFG_PRIORITY1, 0, 0xFE, 0x436A, 0, 9, 0, 0, 0] = false) ∧
    ((timed 1).eth.best = none ∧ (timed 2 [(Reg.ETH_PTP_STAT_IS_GM, 1)]).flag Reg.ETH_PTP_STAT_IS_GM = true ∧ (timed 2).flag Reg.ETH_PTP_STAT_IS_GM = false ∧
      (timed 2 [(Reg.ETH_PORT_STAT_AS_CAPABLE 1, 0)]).flag (Reg.ETH_PORT_STAT_AS_CAPABLE 1) = false ∧ (timed 2).up = true) ∧
    (timed 3 [(Reg.ETH_PTP_STAT_SYNC, 1)]).flag Reg.ETH_PTP_STAT_SYNC = true := by decide +kernel

/-- CAN channel 1 in a state, standing as `x`. -/
def can1 (st : Nat) (x : CanX) (l : List (Fld × Nat) := []) : State :=
  { inMode modeOperate ([(Reg.CAN_STAT_STATE 1, st)] ++ l) with can := [(1, x)] }
/-- A Bexic message of one frame or two. -/
def canM (id n : Nat) : CanMsg := { xtd := false, id := id, frames := List.replicate n { canF with id := .ofNat 29 id }, blk := none }
theorem witness_CanEvents :
    ((inMode modeLoading).canRuns 1 = false ∧ (can1 canBusOff {}).canState 1 ∉ [canListen, canActive, canPassive]) ∧
    (∀ st ∈ [canListen, canActive, canPassive], (can1 st {}).up = true ∧ (can1 st {}).canRuns 1 = true ∧ (can1 st {}).canState 1 = st ∧
      (can1 st {}).flag (Reg.CAN_FMT_FD 1) = false ∧ (can1 st {} [(Reg.CAN_FMT_FD 1, 1)]).flag (Reg.CAN_FMT_FD 1) = true ∧
      (can1 st {} [(Reg.CAN_ERRCNT_REC 1, 127)]).get (Reg.CAN_ERRCNT_REC 1) ≤ 127 ∧ (can1 st {}).flag (Reg.CAN_FMT_BEXIC_EN 1) = false) ∧
    ((can1 canActive {} [(Reg.CAN_FMT_BEXIC_EN 1, 1), (Reg.CAN_BEXIC_BASE 1, 0x700)]).get (Reg.CAN_BEXIC_BASE 1) + 33 < (0x722 : BitVec 29).toNat ∧
      (0x6FF : BitVec 29).toNat < (can1 canActive {} [(Reg.CAN_BEXIC_BASE 1, 0x700)]).get (Reg.CAN_BEXIC_BASE 1)) ∧
    ((can1 canActive {}).canMatch 1 canF = none ∧ (∀ d ∈ [0, 1, 2], (can1 canActive {} [(Reg.CAN_DEFAULT_STD 1, d)]).get (Reg.CAN_DEFAULT_STD 1) = d) ∧
      ((can1 canActive { rx1 := List.replicate 63 [] }).canX 1).fifo 1 = List.replicate 63 [] ∧
      ¬ (((can1 canActive { rx1 := List.replicate 64 [] }).canX 1).fifo 1).length < 64) ∧
    (∃ s, s = can1 canActive { tx := [canM 0x700 2] ++ canM 0x6FF 2 :: [canM 0x6FF 1] } [(Reg.CAN_ERRCNT_TEC 1, 248)] ∧
      (s.canX 1).tx = [canM 0x700 2] ++ canM 0x6FF 2 :: [canM 0x6FF 1] ∧ (canM 0x6FF 2).frames.head? = some { canF with id := 0x6FF } ∧
      (∀ g ∈ [canM 0x700 2], arbKey (canM 0x6FF 2).xtd (canM 0x6FF 2).id < arbKey g.xtd g.id) ∧
      (∀ g ∈ [canM 0x6FF 1], arbKey (canM 0x6FF 2).xtd (canM 0x6FF 2).id ≤ arbKey g.xtd g.id) ∧ s.flag (Reg.CAN_TXCTL_BUSY 1) = false ∧
      s.get (Reg.CAN_ERRCNT_TEC 1) ≤ 256) ∧
    (∃ s, s = can1 canPassive { tx := [canM 0x700 1] } [(Reg.CAN_TXCTL_BUSY 1, 1), (Reg.CAN_TXB 1 0, 0xC0000001), (Reg.CAN_FMT_FD 1, 1), (Reg.CAN_DBT_BRP 1, 2)] ∧
      s.flag (Reg.CAN_TXCTL_BUSY 1) = true ∧ (s.txbFrame 1).id = 1 ∧ (∀ g ∈ (s.canX 1).tx, arbKey (s.txbFrame 1).xtd (s.txbFrame 1).id.toNat < arbKey g.xtd g.id) ∧
      s.tdcOn 1 (s.txbFrame 1) = true ∧ s.get (Reg.CAN_ERRCNT_TEC 1) < 248 ∧ (BitVec.allOnes 256).getLsbD (min 127 (128 : BitVec 16).toNat + 127) = true) ∧
    ((can1 canActive { tx := [canM 5 1] }).canRuns 1 = true ∧ (1 : BitVec 3) ≠ 0 ∧ (∀ m ∈ ((can1 canActive { tx := [canM 5 1] }).canX 1).tx, m.blk = none) ∧
      255 < (can1 canPassive {} [(Reg.CAN_ERRCNT_TEC 1, 248)]).get (Reg.CAN_ERRCNT_TEC 1) + 8) ∧
    ((can1 canRecovering {}).canState 1 = canRecovering ∧ (can1 canListen {} [(Reg.CAN_ERRCNT_TEC 1, 255)]).get (Reg.CAN_ERRCNT_TEC 1) ≤ 255) ∧
    (∃ s q, q = ({ head := List.replicate 12 0, payload := [], blk := none, clk := 0 } : CanPart) ∧ s = can1 canActive { parts := [(16, q)] } ∧ s.awake = true ∧
      (33 : Fin 34).val = 17 * (1 : Fin 2).val + (16 : Fin 17).val ∧ (s.canX 1).part (16 : Fin 17) = some q) ∧
    (∃ s : State, s = { inMode modeFallback with can := [(0, { fb := some ([], 0, 0) })] } ∧ s.awake = true ∧ (s.canX 0).fb = some ([], 0, 0)) ∧
    ((State.reset.canX 1).part (16 : Fin 17)).isNone = true := by
  exact ⟨by decide +kernel, by decide +kernel, by decide +kernel, by decide +kernel, ⟨_, rfl, by decide +kernel⟩, ⟨_, rfl, by decide +kernel⟩,
    by decide +kernel, by decide +kernel, ⟨_, _, rfl, rfl, by decide +kernel⟩, ⟨_, rfl, by decide +kernel⟩, by decide +kernel⟩

/-! ### Worked examples of the spec -/

/-- The words of the five-tap filter and of the listing of Table ISA-9 stand for an instruction each, and its encoding is the word. -/
theorem test_listed_words : ∀ w ∈ [0x1A000005, 0x14000020, 0x16000042, 0x40000000, 0xF0000005, 0x3300C800, 0x53000000, 0x14000000,
    0x60002100, 0x31108000, 0x49042000, 0x60A00000, 0x234A0000, 0x53000001, 0x24120005, 0x24920004, 0x20BA0001, 0x68402000,
    0x20620002, 0x3302D400, 0x52F80007, 0x60202CFC, 0x68E02CFE, 0x01000000],
    (decodeWord 3 w).bind encodeWord = some w := by
  decide +kernel

/-- MACF A1, [P0+], D0 (spec/07, below Table ISA-9). -/
theorem test_macf_word : decodeWord 0 0x3B108000 = some (.macf 0 1 ⟨.mem ⟨0, .inc⟩, .reg 0, false, false⟩) := by decide +kernel

/-- STR D7, A0, q=31, SAT (spec/07, below Table ISA-9). -/
theorem test_str_word : decodeWord 0 0x52F80007 = some (.str 0 0 true 31 (.reg 7)) := by decide +kernel

/-- MIN D1, D1, D5 and LD D1, [P5-4] (spec/07, Table ISA-9). -/
theorem test_min_ld_words : decodeWord 0 0x24120005 = some (.min 0 1 1 (.reg 5)) ∧
    decodeWord 0 0x60202CFC = some (.ld 0 (.d 1) ⟨5, .off 0xFC⟩) := by decide +kernel

/-- Accumulator stores (spec/06, Table DSP-4). -/
theorem test_store_examples :
    storeVal 32 false 32 0x000000000180000000 = (2, false) ∧ storeVal 32 false 32 0x000000000280000000 = (2, false) ∧
    storeVal 32 false 32 0xFFFFFFFFFF80000000 = (0, false) ∧ storeVal 32 false 32 0xFFFFFFFFFE80000000 = (-2, false) ∧
    storeVal 32 false 1 7 = (4, false) ∧ storeVal 32 true 32 0x008000000000000000 = (0x7FFFFFFF, true) ∧
    ofInt 32 (storeVal 32 false 32 0x008000000000000000).1 = 0x80000000 ∧
    storeVal 64 true 0 0x010000000000000000 = (0x7FFFFFFFFFFFFFFF, true) := by
  decide +kernel

/-- A circular pointer with L0 = 5 steps from 0x040 down to 0x044 and from 0x024 up to 0x020 (spec/06, five-tap filter). -/
theorem test_circular : postMod 0x040 5 (-1) = 0x044 ∧ postMod 0x024 5 1 = 0x020 := by decide +kernel

/-- 123456 µm as Q40.24 (spec/00) and 100 000.0 as binary64 (spec/16), whose values the spec writes out. -/
theorem test_numbers : toQ 123456 = some 0x000001E240000000 ∧ leBytes 8 0x000001E240000000 = [0, 0, 0, 0x40, 0xE2, 1, 0, 0] ∧
    f64 0x40F86A0000000000 = some 100000 := by
  decide +kernel

/-- The CRC of RFC 3720 (Table SCO-4) over the text "123456789" is the check value of that polynomial. -/
theorem test_crc : crc32c [0x31, 0x32, 0x33, 0x34, 0x35, 0x36, 0x37, 0x38, 0x39] = 0xE3069283 := by decide +kernel

/-- SHA-256 of "abc" (FIPS 180-4, Table SCO-4). -/
theorem test_sha256 : sha256 [0x61, 0x62, 0x63] = [0xba, 0x78, 0x16, 0xbf, 0x8f, 0x01, 0xcf, 0xea, 0x41, 0x41, 0x40, 0xde, 0x5d, 0xae,
    0x22, 0x23, 0xb0, 0x03, 0x61, 0xa3, 0x96, 0x17, 0x7a, 0x9c, 0xb4, 0x10, 0xff, 0x61, 0xf2, 0x00, 0x15, 0xad] := by
  decide +kernel

/-- The header of the example image (spec/03) passes the header checks. -/
theorem test_header : State.reset.headReject ([0x53, 0x56, 0x49, 0x4D, 1, 0, 0, 1, 0x10, 0x2A, 4, 0, 0x2A, 0, 0, 0,
    0x15, 0x0C, 0x3F, 0x6A, 0, 0, 0, 0, 0x0C, 0, 1, 0, 0, 1, 0, 0] ++ List.replicate 224 0) = none := by
  decide +kernel

/-- From 100 mm/s with D = 10^6 and J = 10^8 an axis rests after 5500 µm (spec/09, a new target behind the axis). -/
theorem test_stopping_distance : kinEnd (stopPlan 100000 0 1000000 100000000) 0 100000 =
    { p := 5500, v := 0, a := 0 } := by
  decide +kernel

/-- A CAN channel with data BRP 1 and TSEG1 29 takes TDCO 30 (spec/14). -/
theorem test_tdco : ((State.reset.set (Reg.CAN_DBT_BRP 0) 1).set (Reg.CAN_DBT_TSEG1 0) 29).tdco 0 = 30 := by decide +kernel

/-- A quarter turn has cosine 0 and sine 1, exactly (R251). -/
theorem test_quarter_turn : turnTrig (1 / 4) = (0, 1) := by decide +kernel

/-- The set and the clear alias of a word of shared SRAM (R134). -/
theorem test_alias : aliasOf 0x22131400 = some (0x20131400, true) ∧ aliasOf 0x24131400 = some (0x20131400, false) := by decide +kernel

/-- The current-cell sample of spec/08: compare values 1886, 4514 and 3316 from the measured d/q current, with no clamp. -/
theorem test_current_cell :
    let s := (((((State.reset.set (Reg.CUR_IQ_SET 2) 0x28F5C28F).set (Reg.CUR_WE 2) 0x0147AE14).set (Reg.CUR_ANGLE 2) 0x2AAAAAAB).set
      (Reg.CUR_DEADTIME_DMIN 2) 400).set Reg.SYS_TICK_CFG_FAST_CLK 6400).set (Reg.CUR_UDC_SCALE 2) 0x40000000
    let c : CurX := { coef := [0, 0, 0x800000, 0x000CCCCD, 0x800000, 0x800000, 0x14000000, 0x3CCCCCCD, 0x60000000, 0x7FFFFFFF, 0x7FFFFFFF],
                      iQ := 214748365 }
    let r := s.dqControl 2 c 0 (3 / 10)
    s.svpwm 2 c r.2.2.1 r.2.2.2.1 = (1886, 4514, 3316) ∧ r.2.2.2.2 = (false, false) := by
  decide +kernel

/-- The second command of the example of spec/09: at rest in 205 500 after 110 ms, back at 200 000 after 220 ms, braking from 155 500
after 665 ms. -/
theorem test_reversal :
    let k : KSt := { p := 200000, v := 100000, a := 0 }
    let l := (planTo k 150000 100000 1000000 1000000 100000000).1
    kinAt l k.p k.v (11 / 100) = { p := 205500, v := 0, a := 0 } ∧ (kinAt l k.p k.v (22 / 100)).p = 200000 ∧
      (kinAt l k.p k.v (665 / 1000)).p = 155500 ∧ kinEnd l k.p k.v = { p := 150000, v := 0, a := 0 } := by
  decide +kernel

end Sys2Proof.Tests
end

section
/-!
Register accesses on the bus: what a word with fields of plain access types answers to a write and a read, and what a
change of register fields leaves as it was (R14, R122, R125).
-/
namespace Sys2Proof.Machine

variable {s : State} {ag : Agent} {a v m : Nat}

/-! ### Setting a register field -/

/-- Only the part of the value that the field holds matters. -/
theorem State.set_congr {f : Fld} {v w : Nat} (h : v % 2 ^ f.width = w % 2 ^ f.width) : s.set f v = s.set f w := by
  simp only [State.set, h]

/-- A field set to the value that it holds leaves every field as it reads. -/
theorem State.get_set_self {f : Fld} (h : s.get f < 2 ^ f.width) (g : Fld) : (s.set f (s.get f)).get g = s.get g := by
  rw [State.get_set, Nat.mod_eq_of_lt h]
  split
  · next hk => simp only [State.get, hk]
  · rfl

@[simp] theorem State.ntime_set (s : State) (f : Fld) (v : Nat) : (s.set f v).ntime = s.ntime := rfl

theorem Only.set (s : State) (f : Fld) (v : Nat) : Only [.regs] s (s.set f v) :=
  (State.set_confined (.refl _ s) (Within.refl 2) f v).only.only [.regs]

theorem RegsKept.set (s : State) (f : Fld) (v : Nat) : RegsKept s (s.set f v) [f] := fun _ hg =>
  State.get_set_ne s v (hg f (List.mem_singleton_self f))

theorem OnlyRegs.set (s : State) (f : Fld) (v : Nat) : OnlyRegs s (s.set f v) [f] := ⟨.set s f v, .set s f v⟩

/-! ### Words merged under a mask (R516) -/

@[simp] theorem merge_zero_mask (old v : Nat) : merge old v 0 = old := by simp [merge]

/-- Under a mask of all its bits a field takes the written value. -/
theorem merge_ones_mod (old v w : Nat) : merge old v (2 ^ w - 1) % 2 ^ w = v % 2 ^ w := by
  refine Nat.eq_of_testBit_eq fun i => ?_
  by_cases hi : i < w <;> simp [merge, Nat.testBit_mod_two_pow, hi]

/-! ### A register word on the bus -/

/-- No register address lies in a bit-set or bit-clear window of shared SRAM (R134). -/
theorem aliasOf_register (hlt : a < 0x10000000) : aliasOf a = none := by
  simp only [aliasOf]
  rw [if_neg (by omega), if_neg (by omega)]

/-- A write of a register word of no 64-bit pair, by an agent that may write there. -/
theorem State.busWrite_plain (hal : a % 4 = 0) (hlt : a < 0x10000000) (hp : pairOf a = none) (hw : s.window a ag = .rw) :
    s.busWrite ag a v m = s.plainWrite a v m := by
  have hword : a / 4 * 4 = a := by omega
  simp [State.busWrite, hword, aliasOf_register hlt, hw, hlt, State.regWrite, hp]

/-- A read of a register word of no 64-bit pair, by an agent that reaches it. -/
theorem State.busRead_plain (hal : a % 4 = 0) (hlt : a < 0x10000000) (hp : pairOf a = none) (hw : s.window a ag ≠ .none_) :
    s.busRead ag a = (s.readEffect (s.window a ag) a, s.wordNow a) := by
  have hword : a / 4 * 4 = a := by omega
  simp only [State.busRead, hword, aliasOf_register hlt]
  cases h : s.window a ag with
  | none_ => exact absurd h hw
  | ro => simp [hlt, State.regRead, hp]
  | rw => simp [hlt, State.regRead, hp]

/-- A word that is one RW field takes the written value under the mask. -/
theorem State.writeFlds_rw {f : Fld} {hi : Bool} (hf : fldsAt a = [(f, hi, .rw)]) :
    s.writeFlds a v m = s.set f (merge (s.get f) (bits v f.lo f.width) (bits m f.lo f.width)) := by
  simp [State.writeFlds, hf, State.writeFld]

/-- A SYS word that is one RW field, written whole. -/
theorem State.busWrite_sysField {f : Fld} {hi : Bool} (hal : a % 4 = 0) (hlt : a < 0x1000) (hp : pairOf a = none)
    (ha : a ≠ 0x30 ∧ a ≠ 0x50 ∧ a ≠ 0x180) (hf : fldsAt a = [(f, hi, .rw)]) (hw : s.window a ag = .rw)
    (hm : bits m f.lo f.width = 2 ^ f.width - 1) : s.busWrite ag a v m = s.set f (bits v f.lo f.width) := by
  obtain ⟨hctl, hstrobe, hkey⟩ := ha
  have hsys : a < 0x10000 := by omega
  rw [State.busWrite_plain hal (by omega) hp hw]
  simp only [State.plainWrite, State.sysWrite, if_pos hsys, if_neg hctl, if_neg hstrobe, if_neg hkey,
    State.writeFlds_rw hf, hm]
  exact State.set_congr (merge_ones_mod _ _ _)

end Sys2Proof.Machine
end

section
/-!
The RTC registers and the RTC's next tick (R49).
-/
namespace Sys2Proof.Machine

variable {s : State} {ag : Agent}

theorem fldsAt_rtcSetLo : fldsAt 0x28 = [(Reg.SYS_RTC_SET_LO, false, .rw)] := by decide +kernel
theorem fldsAt_rtcSetHi : fldsAt 0x2C = [(Reg.SYS_RTC_SET_HI, false, .rw)] := by decide +kernel
theorem fldsAt_rtcCtl : fldsAt 0x30 = [(Reg.SYS_RTC_CTL_LOAD, false, .w1s), (Reg.SYS_RTC_CTL_SYNC, false, .rw)] := by
  decide +kernel

theorem pairOf_rtcSetLo : pairOf 0x28 = none := by decide +kernel
theorem pairOf_rtcSetHi : pairOf 0x2C = none := by decide +kernel
theorem pairOf_rtcCtl : pairOf 0x30 = none := by decide +kernel

theorem exec_registerWrite_rtcSetLo (v : BitVec 32) (hw : s.window 0x28 ag = .rw) :
    exec (.registerWrite ag 0x28 v 0xFFFFFFFF) s = .next (s.set Reg.SYS_RTC_SET_LO v.toNat) := by
  have hb := State.busWrite_sysField (v := v.toNat) (m := 0xFFFFFFFF) (by decide) (by decide) pairOf_rtcSetLo (by decide)
    fldsAt_rtcSetLo hw (by decide)
  have hv : bits v.toNat 0 32 = v.toNat := by simp only [bits]; omega
  exact congrArg _ (hb.trans (congrArg _ hv))

theorem exec_registerWrite_rtcSetHi (v : BitVec 32) (hw : s.window 0x2C ag = .rw) :
    exec (.registerWrite ag 0x2C v 0xFFFFFFFF) s = .next (s.set Reg.SYS_RTC_SET_HI (v.toNat % 65536)) := by
  have hb := State.busWrite_sysField (v := v.toNat) (m := 0xFFFFFFFF) (by decide) (by decide) pairOf_rtcSetHi (by decide)
    fldsAt_rtcSetHi hw (by decide)
  have hv : bits v.toNat 0 16 = v.toNat % 65536 := by simp [bits]
  exact congrArg _ (hb.trans (congrArg _ hv))

/-- RTC_LOAD writes 0 to no bit of its word: SYNC, the RW field beside LOAD, takes the value that it holds. -/
theorem exec_rtcLoad (hw : s.window 0x30 ag = .rw) :
    exec (.rtcLoad ag) s = .next ((s.set Reg.SYS_RTC_CTL_SYNC (s.get Reg.SYS_RTC_CTL_SYNC)).set Reg.SYS_RTC_CTL_LOAD 1) := by
  have hflds : s.writeFlds 0x30 1 1 = s.set Reg.SYS_RTC_CTL_SYNC (s.get Reg.SYS_RTC_CTL_SYNC) := by
    simp [State.writeFlds, fldsAt_rtcCtl, State.writeFld, bits, Reg.SYS_RTC_CTL_SYNC]
  have hb := State.busWrite_plain (v := 1) (m := 1) (by decide) (by decide) pairOf_rtcCtl hw
  refine congrArg _ (hb.trans ?_)
  simp [State.plainWrite, State.sysWrite, hflds, bit]

theorem onlyRegs_rtcLoad (hs : s.get Reg.SYS_RTC_CTL_SYNC < 2) :
    OnlyRegs s ((s.set Reg.SYS_RTC_CTL_SYNC (s.get Reg.SYS_RTC_CTL_SYNC)).set Reg.SYS_RTC_CTL_LOAD 1)
      [Reg.SYS_RTC_CTL_LOAD] :=
  ⟨(Only.set s _ _).trans (.set _ _ _), fun g hg => (RegsKept.set _ _ _ g hg).trans (State.get_set_self hs g)⟩

/-- The next tick of an RTC that has no new value to take. -/
theorem exec_rtcLoadTick_idle (h : s.awake = false ∨ s.get Reg.SYS_RTC_CTL_LOAD = 0) : exec .rtcLoadTick s = .next s := by
  have hgo : ¬ (s.awake && s.flag Reg.SYS_RTC_CTL_LOAD) = true := by
    rcases h with h | h <;> simp [State.flag, h]
  exact if_neg hgo

/-- The next tick of an RTC that LOAD tells to take RTC_SET. -/
theorem exec_rtcLoadTick_load (ha : s.awake = true) (hl : s.get Reg.SYS_RTC_CTL_LOAD = 1) :
    exec .rtcLoadTick s = .next (State.set
      { s with bk := { s.bk with rtc := s.get Reg.SYS_RTC_SET_LO + s.get Reg.SYS_RTC_SET_HI * 2 ^ 32, sub := 0 } }
      Reg.SYS_RTC_CTL_LOAD 0) := by
  have hgo : (s.awake && s.flag Reg.SYS_RTC_CTL_LOAD) = true := by simp [State.flag, ha, hl]
  exact if_pos hgo

/-! ### The backup domain and one register field replaced -/

theorem State.get_withBk (s : State) (b : Backup) (f : Fld) : State.get { s with bk := b } f = s.get f := rfl

theorem State.ntime_withBk (s : State) (b : Backup) : State.ntime { s with bk := b } = s.ntime := rfl

theorem Only.set_bk (s : State) (b : Backup) (f : Fld) (v : Nat) : Only [.regs, .bk] s (State.set { s with bk := b } f v) :=
  OnlyN.only _ { OnlyN.refl _ s with
    regs := OnlyN.free (Within.refl _) (by decide), bk := OnlyN.free (Within.refl _) (by decide) }

theorem RegsKept.set_bk (s : State) (b : Backup) (f : Fld) (v : Nat) : RegsKept s (State.set { s with bk := b } f v) [f] :=
  fun g hg => (RegsKept.set _ f v g hg).trans (State.get_withBk s b g)

/-- Settles O30: a write of RTC_SET sets that field alone, RTC_LOAD sets LOAD alone, and the tick takes RTC_SET where LOAD asks
for it. -/
theorem rtcIsSetAtItsNextTick : Obligations.RtcIsSetAtItsNextTick := by
  unfold Obligations.RtcIsSetAtItsNextTick
  refine ⟨fun s ag v hw => ?_, fun s ag v hw => ?_, fun s ag hw hs => ?_, fun s h => exec_rtcLoadTick_idle h,
    fun s ha hl => ?_⟩
  · have hv : v.toNat % 2 ^ 32 = v.toNat := Nat.mod_eq_of_lt v.isLt
    exact ⟨_, exec_registerWrite_rtcSetLo v hw, .set _ _ _, (State.get_set_same _ _ _).trans hv, State.ntime_set _ _ _⟩
  · have hv : v.toNat % 65536 % 2 ^ 16 = v.toNat % 65536 := by simp
    exact ⟨_, exec_registerWrite_rtcSetHi v hw, .set _ _ _, (State.get_set_same _ _ _).trans hv, State.ntime_set _ _ _⟩
  · exact ⟨_, exec_rtcLoad hw, onlyRegs_rtcLoad hs, State.get_set_same _ _ _, rfl, by simp⟩
  · exact ⟨_, exec_rtcLoadTick_load ha hl, .set_bk _ _ _ _, .set_bk _ _ _ _, State.get_set_same _ _ _, State.set_bk _ _ _,
      (State.ntime_set _ _ _).trans (State.ntime_withBk s _)⟩

end Sys2Proof.Machine
end

section
/-!
The backup event FIFO as its readers see it: through `SYS.BKFIFO_LO` and `SYS.BKFIFO_HI` on the bus, and through pointers 0x0030 to
0x0037 of the dormant responder (R54, Table IIC-1).
-/
namespace Sys2Proof.Machine

variable {s : State} {ag : Agent}

/-! ### The two words -/

theorem State.bk_words_empty (h : s.bk.fifo = []) : s.bkLo = 0 ∧ s.bkHi = 0 := by simp [State.bkLo, State.bkHi, h]

theorem State.bkLo_cons {e : BkEntry} {r : List BkEntry} (h : s.bk.fifo = e :: r) : s.bkLo = e.rtc % 2 ^ 32 := by
  simp [State.bkLo, h]

theorem State.bkHi_cons {e : BkEntry} {r : List BkEntry} (h : s.bk.fifo = e :: r) :
    s.bkHi = e.rtc / 2 ^ 32 % 2 ^ 16 + e.src % 16 * 2 ^ 16 + (if e.edge then 2 ^ 20 else 0) + 2 ^ 31 := by
  cases he : e.edge <;> simp [State.bkHi, h, he, b2n]

theorem State.bkLo_lt (s : State) : s.bkLo < 2 ^ 32 := by
  cases h : s.bk.fifo with
  | nil => rw [(State.bk_words_empty h).1]; decide
  | cons e r => rw [State.bkLo_cons h]; exact Nat.mod_lt _ (by decide)

/-- Bits 21 to 30 of BKFIFO_HI are reserved and read zero. -/
theorem State.bkHi_fields (s : State) : s.bkHi % 2 ^ 21 + s.bkHi / 2 ^ 31 % 2 * 2 ^ 31 = s.bkHi := by
  cases h : s.bk.fifo with
  | nil => simp [(State.bk_words_empty h).2]
  | cons e r =>
    rw [State.bkHi_cons h]
    split <;> omega

/-! ### On the bus -/

theorem fldsAt_bkfifoLo : fldsAt 0x60 = [(Reg.SYS_BKFIFO_LO, false, .ro)] := by decide +kernel
theorem fldsAt_bkfifoHi : fldsAt 0x64 = [(Reg.SYS_BKFIFO_HI_RTC, false, .ro), (Reg.SYS_BKFIFO_HI_SRC, false, .ro),
    (Reg.SYS_BKFIFO_HI_EDGE, false, .ro), (Reg.SYS_BKFIFO_HI_VALID, false, .ro)] := by decide +kernel

theorem pairOf_bkfifoLo : pairOf 0x60 = none := by decide +kernel
theorem pairOf_bkfifoHi : pairOf 0x64 = none := by decide +kernel

theorem State.wordNow_bkfifoLo (s : State) : s.wordNow 0x60 = s.bkLo := by
  have hlt : s.bkLo < 4294967296 := s.bkLo_lt
  simp [State.wordNow, State.refresh, State.peekWord, fldsAt_bkfifoLo, State.part, Reg.SYS_BKFIFO_LO, Nat.mod_eq_of_lt hlt]

theorem State.part_low (s : State) (f : Fld) : s.part f false = s.get f % 2 ^ 32 * 2 ^ f.lo := by simp [State.part]

theorem State.peekWord_bkfifoHi (s : State) :
    s.peekWord 0x64 = s.part Reg.SYS_BKFIFO_HI_RTC false + (s.part Reg.SYS_BKFIFO_HI_SRC false +
      (s.part Reg.SYS_BKFIFO_HI_EDGE false + (s.part Reg.SYS_BKFIFO_HI_VALID false + 0))) := by
  rw [State.peekWord, fldsAt_bkfifoHi]
  repeat rw [List.map_cons, List.sum_cons]
  rw [List.map_nil, List.sum_nil]

theorem State.pokeWord_bkfifoHi (s : State) (v : Nat) :
    s.pokeWord 0x64 v = (((s.set Reg.SYS_BKFIFO_HI_RTC v).set Reg.SYS_BKFIFO_HI_SRC (v / 2 ^ 16)).set
      Reg.SYS_BKFIFO_HI_EDGE (v / 2 ^ 20)).set Reg.SYS_BKFIFO_HI_VALID (v / 2 ^ 31) := by
  simp [State.pokeWord, fldsAt_bkfifoHi, State.pokeFld, Reg.SYS_BKFIFO_HI_RTC, Reg.SYS_BKFIFO_HI_SRC, Reg.SYS_BKFIFO_HI_EDGE,
    Reg.SYS_BKFIFO_HI_VALID]

/-- What the word of BKFIFO_HI keeps of a value: its four fields, which lie in bits 0 to 20 and 31. -/
theorem State.peekWord_pokeWord_bkfifoHi (s : State) (v : Nat) :
    (s.pokeWord 0x64 v).peekWord 0x64 = v % 2 ^ 21 + v / 2 ^ 31 % 2 * 2 ^ 31 := by
  rw [State.pokeWord_bkfifoHi, State.peekWord_bkfifoHi]
  simp only [State.part_low, State.get_set, Fld.key, Reg.SYS_BKFIFO_HI_RTC, Reg.SYS_BKFIFO_HI_SRC, Reg.SYS_BKFIFO_HI_EDGE,
    Reg.SYS_BKFIFO_HI_VALID, Nat.reduceMul, Nat.reduceAdd, Nat.reduceEqDiff, reduceIte]
  omega

theorem State.wordNow_bkfifoHi (s : State) : s.wordNow 0x64 = s.bkHi :=
  (s.peekWord_pokeWord_bkfifoHi s.bkHi).trans s.bkHi_fields

theorem State.readEffect_bkfifoLo (s : State) (w : Win) : s.readEffect w 0x60 = s := by
  simp [State.readEffect, fldsAt_bkfifoLo]

theorem State.readEffect_bkfifoHi (s : State) (w : Win) : s.readEffect w 0x64 = s.bkPop := by
  simp [State.readEffect, fldsAt_bkfifoHi]

theorem exec_rcFieldRead_bkfifoLo (hw : s.window 0x60 ag ≠ .none_) :
    exec (.rcFieldRead ag 0x60) s = .next { s with readOut := [s.bkLo] } := by
  have hr := State.busRead_plain (by decide) (by decide) pairOf_bkfifoLo hw
  rw [State.readEffect_bkfifoLo, State.wordNow_bkfifoLo] at hr
  change Host.Outcome.next (s.readTo ag 0x60) = _
  rw [State.readTo, hr]

theorem exec_bkfifoHiRead (hw : s.window 0x64 ag ≠ .none_) :
    exec (.bkfifoHiRead ag) s = .next { s with bk := { s.bk with fifo := s.bk.fifo.tail }, readOut := [s.bkHi] } := by
  have hr := State.busRead_plain (by decide) (by decide) pairOf_bkfifoHi hw
  rw [State.readEffect_bkfifoHi, State.wordNow_bkfifoHi] at hr
  change Host.Outcome.next (s.readTo ag 0x64) = _
  rw [State.readTo, hr, State.bkPop]

/-! ### Through the dormant responder (R479, R480) -/

/-- The bytes at pointers 0x0030 to 0x0037. -/
def State.bkBytes (s : State) : List Byte := leBytes 4 s.bkLo ++ leBytes 4 s.bkHi

/-- The state once a read has come into the value at 0x0030: its bytes are held for the rest of the read. -/
def State.bkHeld (s : State) : State := { s with i2c := { s.i2c with cap := some (0x30, s.bkBytes) } }

theorem State.i2cBytes_succ (s : State) (asic : Bool) (p k : Nat) (acc : List Byte) (n : Nat) :
    s.i2cBytes asic p k acc (n + 1) =
      (s.i2cByte asic p k).1.i2cBytes asic ((p + 1) % 65536) (s.i2cByte asic p k).2.2 (acc ++ [(s.i2cByte asic p k).2.1]) n := rfl

/-- The first byte of the value. -/
theorem State.i2cByte_bkFirst (s : State) (k : Nat) : s.i2cByte false 0x30 k = (s.bkHeld, s.bkBytes.getD 0 0, k) := by
  simp [State.i2cByte, i2cBase, State.i2cLive, State.bkHeld, State.bkBytes]

/-- A further byte comes from what the first one found; the last one removes the entry. -/
theorem State.i2cByte_bkHeld {p : Nat} {l : List Byte} (hcap : s.i2c.cap = some (0x30, l)) (hlo : 0x30 < p) (hhi : p < 0x38) (k : Nat) :
    s.i2cByte false p k = (if p = 0x37 then s.bkPop else s, l.getD (p - 0x30) 0, k) := by
  have hbase : i2cBase p = some (0x30, 8) := by
    simp only [i2cBase]
    repeat rw [if_neg (by omega)]
    rw [if_pos (by omega)]
  have hfirst : p ≠ 0x30 := by omega
  have hovf : p ≠ 0x39 := by omega
  have heta : { s with i2c := { s.i2c with cap := some (0x30, l) } } = s := by rw [← hcap]
  simp [State.i2cByte, hbase, hfirst, hovf, hcap, heta]

/-- A read of the rest of the value from pointer `p` on. -/
theorem State.i2cBytes_bkHeld {l : List Byte} (hl : l.length = 8) (k n : Nat) :
    ∀ (s : State) (p : Nat) (acc : List Byte), s.i2c.cap = some (0x30, l) → 0x30 < p → p < 0x38 → p + n ≤ 0x38 →
      s.i2cBytes false p k acc n = (if p + n = 0x38 then s.bkPop else s, k, acc ++ (l.drop (p - 0x30)).take n) := by
  induction n with
  | zero =>
    intro s p acc _ _ hhi _
    have hend : p ≠ 0x38 := by omega
    simp [State.i2cBytes, hend]
  | succ n ih =>
    intro s p acc hcap hlo hhi hn
    have hi : p - 0x30 < l.length := by omega
    have hbyte : (l.drop (p - 0x30)).take (n + 1) = l.getD (p - 0x30) 0 :: (l.drop (p + 1 - 0x30)).take n := by
      have hnext : p + 1 - 0x30 = p - 0x30 + 1 := by omega
      rw [List.drop_eq_getElem_cons hi, List.take_succ_cons, List.getD_eq_getElem _ _ hi, hnext]
    rw [State.i2cBytes_succ, State.i2cByte_bkHeld hcap hlo hhi, hbyte]
    by_cases hlast : p = 0x37
    · have hstop : n = 0 := by omega
      simp [hlast, hstop, State.i2cBytes]
    · have hwrap : (p + 1) % 65536 = p + 1 := by omega
      have hend : p + 1 + n = 0x38 ↔ p + (n + 1) = 0x38 := by omega
      rw [if_neg hlast, hwrap, ih s (p + 1) _ hcap (by omega) (by omega) (by omega)]
      simp [hend]

/-- A read of `n` bytes from the start of the value: its eighth byte removes the entry. -/
theorem State.i2cBytes_bk (s : State) {n : Nat} (h0 : 0 < n) (h8 : n ≤ 8) :
    s.i2cBytes false 0x30 0 [] n = (if n = 8 then s.bkHeld.bkPop else s.bkHeld, 0, s.bkBytes.take n) := by
  obtain ⟨n, rfl⟩ : ∃ k, n = k + 1 := ⟨n - 1, by omega⟩
  have hl : s.bkBytes.length = 8 := by simp [State.bkBytes, leBytes]
  have hend : 0x31 + n = 0x38 ↔ n + 1 = 8 := by omega
  have hbyte : s.bkBytes.take (n + 1) = s.bkBytes.getD 0 0 :: (s.bkBytes.drop 1).take n := by simp [State.bkBytes, leBytes]
  rw [State.i2cBytes_succ, State.i2cByte_bkFirst,
    State.i2cBytes_bkHeld hl 0 n s.bkHeld ((0x30 + 1) % 65536) _ rfl (by decide) (by decide) (by omega), hbyte]
  simp [hend]

/-- The backup domain, the I2C units and what was read replaced. -/
theorem Only.bk_i2c_readOut (s : State) (b : Backup) (x : I2cX) (o : List Nat) :
    Only [.bk, .i2c, .readOut] s { s with bk := b, i2c := x, readOut := o } :=
  OnlyN.only _ { OnlyN.refl _ s with
    bk := OnlyN.free (Within.refl _) (by decide), i2c := OnlyN.free (Within.refl _) (by decide),
    readOut := OnlyN.free (Within.refl _) (by decide) }

/-- No data after the pointer reach a register. -/
theorem State.i2cStore_nil (s : State) (p : Nat) : s.i2cStore p [] = s := by
  have hnone : ∀ b, ¬ (p ≤ b ∧ b + 4 ≤ p) := by omega
  simp [State.i2cStore, State.forAll, hnone]

/-- The state with the responder's pointer at `p`. -/
def State.responderAt (s : State) (p : Nat) : State := { s with bk := { s.bk with ptr := p } }

theorem State.bkBytes_responderAt (s : State) (p : Nat) : (s.responderAt p).bkBytes = s.bkBytes := rfl

theorem State.bkHeld_responderAt (s : State) (p : Nat) : (s.responderAt p).bkHeld = s.bkHeld.responderAt p := by
  rw [State.bkHeld, State.bkBytes_responderAt]
  rfl

/-- A transaction with the awake responder that sets the pointer to `p`, stores nothing and reads `n` bytes. -/
theorem State.wakeServe_pointer (s : State) {l h : Byte} {p : Nat} (hp : (l.toNat + 256 * h.toNat) % 65536 = p) (n : Nat) :
    s.wakeServe [l, h] n = (((s.responderAt p).i2cBytes false p 0 [] n).1.responderAt ((p + n) % 65536)).handOut
      ((s.responderAt p).i2cBytes false p 0 [] n).2.2 := by
  subst hp
  simp only [State.wakeServe, State.i2cStore_nil]
  rfl

/-- A read of `n` bytes from pointer 0x0030 on through the awake responder. -/
theorem State.wakeServe_bk (s : State) {n : Nat} (h0 : 0 < n) (h8 : n ≤ 8) :
    s.wakeServe [0x30, 0] n = { s with
      bk := { s.bk with ptr := 0x30 + n, fifo := if n = 8 then s.bk.fifo.tail else s.bk.fifo }
      i2c := { s.i2c with cap := some (0x30, s.bkBytes) }
      readOut := (s.bkBytes.take n).map BitVec.toNat } := by
  have hend : (0x30 + n) % 65536 = 0x30 + n := by omega
  rw [State.wakeServe_pointer s (p := 0x30) rfl, State.i2cBytes_bk _ h0 h8, hend, State.bkBytes_responderAt,
    State.bkHeld_responderAt]
  split <;> simp only [State.bkPop, State.bkHeld, State.responderAt, State.handOut]

theorem exec_dormantResponderTransaction_awake {addr : BitVec 7} (ho : s.responderOwns = true) (ha : addr.toNat = s.responderAddr)
    (hw : s.bk.awake = true) (write : List Byte) {len : BitVec 8} {n : Nat} (hn : len.toNat = n) :
    exec (.dormantResponderTransaction addr write len) s = .next (s.wakeServe write n) := by
  change execDormantResponderTransaction addr write len s = _
  simp [execDormantResponderTransaction, ho, ha, hw, hn]

/-- Settles O31: the words of BKFIFO as both agents read them, and the entry that leaves with the last byte of BKFIFO_HI. -/
theorem backupFifoReads : Obligations.BackupFifoReads := by
  unfold Obligations.BackupFifoReads
  refine ⟨fun s ag hw => exec_bkfifoHiRead hw, fun s ag hw => exec_rcFieldRead_bkfifoLo hw, fun s h => State.bk_words_empty h,
    fun s e r h => ⟨State.bkLo_cons h, State.bkHi_cons h⟩, fun s addr ho ha hw => ?_⟩
  have hlow : s.bkBytes.take 4 = leBytes 4 s.bkLo := rfl
  have hboth : s.bkBytes.take 8 = leBytes 4 s.bkLo ++ leBytes 4 s.bkHi := rfl
  constructor
  · refine ⟨_, exec_dormantResponderTransaction_awake ho ha hw _ (n := 4) rfl, ?_⟩
    rw [State.wakeServe_bk s (by decide) (by decide), hlow]
    exact ⟨rfl, rfl, .bk_i2c_readOut _ _ _ _⟩
  · refine ⟨_, exec_dormantResponderTransaction_awake ho ha hw _ (n := 8) rfl, ?_⟩
    rw [State.wakeServe_bk s (by decide) (by decide), hboth]
    exact ⟨rfl, rfl, .bk_i2c_readOut _ _ _ _⟩

end Sys2Proof.Machine
end
